-- ==== Sys2Proof/Word.lean ====
section
/-! DEFINITION. The word types of the SH-8128 (registers are 32 bits wide, bytes 8, comb and CE pairs 64) and the
shape of a sparse table: a list of key and value pairs. -/
namespace Sys2Proof

/-- A control-space register or CE word: 32 bits, bit 0 least significant (R5). -/
abbrev Word := BitVec 32

/-- One byte of memory (R6). -/
abbrev Byte := BitVec 8

/-- A double word, as a device time or a 64-bit comb operand travels. -/
abbrev DWord := BitVec 64

/-- A sparse table by number: keys strictly rising, and no entry equal to what an unlisted key reads as. -/
abbrev Tab (α : Type) := List (Nat × α)

end Sys2Proof
end

