-- ==== Sys2Proof/Machine/Bits.lean ====
section
/-! DEFINITION. Bit fields, register views, saturating counts, two's complement and little-endian bytes (R5, R6, R10). -/
namespace Sys2Proof.Machine

/-- The field `hi:lo` of a register, as a number (R5). -/
def fld (w : Word) (hi lo : Nat) : Nat := (w.toNat >>> lo) % 2 ^ (hi + 1 - lo)

/-- Bit `i` of a register (R5). -/
def bitAt (w : Word) (i : Nat) : Bool := w.toNat.testBit i

/-- The field `hi:lo` of a register read in two's complement. -/
def fldInt (w : Word) (hi lo : Nat) : Int :=
  let n := fld w hi lo
  if n < 2 ^ (hi - lo) then (n : Int) else (n : Int) - (2 ^ (hi + 1 - lo) : Nat)

/-- A number in two's complement on `k` bits. -/
def twos (k : Nat) (i : Int) : Nat := (i % (2 ^ k : Nat)).toNat

/-- `v` put into the field `hi:lo`, its upper bits dropped. -/
def place (hi lo v : Nat) : Nat := (v % 2 ^ (hi + 1 - lo)) <<< lo

/-- A register from its fields, each given as (high bit, low bit, value); bits no field names read 0 (R11). -/
def regOf : List (Nat × Nat × Nat) → Word
  | [] => 0
  | (hi, lo, v) :: fs => BitVec.ofNat 32 (place hi lo v) ||| regOf fs

/-- A mask with the bits `hi:lo` set. -/
def maskOf (hi lo : Nat) : Word := BitVec.ofNat 32 (place hi lo (2 ^ (hi + 1 - lo) - 1))

/-- `old` with the bits of `mask` taken from `new`: how a write reaches the writable fields alone (R10). -/
def mergeMask (mask old new : Word) : Word := (old &&& ~~~mask) ||| (new &&& mask)

/-- A Bool as a one-bit field. -/
def b2n (b : Bool) : Nat := if b then 1 else 0

/-- A count that stops at its largest value. -/
def satAdd (limit n k : Nat) : Nat := min limit (n + k)

/-- The word of a number, its upper bits dropped. -/
def wordN (n : Nat) : Word := BitVec.ofNat 32 n

/-- The word of a signed number, in two's complement. -/
def wordI (i : Int) : Word := BitVec.ofInt 32 i

/-- An integer held in `k` bits of two's complement, saturating at the ends. -/
def clampI (k : Nat) (i : Int) : Int :=
  let m : Int := ((2 ^ (k - 1) : Nat) : Int)
  if i < -m then -m else if i > m - 1 then m - 1 else i

/-- A signed value of `k` bits from the low bits of a number. -/
def signedOf (k n : Nat) : Int :=
  let v := n % 2 ^ k
  if v < 2 ^ (k - 1) then (v : Int) else (v : Int) - (2 ^ k : Nat)

/-- The low and the high word of a 64-bit number. -/
def loWord (n : Nat) : Word := BitVec.ofNat 32 n
def hiWord (n : Nat) : Word := BitVec.ofNat 32 (n / 2 ^ 32)

/-- `k` little-endian bytes of a number (R6). -/
def leBytes : Nat → Nat → List Byte
  | 0, _ => []
  | k + 1, n => BitVec.ofNat 8 n :: leBytes k (n / 256)

/-- The number that little-endian bytes spell (R6). -/
def leNat : List Byte → Nat
  | [] => 0
  | b :: bs => b.toNat + 256 * leNat bs

/-- The number that big-endian bytes spell. -/
def beNat (bs : List Byte) : Nat := bs.foldl (fun a b => a * 256 + b.toNat) 0

/-- The bits of a number below `2 ^ k` that are 1, lowest first. -/
def bitsOf (k n : Nat) : List Nat := (List.range k).filter (fun i => n.testBit i)

/-- How many of the low `k` bits are 1. -/
def popCount (k n : Nat) : Nat := (bitsOf k n).length

/-- `n` with bit `i` given the value `b`. -/
def putBit (n i : Nat) (b : Bool) : Nat :=
  if n.testBit i = b then n else if b then n + 2 ^ i else n - 2 ^ i

/-- Sixteen-bit and eight-bit wrap. -/
def wrap16 (n : Nat) : Nat := n % 65536
def wrap8 (n : Nat) : Nat := n % 256

/-- Integer square root by bits: the largest r with r * r ≤ n, for n below 2 ^ (2 * k). -/
def isqrtAux : Nat → Nat → Nat → Nat
  | 0, _, r => r
  | k + 1, n, r =>
    let t := r + 2 ^ k
    isqrtAux k n (if t * t ≤ n then t else r)

/-- The integer square root of a number below 2 ^ 192. -/
def isqrt (n : Nat) : Nat := isqrtAux 96 n 0

/-- Division rounded away from zero to the next integer (for a positive divisor). -/
def ceilDiv (a b : Nat) : Nat := (a + b - 1) / b

/-- Numbers in rising order, and their median: element ⌊length / 2⌋ of them; 0 of the empty list. -/
def insertNat (x : Nat) : List Nat → List Nat
  | [] => [x]
  | y :: t => if x ≤ y then x :: y :: t else y :: insertNat x t
def sortNat (l : List Nat) : List Nat := l.foldr insertNat []
def medianNat (l : List Nat) : Nat := (sortNat l).getD (l.length / 2) 0

end Sys2Proof.Machine
end

