-- ==== Sys2Proof/Syntax/Types.lean ====
section
/-! DEFINITION. The names the commands and the state share: dies, supplies, requesters, virtual channels and the like. -/
namespace Sys2Proof

/-- The dies of the package (R15). -/
inductive Die where
  | comp0 | comp1 | io | safA | safB | field | mem0 | mem1 | mem2 | mem3 | keeper
deriving DecidableEq, Repr, Inhabited

/-- The state of a die as KPR_ISLAND_STATE encodes it: 0 unpowered, 1 in reset, 2 running, 3 failed. -/
inductive DieState where
  | unpowered | inReset | running | failed
deriving DecidableEq, Repr, Inhabited

/-- The supplies that the Keeper's sensors watch for brace and supply reset (R61). -/
inductive Supply where
  | vcore | vmem | vio18 | vio33 | vserdes085 | vserdes12
deriving DecidableEq, Repr, Inhabited

/-- A level at which a watched supply stands for a time: millivolts and nanoseconds (R61, R67). -/
structure SupplyDip where
  supply : Supply
  mv : Nat
  ns : Nat
deriving DecidableEq, Repr, Inhabited

/-- What an island or block reset request can name (RST_ISLAND_REQ, RST_BLOCK_REQ). -/
inductive ResetUnit where
  | comp0 | comp1 | io | mem | can | uart | acq | sto
deriving DecidableEq, Repr, Inhabited

/-- Which reset a release ends: one that start-up follows, an island reset, or a block reset. -/
inductive ResetScope where
  | module | island | block
deriving DecidableEq, Repr, Inhabited

/-- What begins brace: PFW_N low for so many nanoseconds, or a supply at a level in mV for so many (R61, R82). -/
inductive BraceCause where
  | pfw (lowNs : Nat)
  | supply (s : Supply) (mv ns : Nat)
deriving DecidableEq, Repr, Inhabited

/-- Who makes a control-space access (EVT_BADACC KIND): a CE in runtime mode, a management session, the debug port, or
the recorder's snapshot reads. -/
inductive Requester where
  | ce (n : Fin 128)
  | session (n : Fin 8)
  | debug
  | snapshot
deriving DecidableEq, Repr, Inhabited

/-- The width of a control-space access (R13). -/
inductive AccessSize where
  | byte | half | word | vector
deriving DecidableEq, Repr, Inhabited

/-- Who ordered a change that the structural log records: bits 5:3 of its flags (R140). -/
inductive LogSource where
  | keeper | mg0 | mg1 | debug
deriving DecidableEq, Repr, Inhabited

/-- A flit as a router receives it: 128 bits and their 12-bit check (R105). -/
structure Flit where
  data : BitVec 128
  crc : BitVec 12
deriving DecidableEq, Repr, Inhabited

/-- A flit pair as a router receives it: both flits and the sequence bit (R103, R105). -/
structure FlitPair where
  first : Flit
  second : Flit
  seq : Bool
deriving DecidableEq, Repr, Inhabited

/-- A safety channel, and the die it runs on. -/
inductive Channel where
  | a | b
deriving DecidableEq, Repr, Inhabited

/-- The block that raises an event: one row of R551. Events of one block arrive in the order it raised them (R554). -/
inductive EventBlock where
  | rst | trs | frm | cmb | kpr | ce | cyc | hst | dor | fbk | dsp | saf | fio | can | net | acq | sto | evr | tmb | soft
deriving DecidableEq, Repr, Inhabited

/-- A management port, MG0 or MG1. -/
inductive MgPort where
  | mg0 | mg1
deriving DecidableEq, Repr, Inhabited

/-- The outcome of a time-critical exchange on a serial line or a bus, as its receiver sees it. -/
inductive LineResult where
  | good | bad
deriving DecidableEq, Repr, Inhabited

/-- What the IEEE 1687 network is asked for after AUTH (R541). -/
inductive DebugOp where
  /-- Read a control-space register. -/
  | read (addr : Word)
  /-- Write a control-space register. -/
  | write (addr value : Word)
  /-- Read a general register of a halted CE. -/
  | ceReg (ce : Fin 128) (k : Fin 32)
  /-- Read a word of a comb slice's SRAM: slot and word. -/
  | sliceSram (slot : Fin 262144) (k : Fin 16)
  /-- Read the state of a truss link. -/
  | router (link : Fin 1024)
deriving DecidableEq, Repr, Inhabited

/-- A PCI Express link as a root port sees it (R500): down, training, up at a generation and width, or nothing is present. -/
inductive LinkState where
  | down | training | up (gen width : Nat) | notPresent
deriving DecidableEq, Repr, Inhabited

/-- What Identify tells of a drive (R500): 4 KiB LBA format, power-loss protection, blocks of namespace 1. -/
structure DriveIdent where
  lba4k : Bool
  powerLoss : Bool
  blocks : Nat
deriving DecidableEq, Repr, Inhabited

/-- One feedback record (R461): the car, the source (absolute or quadrature), the station's verdict, the value, the last index latch
and the latch instant. -/
structure FeedbackRec where
  car : Fin 64
  quad : Bool
  verdict : BitVec 8
  value : Word
  index : Word
  latchAt : DWord
deriving DecidableEq, Repr, Inhabited

/-- Profile registers of a door channel (R333). -/
inductive DoorReg where
  | prof | acc | target
deriving DecidableEq, Repr, Inhabited

/-- What arrives over a plumb link (R376): B's frame at A, with the length of B's cycle in ns as A measures it; A's frame at B; A's
frame returned through the delay registers; A's pattern frame returned; A's pattern frame at B. -/
inductive PlumbArrival where
  | partnerAtA (length : Nat)
  | partnerAtB
  | returned
  | pattern
  | patternAtB
deriving DecidableEq, Repr, Inhabited

/-- A station frame (R460) less its LENGTH, which is four times the number of payload words, and its CRC-32C, which a frame that
reaches the model has passed. -/
structure StationFrame where
  station : BitVec 16
  kind : BitVec 8
  flags : BitVec 8
  seq : Word
  cycleAt : DWord
  tag : Word
  payload : List Word
deriving DecidableEq, Repr, Inhabited

/-- A station frame as it arrives: with its LENGTH, check codes and CRC-32C (R460, R465). -/
structure StationInput where
  frame : StationFrame
  length : BitVec 16
  checks : List DWord
  crc : Word
deriving DecidableEq, Repr, Inhabited

/-- A virtual channel of a truss link (R99). -/
structure LinkChannel where
  link : Fin 1024
  vc : Fin 4
deriving DecidableEq, Repr, Inhabited

/-- A frame at a port: its size in bytes and its VLAN (R455, R457). -/
structure PortFrame where
  port : Fin 8
  bytes : Nat
  vlan : Option (BitVec 12)
deriving DecidableEq, Repr, Inhabited

/-- Why a channel enters FAULT (R386). -/
inductive DieFault where
  | selfTest | oscillator | supply
deriving DecidableEq, Repr, Inhabited

end Sys2Proof
end

