-- ==== Sys2Proof/Syntax/Net.lean ====
section
/-! DEFINITION. What reaches the CAN channels, the Ethernet ports and the pair link: frames, bus happenings, waggles and records of one
tick. -/
namespace Sys2Proof

/-- A CAN frame as the bus carries it (R438, R443): its format, ID (a base ID in bits 10:0), DLC and data. -/
structure CanFrame where
  ide : Bool
  fdf : Bool
  brs : Bool
  esi : Bool
  rtr : Bool
  id : BitVec 29
  dlc : BitVec 4
  data : List Byte
deriving DecidableEq, Repr, Inhabited

/-- What happens to a channel on the bus (R446, R448, R449): arbitration lost by the head; an overload frame; an error seen as a receiver or
as the sender, with its LEC less 1, its phase, and whether the standard counts it by 8 as a receiver, or not at all as a sender; a
transmitter delay as the channel has measured it, in clocks of 12.5 ns, with the level of the bit in which it does. -/
inductive CanEvent where
  | arbitrationLost
  | overload
  | receiver (lec : Fin 6) (dataPhase byEight : Bool)
  | sender (lec : Fin 6) (dataPhase exempt : Bool)
  | delay (clocks : BitVec 16) (bit1 : Bool)
deriving DecidableEq, Repr, Inhabited

/-- A state of an Ethernet port that a port change leads to (R457). -/
inductive PortState where
  | down | training | up
deriving DecidableEq, Repr, Inhabited

/-- An IEEE 802.1AS message (R458): an announce of a grandmaster, or a time told or measured, in whole seconds and as an offset in
ns. -/
inductive GptpMsg where
  | announce (domain : BitVec 8) (priority1 : BitVec 8)
  | time (domain : BitVec 8) (seconds : Nat) (offset : Int)
deriving DecidableEq, Repr, Inhabited

/-- A waggle (R476) less its zero bytes and its CRC-32C, which a waggle that reaches the model has passed. -/
structure Waggle where
  count : Word
  holder : Bool
  release : Bool
  fit : Bool
  sending : Bool
  bench : Bool
  forced : Bool
  gone : Bool
  modul : Bool
  set : BitVec 4
  therm : BitVec 2
  verdict : BitVec 2
  sentAt : DWord
  digest : DWord
  outDigest : DWord
deriving DecidableEq, Repr, Inhabited

/-- The station frame of a tick that an input image uses (R479): station and SEQ. -/
structure Selection where
  station : Fin 2048
  seq : Word
deriving DecidableEq, Repr, Inhabited

end Sys2Proof
end

