-- ==== Sys2Proof/Syntax/Ce.lean ====
section
/-! DEFINITION. Operands of the control-engine instructions: the fields of the formats of R153, and the integer, float,
vector, load and store groups of R155, whose encodings the toolchain owns. -/
namespace Sys2Proof

/-- The guard of an instruction: bits 25 and 24:22 (R152). -/
structure Guard where
  pn : Bool
  ps : Fin 8
deriving DecidableEq, Repr, Inhabited

/-- Format R (R153): rd 21:17, ra 16:12, rb 11:7, FN 6:0. -/
structure FmtR where
  guard : Guard
  rd : Fin 32
  ra : Fin 32
  rb : Fin 32
  fn : BitVec 7
deriving DecidableEq, Repr, Inhabited

/-- Format I: rd 21:17, ra 16:12, IMM12 11:0 signed. -/
structure FmtI where
  guard : Guard
  rd : Fin 32
  ra : Fin 32
  imm : BitVec 12
deriving DecidableEq, Repr, Inhabited

/-- Format J: DISP22 21:0 signed. -/
structure FmtJ where
  guard : Guard
  disp : BitVec 22
deriving DecidableEq, Repr, Inhabited

/-- Format L: U 21, I 20, bits 19:12 (COUNT8, or ra in 16:12 with 19:17 zero), END 11:0. -/
structure FmtL where
  guard : Guard
  u : Bool
  i : Bool
  mid : BitVec 8
  stop : BitVec 12
deriving DecidableEq, Repr, Inhabited

/-- Format M: vd 21:18, ra 17:13, vb 12:9, WORD 8:5, bits 4:1 zero, FN 0. -/
structure FmtM where
  guard : Guard
  vd : Fin 16
  ra : Fin 32
  vb : Fin 16
  word : Fin 16
  zero : BitVec 4
deriving DecidableEq, Repr, Inhabited

/-- Two-operand integer operations (R155). -/
inductive AluOp where
  | add | sub | and | or | xor | andn | shl | shr | sar | rot | mul | mulh | mulhu | div | divu | rem | remu
  | min | max | adds | subs
deriving DecidableEq, Repr, Inhabited

/-- One-operand integer operations (R155). -/
inductive UnaryOp where
  | abs | clz | popc
deriving DecidableEq, Repr, Inhabited

/-- Comparisons (R155). -/
inductive CmpOp where
  | eq | ne | lt | ltu | le | leu
deriving DecidableEq, Repr, Inhabited

/-- Predicate operations (R155). -/
inductive PredOp where
  | and | or | xor | not
deriving DecidableEq, Repr, Inhabited

/-- A second source: a register or a signed immediate. -/
inductive Src where
  | reg (r : Fin 32)
  | imm (v : BitVec 12)
deriving DecidableEq, Repr, Inhabited

/-- The integer group. -/
inductive IntInstr where
  | alu (op : AluOp) (rd ra : Fin 32) (b : Src)
  | unary (op : UnaryOp) (rd ra : Fin 32)
  /-- EXT: the field of `width` bits at `pos` of ra, zero-extended. -/
  | ext (rd ra : Fin 32) (pos : Fin 32) (width : Fin 33)
  /-- INS: the low `width` bits of ra put into rd at `pos`. -/
  | ins (rd ra : Fin 32) (pos : Fin 32) (width : Fin 33)
  | movi (rd : Fin 32) (v : BitVec 17)
  | movhi (rd : Fin 32) (v : BitVec 16)
  | cmp (op : CmpOp) (pd : Fin 8) (ra : Fin 32) (b : Src)
  | pred (op : PredOp) (pd pa pb : Fin 8)
  /-- A word with an opcode, a reserved field or a register number that R155 calls ILLEGAL. -/
  | illegal
deriving DecidableEq, Repr, Inhabited

/-- Two-operand float operations (R155). -/
inductive FloatOp where
  | add | sub | mul | div | min | max
deriving DecidableEq, Repr, Inhabited

/-- Float comparisons. -/
inductive FCmpOp where
  | eq | lt | le
deriving DecidableEq, Repr, Inhabited

/-- Float conversions: to and from signed and unsigned integers. -/
inductive FCvtOp where
  | fromInt | fromUInt | toInt | toUInt
deriving DecidableEq, Repr, Inhabited

/-- The float group. -/
inductive FloatInstr where
  | op2 (op : FloatOp) (rd ra rb : Fin 32)
  /-- FMA: rd := ra × rb + rc, rounded once. -/
  | fma (rd ra rb rc : Fin 32)
  | sqrt (rd ra : Fin 32)
  | cmp (op : FCmpOp) (pd : Fin 8) (ra rb : Fin 32)
  | cvt (op : FCvtOp) (rd ra : Fin 32)
deriving DecidableEq, Repr, Inhabited

/-- The vector group: lane-wise forms, and the moves and reductions of R155. -/
inductive VecInstr where
  | alu (op : AluOp) (vd va vb : Fin 16)
  | unary (op : UnaryOp) (vd va : Fin 16)
  | float (op : FloatOp) (vd va vb : Fin 16)
  | fma (vd va vb vc : Fin 16)
  | sqrt (vd va : Fin 16)
  | cvt (op : FCvtOp) (vd va : Fin 16)
  | cmp (op : CmpOp) (pd : Fin 8) (va vb : Fin 16)
  | fcmp (op : FCmpOp) (pd : Fin 8) (va vb : Fin 16)
  /-- The lane-wise forms of EXT, INS, MOVI and MOVHI. -/
  | extLanes (vd va : Fin 16) (pos : Fin 32) (width : Fin 33)
  | insLanes (vd va : Fin 16) (pos : Fin 32) (width : Fin 33)
  | moviLanes (vd : Fin 16) (v : BitVec 17)
  | movhiLanes (vd : Fin 16) (v : BitVec 16)
  | bcast (vd : Fin 16) (ra : Fin 32)
  | ext (rd : Fin 32) (va : Fin 16) (lane : Fin 16)
  | ins (vd : Fin 16) (lane : Fin 16) (ra : Fin 32)
  | perm (vd va vb : Fin 16)
  | rsum (rd : Fin 32) (va : Fin 16)
  | rmin (rd : Fin 32) (va : Fin 16)
  | rmax (rd : Fin 32) (va : Fin 16)
deriving DecidableEq, Repr, Inhabited

/-- Sizes of loads: LDB, LDBU, LDH, LDHU, LDW and LDV. -/
inductive LoadKind where
  | b | bu | h | hu | w | v
deriving DecidableEq, Repr, Inhabited

/-- Sizes of stores: STB, STH, STW, STV. -/
inductive StoreKind where
  | b | h | w | v
deriving DecidableEq, Repr, Inhabited

/-- A 32-bit instruction word as R154 and R155 decode it: the groups whose encodings belong to the toolchain keep their word. -/
inductive CeWord where
  | integer (w : Word)
  | float (w : Word)
  | vector (w : Word)
  | loadStore (w : Word)
  | gath (f : FmtM)
  | scat (f : FmtM)
  | ldp (f : FmtI)
  | stp (f : FmtI)
  | branch (f : FmtJ)
  | branchLink (f : FmtJ)
  | jumpReg (f : FmtR)
  | loop (f : FmtL)
  | lclr (f : FmtR)
  | mfs (g : Guard) (rd sr : Fin 32)
  | mts (g : Guard) (ra sr : Fin 32)
  | sys (f : FmtI)
  | xret (f : FmtR)
  | setm (f : FmtR)
  | brk (f : FmtR)
  | wait (f : FmtR)
  | illegal
deriving DecidableEq, Repr, Inhabited

/-- What the error check of a memory read finds (R178): nothing, a corrected single-bit error, an uncorrectable one. -/
inductive Ecc where
  | clean | corrected | double
deriving DecidableEq, Repr, Inhabited

/-- A WAIT as it executes: its fields, and what SECDED finds in the SRAM words that the output copy reads (R178, R188). -/
structure WaitForm where
  fields : FmtR
  errs : List (Fin 131072 × Ecc)
deriving DecidableEq, Repr, Inhabited

/-- A CE's data map run to its end, and what SECDED finds in the SRAM words that it reads (R178, R205). -/
structure DataMapRun where
  ce : Fin 128
  errs : List (Fin 131072 × Ecc)
deriving DecidableEq, Repr, Inhabited

/-- An access that has not completed within 5,000 hs (R164, R167): a data access, or the element of a comb access. -/
inductive LateAccess where
  | data (addr : Word)
  | element (lane : Fin 16) (id : Word)
deriving DecidableEq, Repr, Inhabited

end Sys2Proof
end

