-- ==== Sys2Proof/Syntax/Comb.lean ====
section
/-! DEFINITION. Operands of the comb, BACnet and Modbus commands: requesters of the comb, its element accesses, BACnet
sessions, objects and properties. -/
namespace Sys2Proof

/-- Where a BACnet request comes from: a BACnet/SC connection (R237) or a BACnet/IP binding of the NETWORK section
(R238). -/
inductive BacSession where
  | sc (conn : Nat)
  | ip (binding : Nat)
deriving DecidableEq, Repr, Inhabited

/-- A BACnet request: the session it comes over and the bytes of its longest APDU (R239). -/
structure BacRequest where
  who : BacSession
  apdu : Nat
deriving DecidableEq, Repr, Inhabited

/-- A network session as the guard knows it (R237, R238, R242): a BACnet session, a Modbus TCP binding of connection address and unit ID,
or the map of a polled Modbus device. -/
inductive NetSession where
  | bac (q : BacSession)
  | modbus (binding : Nat)
  | map (no : Nat)
deriving DecidableEq, Repr, Inhabited

/-- Who sends an element to the comb (R224): a CE, a network session, a station, the Keeper, or a fixed-function unit of compute die 0. -/
inductive CombWho where
  | ce (n : Fin 128)
  | session (x : NetSession)
  | station (n : Fin 2048)
  | keeper
  | unit
deriving DecidableEq, Repr, Inhabited

/-- One element (R215, R220, R221): a word, a whole slot, a write, or the relinquishing of a priority (0 acts as 16). -/
inductive CombOp where
  | read (word : Fin 16)
  | readSlot
  | write (word : Fin 16) (value : Word) (prio : Fin 17)
  | relinquish (prio : Fin 17)
deriving DecidableEq, Repr, Inhabited

/-- Families of point objects (R236). -/
inductive PointKind where
  | analog | binary | multiState
deriving DecidableEq, Repr, Inhabited

/-- BACnet objects (R235, R236, R239): a virtual device by its instance, a point object by family, DIR (0 input, 1 output, 2 value) and
point ID, or the Trend Log of a point. -/
inductive BacObject where
  | device (inst : Nat)
  | point (kind : PointKind) (dir : Fin 3) (id : Nat)
  | trendLog (id : Nat)
deriving DecidableEq, Repr, Inhabited

/-- What Who-Has names. -/
inductive ObjRef where
  | id (o : BacObject)
  | name (bytes : List Byte)
deriving DecidableEq, Repr, Inhabited

/-- Properties of point objects (R236), and the object list of a virtual device (R235). -/
inductive BacProp where
  | presentValue | statusFlags | outOfService | reliability | eventState | priorityArray | relinquishDefault | highLimit
  | lowLimit | deadband | timeDelay | limitEnable | notificationClass | ackedTransitions | covIncrement | objectName
  | units | description | objectList
deriving DecidableEq, Repr, Inhabited

/-- The transition that an AcknowledgeAlarm names: bits 29, 28 and 27 of ALARM_STATE. -/
inductive AlarmKind where
  | offNormal | fault | normal
deriving DecidableEq, Repr, Inhabited

end Sys2Proof
end

