-- ==== Sys2Proof/Machine/State/Image.lean ====
section
/-! DEFINITION. What a frame image assigns: the contents of the sections of a Quaren container (R119) as the blocks take
them. The manual leaves the byte layout of most sections to the toolchain; the parsed form is what the chapters that own
them name. -/
namespace Sys2Proof.Machine

/-- The role a frame image gives a CE (Architecture, R33, R34). -/
inductive CeRole where
  | lift | planner (group : Nat) | ba | sandbox
deriving DecidableEq, Repr, Inhabited

/-- Save classes of CEs (R83). -/
inductive SaveClass where
  | live | held | scratch
deriving DecidableEq, Repr, Inhabited

/-- One entry of ROLES: role, save class, the control-space blocks granted to runtime mode (as numbers of R544's rows,
from 0), and the instruction-cache lock (R177). -/
structure RoleEntry where
  ce : Nat
  role : CeRole
  cls : SaveClass
  grants : List Nat
  lockBase : Word
  lockBlocks : Nat
deriving DecidableEq, Repr, Inhabited

/-- A right on an MRAM bank (R148). -/
inductive BankRight where
  | none | read | readWrite | readExecute
deriving DecidableEq, Repr, Inhabited

/-- The rights of one CE on one bank, in runtime and in task mode. -/
structure BankGrant where
  ce : Nat
  bank : Nat
  runtime : BankRight
  task : BankRight
deriving DecidableEq, Repr, Inhabited

/-- Initial CE data of the INIT section. -/
structure InitData where
  ce : Nat
  addr : Nat
  bytes : List Byte
deriving DecidableEq, Repr, Inhabited

/-- One consumer of the NETWORK section (R506): the streams it takes, TMO in ms. -/
structure ConsumerCfg where
  no : Nat
  streams : List Nat
  tmo : Nat
  host : List Byte := []
  udp : Nat := 0
  pair : Nat := 0
deriving DecidableEq, Repr, Inhabited

/-- An entry of the access table of the NETWORK section (R524, R526). -/
structure AccessEntry where
  fingerprint : List Byte
  rights : Nat
  tenant : Nat
deriving DecidableEq, Repr, Inhabited

/-- The history-store part of MEMORY (R502, R504): assigned, MIRROR, and the shares of the 19 streams in 0.1 %. -/
structure StoreCfg where
  assigned : Bool
  mirror : Bool
  shares : List Nat
deriving DecidableEq, Repr, Inhabited

/-- A landing of GEOMETRY: its number and its sill height in units of 10 µm (R250). -/
structure LandingCfg where
  no : Nat
  sill : Int
deriving DecidableEq, Repr, Inhabited

/-- A stop of a double-deck car (R366): the landings of its lower and upper deck, and whether they are a lobby pair. -/
structure DeckPair where
  lower : Nat
  upper : Nat
  lobby : Bool
deriving DecidableEq, Repr, Inhabited

/-- A car of GEOMETRY with its limits (R251) in the units of that table; SETTLE in 10 ms, LEVEL_TOL in 10 µm, FOLLOW_LIM in
mm, virtual limits and SEP_GAP in 10 µm. -/
structure CarCfg where
  no : Nat
  shaft : Nat
  group : Nat
  /-- Landings served. -/
  served : List Nat
  /-- Door sides present: 0 front, 1 rear; and those that are heavy doors. -/
  doors : List Nat
  heavy : List Nat
  vmax : Nat
  vbreak : Nat
  a1 : Nat
  a2 : Nat
  jerk : Nat
  vstart : Nat
  vstop : Nat
  lead : Nat
  settle : Nat
  levelTol : Nat
  followLim : Nat
  adjV : Nat
  adjA : Nat
  deckSpacing : Nat
  vlimUp : Int
  vlimDn : Int
  paired : Bool
  upper : Bool
  partner : Nat
  sepGap : Nat
  /-- The station that carries its drive frames (R460). -/
  drive : Nat
  /-- CAPACITY in persons, RATED_LOAD in kg, BALANCE, MOTOR_EFF and REGEN_EFF in percent (R357, R369). -/
  capacity : Nat
  ratedLoad : Nat
  balance : Nat
  motorEff : Nat
  regenEff : Nat
  /-- Stops of a double-deck car; empty for a car with one deck. -/
  pairs : List DeckPair
deriving DecidableEq, Repr, Inhabited

/-- A car's sources and their checks (R286, R303, R310): stations or local interfaces, directions, nominal SCALE and DATUM, the datum
landing, VANE_OFFSET and the limits of FBK_CHECK. -/
structure FbkCfg where
  car : Nat
  absStn : Bool
  absNum : Nat
  quadStn : Bool
  quadNum : Nat
  absDir : Bool
  quadDir : Bool
  scale : Nat
  datum : Int
  datumLanding : Nat
  vaneOffset : Int
  plausWin : Nat
  freezeD : Nat
  crcRun : Nat
  plausN : Nat
  idxTol : Nat
deriving DecidableEq, Repr, Inhabited

/-- A local absolute interface (R288, R289), in the units of FBK_SSI_CFG. -/
structure SsiCfg where
  no : Nat
  frameBits : Nat
  posBits : Nat
  check : Nat
  gray : Bool
  clk : Nat
  period : Nat
  dly : Nat
deriving DecidableEq, Repr, Inhabited

/-- A local quadrature interface (R292, R293). -/
structure QeCfg where
  no : Nat
  filt : Nat
  zpol : Bool
  cpr : Nat
deriving DecidableEq, Repr, Inhabited

/-- An input as a section names it: a field input, or a bit of a station input word (R317). -/
inductive InputRef where
  | field (k : Nat)
  | station (n word bit : Nat)
deriving DecidableEq, Repr, Inhabited

/-- A door of GEOMETRY (R319), in the units of that table: lengths in mm or µm as it gives them, END_TOL and STALL_LIM in 10 µm, EK in
0.1 J, MASS in 0.1 kg; its channel, the landings its side serves, its reopen input, its initial gear table (SHIFT, RATIO), and
the station that carries its frames. -/
structure DoorCfg where
  ch : Nat
  landings : List Nat
  reopen : Option InputRef
  station : Nat
  stroke : Nat
  mass : Nat
  ecPitch : Nat
  elecOff : Nat
  vopen : Nat
  vclose : Nat
  vopenDef : Nat
  acc : Nat
  decRev : Nat
  creepV : Nat
  creepD : Nat
  endTol : Nat
  ekLim : Nat
  ekNudge : Nat
  forceLim : Nat
  obstN : Nat
  kf : Nat
  friction : Nat
  ampQ : Nat
  ampS : Nat
  ampHold : Nat
  bandQ : Nat
  bandS : Nat
  koff : Nat
  offMax : Nat
  stallLim : Nat
  dlead : Nat
  revLimit : Nat
  isHeavy : Bool
  fixStrong : Bool
  vqs : Nat
  vhys : Nat
  adoDist : Nat
  adoVmax : Nat
  shifts : List Nat
  ratios : List Int
deriving DecidableEq, Repr, Inhabited

/-- The field table (R415): inputs (TYPE, VON, VOFF in 0.1 V, FILT), outputs, coil channels and ADC channels. -/
structure FieldInCfg where
  no : Nat
  typ : Nat
  von : Nat
  voff : Nat
  filt : Nat
deriving DecidableEq, Repr, Inhabited

structure FieldOutCfg where
  no : Nat
  owOn : Bool
  owOff : Bool
  shared : Bool
  safety : Bool
deriving DecidableEq, Repr, Inhabited

/-- A coil channel: currents in 10 mA, T_PULL in ms, SHUNT in mΩ, pair currents in 100 mA, speeds in addresses per ms. -/
structure CoilCfg where
  no : Nat
  mode : Nat
  iPull : Nat
  iHold : Nat
  tPull : Nat
  band : Nat
  koff : Nat
  iTrip : Nat
  shunt : Nat
  offMax : Nat
  vQs : Nat
  vHys : Nat
  ampQ : Nat
  ampS : Nat
  vmax : Nat
  acc : Nat
  shared : Bool
  safety : Bool
deriving DecidableEq, Repr, Inhabited

structure FieldCfg where
  ins : List FieldInCfg
  outs : List FieldOutCfg
  coils : List CoilCfg
  /-- Enabled ADC channels, and those whose samples are streamed. -/
  adcs : List Nat
  acqAdcs : List Nat
deriving DecidableEq, Repr, Inhabited

/-- A CAN channel of FIELDBUS (R439): EN, its options, rates and segments as numbers (not less 1), HEAD_TMO in units of 100 µs. -/
structure CanCfg where
  no : Nat
  en : Bool
  fdEn : Bool
  shared : Bool
  txEcho : Bool
  autoRecover : Bool
  listen : Bool
  tdcEn : Bool
  tdco : Nat
  nbrp : Nat
  ntseg1 : Nat
  ntseg2 : Nat
  nsjw : Nat
  dbrp : Nat
  dtseg1 : Nat
  dtseg2 : Nat
  dsjw : Nat
  headTmo : Nat
deriving DecidableEq, Repr, Inhabited

/-- An entry of a port's gate control list (R459): how long it lasts in ns, and the traffic classes whose gates are open in it. -/
structure GateEntry where
  ns : Nat
  classes : BitVec 8
deriving DecidableEq, Repr, Inhabited

/-- A port of NETWORK (R455 to R459): enabled, 25GBASE-R, RS-FEC, START_TMO in µs, whether it is one of a PRP pair, its VLANs and its gate
control list. -/
structure PortCfg where
  no : Nat
  fast : Bool
  fec : Bool
  startTmo : Nat
  paired : Bool
  vlans : List (BitVec 12) := []
  gates : List GateEntry := []
deriving DecidableEq, Repr, Inhabited

/-- A group of GEOMETRY: its cars and the total of its call-token book (R356). -/
structure GroupCfg where
  no : Nat
  cars : List Nat
  calls : Nat
deriving DecidableEq, Repr, Inhabited

/-- A station of STATIONS: its number, PRP address, tenant and substitute values are given in the network chapter's terms. -/
structure StationCfg where
  no : Nat
  addr : Nat
  tenant : Nat
  /-- CYCLE code (0: 50 µs; k + 1: 250 µs × 2^k), OFFSET in µs, WD, its PRP pair, and whether it is a safety station (R462 to R467). -/
  cycle : Nat
  offset : Nat
  wd : Nat
  pair : Nat
  safety : Bool
  /-- Input and output words it carries, and the substitute mode and fixed value of each input word (R199). -/
  inWords : Nat
  outWords : Nat
  subst : List (Nat × Word)
deriving DecidableEq, Repr, Inhabited

/-- A point of POINTS (R215): its slot, the initial contents of its 16 words, CONFIG with its owner among them, its relinquish default, and
its entries of the name table. -/
structure PointCfg where
  slot : Nat
  words : List Word
  relinquish : Word
  name : List Byte
  units : List Byte
  description : List Byte
deriving DecidableEq, Repr, Inhabited

/-- A tenant of TENANTS: its virtual BACnet device (R235), with its name and operational certificate (R237), the flags of R226, R237 and
R238, its COV quota, the CAs its peers' certificates chain to and the fingerprints of its peers, and its module key, region and
CODE_MAX (R231, R232). -/
structure TenantCfg where
  no : Nat
  device : Option Nat
  devName : List Byte
  cert : List Byte
  cas : List (List Byte)
  oprRead : Bool
  hubOk : Bool
  ipWrite : Bool
  covQuota : Nat
  peers : List (List Byte)
  key : List Byte
  region : Nat
  codeMax : Nat
deriving DecidableEq, Repr, Inhabited

/-- A CE of the sandbox pool: its tenant and its comb rate (R229, R230). -/
structure SandboxCfg where
  ce : Nat
  tenant : Nat
  rate : Nat
deriving DecidableEq, Repr, Inhabited

/-- The points of the energy unit (R243, R244). -/
structure EnergyCfg where
  meter : Nat
  power : Nat
  regen : Nat
  level : Nat
  shed : List Nat
deriving DecidableEq, Repr, Inhabited

/-- A recipient of the event notifications of a notification class (R239, R241). -/
structure RecipientCfg where
  cls : Nat
  peer : BacSession
  confirmed : Bool
deriving DecidableEq, Repr, Inhabited

/-- A Modbus map (R242): its number and tenant, and for each first register the point it ties. -/
structure ModbusMap where
  no : Nat
  tenant : Nat
  regs : List (Nat × Nat)
deriving DecidableEq, Repr, Inhabited

/-- Where a word of an input image comes from (R191, R420, R434): a station's status or input word, one of the four words of field inputs,
an ADC channel's word. -/
inductive InSource where
  | stationStatus (n : Nat)
  | stationWord (n word : Nat)
  | field (k : Nat)
  | adc (k : Nat)
  | zero
deriving DecidableEq, Repr, Inhabited

/-- Where an output word goes (R186, R188): a station word, a register of a hoist or door channel by its offset, a field channel numbered
as in the field table, a point. -/
inductive OutDest where
  | stationWord (n word : Nat)
  | hoist (c off : Nat)
  | door (d off : Nat)
  | field (ch : Nat)
  | point (id : Nat)
  | none
deriving DecidableEq, Repr, Inhabited

/-- An entry of the task table (R185), with the sources of its input image, the image words its edge words mark, and the
destinations of its output area. -/
structure TaskCfg where
  task : Nat
  ce : Nat
  cls : Nat
  prio : Nat
  period : Nat
  phase : Nat
  ovrLimit : Nat
  errorTask : Nat
  entry : Word
  inBase : Nat
  inSize : Nat
  outSize : Nat
  outBase : Nat
  edgeWords : Nat
  edges : List Nat
  image : List InSource
  outs : List OutDest
deriving DecidableEq, Repr, Inhabited

/-- One entry of a CE's data map (R204): bytes kept, from an old address to a new one, or bytes from INIT. -/
inductive MapMove where
  | keep (src dst len : Nat)
  | init (dst : Nat) (bytes : List Byte)
deriving DecidableEq, Repr, Inhabited

/-- The data map of a CE. -/
structure DataMap where
  ce : Nat
  moves : List MapMove
deriving DecidableEq, Repr, Inhabited

/-- A persistent variable as an image's map names it (R201): its name, its type, and its place in the persistent region. -/
structure PersistVar where
  name : List Byte
  typ : Nat
  off : Nat
  len : Nat
deriving DecidableEq, Repr, Inhabited

/-- A CE's persistent data (R201, R202): where in its data SRAM, how much, and the variables there. -/
structure PersistCfg where
  ce : Nat
  base : Nat
  len : Nat
  vars : List PersistVar
deriving DecidableEq, Repr, Inhabited

/-- The MEMORY section: banks assigned, the three banks of each save area, and the history store (R84, R502). -/
structure MemoryCfg where
  banks : List Nat
  saveA : List Nat
  saveB : List Nat
  store : StoreCfg
  grants : List BankGrant
deriving DecidableEq, Repr, Inhabited

/-- The NETWORK section: the access table, the timebase source, the consumers, the ports, DIV_RUN and, where it is given, the gPTP
priority1. -/
structure NetworkCfg where
  ports : List PortCfg
  divRun : Nat
  priority1 : Option Nat
  access : List AccessEntry
  tmbSource : Nat
  consumers : List ConsumerCfg
deriving DecidableEq, Repr, Inhabited

/-- The contents of a frame image, section by section (R119). -/
structure ImageContent where
  roles : List RoleEntry
  cars : List CarCfg
  groups : List GroupCfg
  /-- Initial access rights (R353): profile, word, bits. -/
  rights : List (Nat × Nat × Word)
  doors : List DoorCfg
  feedback : List FbkCfg
  field : FieldCfg
  /-- Enabled CAN channels (R439). -/
  can : List CanCfg
  ssi : List SsiCfg
  qe : List QeCfg
  /-- Landings defined in GEOMETRY. -/
  landings : List LandingCfg
  stations : List StationCfg
  tasks : List TaskCfg
  maps : List DataMap
  persist : List PersistCfg
  points : List PointCfg
  /-- Home tile of every block that holds an allocated slot (R216). -/
  homes : List (Nat × Nat)
  tenants : List TenantCfg
  /-- Share lists (R226). -/
  shares : List (List Nat)
  sandbox : List SandboxCfg
  energy : EnergyCfg
  recipients : List RecipientCfg
  modbus : List ModbusMap
  /-- Modbus TCP bindings: tenant and map; BACnet/IP bindings: tenant (R238, R242). -/
  modbusBinds : List (Nat × Nat)
  bacIp : List Nat
  budgets : List Word
  init : List InitData
  memory : MemoryCfg
  network : NetworkCfg
deriving DecidableEq, Repr, Inhabited

end Sys2Proof.Machine
end

