-- ==== Sys2Proof/Machine/State/Comb.lean ====
section
/-! DEFINITION. State of the comb (R215 to R222), its mirror, the guard's registers, alarms, tenant modules, BACnet and the
energy unit, with their reset values. -/
namespace Sys2Proof.Machine

/-- A priority array (R221): the active entries by priority 1 to 16, and the relinquish default. -/
structure PrioArray where
  entries : Tab (Option Word) := []
  relinquish : Word := 0
deriving DecidableEq, Repr, Inhabited

/-- A slot as the mirror and the save hold it: its words, its unforced value and its priority array. -/
structure SlotImage where
  words : Tab Word := []
  base : Word := 0
  arr : Option PrioArray := none
deriving DecidableEq, Repr, Inhabited

/-- A point slot in its home slice. -/
structure Point where
  alloc : Bool := false
  words : Tab Word := []
  arr : Option PrioArray := none
  /-- The value without its force, and the force of KIND 5 on it: mask and value (R223). -/
  base : Word := 0
  force : Option (Word × Word) := none
  /-- The state a pending alarm condition leads to, while DELAY_LEFT counts (R233). -/
  alarmPend : Option Nat := none
  /-- A double-bit error waits for the reload (R218). -/
  broken : Bool := false
  /-- Changed since the last write to mirror copy A; and writes that copies A and B have not acknowledged (R217). -/
  dirty : Bool := false
  flightA : Option SlotImage := none
  flightB : Option SlotImage := none
  /-- The last 64 samples of an SH-8128-IB, newest first (R234): VALUE, STATUS, TIME. -/
  trend : List (Word × Word × Nat) := []
deriving DecidableEq, Repr, Inhabited

/-- How an element ends (R164, R225). -/
inductive CombResult where
  | ok (words : List Word)
  | guarded | readOnly | idRange | unassigned | ecc | truss
deriving DecidableEq, Repr, Inhabited

/-- An alarm record (R233). -/
structure AlarmRec where
  time : Nat
  point : Nat
  old : Nat
  new : Nat
  cls : Nat
  value : Word
deriving DecidableEq, Repr, Inhabited

/-- A tenant's module (R231, R232): which half executes, and a version checked and waiting to switch since a device time. -/
structure TenantModule where
  half : Bool := false
  version : Word := 0
  waiting : Option (Word × Nat) := none
deriving DecidableEq, Repr, Inhabited

/-- A BACnet/SC connection and the tenant it is bound to. -/
structure ScConn where
  tenant : Nat
  hub : Bool
deriving DecidableEq, Repr, Inhabited

/-- Event notifications sent at the last drain of the alarm queue (R239): to which recipient, confirmed or not, and the record. -/
structure EventNote where
  peer : BacSession
  confirmed : Bool
  record : AlarmRec
deriving DecidableEq, Repr, Inhabited

/-- A COV subscription (R239): who, which point, confirmed or not, and what was last notified and when. -/
structure CovSub where
  who : BacSession
  tenant : Nat
  point : Nat
  confirmed : Bool
  lastValue : Word
  lastStatus : Word
  lastTime : Nat
deriving DecidableEq, Repr, Inhabited

/-- BACnet errors (R240, R241) and property errors (R236). -/
inductive BacError where
  | unknownObject | unknownProperty | writeDenied | operational | noSpace | resources
deriving DecidableEq, Repr, Inhabited

/-- What the session unit answers or sends. -/
inductive BacMsg where
  | none
  | iAm (devices : List Nat)
  | iHave (o : BacObject)
  | value (ws : List Word)
  | text (bytes : List Byte)
  | ack
  | values (rs : List (BacError ⊕ List Word))
  | error (e : BacError)
  | cov (sub : Nat) (confirmed : Bool) (value status : Word)
  | events (rs : List (Nat × Nat × Nat))
  | range (rs : List (Word × Word × Nat))
deriving DecidableEq, Repr, Inhabited

/-- A Modbus answer: registers, a write echoed, or an exception code. -/
inductive ModbusMsg where
  | none
  | regs (vs : List (BitVec 16))
  | written
  | exception (code : Nat)
deriving DecidableEq, Repr, Inhabited

/-- The CMB block and the session unit. -/
structure Cmb where
  points : Tab Point := []
  mirA : Tab SlotImage := []
  mirB : Tab SlotImage := []
  /-- Frame digest of the last image that wrote every slot of the mirror (R219); kept in MRAM. -/
  mirDigest : List Byte := []
  loaded : Bool := false
  lateA : Bool := false
  lateB : Bool := false
  accId : Nat := 0
  accWord : Nat := 0
  accPrio : Nat := 16
  accResult : Nat := 0
  accTenant : Nat := 0
  accData : Word := 0
  window : List Word := []
  denyCount : Nat := 0
  denyKind : Nat := 0
  denyTenant : Nat := 0
  denyId : Nat := 0
  lost : Nat := 0
  repaired : Nat := 0
  limit : Nat := 0
  level : Nat := 0
  forecast : Nat := 0
  /-- The meter at the start of the running interval, and that interval (R243). -/
  meter0 : Int := 0
  interval : Option Nat := none
  /-- Forecasts in a row, 1 s apart, of F above LIMIT, and of F below 0.95 × LIMIT (R244). -/
  above : Nat := 0
  below : Nat := 0
  alarms : List AlarmRec := []
  /-- Samples of INTERVAL 6 not yet sent (R234): point, VALUE, STATUS, TIME. -/
  trendQ : List (Nat × Word × Word × Nat) := []
  /-- The last COMB_ACCESS's result. -/
  answer : CombResult := .ok []
  modules : Tab TenantModule := []
  conns : Tab (Option ScConn) := []
  subs : Tab (Option CovSub) := []
  /-- What the session unit last sent, and the event notifications of the last drain; the Modbus answer last sent. -/
  bacOut : BacMsg := .none
  notified : List EventNote := []
  modbusOut : ModbusMsg := .none
  /-- Last slot change mirrored to the partner, and last write forwarded to the holder (R480). -/
  mirrorOut : Option (Nat × SlotImage) := none
  forwardOut : Option (CombWho × Nat × CombOp) := none
deriving DecidableEq, Repr, Inhabited

end Sys2Proof.Machine
end

