-- ==== Sys2Proof/Machine/State/Cyclic.lean ====
section
/-! DEFINITION. State of the cyclic schedulers, the handover and the force table (R185 to R212), with their reset values. -/
namespace Sys2Proof.Machine

/-- CYC_TASKt_STAT STATE. -/
inductive TaskState where
  | absent | waiting | running | preempted | pending | stopped
deriving DecidableEq, Repr, Inhabited

/-- A record for an error task (R197, R198). -/
structure ErrRec where
  cause : Nat
  task : Nat
  station : Nat
  time : Nat
deriving DecidableEq, Repr, Inhabited

/-- One task of the table as it runs. -/
structure Task where
  state : TaskState := .absent
  set : Bool := false
  ovrSeq : Nat := 0
  err : Nat := 0
  overruns : Nat := 0
  skipped : Nat := 0
  /-- Starts skipped since the last cycle started, and cycles started since start-up. -/
  skippedNow : Nat := 0
  cycles : Nat := 0
  /-- FLAGS of the next cycle: bits 0 cold, 1 warm, 2 handover, 3 halt, 5 shedding ended. -/
  flags : Nat := 0
  /-- Device time of the tick that made it pending. -/
  due : Nat := 0
  /-- Its INTERRUPT with SUB 1 has been taken, for the cycle on the stack. -/
  begun : Bool := false
  /-- Address of the first instruction of the cycle on the stack (R185, R232). -/
  entry : Word := 0
  /-- Stop after the running cycle. -/
  stopping : Bool := false
  /-- An overrun has fallen due in the cycle that is pending or runs; and one has been reported since a cycle last ended on time (R193). -/
  late : Bool := false
  noted : Bool := false
  /-- The 4 KiB blocks of its CE's persistent data that it has written since its last flush (R202). -/
  wrote : List Nat := []
  /-- Records that wait for this error task, and those lost. -/
  queue : List ErrRec := []
  lost : Nat := 0
deriving DecidableEq, Repr, Inhabited

/-- A force order of the standby (R480): what CYC_FORCE_CMD, TARGET, MASK and VALUE told, and the presence at the module that wrote it. -/
structure ForceOrder where
  cmd : Nat
  target : Word
  mask : Word
  value : Word
  tenant : Nat
  minutes : Nat
  presence : Bool
deriving DecidableEq, Repr, Inhabited

/-- A force (R209, R210), its minutes left counted from a device time. -/
structure Force where
  kind : Nat
  index : Nat
  mask : Word
  value : Word
  tenant : Nat
  expiry : Option Nat
deriving DecidableEq, Repr, Inhabited

/-- A code handover (R204): waiting for Th or switching, the CEs not yet switched, those whose data map runs, and whether it
reverts. -/
structure Handover where
  switching : Bool := false
  left : List Nat := []
  mapping : List Nat := []
  th : Nat := 0
  revert : Bool := false
deriving DecidableEq, Repr, Inhabited

/-- A CE's persistent region (R202): two copies with their sequence records, and the flush under way. -/
structure Persist where
  copy0 : List Byte := []
  copy1 : List Byte := []
  seq0 : Nat := 0
  seq1 : Nat := 0
  /-- The variables each copy holds (R201). -/
  vars0 : List PersistVar := []
  vars1 : List PersistVar := []
  flush : Option (List Byte × List PersistVar) := none
deriving DecidableEq, Repr, Inhabited

/-- The CYC block. -/
structure Cyc where
  tasks : Tab Task := []
  /-- The stack of each CE, the running task first (R188). -/
  ceStacks : Tab (List Nat) := []
  handover : Option Handover := none
  timeout : Nat := 20
  /-- The other set's contents and the CEs that have switched to them, while a handover runs. -/
  next : Option ImageContent := none
  switched : List Nat := []
  cmdTarget : Word := 0
  cmdMask : Word := 0
  cmdValue : Word := 0
  result : Nat := 0
  tenant : Nat := 0
  minutes : Nat := 0
  forces : List Force := []
  /-- The last force order that the standby sent to the holder (R480). -/
  forceOut : Option ForceOrder := none
  persist : Tab Persist := []
deriving DecidableEq, Repr, Inhabited

end Sys2Proof.Machine
end

