-- ==== Sys2Proof/Machine/State/Dispatch.lean ====
section
/-! DEFINITION. State of the DSP unit (R347 to R373), with its reset values. -/
namespace Sys2Proof.Machine

/-- States of a held call (R355); FREE is a call that is not in the table. -/
inductive CallState where
  | planning | assigned | boarded
deriving DecidableEq, Repr, Inhabited

/-- A held call: its record (R350), its state, car, deck and boarding landing, the device time of acceptance, its pick and drop slots,
whether LONG_WAIT has been told, and the REFs of merged calls that wait for its first result. -/
structure Call where
  w0 : Word
  w1 : Word
  state : CallState
  car : Option Nat
  deck : Nat
  board : Nat
  accepted : Nat
  pick : Option Nat
  drop : Option Nat
  told : Bool
  merged : List Nat
deriving DecidableEq, Repr, Inhabited

/-- A stop of a plan: its slot (none until it is given one), the LANDING of its entry, and the calls it picks up and drops. -/
structure Stop where
  slot : Option Nat
  landing : Nat
  picks : List Nat
  drops : List Nat
deriving DecidableEq, Repr, Inhabited

/-- A stop slot that is taken (R354): GEN, its car, whether its entry stands in the queue, whether it waits for removal, and whether a
refused removal keeps it as an empty stop. -/
structure StopSlot where
  gen : Nat
  car : Nat
  written : Bool
  dropping : Bool
  kept : Bool
deriving DecidableEq, Repr, Inhabited

/-- Why a call is inserted again (R361, R363). -/
inductive RedoMode where
  | again | behind (pos : Nat) | exclude
deriving DecidableEq, Repr, Inhabited

/-- A call to be inserted again, with the car it leaves. -/
structure Redo where
  token : Nat
  mode : RedoMode
  car : Nat
deriving DecidableEq, Repr, Inhabited

/-- One group of the DSP unit. -/
structure Grp where
  /-- The staged words of a REGISTER that waits to be decided, and the OP and token of the command held behind it, with its requester
  (R351, R548). -/
  calling : Option (Word × Word) := none
  heldOp : Option (Nat × Nat × Option Requester) := none
  ready : Bool := false
  rebuild : Bool := false
  result : Nat := 0
  token : Nat := 0
  stage0 : Word := 0
  stage1 : Word := 0
  avail : Nat := 65535
  weight0 : Word := 0x02010401
  weight1 : Word := 0x3C050A00
  dwell : Word := 0x500A6420
  eco : Word := 0
  late : Bool := false
  maxTime : Nat := 0
  lastTime : Nat := 0
  loads : Tab Nat := []
  resWr : Nat := 0
  ring : Tab (Word × Word) := []
  calls : Tab (Option Call) := []
  /-- Tokens waiting at the port, and calls to be inserted again. -/
  port : List Nat := []
  redo : List Redo := []
  /-- At the standby (R480): calls accepted and not yet ordered, and orders of the holder whose calls have not been accepted. -/
  unordered : List Nat := []
  orders : List (Word × Word) := []
  /-- Plans by car. -/
  plans : Tab (List Stop) := []
  slots : Tab (Option StopSlot) := []
  gen : Nat := 1
  /-- The queue operation under way at each car: operation and TAG. -/
  inflight : Tab (Option (Nat × Word)) := []
  /-- Where the sweep goes on. -/
  cursor : Nat := 0
  rightsTold : Bool := false
  tokensTold : Bool := false
  /-- Landing positions that the flight-time table was built from (R349). -/
  lands : Tab Int := []
deriving DecidableEq, Repr, Inhabited

/-- The DSP block. -/
structure Dsp where
  groups : Tab Grp := []
  /-- DSP_RIGHTSp_w under 8 × p + w where it was written; NV. -/
  rights : Tab (Option Word) := []
  /-- REACH_LO and REACH_HI by shaft (R368). -/
  shafts : Tab (Int × Int) := []
  regen : List Nat := []
  /-- TAGs released by hoist channels and not yet taken (R354). -/
  released : List Word := []
deriving DecidableEq, Repr, Inhabited

end Sys2Proof.Machine
end

