-- ==== Sys2Proof/Machine/State/Door.lean ====
section
/-! DEFINITION. State of the door channels (R316 to R346), with their reset values. -/
namespace Sys2Proof.Machine

/-- DOR_STATE STATE. -/
inductive DoorState where
  | off | rest | opening | closing | stopping | geared | tripped
deriving DecidableEq, Repr, Inhabited

/-- Phases of a move (R331). -/
inductive DoorPhase where
  | accel | cruise | decel | creep
deriving DecidableEq, Repr, Inhabited

/-- One phase of a plan: its acceleration in mm/s² (positive opening) and how long it lasts, in ns. -/
structure DoorPiece where
  phase : DoorPhase
  acc : Int
  dur : Nat
deriving DecidableEq, Repr, Inhabited

/-- A frame sent, as telemetry is judged against it: SEQ, the set-points, the amplitude, the address in the middle of its interval
in halves, VALID_AT, the mode, and whether a later move has begun. -/
structure SentFrame where
  seq : Nat
  pos : Int
  acc : Int
  amp : Nat
  mid2 : Nat
  validAt : Nat
  strong : Bool
  old : Bool := false
deriving DecidableEq, Repr, Inhabited

/-- A return frame of a bridge (R326), as it arrived. -/
structure DoorReturn where
  echo : Nat
  status : Nat
  ia : Int
  ib : Int
  pos : Int
  fault : Nat
deriving DecidableEq, Repr, Inhabited

/-- A gear table (R340): SHIFT and RATIO of its four segments. -/
structure GearTable where
  shifts : List Nat := [0, 0, 0, 0]
  ratios : List Int := [0, 0, 0, 0]
deriving DecidableEq, Repr, Inhabited

/-- The adaptive offsets of one mode, in mA × 2^20 (R327). -/
structure Offsets where
  a : Int := 0
  b : Int := 0
deriving DecidableEq, Repr, Inhabited

/-- One door channel. -/
structure Door where
  state : DoorState := .off
  strong : Bool := false
  nudge : Bool := false
  armed : Bool := false
  rev : Bool := false
  revCause : Nat := 0
  tripCause : Nat := 0
  refuse : Nat := 0
  lastOk : Bool := true
  revCount : Nat := 0
  /-- DOR_PROF, DOR_ACC and DOR_TARGET as written; none: the values of GEOMETRY. -/
  vopen : Option Nat := none
  vclose : Option Nat := none
  acc : Option Nat := none
  target : Option Int := none
  /-- Set-points: twice the position in 10^-18 mm, the speed in 10^-9 mm/s, positive opening, and the plan left. -/
  p2 : Int := 0
  v9 : Int := 0
  plan : List DoorPiece := []
  /-- The end of the running move in 10 µm, and whether it is the default opening (R343). -/
  moveEnd : Int := 0
  dflt : Bool := false
  dfltDone : Bool := false
  replan : Bool := false
  /-- OPEN received in CLOSING waits for the update (R337). -/
  openAsked : Bool := false
  seq : Nat := 0
  sent : List SentFrame := []
  /-- Address of the last frame. -/
  addr : Nat := 0
  /-- The frame waiting for its place in a station frame (R464): its words. -/
  frame : Option (List Word) := none
  /-- The words of the last frame built. -/
  words : List Word := []
  /-- The newest return frame, whether it has arrived since the update before, and the echo taken there. -/
  ret : Option DoorReturn := none
  arrived : Bool := false
  taken : Option Nat := none
  missed : Nat := 0
  /-- The last two measured positions: time and position of the newest, and the velocity between them in 10^-9 mm/s. -/
  meas : Option (Nat × Int) := none
  vmeas : Int := 0
  hotBridge : Bool := false
  force : Int := 0
  peak : Option Int := none
  forceRun : Nat := 0
  /-- A switch of mode is due and not yet sent (R329). -/
  switchDue : Bool := false
  quiet : Offsets := {}
  strongOff : Offsets := {}
  telem : Nat := 0
  stalls : Nat := 0
  reversals : Nat := 0
  /-- Gear tables: staging (none: the table of GEOMETRY), live, and one that waits for a shift point. -/
  staging : Option GearTable := none
  live : Option GearTable := none
  waiting : Option GearTable := none
  /-- Gearing: Q_E, the last count, the direction of counts towards the target, n, the engage position, the segment running, the
  count at which it began, and the travel before it in 10 µm × 2^16. -/
  qe : Int := 0
  lastCount : Int := 0
  gearDir : Int := 1
  n : Nat := 0
  pe : Int := 0
  seg : Nat := 0
  segFrom : Nat := 0
  segBase : Int := 0
  away : Bool := false
  /-- The hoist channel was in ARRIVE at the update before. -/
  hoistArrive : Bool := false
deriving DecidableEq, Repr, Inhabited

end Sys2Proof.Machine
end

