-- ==== Sys2Proof/Machine/State/Feedback.lean ====
section
/-! DEFINITION. State of the feedback units, the local absolute and quadrature interfaces and the compare units (R286 to
R315), with their reset values. -/
namespace Sys2Proof.Machine

/-- States of a position source (R304). -/
inductive SourceState where
  | good | suspect | lost
deriving DecidableEq, Repr, Inhabited

/-- An absolute sample: its raw value and position, the count latched with it, and the latch instant. -/
structure FbSample where
  raw : Int := 0
  pos : Int := 0
  count : Int := 0
  time : Nat := 0
deriving DecidableEq, Repr, Inhabited

/-- An edge of the door-zone signal as learning keeps it: raw value, count and direction of travel. -/
structure ZoneEdge where
  raw : Int
  count : Int
  up : Bool
deriving DecidableEq, Repr, Inhabited

/-- A learned sill: landing, raw value, count at the vane centre. -/
structure LearnedSill where
  landing : Nat
  raw : Int
  count : Int
deriving DecidableEq, Repr, Inhabited

/-- One car's feedback unit. -/
structure Fbk where
  absSt : SourceState := .good
  quadSt : SourceState := .good
  absCause : Nat := 0
  quadCause : Nat := 0
  fusedValid : Bool := false
  mode : Nat := 0
  degraded : Bool := false
  tripReq : Bool := false
  learn : Nat := 0
  result : Nat := 0
  age : Nat := 0
  pos : Int := 0
  speed : Int := 0
  /-- The newest good absolute sample; none before the first. -/
  newest : Option FbSample := none
  /-- Newest count, its time and the newest index latch of a station source. -/
  stnCount : Int := 0
  stnTime : Nat := 0
  stnIdx : Int := 0
  /-- Newest changes of a station source's count, newest first: (time, count). -/
  edges : List (Nat × Int) := []
  anchor : Option FbSample := none
  /-- CLEAR has been accepted and its new anchor is still to come (R308). -/
  hold : Bool := false
  /-- The samples at which the absolute word and the count last changed (R301). -/
  mAbs : Option FbSample := none
  mQuad : Option FbSample := none
  /-- Newest counted samples of R302 and good absolute samples of R296, newest first. -/
  counted : List FbSample := []
  goods : List FbSample := []
  plausRun : Nat := 0
  /-- Bad frames and bad periods in a row, and good ones in a row up to 1,000. -/
  badAbs : Nat := 0
  badQuad : Nat := 0
  goodAbs : Nat := 0
  goodQuad : Nat := 0
  /-- What the running sample period shows of a station source: 0, 1 ILLEGAL, 2 INDEX. -/
  periodBad : Nat := 0
  /-- A station source has sent a record in the running sample period; the quadrature source has reported for one sample period (R309). -/
  quadSeen : Bool := false
  reported : Bool := false
  plausErr : Nat := 0
  quadErr : Nat := 0
  absErr : Nat := 0
  /-- FBK_SCALE, FBK_DATUM and FBK_LANDk as learning wrote them; none: the values of GEOMETRY (NV). -/
  scale : Option Nat := none
  datum : Option Int := none
  lands : Option (Tab Int) := none
  /-- SCALE and DATUM as they act, from the last absolute sample on (R312). -/
  actScale : Nat := 0
  actDatum : Int := 0
  /-- Learning: the open rising edge and the sills found. -/
  zone : Option ZoneEdge := none
  sills : List LearnedSill := []
deriving DecidableEq, Repr, Inhabited

/-- One local absolute interface: the request under way (latch instant and count), and the last frame. -/
structure Ssi where
  latch : Option (Nat × Int) := none
  frame : Nat := 0
  /-- The last frame was bad. -/
  bad : Bool := false
deriving DecidableEq, Repr, Inhabited

/-- One local quadrature interface. -/
structure Qe where
  a : Bool := false
  b : Bool := false
  count : Word := 0
  idx : Word := 0
  /-- An index has been latched, and its device time. -/
  idxAt : Option Nat := none
  idxErr : Nat := 0
  illegal : Nat := 0
  /-- The count stands too far from the last latch (R293). -/
  far : Bool := false
  /-- What the running sample period shows: 0, 1 ILLEGAL, 2 INDEX. -/
  periodBad : Nat := 0
  /-- An error has been told since the last good period. -/
  told : Bool := false
  /-- Counted edges, newest first: (time, count), back to the latest at least 1 ms before the newest. -/
  edges : List (Nat × Int) := []
deriving DecidableEq, Repr, Inhabited

/-- One compare unit (R297). -/
structure Compare where
  en : Bool := false
  src : Nat := 0
  acq : Bool := false
  value : Word := 0
  spacing : Word := 0
  hits : Word := 0
  time : Nat := 0
deriving DecidableEq, Repr, Inhabited

/-- The FBK block. -/
structure FbkBlock where
  cars : Tab Fbk := []
  ssi : Tab Ssi := []
  qe : Tab Qe := []
  cmp : Tab Compare := []
deriving DecidableEq, Repr, Inhabited

/-- A raw record as a safety die last received it (R307): the value, the check result (0 good) and the latch time. -/
structure RawRecord where
  value : Int
  verdict : Nat
  latch : Nat
deriving DecidableEq, Repr, Inhabited

end Sys2Proof.Machine
end

