-- ==== Sys2Proof/Machine/Profile.lean ====
section
/-! DEFINITION. Flight profiles (R253 to R258, R270, R560): jerk-limited pieces in exact integer arithmetic. Time is in ns, speed
and acceleration in units of 10^-9 mm/s and mm/s²; along a piece the speed is kept doubled in 10^-18 mm/s and the distance
six-fold in 10^-27 mm, so that R253 has no rounding. Durations are cut to whole ns. -/
namespace Sys2Proof.Machine

/-- Limits of a flight: breakpoint speed, the two acceleration limits, and the jerk in mm/s³. -/
structure Limits where
  vb : Nat
  a1 : Nat
  a2 : Nat
  j : Nat
deriving DecidableEq, Repr

/-- A state of motion along the direction of travel. -/
structure Motion where
  s6 : Int := 0
  v2 : Int := 0
  a : Int := 0
deriving DecidableEq, Repr, Inhabited

/-- Pieces of a flight: the sign of the jerk and the duration. -/
abbrev Pieces := List (Int × Nat)

/-- One million in the units that join speeds with the exact ones. -/
def giga : Nat := 1000000000

/-- One position count of 10 µm in units of `s6`. -/
def count6 : Int := 60000000000000000000000000

/-- R253 over one piece. -/
def onePiece (m : Motion) (jerk : Int) (t : Nat) : Motion :=
  let t : Int := t
  { s6 := m.s6 + 3 * m.v2 * t + 3 * m.a * t * t + jerk * t * t * t
    v2 := m.v2 + 2 * m.a * t + jerk * t * t
    a := m.a + jerk * t }

/-- The state at the end of pieces. -/
def runPieces (j : Nat) : Pieces → Motion → Motion
  | [], m => m
  | (sg, t) :: ps, m => runPieces j ps (onePiece m (sg * (j : Int)) t)

/-- The state after `dt` ns along pieces, and the pieces left. -/
def advance (j : Nat) : Pieces → Nat → Motion → Motion × Pieces
  | [], _, m => (m, [])
  | (sg, t) :: ps, dt, m =>
    if dt < t then (onePiece m (sg * (j : Int)) dt, (sg, t - dt) :: ps)
    else advance j ps (dt - t) (onePiece m (sg * (j : Int)) t)

/-- How long pieces last. -/
def duration (ps : Pieces) : Nat := ps.foldl (fun n p => n + p.2) 0

/-- The speed that a ramp of acceleration from 0 to `a` gains. -/
def rampGain (j a : Nat) : Nat := a * a / (2 * j * giga)

/-- A change of speed by `need` under one acceleration limit, from acceleration `a0` (no more than the limit but for rounding) and back to
0: with a constant part, or with a peak below the limit (cases A, A′ and C of R254, and R560). -/
def oneLimit (j lim need a0 : Nat) : Pieces :=
  let a0 := Nat.min a0 lim
  let up := rampGain j lim - rampGain j a0
  if up + rampGain j lim ≤ need then
    [(1, (lim - a0) / j), (0, (need - up - rampGain j lim) * giga / lim), (-1, (lim - a0) / j + a0 / j)]
  else
    let p := Nat.max a0 (isqrt (j * need * giga + a0 * a0 / 2))
    [(1, (p - a0) / j), (-1, (p - a0) / j + a0 / j)]

/-- Pieces with the jerk turned round. -/
def mirrored (ps : Pieces) : Pieces := ps.map (fun p => (-p.1, p.2))

/-- An acceleration phase from speed `v` and acceleration `a0` to speed `vh` (R254, R560). Where `a0` can no longer fall to 0 by VBREAK, the
ramp starts so that the acceleration is A2 at VBREAK, from a peak at or above A2, or it never passes A2. -/
def phaseUp (l : Limits) (v a0 vh : Nat) : Pieces :=
  if vh ≤ v then [(-1, a0 / l.j)]
  else if vh ≤ l.vb then oneLimit l.j l.a1 (vh - v) a0
  else if l.vb ≤ v then oneLimit l.j l.a2 (vh - v) a0
  else
    let g1 := rampGain l.j l.a1
    let g2 := rampGain l.j l.a2
    let h1 : Int := (l.vb : Int) - v - (2 * g1 - g2 - rampGain l.j a0 : Int)
    let h2 : Int := (vh : Int) - l.vb - g2
    if 0 ≤ h1 ∧ 0 ≤ h2 then
      [(1, (l.a1 - a0) / l.j), (0, h1.toNat * giga / l.a1), (-1, (l.a1 - a0) / l.j + a0 / l.j - l.a2 / l.j),
        (0, h2.toNat * giga / l.a2), (-1, l.a2 / l.j)]
    else if v + rampGain l.j a0 ≤ l.vb then oneLimit l.j l.a1 (l.vb - v) a0 ++ oneLimit l.j l.a2 (vh - l.vb) 0
    else if h2 < 0 then oneLimit l.j l.a1 (vh - v) a0
    else
      let p2 := l.j * (l.vb - v) * giga + (l.a2 * l.a2 + a0 * a0) / 2
      if l.a2 * l.a2 ≤ p2 then
        let p := Nat.max (Nat.max a0 l.a2) (isqrt p2)
        [(1, (p - a0) / l.j), (-1, (p - a0) / l.j + a0 / l.j - l.a2 / l.j), (0, h2.toNat * giga / l.a2), (-1, l.a2 / l.j)]
      else oneLimit l.j l.a2 (vh - v) a0

/-- A deceleration phase from speed `v`, already slowing at `b`, to speed `vl` (R255, R560). Where `b` can no longer fall to 0 by VBREAK,
the deceleration is at most A2 down to VBREAK. -/
def phaseDown (l : Limits) (v b vl : Nat) : Pieces :=
  if v ≤ vl then [(1, b / l.j)]
  else if v ≤ l.vb then mirrored (oneLimit l.j l.a1 (v - vl) b)
  else if l.vb ≤ vl then mirrored (oneLimit l.j l.a2 (v - vl) b)
  else
    let g1 := rampGain l.j l.a1
    let g2 := rampGain l.j l.a2
    let h2 : Int := (v : Int) - l.vb - ((g2 : Int) - rampGain l.j b)
    let h1 : Int := (l.vb : Int) - vl - (2 * g1 - g2 : Int)
    if 0 ≤ h1 ∧ 0 ≤ h2 then
      [(-1, (l.a2 - b) / l.j), (0, h2.toNat * giga / l.a2), (-1, l.a1 / l.j - ((l.a2 - b) / l.j + b / l.j)),
        (0, h1.toNat * giga / l.a1), (1, l.a1 / l.j)]
    else if l.vb + rampGain l.j b ≤ v ∧ (b = 0 ∨ 0 ≤ h2) then
      mirrored (oneLimit l.j l.a2 (v - l.vb) b) ++ mirrored (oneLimit l.j l.a1 (l.vb - vl) 0)
    else if h2 < 0 then mirrored (oneLimit l.j l.a1 (v - vl) b)
    else if g2 ≤ l.vb - vl then
      [(-1, (l.a2 - b) / l.j), (0, h2.toNat * giga / l.a2)] ++ mirrored (oneLimit l.j l.a1 (l.vb - vl) l.a2)
    else mirrored (oneLimit l.j l.a2 (v - vl) b)

/-- A phase from speed `v` and acceleration `a` to speed `w` (R560). -/
def phase (l : Limits) (v : Nat) (a : Int) (w : Nat) : Pieces :=
  let b := a.natAbs
  if 0 ≤ a then
    let vz := v + rampGain l.j b
    if vz ≤ w then phaseUp l v b w else (-1, b / l.j) :: phaseDown l vz 0 w
  else
    let vz := v - rampGain l.j b
    if w ≤ vz then phaseDown l v b w else (1, b / l.j) :: phaseUp l vz 0 w

/-- The distance of pieces from a state, in units of `s6`. -/
def distance (l : Limits) (v : Nat) (a : Int) (ps : Pieces) : Int :=
  (runPieces l.j ps { s6 := 0, v2 := 2 * ((v * giga : Nat) : Int), a := a }).s6

/-- d_stop (R270): the distance of the fastest change from a state to speed `ve`. -/
def dStop (l : Limits) (v : Nat) (a : Int) (ve : Nat) : Int := distance l v a (phase l v a ve)

/-- The 12-step search of R256 for the highest speed whose distance is at most `d`. -/
def search (f : Nat → Int) (d : Int) : Nat → Nat → Nat → Nat
  | 0, lo, _ => lo
  | n + 1, lo, hi =>
    let mid := (lo + hi) / 2
    if f mid ≤ d then search f d n mid hi else search f d n lo mid

/-- Integer cube root by bits, for numbers below 2 ^ (3 * k). -/
def cbrtAux : Nat → Nat → Nat → Nat
  | 0, _, r => r
  | k + 1, n, r =>
    let t := r + 2 ^ k
    cbrtAux k n (if t * t * t ≤ n then t else r)

/-- The peak of the two-piece shape from rest to rest over `d` (R256): (d √J / 2)^(2/3). -/
def shortPeak (j : Nat) (d : Int) : Nat :=
  -- d in 6 × 10^-27 mm, so d² J / 4 in (10^-9 mm/s)³ is d² J / (144 × 10^27)
  cbrtAux 64 (d.toNat * d.toNat * j / (144 * 1000000000000000000000000000)) 0

/-- The time to cover `d` at speed `vp`; 0 at speed 0. -/
def cruiseTime (vp : Nat) (d : Int) : Nat := if vp = 0 then 0 else (d / (6 * vp * giga : Nat)).toNat

/-- Phases from a state to speed `vp` and on to speed `ve`, with what is left of `d` at speed `vp`. -/
def overPeak (l : Limits) (v : Nat) (a : Int) (vp ve : Nat) (d : Int) : Pieces :=
  let up := phase l v a vp
  let down := phase l vp 0 ve
  up ++ [(0, cruiseTime vp (d - distance l v a up - distance l vp 0 down))] ++ down

/-- One segment of a flight (R256): from speed `v` with acceleration 0, with a peak at most `cap`, to speed `ve` after distance `d`. -/
def segment (l : Limits) (v cap ve : Nat) (d : Int) : Pieces :=
  let f (vp : Nat) : Int := distance l v 0 (phase l v 0 vp) + distance l vp 0 (phase l vp 0 ve)
  if f cap ≤ d then overPeak l v 0 cap ve d
  else
    let vp := search f d 12 (Nat.max v ve) cap
    let vp := if vp = 0 ∧ 0 < d then shortPeak l.j d else vp
    overPeak l v 0 (if l.vb < vp ∧ vp < l.vb + rampGain l.j l.a2 then Nat.max l.vb (Nat.max v ve) else vp) ve d

/-- The state after time `t` along pieces from a state, at their end after that. -/
def stateAt (l : Limits) (v : Nat) (a : Int) (ps : Pieces) (t : Nat) : Motion :=
  (advance l.j ps t { s6 := 0, v2 := 2 * ((v * giga : Nat) : Int), a := a }).1

/-- Speed of a motion, rounded down to 10^-9 mm/s. -/
def speedOf (m : Motion) : Nat := (m.v2 / 2000000000).toNat

/-- The first `t` of pieces. -/
def takePieces : Nat → Pieces → Pieces
  | _, [] => []
  | t, p :: ps => if t ≤ p.2 then [(p.1, t)] else p :: takePieces (t - p.2) ps

/-- The speed at which an acceleration brought straight to 0 ends. -/
def levelSpeed (l : Limits) (v : Nat) (a : Int) : Nat :=
  if 0 ≤ a then v + rampGain l.j a.natAbs else v - rampGain l.j a.natAbs

/-- A segment joined from a running state (R271, R272): towards the cap as fast as the limits allow, and from the latest instant that still
fits as fast down to speed `ve`, which is the least time (R258). A peak past the window of R256 is tried first, and one in it is taken at
VBREAK. -/
def joinSegment (l : Limits) (v : Nat) (a : Int) (cap ve : Nat) (d : Int) : Pieces :=
  let drive := phase l v a cap
  let brake (m : Motion) : Pieces := phase l (speedOf m) m.a ve
  let f (t : Nat) : Int := let m := stateAt l v a drive t; m.s6 + distance l (speedOf m) m.a (brake m)
  if f (duration drive) ≤ d then overPeak l v a cap ve d
  else
    let past := l.vb + rampGain l.j l.a2
    let t0 := if levelSpeed l v a < past ∧ past < cap then
        search (fun t => let m := stateAt l v a drive t; (levelSpeed l (speedOf m) m.a : Int)) past 48 0 (duration drive) + 1 else 0
    let t := if f t0 ≤ d then search f d 48 t0 (duration drive) else search f d 48 0 t0
    let m := stateAt l v a drive t
    let top := levelSpeed l (speedOf m) m.a
    let window := decide (l.vb < top) && decide (top < l.vb + rampGain l.j l.a2)
    let low := Nat.min top (Nat.max l.vb (Nat.max ve (levelSpeed l v a)))
    let low := if distance l v a (overPeak l v a low ve 0) ≤ d then low else Nat.max l.vb ve
    if window && (decide (0 ≤ m.a) || decide (count6 < d - f t)) then overPeak l v a low ve d
    else if 0 ≤ m.a ∧ ve ≤ top then takePieces t drive ++ overPeak l (speedOf m) m.a top ve (d - m.s6)
    else takePieces t drive ++ brake m

/-- A segment as the queue gives it: its length, its cap, and the highest speed at its end. -/
structure Leg where
  d : Int
  cap : Nat
  vend : Nat
deriving DecidableEq, Repr

/-- The highest speed at which the rest of a flight can be entered (R269). -/
def entryLimit (l : Limits) : List Leg → Nat
  | [] => 0
  | [g] => search (fun v => distance l v 0 (phase l v 0 g.vend)) g.d 24 (Nat.min g.vend g.cap) g.cap
  | g :: h :: t =>
    let out := Nat.min g.vend (entryLimit l (h :: t))
    search (fun v => distance l v 0 (phase l v 0 out)) g.d 24 (Nat.min out g.cap) g.cap

/-- One leg to speed `out`, from a running state or from a joint: where even the fastest slowing is longer than the leg, it is cut at the
leg's end, which is passed at the speed that the slowing gives (R272). -/
def planLeg (l : Limits) (join : Bool) (v : Nat) (a : Int) (cap out : Nat) (d : Int) : Pieces :=
  let direct := phase l v a out
  if d < distance l v a direct then
    if levelSpeed l v a ≤ out then
      let w := search (fun w => distance l v a (phase l v a w)) d 48 (levelSpeed l v a) out
      takePieces (search (fun t => (stateAt l v a (phase l v a w) t).s6) d 48 0 (duration (phase l v a w))) (phase l v a w)
    else takePieces (search (fun t => (stateAt l v a direct t).s6) d 48 0 (duration direct)) direct
  else if join || decide (a ≠ 0) || decide (cap < v) then joinSegment l v a cap out d
  else segment l v cap out d

/-- The highest speed at the end of a leg, when the legs `t` follow (R269). -/
def legEnd (l : Limits) (g : Leg) (t : List Leg) : Nat := if t = [] then g.vend else Nat.min g.vend (entryLimit l t)

/-- Pieces pass every joint of `legs`, counted from `at6`, at no more than its speed. -/
def passes (l : Limits) (v : Nat) (a : Int) (ps : Pieces) : Int → List Leg → Bool
  | _, [] => true
  | at6, g :: t =>
    let m := stateAt l v a ps (search (fun x => (stateAt l v a ps x).s6) (at6 + g.d) 48 0 (duration ps))
    decide (speedOf m ≤ g.vend) && passes l v a ps (at6 + g.d) t

/-- The number of joints that a plan may leave out: those before the farthest leg of the same cap to which one segment leads that passes
every joint between at no more than its speed, among the first `k`. -/
def freeJoints (l : Limits) (join : Bool) (v : Nat) (a : Int) (legs : List Leg) : Nat → Nat
  | 0 => 0
  | k + 1 =>
    match legs[0]?, legs[k + 1]? with
    | some g, some h =>
      let head := legs.take (k + 1)
      let d := head.foldl (fun n x => n + x.d) h.d
      let ps := planLeg l join v a g.cap (legEnd l h (legs.drop (k + 2))) d
      if (h :: head).all (fun x => decide (x.cap = g.cap)) && passes l v a ps 0 head then k + 1
      else freeJoints l join v a legs k
    | _, _ => freeJoints l join v a legs k

/-- Legs with the first `k` joints left out. -/
def mergeLegs : Nat → List Leg → List Leg
  | k + 1, g :: h :: t => mergeLegs k ({ h with d := g.d + h.d } :: t)
  | _, legs => legs

/-- The end of a leg can be reached from a state at no more than a speed. -/
def reaches (l : Limits) (m : Motion) (out : Nat) (d : Int) : Bool :=
  decide (levelSpeed l (speedOf m) m.a ≤ out) || decide (dStop l (speedOf m) m.a out ≤ d)

/-- A flight planned segment by segment (R256, R269): each joint that binds is the end of a segment, passed at no more than its speed and
than the rest allows; the first segment may join a running state. A joint that the fastest slowing overruns (R272) is left out where easing
to its speed would overrun the next one too. -/
def planLegs (l : Limits) : Nat → Bool → Nat → Int → List Leg → Pieces
  | 0, _, _, _, _ => []
  | n + 1, join, v, a, legs =>
    match mergeLegs (freeJoints l join v a legs (legs.length - 1)) legs with
    | [] => []
    | [g] => planLeg l join v a g.cap g.vend g.d
    | g :: h :: t =>
      let ps := planLeg l join v a g.cap (legEnd l g (h :: t)) g.d
      let m := stateAt l v a ps (duration ps)
      let level := decide (m.a.natAbs ≤ 8 * l.j)
      if level || reaches l m (legEnd l h t) h.d then ps ++ planLegs l n (!level) (speedOf m) (if level then 0 else m.a) (h :: t)
      else planLegs l n true v a ({ h with d := g.d + h.d } :: t)

/-- A speed at which legs can be entered (R256, R269): from it each end is reached at no more than its speed. -/
def canEnter (l : Limits) (v : Nat) : List Leg → Bool
  | [] => true
  | g :: t =>
    let out := legEnd l g t
    decide (v ≤ out) || decide (distance l v 0 (phase l v 0 out) ≤ g.d)

/-- A flight from rest between two halts, with its start step (R256, R257): the start speed and the pieces. Where its first joint or its
stop cannot be met from the start speed, it is a short move from speed 0. -/
def planFromRest (l : Limits) (vstart : Nat) (legs : List Leg) : Nat × Pieces :=
  match legs with
  | [] => (0, [])
  | [g] =>
    let vs := Nat.min vstart g.cap
    let ve := Nat.min g.vend g.cap
    let vl := Nat.max vs ve
    let short := decide (g.d < distance l vs 0 (phase l vs 0 vl) + distance l vl 0 (phase l vl 0 ve))
    if g.d ≤ 0 then (0, [])
    else if short then (0, segment l 0 g.cap 0 g.d) else (vs, segment l vs g.cap ve g.d)
  | g :: t =>
    let vs := if canEnter l (Nat.min vstart g.cap) (g :: t) then Nat.min vstart g.cap else 0
    (vs, planLegs l (t.length + 1) false vs 0 (g :: t))

/-- A trapezoid of the deck adjuster (R278) at ADJ_V `v` and ADJ_A `a`, in mm/s and mm/s², from speed `w` towards an aim `d2` away, both
counted towards the aim and not past what can be halted: accelerations with durations in ns. Speeds are in 10^-9 mm/s, `d2` is the distance
doubled in 10^-18 mm. -/
def deckTrapezoid (d2 w v a : Nat) : List (Int × Nat) :=
  let u := isqrt ((a * d2 + w * w) / 2)
  let top := v * giga
  if u ≤ top then [((a : Int), (u - w) / a), (-(a : Int), u / a)]
  else
    let ramps := (2 * top * top - w * w) / a
    [((a : Int), (top - w) / a), (0, (d2 - ramps) / (2 * top)), (-(a : Int), top / a)]

/-- The adjuster's move over `gap2` from speed `w` (R278), both signed: it halts first where it moves away from the aim or cannot halt
before it. -/
def deckPieces (gap2 w : Int) (v a : Nat) : List (Int × Nat) :=
  if a = 0 ∨ v = 0 then []
  else
    let left := gap2 - (if 0 ≤ w then w * w else -(w * w)) / (a : Int)
    let turn (sg : Int) (ps : List (Int × Nat)) : List (Int × Nat) := ps.map (fun p => (sg * p.1, p.2))
    if left = 0 ∧ w = 0 then []
    else
      let sg : Int := if left < 0 then -1 else 1
      if 0 ≤ sg * w then turn sg (deckTrapezoid gap2.natAbs w.natAbs v a)
      else ((sg * (a : Int)), w.natAbs / a) :: turn sg (deckTrapezoid left.natAbs 0 v a)

/-- The adjuster after `dt` ns: position doubled in 10^-18 mm, speed in 10^-9 mm/s, and the pieces left. -/
def deckAdvance : List (Int × Nat) → Nat → Int × Int → (Int × Int) × List (Int × Nat)
  | [], _, m => (m, [])
  | (a, t) :: ps, dt, (p, v) =>
    let k : Int := (Nat.min dt t : Nat)
    let m := (p + 2 * v * k + a * k * k, v + a * k)
    if dt < t then (m, (a, t - dt) :: ps) else deckAdvance ps (dt - t) m

end Sys2Proof.Machine
end

