-- ==== Sys2Proof/Machine/State/Hoist.lean ====
section
/-! DEFINITION. State of the hoist channels (R247 to R283), with their reset values. -/
namespace Sys2Proof.Machine

/-- HST_STATE STATE. -/
inductive HoistState where
  | off | rest | start | flight | stopping | held | arrive | tripped
deriving DecidableEq, Repr, Inhabited

/-- A stop-queue entry: its four words (R267). -/
structure QEntry where
  w0 : Word := 0
  w1 : Word := 0
  w2 : Word := 0
  w3 : Word := 0
deriving DecidableEq, Repr, Inhabited

/-- A queue operation: OP, INDEX and the staged entry as it stood. -/
structure QueueOp where
  op : Nat
  index : Nat
  entry : QEntry
deriving DecidableEq, Repr, Inhabited

/-- One hoist channel. -/
structure Hoist where
  state : HoistState := .off
  parked : Bool := false
  sourceLost : Bool := false
  fbStop : Bool := false
  limStop : Bool := false
  levelErr : Bool := false
  follow : Bool := false
  deckWait : Bool := false
  refuse : Nat := 0
  /-- The last command or operation was done (event source 1025 + 4c marks the first refusal after one). -/
  lastOk : Bool := true
  /-- The landing of the flight, and the target and landing of the last arrival (HST_TARGET). -/
  landing : Nat := 0
  lastTarget : Int := 0
  lastLanding : Nat := 0
  queue : List QEntry := []
  stage : QEntry := {}
  qIndex : Nat := 0
  qResult : Nat := 0
  /-- The operation that waits for the next frame, and the command held behind it (R268, R548). -/
  qPending : Option QueueOp := none
  qHeld : Option (Nat × Nat × Requester) := none
  posSet : Int := 0
  velSet : Int := 0
  accSet : Int := 0
  target : Int := 0
  kept : Int := 0
  vlimUp : Int := 0
  vlimDn : Int := 0
  sepLim : Int := 0
  vcap : Nat := 0
  seq : Nat := 0
  runRequest : Bool := false
  /-- The flight: its direction and origin, its motion from there, its pieces, and whether its first frame is still to come. -/
  dir : Int := 1
  origin : Int := 0
  motion : Motion := {}
  pieces : Pieces := []
  fresh : Bool := false
  arriving : Bool := false
  /-- A flight with no queue entry: RELEVEL or rescue. -/
  noEntry : Bool := false
  rescueFlight : Bool := false
  /-- STOP and RESUME wait for the next frame; a cap has changed. -/
  stopAsked : Bool := false
  resumeAsked : Bool := false
  replan : Bool := false
  /-- VALID_AT of the last frame; position set-points and committed stops of the last frames, newest first (R265, R276); and ticks in a row
  over FOLLOW_LIM. -/
  validAt : Nat := 0
  history : List (Int × Int) := []
  followRun : Nat := 0
  fbSeen : Bool := false
  settled : Bool := false
  /-- The adjuster: its base in 10 µm, from there its position doubled in 10^-18 mm and its speed, its aim, its pieces, and the drive's
  report that the deck is within 1 mm (R278, R279). -/
  deckPos : Int × Int := (0, 0)
  deckBase : Int := 0
  deckTarget : Int := 0
  deckPieces : List (Int × Nat) := []
  deckOk : Bool := false
  /-- The newest return frame (R263). -/
  seqEcho : Nat := 0
  drvStatus : Nat := 0
  drvFault : Nat := 0
  /-- The last drive frame's eight words (R260). -/
  frame : List Word := []
deriving DecidableEq, Repr, Inhabited

end Sys2Proof.Machine
end

