-- ==== Sys2Proof/Syntax/Pair.lean ====
section
/-! DEFINITION. What a resynchronisation copies from the holder to the standby (R482). -/
namespace Sys2Proof

/-- The holder's comb slots and priority arrays, DSP state, data SRAM of its live and held CEs, hoist, door and feedback channels, and force
table (R482). -/
structure PairCopy where
  slots : List (Nat × Machine.SlotImage)
  dsp : Machine.Dsp
  srams : List (Nat × Tab Byte)
  hoists : Tab Machine.Hoist
  doors : Tab Machine.Door
  feedback : Machine.FbkBlock
  forces : List Machine.Force
deriving DecidableEq, Repr

end Sys2Proof
end

