-- ==== Sys2Proof/Syntax.lean ====
section
/-! DEFINITION. The commands of the SH-8128: one constructor for each step of the spec's table, with what the step takes
from outside (a register value, a frame, a measured time, the number of a unit). -/
namespace Sys2Proof

/-- A step of the part, whole and indivisible. Each constructor's docstring gives the spec's summary and rule. -/
inductive Instr where
  /-- A write to a control-space register that has no behaviour of its own is applied whole in order of arrival at its block (R547). -/
  | registerWrite (req : Requester) (addr : Word) (size : AccessSize) (value : Word)
  /-- A Keeper access to a block whose die is unpowered or in reset is abandoned after 1 ms (R546). -/
  | keeperAccessTimeout (n : Fin 8)
  /-- A die fails, is powered or is released, and the module falls to the service set its running dies support (R31). -/
  | dieStateChange (changes : List (Die × DieState))
  /-- VKEEP_08 or VKEEP_33 rises through its power-on level and resets the keeper, compute, I/O and memory islands (R67). -/
  | powerOnReset
  /-- A watched supply falls below its reset level and resets the compute, I/O and memory islands, and the field die for VIO33 (R67). -/
  | supplyReset (dip : SupplyDip)
  /-- RESET_N held low long enough causes a pin reset (R69). -/
  | pinReset (lowNs : Nat)
  /-- A Keeper core fails to serve its watchdog for 50 ms and a watchdog reset follows (R67). -/
  | keeperWatchdogReset (core : Fin 4)
  /-- A write to RST_ISLAND_REQ sends an idle request to the chosen islands before their reset (R71). -/
  | islandResetRequest (mask : BitVec 4)
  /-- A write to RST_BLOCK_REQ sends an idle request to the CAN, UART, ACQ or STO block before its reset (R71). -/
  | blockResetRequest (mask : BitVec 4)
  /-- A unit that has finished its transfers in flight answers idle and the controller asserts reset (R71). -/
  | unitIdleAnswer (u : ResetUnit)
  /-- A unit does not answer idle within its timeout, so reset is asserted anyway and its transfers are abandoned (R72). -/
  | idleTimeout (u : ResetUnit)
  /-- The reset stretch ends and the islands leave reset, clocked domains on their clocks and the truss as a wavefront (R75). -/
  | resetRelease (scope : ResetScope)
  /-- A start-up phase completes and the next phase begins, up to READY in phase 9 (R78). -/
  | startupPhaseComplete (pairSel : Bool) (unreadA unreadB : List Nat)
  /-- Phase 2 has waited for the supplies longer than 500 ms and raises an event (R78). -/
  | supplyPhaseWait
  /-- PFW_N low or a supply below warning during start-up stops start-up and holds the islands in reset (R90). -/
  | startupSupplyInterrupt
  /-- After 10 ms of good supplies a stopped start-up resumes at phase 3 (R90). -/
  | startupResume
  /-- Every 200 µs the Keeper reads the slowest speed monitor and raises, lowers or holds VCORE over PMBus (R63). -/
  | vcoreLoopStep
  /-- Three failed PMBus transactions or a STATUS_WORD fault set PMB_FAULT and stop the VCORE loop (R66). -/
  | pmbusFault
  /-- Writing 1 to PMB_FAULT clears it and restarts the VCORE loop (R66). -/
  | pmbFaultClear
  /-- The slowest monitor reads below 1.90 G hs/s for 1 ms and the module gives up the holder duty and its share of sending (R65). -/
  | speedFloorLost
  /-- The monitors read at or above 2.00 G hs/s for 10 s and the module may take its duties back (R65). -/
  | speedFloorRegained
  /-- PFW_N low for 2 µs or a supply below its warning level starts brace and the first pass of the save (R82). -/
  | braceBegin (cause : BraceCause)
  /-- The first pass of the save completes and the second pass re-copies changed live blocks (R85). -/
  | saveFirstPassComplete
  /-- Supplies and PFW_N good for 100 µs before commit end brace and resume held CEs (R86). -/
  | braceRecovery
  /-- 2,000 µs after brace began every CE halts, READY falls and the save copies its outstanding blocks (R87). -/
  | braceCommit
  /-- The save writes its closing record and the islands are parked in reset (R87). -/
  | saveComplete (us : BitVec 16)
  /-- Supplies good for 10 ms after a commit restart the module from phase 3 with a warm start (R88). -/
  | braceRestart
  /-- A speed monitor reports the rate of its CE every 10 µs (R94). -/
  | speedMonitorReading (n : Fin 128) (rate : BitVec 16)
  /-- A router receives a flit pair, checks both CRCs and the sequence bit, and passes it on or requests a retry (R105). -/
  | flitPairReceive (link : Fin 1024) (vc : Fin 4) (pair noise : FlitPair)
  /-- A sender resends a flit pair from its replay buffer on a retry request (R106). -/
  | linkRetry (link : LinkChannel)
  /-- Every 1 ms the Keeper audits the five conservation books and sets OPEN or FAULT (R110). -/
  | bookAudit (beyond : BitVec 5) (link : Fin 1024)
  /-- A faulted credit book makes the two routers resynchronise the link once its buffers are empty (R110). -/
  | linkResync (link : Fin 1024)
  /-- Every 1 ms the Keeper reads the 32 thermal sensors and updates the pending thermal state and dwell (R112). -/
  | thermalSample (temps : List Int)
  /-- The dwell ends and the thermal state changes, with its VCORE, shedding or parking actions (R112). -/
  | thermalStateChange
  /-- Writing CLEAR in TRS_LINK_ERR sets FAILED and RETRIES to 0 (R10). -/
  | trsLinkErrClear
  /-- Three wrong seal-loop samples in a row latch TAMPER, count a break, log it and end presence (R126). -/
  | sealBreak
  /-- 1,024 right seal-loop samples in a row make the loop intact again (R124). -/
  | sealLoopRestored
  /-- PRESENCE_N low for 100 ms with an intact loop makes presence hold (R127). -/
  | presenceBegin
  /-- PRESENCE_N going high or a seal break ends presence, and a VERIFIED_STRUCT set falls back to STAGED (R127). -/
  | presenceEnd
  /-- Writing 1 to TAMPER clears it while presence holds and writes a log entry (R128). -/
  | tamperClear (src : LogSource)
  /-- STAGE_BEGIN discards the inactive bank set and puts it in STAGING (R131). -/
  | frmStageBegin
  /-- LENGTH bytes have been written into the staging set, which becomes STAGED (R131). -/
  | stagingComplete
  /-- VERIFY checks the staged image and classifies it as code, firmware or structural (R130). -/
  | frmVerify (src : LogSource)
  /-- ACTIVATE starts a code handover or flips ACTIVE_SET and sets PENDING for a structural or firmware image (R131). -/
  | frmActivate (src : LogSource)
  /-- REVERT flips ACTIVE_SET back to the PREVIOUS set (R131). -/
  | frmRevert (src : LogSource)
  /-- ABORT empties the staged or verified inactive set (R131). -/
  | frmAbort (src : LogSource)
  /-- BENCH_ARM with presence sets BENCH_ARMED for the next start-up (R137). -/
  | benchArm (src : LogSource)
  /-- BENCH_DISARM clears BENCH_ARMED (R137). -/
  | benchDisarm
  /-- A KEY request enrols an installation public key under presence and, when keys exist, a signed request (R123). -/
  | keyEnrol (src : LogSource) (slot : Fin 2) (key : List Byte) (signature : List Byte)
  /-- A signed KEY request with presence removes an installation key unless it is the only one (R123). -/
  | keyRemove (src : LogSource) (slot : Fin 2) (signature : List Byte)
  /-- A CE executes an integer, logic, shift, compare or predicate instruction (R145). -/
  | integerInstruction (n : Fin 128) (gd : Guard) (ins : IntInstr)
  /-- A CE executes an IEEE binary32 instruction (R145). -/
  | floatInstruction (n : Fin 128) (gd : Guard) (ins : FloatInstr)
  /-- A CE executes a lane-wise vector instruction under its guard predicate (R152). -/
  | vectorInstruction (n : Fin 128) (gd : Guard) (ins : VecInstr)
  /-- A CE loads from data SRAM, MRAM or control space under its mode's rights (R146). -/
  | loadInstruction (n : Fin 128) (gd : Guard) (kind : LoadKind) (rd ra : Fin 32) (imm : BitVec 12) (ecc : List Ecc)
  /-- A CE stores to data SRAM, MRAM or control space; stores to banks 0–7 are refused with STORE_PS (R180). -/
  | storeInstruction (n : Fin 128) (gd : Guard) (kind : StoreKind) (rs ra : Fin 32) (imm : BitVec 12)
  /-- GATH loads one word from each of 16 point slots in ascending lane order (R162). -/
  | gath (n : Fin 128) (f : FmtM) (upTo : Fin 17) (hurt : Option (Fin 16))
  /-- SCAT stores one word to each of 16 point slots, each after the one before is acknowledged (R162). -/
  | scat (n : Fin 128) (f : FmtM) (upTo : Fin 17) (hurt : Option (Fin 16))
  /-- LDP loads one word of one point slot (R161). -/
  | ldp (n : Fin 128) (f : FmtI) (ecc : Ecc)
  /-- STP stores one word of one point slot (R161). -/
  | stp (n : Fin 128) (f : FmtI) (ecc : Ecc)
  /-- B branches with one delay slot (R156). -/
  | branch (n : Fin 128) (f : FmtJ)
  /-- BL branches with one delay slot and writes the link in g31 (R154). -/
  | branchLink (n : Fin 128) (f : FmtJ)
  /-- JR jumps to a register target with one delay slot and an optional link (R154). -/
  | jumpReg (n : Fin 128) (f : FmtR)
  /-- LOOP starts a hardware loop unit with its start, end and count (R158). -/
  | loop (n : Fin 128) (f : FmtL)
  /-- LCLR sets the count of a loop unit to 0 (R154). -/
  | lclr (n : Fin 128) (f : FmtR)
  /-- MFS reads a special register into a scalar register (R154). -/
  | mfs (n : Fin 128) (gd : Guard) (rd sr : Fin 32)
  /-- MTS writes a special register in runtime mode (R154). -/
  | mts (n : Fin 128) (gd : Guard) (ra sr : Fin 32)
  /-- SYS raises SYSCALL with its code (R154). -/
  | sys (n : Fin 128) (f : FmtI)
  /-- XRET returns from an exception, restoring mode, delay slot, shadow and element state (R172). -/
  | xret (n : Fin 128) (f : FmtR)
  /-- SETM loads a new mode that takes effect after a shadow of two instructions (R150). -/
  | setm (n : Fin 128) (f : FmtR)
  /-- BRK raises BREAK (R154). -/
  | brk (n : Fin 128) (f : FmtR)
  /-- WAIT ends the task cycle, the scheduler copies the outputs and resumes or starts the next task or idles the CE (R188). -/
  | wait (n : Fin 128) (f : WaitForm)
  /-- A CE's MRAM, control-space or comb access not complete within 5,000 hs raises TRUSS or a POINT element fault (R167). -/
  | trussAccessTimeout (n : Fin 128) (acc : LateAccess)
  /-- A cache line fill completes, or a parity error refetches the line (R177). -/
  | icacheFill (n : Fin 128) (addr : Word) (parity : Bool)
  /-- A pending scheduler or event interrupt is taken at the next allowed point of the CE (R175). -/
  | interruptTaken (n : Fin 128)
  /-- A halt request is taken at the next allowed point and the CE enters HALT with its source recorded (R183). -/
  | ceHalt (n : Fin 128)
  /-- Writing HALT in CE_CTRL sets the debug halt source (R183). -/
  | ceCtrlHalt (n : Fin 128)
  /-- Writing RESUME in CE_CTRL withdraws the debug halt source (R183). -/
  | ceCtrlResume (n : Fin 128)
  /-- Writing RESTART in CE_CTRL resets the registers of a halted or faulted CE and makes it IDLE (R183). -/
  | ceCtrlRestart (n : Fin 128)
  /-- At each 250 µs tick the schedulers mark due tasks, start or pre-empt them and count overruns and skips (R188). -/
  | schedulerTick
  /-- CYC_TASK_CMD 1 starts a STOPPED task at its next tick (R194). -/
  | taskStartCmd (t : Fin 256)
  /-- CYC_TASK_CMD 2 stops a task after its running cycle (R185). -/
  | taskStopCmd (t : Fin 256)
  /-- A flush of changed persistent blocks to the older copy completes and its sequence record is written (R202). -/
  | persistentFlushComplete (n : Fin 128)
  /-- At Th every idle, halted or faulted CE with tasks switches to the new code (R204). -/
  | handoverSwitchTick
  /-- A CE not switched within its handover timeout is switched by force and its cycles abandoned (R204). -/
  | handoverTimeout (n : Fin 128)
  /-- The data map of a switched CE completes; after the last CE, ACTIVE_SET flips (R205). -/
  | dataMapComplete (r : DataMapRun)
  /-- CYC_FORCE_CMD 1 checks and stores or replaces a force (R210). -/
  | forceSet (tenant : Fin 1024) (minutes : BitVec 11)
  /-- CYC_FORCE_CMD 2 clears the force on a target (R210). -/
  | forceClear (tenant : Fin 1024) (minutes : BitVec 11)
  /-- CYC_FORCE_CMD 3 clears every force (R210). -/
  | forceClearAll (tenant : Fin 1024) (minutes : BitVec 11)
  /-- A force with a timeout is removed when its minutes have passed (R210). -/
  | forceExpiry (kind : Fin 16) (index : BitVec 28)
  /-- An element reaches its home slice, passes the tenancy guard checks and is applied (R225). -/
  | combAccess (w : CombWho) (id : Word) (op : CombOp) (ecc : Ecc)
  /-- A changed slot is written behind to mirror copy A within 10 ms (R217). -/
  | mirrorWriteA (id : Fin 262144)
  /-- Copy A acknowledges a slot write and the slot is then written to copy B (R217). -/
  | mirrorAckA (id : Fin 262144)
  /-- A mirror write not acknowledged within 10 ms outside brace raises event source 99 (R246). -/
  | mirrorWriteTimeout (copyB : Bool) (id : Fin 262144)
  /-- After a double-bit error the slice reloads the slot from the mirror or marks it lost (R218). -/
  | slotReload (id : Fin 262144) (okA okB : Bool)
  /-- CMB_ACC_CTRL CMD 1 reads one word of a point under the Keeper's tenant (R224). -/
  | keeperReadWord (word : Fin 16) (prio : Fin 32) (tenant : Fin 1024)
  /-- CMB_ACC_CTRL CMD 2 writes one word of a point under the Keeper's tenant and priority (R224). -/
  | keeperWriteWord (word : Fin 16) (prio : Fin 32) (tenant : Fin 1024)
  /-- CMB_ACC_CTRL CMD 3 relinquishes a priority of a point (R221). -/
  | keeperRelinquish (word : Fin 16) (prio : Fin 32) (tenant : Fin 1024)
  /-- CMB_ACC_CTRL CMD 4 reads a whole slot into the window (R220). -/
  | keeperReadSlot (word : Fin 16) (prio : Fin 32) (tenant : Fin 1024)
  /-- Every 100 ms the slice scans slots with alarm enables and moves EVENT_STATE when delays expire (R233). -/
  | alarmScan
  /-- A slot is sampled at each multiple of its trend interval, or at each change of SEQ (R234). -/
  | trendSample (id : Fin 262144)
  /-- The Keeper writes a tenant module into the idle half and checks it (R232). -/
  | tenantModuleLoad (t : Fin 1024) (bytes : List Byte)
  /-- A tenant's tasks switch to the new module at a tick at which none of them runs (R232). -/
  | tenantModuleSwitch (t : Fin 1024)
  /-- After 200 ms without a free tick the tenant's cycles are abandoned and the tasks switch (R232). -/
  | tenantSwitchTimeout (t : Fin 1024)
  /-- Every 1 s the energy unit computes the forecast mean demand F (R243). -/
  | energyForecast
  /-- F above or below its limit for the dwell changes LEVEL and the shed points (R244). -/
  | levelChange
  /-- A BACnet/SC TLS connection is bound to a tenant or closed (R237). -/
  | bacnetScConnect (tenant : Fin 1024) (hub : Bool) (chain : List (List Byte)) (fingerprint : List Byte)
  /-- The session unit answers Who-Is with I-Am of the virtual devices (R239). -/
  | whoIs (q : BacRequest) (low high : Nat)
  /-- The session unit answers Who-Has with I-Have (R239). -/
  | whoHas (q : BacRequest) (what : ObjRef)
  /-- ReadProperty reads a property of a visible point object through the guard (R236). -/
  | readProperty (q : BacRequest) (o : BacObject) (prop : BacProp)
  /-- ReadPropertyMultiple reads several properties through the guard (R239). -/
  | readPropertyMultiple (q : BacRequest) (items : List (BacObject × BacProp))
  /-- WriteProperty writes Present_Value or a writable property through the guard (R236). -/
  | writeProperty (q : BacRequest) (o : BacObject) (prop : BacProp) (value : Option Word) (prio : Fin 17)
  /-- WritePropertyMultiple writes several properties through the guard (R239). -/
  | writePropertyMultiple (q : BacRequest) (items : List (BacObject × BacProp × Option Word × Fin 17))
  /-- SubscribeCOV creates a subscription within the limits (R239). -/
  | subscribeCov (q : BacRequest) (o : BacObject) (confirmed cancel : Bool)
  /-- A COV notification is sent when VALUE moves by COV_INCR or STATUS changes, at least 100 ms apart (R239). -/
  | covNotification (k : Fin 65536)
  /-- GetEventInformation reports the alarm states of visible points (R239). -/
  | getEventInformation (q : BacRequest)
  /-- AcknowledgeAlarm sets the ACK bit of a transition (R239). -/
  | acknowledgeAlarm (q : BacRequest) (o : BacObject) (kind : AlarmKind)
  /-- ReadRange reads a Trend Log from the TREND ring (R239). -/
  | readRange (q : BacRequest) (id first count : Nat)
  /-- A Modbus TCP request is checked by the guard against the bound tenant and answered (R242). -/
  | modbusTcpRequest (conn : Fin 64) (bind first count : Nat) (values : Option (List (BitVec 16)))
  /-- A polled RTU value is written to its slot as source KIND 2 (R242). -/
  | modbusRtuResponse (no : Fin 2048) (values : List Word)
  /-- At each tick a hoist channel applies pending operations, moves its state and computes one drive frame (R259). -/
  | hoistFrameCompute (c : Fin 64)
  /-- START takes a resting car to START with a run request, or is refused (R264). -/
  | hstStart (c : Fin 64)
  /-- STOP ends a flight at the limits and keeps the remaining distance (R273). -/
  | hstStop (c : Fin 64)
  /-- RESUME restarts a held car or extends a stopping flight (R274). -/
  | hstResume (c : Fin 64)
  /-- CANCEL drops the kept distance and first STOP entry of a held car (R274). -/
  | hstCancel (c : Fin 64)
  /-- RESET leaves TRIPPED when both permits are present and the car is still (R264). -/
  | hstReset (c : Fin 64)
  /-- RELEVEL starts a short move to the target from REST (R264). -/
  | hstRelevel (c : Fin 64)
  /-- HST_QOP 1 inserts the staged entry, decided at the next frame computation (R268). -/
  | queueInsert (req : Requester) (c : Fin 64) (index : Fin 16)
  /-- HST_QOP 2 replaces an entry, decided at the next frame computation (R268). -/
  | queueReplace (req : Requester) (c : Fin 64) (index : Fin 16)
  /-- HST_QOP 3 removes an entry, decided at the next frame computation (R268). -/
  | queueRemove (req : Requester) (c : Fin 64) (index : Fin 16)
  /-- HST_QOP 4 clears every entry except the committed one (R268). -/
  | queueClear (req : Requester) (c : Fin 64) (index : Fin 16)
  /-- A write of VCAP caps the car speed as a dovetail (R272). -/
  | vcapWrite (c : Fin 64) (v : BitVec 16)
  /-- A write of a virtual limit narrows or is refused, and may stop a flight with LIM_STOP (R275). -/
  | vlimWrite (c : Fin 64) (up : Bool) (v : Word)
  /-- A drive return frame arrives with its status (R263). -/
  | driveReturnFrame (c : Fin 64) (echo status fault : BitVec 16) (deckOk : Bool)
  /-- 3,000 ms in START without drive and brakes ready returns the channel to REST with REFUSE 8 (R264). -/
  | startTimeout (c : Fin 64)
  /-- SETTLE elapses after arrival and the channel removes the entry, releases its TAG and rests (R266). -/
  | settleExpiry (c : Fin 64)
  /-- The deck is not in place after twice its planned move time and raises an event (R279). -/
  | deckLate (c : Fin 64)
  /-- A new rise of UP or DOWN published by the safety dies starts a rescue flight to the next landing, or is refused (R282). -/
  | rescueCommand (c : Fin 64) (up : Bool)
  /-- At each PERIOD a local absolute interface latches device time and starts a frame (R288). -/
  | ssiRequest (n : Fin 16) (ready : Bool)
  /-- An absolute frame ends, is checked and decoded, and its raw record goes to both safety dies (R290). -/
  | ssiFrameComplete (n : Fin 16) (frame : BitVec 40)
  /-- A station feedback record of a car source arrives and is checked (R287). -/
  | feedbackRecord (station : Fin 2048) (r : FeedbackRec) (second : Option FeedbackRec)
  /-- A valid quadrature transition counts and is stamped, or an illegal one is counted (R292). -/
  | quadEdge (n : Fin 16) (a b : Bool)
  /-- The index edge latches the count and checks it against CPR (R293). -/
  | indexEdge (n : Fin 16) (rise : Bool)
  /-- At each tick the feedback unit computes the fused position and speed (R298). -/
  | fusionTick (c : Fin 64)
  /-- CLEAR returns both sources to GOOD when the car is still and the samples were good (R308). -/
  | fbkClear (c : Fin 64)
  /-- LEARN_BEGIN starts shaft learning with presence (R310). -/
  | learnBegin (c : Fin 64)
  /-- LEARN_END checks the learned sills and writes DATUM, SCALE and landings or fails (R312). -/
  | learnEnd (c : Fin 64)
  /-- LEARN_ABORT ends learning with nothing written (R312). -/
  | learnAbort (c : Fin 64)
  /-- During learning an edge of the door-zone signal latches the raw absolute value (R311). -/
  | doorZoneEdge (c : Fin 64) (rise : Bool)
  /-- Every 50 µs a door channel moves its state, checks obstruction and computes one door frame (R322). -/
  | doorUpdate (d : Fin 128)
  /-- OPEN starts an open move from REST or reverses a closing door (R334). -/
  | doorOpen (d : Fin 128)
  /-- CLOSE starts a close move from REST (R334). -/
  | doorClose (d : Fin 128)
  /-- NUDGE starts a close at EK_NUDGE with the reopen input ignored (R338). -/
  | doorNudge (d : Fin 128)
  /-- STOP decelerates a moving or geared door to rest (R334). -/
  | doorStop (d : Fin 128)
  /-- RESET leaves TRIPPED when the permits and bridge are good (R334). -/
  | doorReset (d : Fin 128)
  /-- ARM_ADO arms advanced opening (R339). -/
  | armAdo (d : Fin 128)
  /-- DISARM_ADO clears ARMED (R334). -/
  | disarmAdo (d : Fin 128)
  /-- A write of VOPEN, VCLOSE, ACC or DOR_TARGET changes the running or next move (R333). -/
  | doorProfileWrite (d : Fin 128) (reg : DoorReg) (v : Word)
  /-- COMMIT checks the staging gear table and makes it live now or at the next shift point (R341). -/
  | gearCommit (d : Fin 128)
  /-- A door bridge return frame arrives with currents and position (R326). -/
  | doorReturnFrame (d : Fin 128) (echo status ia ib fault : BitVec 16) (pos : Word)
  /-- A quiet/strong switch waiting 100 ms for a current zero is sent at once (R329). -/
  | modeSwitchTimeout (d : Fin 128)
  /-- DSP_CALL_OP 1 checks a call record and takes or shares a call token (R351). -/
  | callRegister (g : Fin 8)
  /-- DSP_CALL_OP 2 cancels a held call and removes its stops (R355). -/
  | callCancel (g : Fin 8) (token : Fin 256)
  /-- The planners evaluate every candidate for one call and write the cheapest plan (R358). -/
  | insertionStep (g : Fin 8)
  /-- One reassignment sweep slice re-evaluates one assigned hall call (R362). -/
  | sweepSlice (g : Fin 8)
  /-- The planner handles a hoist channel's answer to a queue operation (R361). -/
  | queueResult (c : Fin 64)
  /-- A released TAG frees its stop slot and moves the calls it served (R354). -/
  | tagRelease
  /-- A car leaving service has its assigned calls inserted again (R363). -/
  | carLeavesService (c : Fin 64)
  /-- The planners finish building a flight-time table (R349). -/
  | tableRebuild (g : Fin 8)
  /-- Every 1 s the planners compute the regeneration slices and the forecast point (R370). -/
  | regenForecast
  /-- A held call waits LONG_WAIT without boarding and raises an event (R373). -/
  | longWaitExpiry (g : Fin 8) (token : Fin 256)
  /-- A safety channel latches its inputs, evaluates every car and builds its plumb frame in a 100 µs cycle (R374). -/
  | safetyCycle (ch : Channel) (works : Bool)
  /-- Both dies apply the AND of both channels' bits to their gate switches and publish the permits (R381). -/
  | safetyRelease
  /-- Channel B receives A's cycle marker and trims its own cycle (R375). -/
  | cycleMarker (length : Nat) (offset : Int)
  /-- A plumb, pattern or returned frame arrives over a plumb link (R376). -/
  | plumbFrameReceive (what : PlumbArrival) (err : BitVec 640)
  /-- A frame not arrived by the end of its stage is a LINK fault (R376). -/
  | plumbFrameDeadline (what : PlumbArrival)
  /-- A safety input's raw level has held for FILTER µs and its filtered level changes (R377). -/
  | inputFilterQualified (ch : Channel) (k : Fin 48) (volts : BitVec 16)
  /-- A safety in frame arrives and each die checks its own code and sequence (R379). -/
  | safetyInFrame (f : StationFrame) (checkA checkB : BitVec 64)
  /-- A die's watchdog for a safety station runs out and its inputs read de-energised (R379). -/
  | safetyStationWatchdog (ch : Channel) (station : Fin 2048)
  /-- A frame gate with no publication from a die for 300 µs treats its permits as absent (R382). -/
  | publicationTimeout (ch : Channel)
  /-- A safety die's own supply rises above its reset level and the channel enters INIT (R386). -/
  | safetyPowerUp (ch : Channel)
  /-- Self-test, configuration and partner checks complete and the channel enters RUN or SAFE (R386). -/
  | safetyInitComplete (ch : Channel)
  /-- SAFE_RESET high for 100 ms returns both channels from SAFE to RUN when causes are gone (R386). -/
  | safeReset
  /-- A self-test, oscillator or supply monitor failure puts the channel in FAULT (R386). -/
  | safetyDieFault (ch : Channel) (f : DieFault)
  /-- A safety die's supply falls below its reset level and the channel goes OFF (R386). -/
  | safetySupplyLoss (ch : Channel)
  /-- A brake or mirror contact does not confirm within its time and trips the car (R393). -/
  | brakeConfirmTimeout (ch : Channel) (c : Fin 64) (mirror : Bool)
  /-- MAIN_DROP after confirmed applied brakes clears MAIN (R392). -/
  | mainDropExpiry (ch : Channel) (c : Fin 64)
  /-- A due car that has stood 30 s at a landing begins its brake test (R395). -/
  | brakeTestStart (ch : Channel) (c : Fin 64)
  /-- BT_HOLD ends and the car's movement decides the circuit (R395). -/
  | brakeTestHoldEnd (ch : Channel) (c : Fin 64)
  /-- BT_INTERVAL after the last pass the brake test falls due (R395). -/
  | brakeTestDue (ch : Channel) (c : Fin 64)
  /-- 24 h after the due time without a pass the car trips with BRAKE_DUE (R395). -/
  | brakeDueTrip (ch : Channel) (c : Fin 64)
  /-- A car still moving SMOKE_WAIT after FREEZE trips at once (R400). -/
  | smokeWaitExpiry (ch : Channel)
  /-- A sealed STAGE request checks and holds a safety configuration image (R557). -/
  | sealedStage (ch : Channel) (intact : Bool) (time : DWord) (image : List Byte)
  /-- A sealed COMMIT makes the staged configuration active in both dies, which enter SAFE (R406). -/
  | sealedCommit (ch : Channel) (intact : Bool) (time : DWord) (password : List Byte)
  /-- A sealed REVERT returns to the previous configuration (R404). -/
  | sealedRevert (ch : Channel) (intact : Bool) (time : DWord) (password : List Byte)
  /-- CAR_RESET clears the manual trips of a car when every cause is gone (R388). -/
  | sealedCarReset (ch : Channel) (intact : Bool) (time : DWord) (c : Fin 64)
  /-- FREEZE makes each channel trip every car with SMOKE as it comes to rest (R400). -/
  | sealedFreeze (ch : Channel) (intact : Bool)
  /-- THAW clears every SMOKE trip (R400). -/
  | sealedThaw (ch : Channel) (intact : Bool)
  /-- BENCH makes each channel limit every car to the rescue speed (R401). -/
  | sealedBench (ch : Channel) (intact : Bool) (time : DWord)
  /-- 15 minutes after a password lockout began, COMMIT and REVERT are accepted again (R405). -/
  | lockoutExpiry (ch : Channel)
  /-- A VFIELD group below 18.0 V for 100 µs is lost and its outputs switch off (R416). -/
  | vfieldLost (g : Fin 2)
  /-- A VFIELD group above 32.0 V for 10 µs is over and its outputs switch off (R416). -/
  | vfieldOver (g : Fin 2)
  /-- A lost or over group has been in range for 10 ms and returns to good (R416). -/
  | vfieldGood (g : Fin 2)
  /-- A program input's raw reading has held for FILT × 50 µs and its filtered level changes (R420). -/
  | programFilterQualified (k : Fin 48)
  /-- An output above 0.65 A for 10 ms switches off (R422). -/
  | outputOverload (o : Fin 24) (current : BitVec 16)
  /-- 1 s after an overload a still-commanded output switches on again (R422). -/
  | overloadRetry (o : Fin 24)
  /-- An output switch reaching 165 °C switches off (R423). -/
  | outputOvertemp (o : Fin 24)
  /-- A cooled output switches on again if still commanded (R423). -/
  | outputCooled (o : Fin 24)
  /-- An open-wire condition held 100 ms sets OPEN (R424). -/
  | openWireSet (o : Fin 24) (current : BitVec 16)
  /-- The condition absent for 100 ms clears OPEN (R424). -/
  | openWireClear (o : Fin 24)
  /-- T_PULL ends and a coil channel enters HOLD (R429). -/
  | pullEnd (k : Fin 16)
  /-- Every 50 µs a coil channel measures its mean current and updates its offset (R430). -/
  | coilOffsetUpdate (k : Fin 16) (mean : BitVec 16)
  /-- An overcurrent, open or sense condition trips a coil channel (R432). -/
  | coilTrip (k : Fin 16) (cause : Fin 3)
  /-- A write of FIO_CLk_TARGET starts a motor pair move or is refused while moving (R431). -/
  | pairTargetWrite (k : Fin 16) (target : Word)
  /-- A pair mode switch waiting 100 ms is sent at once (R431). -/
  | pairModeSwitchTimeout (k : Fin 16)
  /-- All 32 ADC channels sample at each multiple of 4,000 ns (R433). -/
  | adcSample (vs : List (BitVec 16))
  /-- A reference outside 1.90–3.10 V for 10 µs marks its group invalid (R433). -/
  | adcRefFault (r : Fin 2) (bad : Bool)
  /-- The field die above 125 °C or 140 °C raises an event or switches every output off (R435). -/
  | fieldDieOvertemp (temp : BitVec 16)
  /-- The field die pulls FAULT_N low when the liveness strobe stops for more than 1 ms (R53). -/
  | keeperLivenessTimeout
  /-- A frame received without error is written to the receive ring or dropped on overflow (R442). -/
  | canFrameReceived (n : Fin 16) (f : CanFrame) (at0 : DWord)
  /-- PUSH checks the staged frame and places it in the transmit FIFO (R445). -/
  | canPush (n : Fin 16)
  /-- ABORT_HEAD removes the head entry (R446). -/
  | canAbortHead (n : Fin 16) (onBus : Bool)
  /-- FLUSH empties the transmit FIFO (R446). -/
  | canFlush (n : Fin 16) (onBus : Bool)
  /-- RECOVER starts bus-off recovery (R448). -/
  | canRecover (n : Fin 16)
  /-- The head frame completes on the bus and the next entry becomes head (R446). -/
  | canFrameSent (n : Fin 16) (at0 : DWord)
  /-- A bus error or lost arbitration updates the counters and the head is retransmitted (R448). -/
  | canBusError (n : Fin 16) (e : CanEvent)
  /-- An entry head for HEAD_TMO is dropped (R446). -/
  | headTmoExpiry (n : Fin 16) (onBus : Bool)
  /-- 128 occurrences of 11 recessive bits return the channel to error active (R448). -/
  | busOffRecovery (n : Fin 16)
  /-- A write of CAN_RX_RD frees ring entries unless it moves backward or past CAN_RX_WR (R444). -/
  | canRxRdWrite (n : Fin 16) (v : Word)
  /-- An Ethernet port goes DOWN, TRAINING or UP (R457). -/
  | portStateChange (p : Fin 8) (st : PortState)
  /-- A frame held for a port not UP within START_TMO is dropped (R457). -/
  | heldFrameTimeout (p : Fin 8)
  /-- A received frame is passed on or discarded as a PRP duplicate (R456). -/
  | prpFrameReceive (p : PortFrame) (src : BitVec 48) (seq : BitVec 16) (trailer fcsGood : Bool)
  /-- Every 2 s a PRP supervision frame is sent (R456). -/
  | prpSupervision (k : Fin 4)
  /-- An IEEE 802.1AS message is received or timed on a port (R458). -/
  | gptpMessage (p : Fin 8) (m : GptpMsg)
  /-- At CYCLE_AT + OFFSET the module sends a station's output frames on both LANs (R463). -/
  | stationCycleSend (n : Fin 2048)
  /-- A valid station input frame arrives and ends the exchange (R466). -/
  | stationInputFrame (f : StationInput)
  /-- No answer 20 µs after a sending sends again with RETRY (R463). -/
  | stationRetry (n : Fin 2048)
  /-- The retry budget ends without an answer and the watchdog counts a missed cycle (R465). -/
  | stationBudgetEnd (n : Fin 2048)
  /-- A module sends its waggle over the Lualas link and PRP pair 0 (R476). -/
  | waggleSend
  /-- A partner waggle arrives and updates the pair state, holder and clash handling (R476). -/
  | waggleReceive (w : Waggle) (lualas : Bool)
  /-- A fit partner takes the holder duty at the first tick after the release waggle (R470). -/
  | holderTake
  /-- No valid waggle on any path for 300 µs declares the partner silent and a fit standby takes the duty (R477). -/
  | partnerSilent
  /-- No waggle over the Lualas link for 300 µs marks the link lost (R477). -/
  | lualasLost
  /-- HANDOVER moves the holder duty to a fit partner (R474). -/
  | handover (req : Requester)
  /-- RESYNC starts a resynchronisation of the standby from the holder (R482). -/
  | resync (req : Requester)
  /-- The holder finishes copying state and the standby is in step (R482). -/
  | resyncComplete (copy : PairCopy)
  /-- The holder's selection record arrives and the standby starts its tasks (R479). -/
  | selectionRecord (tick : Nat) (sels : List Selection)
  /-- A station input frame forwarded by the partner arrives over the Lualas link (R479). -/
  | mirroredStationFrame (f : StationFrame)
  /-- The standby applies a slot change mirrored from the holder (R480). -/
  | slotMirrorReceive (id : Fin 262144) (m : Machine.SlotImage)
  /-- A call-order record from the holder releases a call to the standby's planners (R480). -/
  | callOrderRecord (g : Fin 8) (w0 w1 : Word)
  /-- A call accepted at the standby and not ordered within 10 ms is cancelled (R480). -/
  | callOrderTimeout (g : Fin 8) (token : Fin 256)
  /-- Every 1 s the Keeper forms a health verdict from the self-tests (R484). -/
  | healthVerdict
  /-- A PPS_IN rising edge gives the timebase a new offset (R488). -/
  | ppsEdge
  /-- A new source offset steps device time before READY or slews it after (R489). -/
  | timebaseAdjust (offset : Int)
  /-- No PPS edge for 1.5 s loses the source and clears LOCKED (R490). -/
  | ppsLost
  /-- The offset held within 100 ns for 10 s sets LOCKED (R490). -/
  | timebaseLocked
  /-- After its 250 ns hold an interval start or stop opens, closes or is discarded (R496). -/
  | intervalEvent (u : Fin 8)
  /-- A page closes when full or 100 ms after its first record (R494). -/
  | pageClose (stream : Fin 19)
  /-- A drive completes a page Write command (R501). -/
  | nvmeWriteComplete (drive : Fin 2) (stream : Fin 19) (ok : Bool)
  /-- Every 1 s and at brace the controller sends Flush (R501). -/
  | nvmePeriodicFlush
  /-- A root port trains or drops and its drive is identified, refused or failed (R500). -/
  | pcieLinkChange (port : Fin 2) (link : LinkState) (drive : DriveIdent)
  /-- A drive fails and the store degrades or stops (R503). -/
  | driveFailure (port : Fin 2) (timeout : Bool)
  /-- A drive returns or is replaced and a rebuild copy starts (R503). -/
  | driveReturn (port : Fin 2) (blocks : Nat) (isNew : Bool)
  /-- The rebuild copy ends and DEGRADED clears (R503). -/
  | rebuildComplete
  /-- FORMAT lays out the store with presence (R504). -/
  | stoFormat
  /-- STO_CMD REBUILD starts a rebuild copy (R503). -/
  | stoRebuild
  /-- STO_CMD FLUSH sends Flush to the drives (R501). -/
  | stoFlush
  /-- Every 1 s the ring heads and cursors are journalled into MRAM (R505). -/
  | headJournal
  /-- A consumer acknowledgement moves its cursor for a stream (R507). -/
  | consumerAck (k : Fin 16) (stream : BitVec 8) (seq : DWord)
  /-- No acknowledgement for TMO makes a consumer DOWN (R508). -/
  | consumerTimeout (k : Fin 16)
  /-- Once per second a DOWN consumer is sent the page at its oldest cursor (R508). -/
  | consumerDownResend (k : Fin 16)
  /-- A back-fill page is sent at up to RATE pages/s (R508). -/
  | backfillSend (k : Fin 16) (stream : Fin 19)
  /-- KPR_FW STAGE_BEGIN empties the inactive firmware slot (R519). -/
  | fwStageBegin
  /-- KPR_FW VERIFY checks the staged Keeper image (R519). -/
  | fwVerify
  /-- KPR_FW SELECT names the inactive slot in the boot record (R519). -/
  | fwSelect
  /-- KPR_FW ABORT abandons the staged firmware image (R519). -/
  | fwAbort
  /-- RAISE_SVN fuses MIN_SVN up to the running image's SVN (R520). -/
  | raiseSvn
  /-- A fan below MIN for 5 s raises an event (R523). -/
  | fanSlow (n : Fin 4) (rpm : BitVec 16)
  /-- A TLS management connection is accepted or refused (R524). -/
  | mgmtConnect (port : MgPort) (fingerprint : List Byte) (authenticated : Bool)
  /-- READ returns control-space words (R525). -/
  | mgmtRead (n : Fin 8) (tag addr : Word) (len : Nat)
  /-- WRITE writes control-space words under the session's rights (R525). -/
  | mgmtWrite (n : Fin 8) (tag addr : Word) (data : List Word)
  /-- STAGE writes image bytes into the set or slot that is STAGING (R525). -/
  | mgmtStage (n : Fin 8) (tag : Word) (offset : Nat) (data : List Byte)
  /-- SEALED relays a request to one or both safety dies (R527). -/
  | mgmtSealed (n : Fin 8) (tag : Word) (which : Fin 3) (code : BitVec 8) (payload : List Byte)
  /-- RECORDS returns event records (R525). -/
  | mgmtRecords (n : Fin 8) (tag : Word) (first : Word) (count : Nat)
  /-- KEY carries a signed key enrolment or removal (R525). -/
  | mgmtKey (n : Fin 8) (tag : Word) (enrol : Bool) (slot : Fin 2) (key signature : List Byte)
  /-- A safety die's answer to a sealed request returns to the Keeper (R527). -/
  | sealedAnswer (ch : Channel)
  /-- SET takes the staged date and time at the next RTC second or rejects them (R529). -/
  | calendarSet (req : Requester)
  /-- At each RTC second the calendar advances and is realigned to a locked timebase (R531). -/
  | rtcSecond
  /-- An event reaches the event unit, which counts it, routes it and queues it for the recorder and interrupts (R552). -/
  | eventArrival (block : EventBlock)
  /-- The recorder writes a record to a slot, folds it into an open record or drops it (R534). -/
  | eventRecordWrite
  /-- REPEAT_WIN after its last occurrence an open record closes and goes to the EVENT stream (R535). -/
  | recordClose
  /-- Room returns in the recorder queue and event source 3584 is raised (R532). -/
  | eventQueueRoom
  /-- FREEZE_N low for 10 ms requests Smoke and the module gives up its duties (R538). -/
  | smokeRequest
  /-- With sending stopped the Keeper sends FREEZE to both safety dies (R538). -/
  | smokeWaitSafe
  /-- SMOKE_SAFE in both channels freezes the CEs, schedulers and call port (R538). -/
  | smokeFrozen
  /-- FREEZE_N high for 10 ms withdraws the Smoke halt and sends THAW (R538). -/
  | smokeThaw
  /-- The BYPASS instruction as IEEE 1149.1 (R540). -/
  | dbgBypass (tdi : Bool)
  /-- The IDCODE instruction reads 16#11FC_0F4B (R540). -/
  | dbgIdcode
  /-- SAMPLE/PRELOAD captures the north and south boundary cells (R540). -/
  | dbgSamplePreload (captured preload : List Bool)
  /-- EXTEST drives boundary cells with presence while islands are in reset (R540). -/
  | dbgExtest
  /-- AUTH checks a signed answer to a challenge (R540). -/
  | dbgAuth (answer : List Byte)
  /-- ACCESS reaches the IEEE 1687 network after AUTH (R541). -/
  | dbgAccess (op : DebugOp)
  /-- BOOTLOAD writes a Keeper image when both slots failed (R540). -/
  | dbgBootload (slot : Bool) (image : List Byte)
  /-- A write of EVT_ROUTEn changes the routing of later events, with INT cleared for sandbox targets (R552). -/
  | routeWrite (req : Requester) (n : Fin 4096) (value : Word)
  /-- EVT_SOFT_CMD RAISE raises a software event or answers RANGE or FULL (R555). -/
  | softRaise (req : Requester) (value : Word)
  /-- After enable or reset a CAN channel that is integrating onto the bus sees the recessive bits it needs and becomes error active
  (R452). -/
  | busIntegration (n : Fin 16)
  /-- A Lualas lane fails and is dropped, and traffic continues on the remaining lanes with event source 2844 (R475). -/
  | laneDropped (k : Fin 4)
  /-- The IEEE 802.1AS source of device time is lost, and the timebase keeps its last rate adjustment and clears LOCKED (R490). -/
  | gptpSourceLost
  /-- A polled Modbus RTU device is declared lost and the slots it sources get SOURCE_LOST 1, QUALITY 2 and RELIABILITY 12 (R222). -/
  | modbusDeviceLost (no : Fin 2048)
  /-- Mirror copy B acknowledges a slot write, completing the write-behind of that slot and keeping MIRROR_B_OK current (R217). -/
  | mirrorAckB (id : Fin 262144)
  /-- The raw reading of a field input changes, which updates FIO_RAW, restarts the filter watch and records an acquisition sample stamped
  to the 1 µs sample (R491). -/
  | rawReadingChange (k : Fin 48) (volts : BitVec 16)
  /-- Every 10 µs the Keeper samples its 16 voltage sensors, updates KPR_VSENSEn and raises event source 134 once per excursion outside R47
  (R522). -/
  | voltageSample (mv : List Nat)
  /-- A self-test of R484 falls due at its period, for example the gate test that opens each switch of every SHARED output gate alone and
  reads it back (R484). -/
  | standbySelfTest (t : Fin 8) (ok : Bool)
deriving DecidableEq, Repr

end Sys2Proof
end

