-- ==== Sys2Proof/Decode.lean ====
section
/-! DEFINITION. Words: the command table gives no bits, so no table word spells a command; and the encodings that R152 to R155 give the
control-engine instructions, as a decoder of any word and an encoder beside it. -/
namespace Sys2Proof

/-- The command that a table word spells: the rows of the table carry no bits. -/
def decodeTableWord (_nbits _w : Nat) : Option Instr := none

namespace CeDecode

open Machine

/-- The guard of a word (R152). -/
def guardOf (w : Word) : Guard := { pn := bitAt w 25, ps := Fin.ofNat 8 (fld w 24 22) }

/-- Fields of the formats of R153. -/
def fmtR (w : Word) : FmtR :=
  { guard := guardOf w, rd := Fin.ofNat 32 (fld w 21 17), ra := Fin.ofNat 32 (fld w 16 12), rb := Fin.ofNat 32 (fld w 11 7)
    fn := BitVec.ofNat 7 (fld w 6 0) }
def fmtI (w : Word) : FmtI :=
  { guard := guardOf w, rd := Fin.ofNat 32 (fld w 21 17), ra := Fin.ofNat 32 (fld w 16 12), imm := BitVec.ofNat 12 (fld w 11 0) }
def fmtJ (w : Word) : FmtJ := { guard := guardOf w, disp := BitVec.ofNat 22 (fld w 21 0) }
def fmtL (w : Word) : FmtL :=
  { guard := guardOf w, u := bitAt w 21, i := bitAt w 20, mid := BitVec.ofNat 8 (fld w 19 12), stop := BitVec.ofNat 12 (fld w 11 0) }
def fmtM (w : Word) : FmtM :=
  { guard := guardOf w, vd := Fin.ofNat 16 (fld w 21 18), ra := Fin.ofNat 32 (fld w 17 13), vb := Fin.ofNat 16 (fld w 12 9)
    word := Fin.ofNat 16 (fld w 8 5), zero := BitVec.ofNat 4 (fld w 4 1) }

end CeDecode

/-- The group of an opcode (R154, R155): what a word's bits 31:26 make of it. The encodings of the first four groups belong to the
toolchain; an opcode that no table lists raises ILLEGAL. -/
def decodeCe (w : Word) : CeWord :=
  let r := CeDecode.fmtR w
  match Machine.fld w 31 26 with
  | 0x28 => if Machine.bitAt w 0 then .scat (CeDecode.fmtM w) else .gath (CeDecode.fmtM w)
  | 0x29 => .ldp (CeDecode.fmtI w)
  | 0x2A => .stp (CeDecode.fmtI w)
  | 0x30 => .branch (CeDecode.fmtJ w)
  | 0x31 => .branchLink (CeDecode.fmtJ w)
  | 0x32 => .jumpReg r
  | 0x34 => .loop (CeDecode.fmtL w)
  | 0x35 => .lclr r
  | 0x36 =>
    if r.fn = 0 ∧ r.ra = 0 then .mfs r.guard r.rd r.rb
    else if r.fn = 1 ∧ r.rd = 0 then .mts r.guard r.ra r.rb
    else .illegal
  | 0x38 => .sys (CeDecode.fmtI w)
  | 0x39 => .xret r
  | 0x3A => .setm r
  | 0x3B => .brk r
  | 0x3C => .wait r
  | op =>
    if op < 0x10 then .integer w else if op < 0x18 then .float w else if op < 0x20 then .vector w
    else if op < 0x28 then .loadStore w else .illegal

/-- The word of an opcode and a guard, with the fields of its format below them (R152). -/
def ceWord (op : Nat) (g : Guard) (fields : List (Nat × Nat × Nat)) : Word :=
  Machine.regOf ((31, 26, op) :: (25, 25, Machine.b2n g.pn) :: (24, 22, g.ps.val) :: fields)

/-- Formats R, I, J, L and M as words (R153). -/
def encodeR (op : Nat) (f : FmtR) : Word :=
  ceWord op f.guard [(21, 17, f.rd.val), (16, 12, f.ra.val), (11, 7, f.rb.val), (6, 0, f.fn.toNat)]
def encodeI (op : Nat) (f : FmtI) : Word := ceWord op f.guard [(21, 17, f.rd.val), (16, 12, f.ra.val), (11, 0, f.imm.toNat)]
def encodeJ (op : Nat) (f : FmtJ) : Word := ceWord op f.guard [(21, 0, f.disp.toNat)]
def encodeL (op : Nat) (f : FmtL) : Word :=
  ceWord op f.guard [(21, 21, Machine.b2n f.u), (20, 20, Machine.b2n f.i), (19, 12, f.mid.toNat), (11, 0, f.stop.toNat)]
def encodeM (fn : Nat) (f : FmtM) : Word :=
  ceWord 0x28 f.guard
    [(21, 18, f.vd.val), (17, 13, f.ra.val), (12, 9, f.vb.val), (8, 5, f.word.val), (4, 1, f.zero.toNat), (0, 0, fn)]

/-- The word of a decoded instruction: an instruction of the toolchain's groups keeps its word, and an illegal one has none. -/
def encodeCe : CeWord → Option Word
  | .gath f => some (encodeM 0 f)
  | .scat f => some (encodeM 1 f)
  | .ldp f => some (encodeI 0x29 f)
  | .stp f => some (encodeI 0x2A f)
  | .branch f => some (encodeJ 0x30 f)
  | .branchLink f => some (encodeJ 0x31 f)
  | .jumpReg f => some (encodeR 0x32 f)
  | .loop f => some (encodeL 0x34 f)
  | .lclr f => some (encodeR 0x35 f)
  | .mfs g rd sr => some (encodeR 0x36 { guard := g, rd := rd, ra := 0, rb := sr, fn := 0 })
  | .mts g ra sr => some (encodeR 0x36 { guard := g, rd := 0, ra := ra, rb := sr, fn := 1 })
  | .sys f => some (encodeI 0x38 f)
  | .xret f => some (encodeR 0x39 f)
  | .setm f => some (encodeR 0x3A f)
  | .brk f => some (encodeR 0x3B f)
  | .wait f => some (encodeR 0x3C f)
  | .integer w => some w
  | .float w => some w
  | .vector w => some w
  | .loadStore w => some w
  | .illegal => none

/-- The command that CE `n` executes for a decoded word, where the word alone says it: the comb accesses also name what the memory's
error check finds and where a run of elements stops, which `clean` and the last lane stand for. -/
def ceCommand (n : Fin 128) : CeWord → Option Instr
  | .gath f => some (.gath n f 16 none)
  | .scat f => some (.scat n f 16 none)
  | .ldp f => some (.ldp n f .clean)
  | .stp f => some (.stp n f .clean)
  | .branch f => some (.branch n f)
  | .branchLink f => some (.branchLink n f)
  | .jumpReg f => some (.jumpReg n f)
  | .loop f => some (.loop n f)
  | .lclr f => some (.lclr n f)
  | .mfs g rd sr => some (.mfs n g rd sr)
  | .mts g ra sr => some (.mts n g ra sr)
  | .sys f => some (.sys n f)
  | .xret f => some (.xret n f)
  | .setm f => some (.setm n f)
  | .brk f => some (.brk n f)
  | .wait f => some (.wait n ⟨f, []⟩)
  | .illegal => some (.integerInstruction n { pn := false, ps := 0 } .illegal)
  | _ => none

end Sys2Proof
end

