-- ==== Sys2Proof/Machine/State/Safety.lean ====
section
/-! DEFINITION. The sealed safety configuration (R403) and the state of the safety dies (R374 to R414), with their reset values. -/
namespace Sys2Proof.Machine

/-- Where a safety output goes (R391): a field output, a coil channel, or a bit of a safety station's out frame. -/
inductive SafOut where
  | output (o : Nat) | coil (k : Nat) | station (n word bit : Nat)
deriving DecidableEq, Repr, Inhabited

/-- A lock and a contact (R561). -/
structure LockPair where
  lock : Option InputRef
  contact : Option InputRef
deriving DecidableEq, Repr, Inhabited

/-- The input map of a door side, 0 front, 1 rear: the car door's lock and contact, and those of each landing served on that side. -/
structure SafSide where
  side : Nat
  carDoor : LockPair
  landings : List (Nat × LockPair)
deriving DecidableEq, Repr, Inhabited

/-- A stop-chain contact and its reset class (R389): true for manual. -/
structure ChainContact where
  input : InputRef
  manual : Bool
deriving DecidableEq, Repr, Inhabited

/-- A car of the safety configuration (R403). Positions are in 10 µm, sills raw absolute units, speeds in mm/s, distances in mm, times
in ms. -/
structure SafCarCfg where
  car : Nat
  shaft : Nat
  datum : Int
  sills : List (Nat × Int)
  zone : Nat
  absDir : Bool
  scale : Nat
  quadDir : Bool
  ulim : Int
  llim : Int
  osSpeed : Nat
  /-- VMAX of the car as the configuration was built for it. -/
  vmax : Nat
  ucmDist : Nat
  plaus : Nat
  relevelV : Nat
  adoV : Nat
  adoZone : Nat
  brkLift : Nat
  brkDrop : Nat
  ctOn : Nat
  ctOff : Nat
  mainDrop : Nat
  btInterval : Nat
  btHold : Nat
  btMove : Nat
  /-- The door sides that the car has, and what the input map names for door sides (R561). -/
  has : List Nat
  sides : List SafSide
  brake1 : Option InputRef
  brake2 : Option InputRef
  mirror : Option InputRef
  chain : List ChainContact
  outBrake1 : SafOut
  outBrake2 : SafOut
  outMain : SafOut
deriving DecidableEq, Repr, Inhabited

/-- A shaft of the safety configuration (R396, R403): ADEC in mm/s², T_REACT in ms, SEP_REST in 10 µm, and its lower and upper car
where it is paired. -/
structure SafShaftCfg where
  shaft : Nat
  adec : Nat
  tReact : Nat
  sepRest : Nat
  pair : Option (Nat × Nat)
deriving DecidableEq, Repr, Inhabited

/-- The safety configuration (R403). -/
structure SafCfg where
  cars : List SafCarCfg := []
  shafts : List SafShaftCfg := []
  rescueOn : Option InputRef := none
  up : Option InputRef := none
  down : Option InputRef := none
  /-- Rescue cars and their select inputs (R399). -/
  selects : List (Nat × InputRef) := []
  safeReset : Option InputRef := none
  presence : Option InputRef := none
  /-- FILTER in µs of each field input that is mapped (R377). -/
  filters : List (Nat × Nat) := []
  rescueV : Nat := 300
  smokeWait : Nat := 30000
  wdStn : Nat := 3
  salt : List Byte := []
  password : List Byte := []
deriving DecidableEq, Repr, Inhabited

/-- States of a channel (R386). -/
inductive SafState where
  | off | init | run | safe | fault
deriving DecidableEq, Repr, Inhabited

/-- A field input at a die's own path (R377, R378): its filtered level, and whether the filter is valid. -/
structure SafInput where
  level : Bool := false
  valid : Bool := false
deriving DecidableEq, Repr, Inhabited

/-- A safety station at a die (R379): its words, the SEQ last accepted, and whether it answers. -/
structure SafStation where
  words : List Word := []
  seq : Option Word := none
  live : Bool := false
deriving DecidableEq, Repr, Inhabited

/-- Where a car's brake and contactor sequence stands (R391, R392, R395). -/
inductive BrakePhase where
  /-- Brakes applied, contactor open. -/
  | idle
  /-- MAIN set; the mirror contact is to open. -/
  | main
  /-- BRK1 and BRK2 set; both contacts are to show lifted. -/
  | lifting
  | lifted
  /-- BRK1 and BRK2 cleared; both contacts are to show applied. -/
  | dropping
  /-- Brakes confirmed; MAIN_DROP runs. -/
  | mainDrop
  /-- MAIN cleared; the mirror contact is to close, and the brakes are to show applied. -/
  | off
  /-- Brake test of a circuit, 1 or 2: its contact is to show lifted, the hold runs from a position, its contact is to show
  applied. -/
  | testLift (circuit : Nat)
  | testHold (circuit : Nat) (start : Int)
  | testDrop (circuit : Nat)
deriving DecidableEq, Repr, Inhabited

/-- What a die latches through its taps for a car (R377): the hoist state with the landing flown to and whether the flight is a RELEVEL, the
states of the car's door channels, TRIP_REQ, and the planner reach of its shaft. -/
structure CarTap where
  hoist : HoistState := .off
  landing : Nat := 0
  relevel : Bool := false
  doorF : DoorState := .off
  doorR : DoorState := .off
  tripReq : Bool := false
  reach : Int × Int := (0, 0)
deriving DecidableEq, Repr, Inhabited

/-- One car in one channel. Trips and causes are masks with bit k for TRIP_CAUSE k (SAF_CARc). -/
structure SafCar where
  tap : CarTap := {}
  trips : Nat := 0
  /-- Causes present at the last evaluation. -/
  present : Nat := 0
  /-- A stop-chain contact of class manual has opened (R389). -/
  chainManual : Bool := false
  /-- Newest good samples of each source in the last 1 ms, newest first: (latch, position). -/
  absHist : List (Nat × Int) := []
  quadHist : List (Nat × Int) := []
  /-- Latch time of the newest record of each source, 0 before the first; and when it was taken, by the die's own clock. -/
  absLast : Nat := 0
  quadLast : Nat := 0
  absSeen : Nat := 0
  quadSeen : Nat := 0
  pos : Option Int := none
  /-- Signed speed in mm/s. -/
  speed : Int := 0
  anchor : Option (Int × Int) := none
  plausRun : Nat := 0
  plausFail : Bool := false
  /-- Good samples in a row of each source, up to 1,000 (R389). -/
  goodAbs : Nat := 0
  goodQuad : Nat := 0
  /-- Where the car stood when a lock or contact opened. -/
  openAt : Option Int := none
  ado : Bool := false
  locked : Bool := false
  inZone : Bool := false
  phase : BrakePhase := .idle
  /-- Brake test: RESULT, DUE, OVERDUE, and the last pass by the die's own clock. -/
  btResult : Nat := 0
  btDue : Bool := false
  btOver : Bool := false
  btPass : Nat := 0
deriving DecidableEq, Repr, Inhabited

/-- What a die publishes over VC0 at a release (R381, R391, R399): the applied frame bytes, the cars whose brakes are lifted, and the
rescue selection with the levels of UP and DOWN. -/
structure SafPub where
  frame : BitVec 640
  lifted : List Nat
  rescue : Option (Nat × Bool × Bool)
deriving DecidableEq, Repr, Inhabited

/-- One entry of a die's change log (R408), less its CRC. -/
structure SafLog where
  time : Nat
  secs : Nat
  kind : Nat
  code : Nat
  image : List Byte
  before : List Byte
deriving DecidableEq, Repr, Inhabited

/-- One safety die. -/
structure SafDie where
  state : SafState := .off
  cause : Nat := 0
  /-- The active, previous and staged images, the change log, password failures in a row and the lockout; the die's own store. -/
  active : List Byte := []
  previous : List Byte := []
  /-- The stored digest of the active image (R557). -/
  digest : List Byte := []
  staged : Option (List Byte) := none
  log : List SafLog := []
  fails : Nat := 0
  lockout : Bool := false
  /-- The active configuration as it was loaded at INIT. -/
  cfg : SafCfg := {}
  /-- COMMIT has passed the die's own checks and waits for the partner's; both have, and the die makes it at its cycle; the time its
  request stated. -/
  commitAsked : Bool := false
  commitDue : Bool := false
  commitTime : Nat := 0
  /-- The die's own oscillator (R16, R374): ns that it has counted since manufacture, while the die had its supply. -/
  clock : Nat := 0
  inputs : Tab SafInput := []
  /-- The mapped inputs that read energised at the last latch (R377). -/
  seen : List InputRef := []
  stations : Tab SafStation := []
  /-- The newest raw record of each source, under 2 × car + source (R307). -/
  raws : Tab (Option RawRecord) := []
  cars : Tab SafCar := []
  /-- Last separation margin of each shaft in 10 µm (R396). -/
  margins : Tab Int := []
  /-- CYCLE; the channel's own frame of the cycle, and the frames and pattern that arrived. -/
  cycle : Nat := 0
  frame : BitVec 640 := 0
  partner : Option (BitVec 640) := none
  returned : Option (BitVec 640) := none
  pattern : Option (BitVec 640) := none
  pub : Option SafPub := none
  freeze : Bool := false
  bench : Bool := false
  /-- The car last selected for rescue (R399). -/
  rescueCar : Option Nat := none
  /-- Cycles in a row with a bad length of the partner's, and with a start of its own off A's marker (R375). -/
  lengthBad : Nat := 0
  startBad : Nat := 0
  /-- Channel B: A's marker has arrived since B's last cycle began. -/
  marker : Bool := false
  /-- Channel B's trim of its own cycle in ns. -/
  trim : Int := 0
  /-- The comparator (die A): the last 16 compares, newest first, a skew carried over a knock cycle, and the verdict; and for die B the
  cycles since a verdict showed KNOCK_SEEN. -/
  compares : List Bool := []
  carry : Bool := false
  verdict : Nat := 0
  sinceKnock : Nat := 0
  /-- Sealed requests answered and not yet relayed: code, result, first 32 bytes of the log entry. -/
  answers : List (Nat × Nat × List Byte) := []
deriving DecidableEq, Repr, Inhabited

/-- What a channel publishes of a car (R413): its trips, whether a manual reset is needed, the door zone, the locks, the speed, and the
brake test with the hours since its last pass. -/
structure SafCarShown where
  trips : Nat := 0
  manual : Bool := false
  inZone : Bool := false
  locked : Bool := false
  speed : Nat := 0
  btResult : Nat := 0
  btDue : Bool := false
  btOver : Bool := false
  hours : Nat := 0
deriving DecidableEq, Repr, Inhabited

/-- What the I/O die keeps of a die's publications (R413). -/
structure SafShown where
  state : Nat := 0
  cause : Nat := 0
  rescue : Bool := false
  bench : Bool := false
  lockout : Bool := false
  fails : Nat := 0
  digest : Option (List Byte) := none
  log : List SafLog := []
  frame : BitVec 640 := 0
  cars : Tab SafCarShown := []
  margins : Tab Int := []
deriving DecidableEq, Repr, Inhabited

/-- The SAF block (R413), and what the dies' events have told (R414): SMOKE_SAFE, the cars shown tripped, and 64 + s for each shaft s
whose separation trip has been told. -/
structure SafView where
  faults : Nat := 0
  skew : Nat := 0
  knockOk : Bool := false
  index : Word := 0
  a : SafShown := {}
  b : SafShown := {}
  smokeSafe : Bool := false
  told : List Nat := []
deriving DecidableEq, Repr, Inhabited

end Sys2Proof.Machine
end

