-- ==== Sys2Proof/Config.lean ====
section
/-! DEFINITION. What an implementation fixes and what the manual leaves open: free values (opaque, so nothing can be
proved of them), and the reading of frame-image sections whose byte layout belongs to the
toolchain. -/
namespace Sys2Proof.Config

/-- A free bit: an outcome the manual leaves open, applied to the counter of free values. -/
opaque freeBit : Nat → Bool

/-- A free 64-bit value, applied to the counter of free values. -/
opaque freeWord : Nat → BitVec 64

/-- What the error check finds in a word of a CE's data SRAM that the scheduler reads at a task start (R178), by the counter of free values,
the CE and the address. -/
opaque sramCheck : Nat → Nat → Nat → Ecc

/-- The fused SHA-384 digest of the release-signing public key (R122). -/
opaque releaseKeyDigest : List Byte

/-- The 12-bit check of a flit (R105), whose polynomial the manual does not give. -/
opaque flitCrc : BitVec 128 → BitVec 12

/-- What the sections of a container hold, each given as its type and bytes: the layouts that the toolchain owns. -/
opaque imageContent : List (Nat × List Byte) → Machine.ImageContent

/-- Where a CODE section holds its task table (R185): the bytes of the table, in entries of 32. -/
opaque taskTable : List Byte → List Byte

/-- The message that a key request signs (R123, R525): enrolment or removal, slot and key. -/
opaque keyRequest : Bool → Nat → List Byte → List Byte

/-- The truss endpoint port behind a link: the manual gives no topology of links. -/
opaque linkPort : Nat → Nat

/-- The truss endpoint port at the router that sends on a link. -/
opaque linkSource : Nat → Nat

/-- The link on which a pair that stands in the buffer of a link goes on; none where it has come to its endpoint port. -/
opaque nextLink : Nat → FlitPair → Option Nat

/-- The truss endpoint port of the requester whose transfer a pair carries. -/
opaque requesterPort : FlitPair → Nat

/-- The block of the I/O die that a link serves, where it serves one that can be reset alone. -/
opaque linkBlock : Nat → Option ResetUnit

/-- The challenge of the debug port's AUTH, by its number: 32 bytes that the manual leaves open (R540). -/
opaque challenge : Nat → List Byte

/-- What a safety configuration image holds (R403), whose layout the safety certification pack owns. -/
opaque safetyContent : List Byte → Machine.SafCfg

/-- A safety configuration image passes its own CRC, format and digest (R557). -/
opaque safetyFormat : List Byte → Bool

/-- DIGEST of a plumb frame (R380): a CRC-64, in a layout that the manual leaves to the safety specification, over the latched inputs, the
newest raw records, the taps and state variables of each car's functions, the rescue selection, and bytes 0 to 67. -/
opaque plumbDigest : List Machine.InputRef → Tab (Option Machine.RawRecord) → List (Nat × Machine.SafCar) → Option Nat → Nat → BitVec 64

/-- The seed of a die's safety check codes (R467). -/
opaque safetySeed : Channel → BitVec 64

/-- The first of the module's fused block of 8 MAC addresses (R455). -/
opaque macBase : BitVec 48

/-- Digests of the safety images A and B that the dies run (R134). -/
opaque safetyImage : Channel → List Byte

/-- OUT_DIGEST (R481): a CRC-64, of a polynomial that the manual does not give, over the output payloads by station or unit. -/
opaque outDigest : List (Nat × List Word) → BitVec 64

end Sys2Proof.Config
end

