-- ==== Sys2Proof/Machine/Crypto.lean ====
section
/-! DEFINITION. SHA-384 and the verification of ECDSA signatures over P-384 (R120). The rule names the functions and FIPS 186-5; their
constants are those of FIPS 180-4 and of the curve's own definition (PRESUMED, log entry 118). -/
namespace Sys2Proof.Machine

/-! ## SHA-384 -/

/-- The primes below 410: the first 80. -/
def shaPrimes : List Nat :=
  (List.range 410).filter (fun p => decide (2 ≤ p) && (List.range p).all (fun d => decide (d < 2 ∨ p % d ≠ 0)))

/-- The greatest number of at most `b` bits over `r` whose power `k` does not pass `n`. -/
def rootOver (k n : Nat) : Nat → Nat → Nat
  | 0, r => r
  | b + 1, r => rootOver k n b (if (r + 2 ^ b) ^ k ≤ n then r + 2 ^ b else r)

/-- The first 64 bits of the fraction of the root `k` of a prime. -/
def rootFraction (k p : Nat) : Nat := rootOver k (p * 2 ^ (64 * k)) 69 0 % 2 ^ 64

/-- The round constants of SHA-384, from the cube roots of the first 80 primes, and its initial hash value, from the square roots of the
ninth to sixteenth. -/
def shaRounds : List Nat := shaPrimes.map (rootFraction 3)
def shaInit : List (BitVec 64) := ((shaPrimes.drop 8).take 8).map (fun p => BitVec.ofNat 64 (rootFraction 2 p))

/-- A message padded to whole blocks of 128 bytes: a 1 bit, zeros, and its length in bits as 16 bytes, big-endian. -/
def shaPad (m : List Byte) : List Byte :=
  m ++ [0x80] ++ List.replicate ((239 - m.length % 128) % 128) 0 ++ (leBytes 16 (8 * m.length)).reverse

/-- The small and the large functions of SHA-384. -/
def shaSmall (r1 r2 sh : Nat) (x : BitVec 64) : BitVec 64 := x.rotateRight r1 ^^^ x.rotateRight r2 ^^^ (x >>> sh)
def shaLarge (r1 r2 r3 : Nat) (x : BitVec 64) : BitVec 64 := x.rotateRight r1 ^^^ x.rotateRight r2 ^^^ x.rotateRight r3

/-- The message schedule grown by `k` words; the words stand newest first. -/
def shaGrow : Nat → List (BitVec 64) → List (BitVec 64)
  | 0, w => w
  | k + 1, w =>
    shaGrow k ((shaSmall 19 61 6 (w.getD 1 0) + w.getD 6 0 + shaSmall 1 8 7 (w.getD 14 0) + w.getD 15 0) :: w)

/-- The 80 schedule words of a block. -/
def shaSchedule (block : List Byte) : List (BitVec 64) :=
  (shaGrow 64 (((List.range 16).map (fun i => BitVec.ofNat 64 (beNat ((block.drop (8 * i)).take 8)))).reverse)).reverse

/-- One round on the eight working variables. -/
def shaRound (v : List (BitVec 64)) (kw : Nat × BitVec 64) : List (BitVec 64) :=
  match v with
  | [a, b, c, d, e, f, g, h] =>
    let t1 := h + shaLarge 14 18 41 e + ((e &&& f) ^^^ (~~~e &&& g)) + BitVec.ofNat 64 kw.1 + kw.2
    let t2 := shaLarge 28 34 39 a + ((a &&& b) ^^^ (a &&& c) ^^^ (b &&& c))
    [t1 + t2, a, b, c, d + t1, e, f, g]
  | v => v

/-- The hash value after a block. -/
def shaBlock (h : List (BitVec 64)) (block : List Byte) : List (BitVec 64) :=
  List.zipWith (· + ·) h ((shaRounds.zip (shaSchedule block)).foldl shaRound h)

/-- SHA-384 (R120): 48 bytes. -/
def sha384 (m : List Byte) : List Byte :=
  let p := shaPad m
  let h := (List.range (p.length / 128)).foldl (fun h i => shaBlock h ((p.drop (128 * i)).take 128)) shaInit
  (h.take 6).flatMap (fun w => (leBytes 8 w.toNat).reverse)

/-! ## P-384 -/

/-- The field prime, the coefficient b (a is -3), the order of the group, and the base point. -/
def pField : Nat := 2 ^ 384 - 2 ^ 128 - 2 ^ 96 + 2 ^ 32 - 1
def pCoeffB : Nat :=
  0xb3312fa7e23ee7e4988e056be3f82d19181d9c6efe8141120314088f5013875ac656398d8a2ed19d2a85c8edd3ec2aef
def pOrder : Nat :=
  0xffffffffffffffffffffffffffffffffffffffffffffffffc7634d81f4372ddf581a0db248b0a77aecec196accc52973
def pBase : Nat × Nat :=
  (0xaa87ca22be8b05378eb1c71ef320ad746e1d3b628ba79b9859f741e082542a385502f25dbf55296c3a545e3872760ab7,
   0x3617de4a96262c6f5d9e98bf9292dc29f8f41dbd289a147ce9da3113b5f0b8c00a60b1ce1d7e819d7a431d7c90ea0e5f)

/-- A power modulo `m`, over an exponent of at most `fuel` bits. -/
def powMod (m : Nat) : Nat → Nat → Nat → Nat
  | 0, _, _ => 1
  | fuel + 1, b, e =>
    let r := powMod m fuel (b * b % m) (e / 2)
    if e % 2 = 1 then b * r % m else r

/-- The inverse modulo a prime, and a difference modulo the field prime. -/
def invMod (m a : Nat) : Nat := powMod m 384 (a % m) (m - 2)
def subP (a b : Nat) : Nat := (a + pField - b % pField) % pField

/-- The point that a line of some slope through `p` and with `x2` gives. -/
def pointOn (slope : Nat) (p : Nat × Nat) (x2 : Nat) : Nat × Nat :=
  let x := subP (subP (slope * slope) p.1) x2
  (x, subP (slope * subP p.1 x) p.2)

/-- The sum of two points of the curve; none is the point at infinity. -/
def pointAdd : Option (Nat × Nat) → Option (Nat × Nat) → Option (Nat × Nat)
  | none, q => q
  | p, none => p
  | some p, some q =>
    if p.1 = q.1 then
      if p.2 = q.2 ∧ p.2 ≠ 0 then
        some (pointOn (subP (3 * p.1 * p.1) 3 * invMod pField (2 * p.2) % pField) p p.1)
      else none
    else some (pointOn (subP q.2 p.2 * invMod pField (subP q.1 p.1) % pField) p q.1)

/-- A multiple of a point, over a factor of at most `fuel` bits. -/
def pointMul : Nat → Nat → Option (Nat × Nat) → Option (Nat × Nat)
  | 0, _, _ => none
  | fuel + 1, k, p =>
    let r := pointMul fuel (k / 2) (pointAdd p p)
    if k % 2 = 1 then pointAdd p r else r

/-- An uncompressed point of 97 bytes on the curve. -/
def publicPoint (key : List Byte) : Option (Nat × Nat) :=
  let x := beNat ((key.drop 1).take 48)
  let y := beNat ((key.drop 49).take 48)
  if key.length = 97 ∧ key.head? = some 4 ∧ x < pField ∧ y < pField
      ∧ y * y % pField = (subP (x * x * x) (3 * x) + pCoeffB) % pField then some (x, y)
  else none

/-- ECDSA over P-384 with SHA-384 (R120): key, message, and the signature as r followed by s, 48 bytes each, big-endian. -/
def ecdsaP384 (key msg signature : List Byte) : Bool :=
  let r := beNat (signature.take 48)
  let t := beNat ((signature.drop 48).take 48)
  match publicPoint key with
  | none => false
  | some q =>
    let w := invMod pOrder t
    let u1 := beNat (sha384 msg) * w % pOrder
    let u2 := r * w % pOrder
    decide (signature.length = 96) && decide (0 < r) && decide (r < pOrder) && decide (0 < t) && decide (t < pOrder)
      && (match pointAdd (pointMul 384 u1 (some pBase)) (pointMul 384 u2 (some q)) with
        | some p => decide (p.1 % pOrder = r)
        | none => false)

end Sys2Proof.Machine
end

