-- ==== Sys2Proof/Machine/State/Can.lean ====
section
/-! DEFINITION. State of the CAN block: 16 channels with their receive rings and transmit FIFOs (R438 to R453). -/
namespace Sys2Proof.Machine

/-- A receive-ring entry (R443): TIME, ID, FLAGS, SEQ and data. -/
structure CanEntry where
  time : Nat
  id : Word
  flags : Word
  seq : Word
  data : List Byte
deriving DecidableEq, Repr, Inhabited

/-- Why a head that is on the bus is to be removed when it does not complete. -/
inductive CanRemoval where
  | command | timeout | suppressed
deriving DecidableEq, Repr, Inhabited

/-- The staging registers CAN_TX_ID, CAN_TX_FLAGS and CAN_TX_DATA0 to 15 (R445). -/
structure CanStage where
  id : Word := 0
  flags : Word := 0
  data : Tab Word := []
deriving DecidableEq, Repr, Inhabited

/-- A command written to CAN_TXCTL: its CMD; for a register write the HEAD_TMO it writes and who wrote it; for ABORT_HEAD and FLUSH
whether the head is on the bus, where that is told. -/
structure CanCmd where
  cmd : Nat
  tmo : Option Nat := none
  onBus : Option Bool := none
  by0 : Option Requester := none
deriving DecidableEq, Repr, Inhabited

/-- One CAN channel. -/
structure CanChannel where
  integrating : Bool := true
  busOff : Bool := false
  /-- RECOVER has been written in this bus-off. -/
  recovering : Bool := false
  suppress : Bool := false
  txErr : Nat := 0
  rxErr : Nat := 0
  fifo : List CanFrame := []
  /-- A removal that has fallen due on a head that is on the bus (R446). -/
  removal : Option CanRemoval := none
  /-- A frame has left since the block was asked to be idle, and no new head is taken (R452). -/
  idled : Bool := false
  /-- The last push was accepted. -/
  pushed : Bool := false
  result : Nat := 0
  headTmo : Nat := 0
  stage : CanStage := {}
  /-- A push that is not yet decided, with the staging registers as they stood, and the command held behind it (R445, R548). -/
  pushing : Option CanStage := none
  held : Option CanCmd := none
  rxWr : Word := 0
  rxRd : Word := 0
  ring : Tab (Option CanEntry) := []
  /-- The last frame was dropped for want of room. -/
  dropping : Bool := false
  /-- Counts kept through every reset except power-on. -/
  overflow : Nat := 0
  dropped : Nat := 0
  busOffs : Nat := 0
  errFrames : Nat := 0
  suppressed : Nat := 0
  lec : Nat := 0
  dataPhase : Bool := false
deriving DecidableEq, Repr, Inhabited

end Sys2Proof.Machine
end

