-- ==== Sys2Proof/Machine/State/Compute.lean ====
section
/-! DEFINITION. State of the control engines (R144, R183), with its reset values. -/
namespace Sys2Proof.Machine

/-- Engine states (CE_STATE). -/
inductive CeState where
  | off | idle | run | halt | fault
deriving DecidableEq, Repr, Inhabited

/-- A branch whose delay slot has not executed: its address, and where execution goes after the slot (R156, R169). -/
structure Slot where
  branch : Word
  target : Word
deriving DecidableEq, Repr, Inhabited

/-- The shadow of a SETM: instructions left in the old mode, and the mode it loaded (R150, R170). -/
structure Shadow where
  left : Nat
  priv : Bool
  tctx : Nat
deriving DecidableEq, Repr, Inhabited

/-- One control engine. -/
structure Ce where
  st : CeState := .off
  prev : CeState := .off
  /-- Halt sources taken and halt sources asked for: bit 0 idle request, 1 brace, 2 commit, 3 Smoke, 4 debug. -/
  hsrc : Nat := 0
  haltReq : Nat := 0
  resumeElem : Nat := 0
  g : Tab Word := []
  /-- Lane k of vector register j under 16 × j + k. -/
  v : Tab Word := []
  p : Tab Nat := []
  pc : Word := 0
  slot : Option Slot := none
  shadow : Option Shadow := none
  /-- Runtime privilege and tenant context (R149). -/
  priv : Bool := true
  tctx : Nat := 0
  loopen : Bool := true
  ls0 : Word := 0
  le0 : Word := 0
  lc0 : Word := 0
  ls1 : Word := 0
  le1 : Word := 0
  lc1 : Word := 0
  epc : Word := 0
  xstatus : Word := 0
  xinfo : Word := 0
  xaddr : Word := 0
  xtarget : Word := 0
  xvec : Word := 0
  /-- Lane at which the first instruction resumed goes on, if it is a GATH or SCAT (R165). -/
  elem : Nat := 0
  /-- A comb instruction stands at a point of its own of R175: between elements, or waiting for comb budget. -/
  split : Bool := false
  sram : Tab Byte := []
  /-- CE_ERR (RWS). -/
  psRefuse : Nat := 0
  icPar : Nat := 0
  sramCe : Nat := 0
  /-- Instruction cache: lines held (address / 64), and the line whose last fill had a parity error. -/
  lines : List Nat := []
  badLine : Option Nat := none
  /-- The program-store bank set the CE executes: false is A (R147). -/
  set : Bool := false
  /-- Comb elements left of the tick's budget of a sandbox CE (R230). -/
  budget : Nat := 0
  /-- It has waited on that budget since the tick. -/
  waited : Bool := false
deriving DecidableEq, Repr, Inhabited

end Sys2Proof.Machine
end

