-- ==== Sys2Proof/Machine/State/Field.lean ====
section
/-! DEFINITION. State of the field die (R415 to R437), with its reset values. -/
namespace Sys2Proof.Machine

/-- States of a VFIELD group (R416), coded as FIO_STATUS G1. -/
inductive GroupState where
  | lost | good | beyond
deriving DecidableEq, Repr, Inhabited

/-- One field input: what its three comparators read, the program's and those of safety dies A and B (R418, R419), and on the program's
path the filtered level and VALID (R420, R421). -/
structure FieldIn where
  raw : Bool := false
  rawA : Bool := false
  rawB : Bool := false
  level : Bool := false
  valid : Bool := false
deriving DecidableEq, Repr, Inhabited

/-- States of an output (FIO_OUTSTo STATE, less the group's): off, on, overload wait, latched off, over-temperature. -/
inductive OutState where
  | off | on | wait | latched | hot
deriving DecidableEq, Repr, Inhabited

/-- One high-side output: the program's command, its state, OPEN, RETRIES, the load current last told in mA, overloads in a row, and
whether the 1 s of an overload has passed with its gate open. -/
structure FieldOut where
  cmd : Bool := false
  state : OutState := .off
  isOpen : Bool := false
  retries : Nat := 0
  current : Nat := 0
  overloads : Nat := 0
  retryDue : Bool := false
  /-- The command has gone off since the output was latched (R422). -/
  released : Bool := false
  /-- What over-temperature interrupted: an overload wait or a latched output stays one (R422, R423). -/
  before : OutState := .off
deriving DecidableEq, Repr, Inhabited

/-- States of a coil channel (FIO_CLk_STATE, less the group's). -/
inductive CoilState where
  | off | pull | hold | move | tripped
deriving DecidableEq, Repr, Inhabited

/-- One coil channel. For a pair lead: position in 1/800 of a table address and speed in 1/20 address per ms (both exact over steps of
50 µs), the target, the mode in force and a mode switch that waits, and FIO_CLk_MOVE where it was written. -/
structure Coil where
  cmd : Bool := false
  state : CoilState := .off
  cause : Nat := 0
  /-- The command has gone off since the trip (R432). -/
  released : Bool := false
  mean : Int := 0
  off : Int := 0
  refuse : Bool := false
  strong : Bool := false
  switchTo : Option Bool := none
  target : Int := 0
  pos : Int := 0
  speed : Int := 0
  limits : Option Word := none
  /-- The gate lines CLn_GH and CLn_GL (R428). -/
  gh : Bool := false
  gl : Bool := false
deriving DecidableEq, Repr, Inhabited

/-- One ADC channel: its samples, newest first, at most 64, each with its validity. -/
structure Adc where
  samples : List (Nat × Bool) := []
deriving DecidableEq, Repr, Inhabited

/-- The field die. -/
structure Fio where
  /-- The die has loaded the field table since its last release (R415). -/
  loaded : Bool := false
  g1 : GroupState := .lost
  g2 : GroupState := .lost
  filled : Bool := false
  temp : Int := 0
  /-- The die has passed 125 °C, and 140 °C (R435). -/
  warm : Bool := false
  hot : Bool := false
  ins : Tab FieldIn := []
  outs : Tab FieldOut := []
  coils : Tab Coil := []
  adcs : Tab Adc := []
  /-- Switches that safety die A and B hold closed: outputs, coil channels. -/
  gateA : Nat := 0
  gateB : Nat := 0
  coilA : Nat := 0
  coilB : Nat := 0
  /-- ADC_REF0 and ADC_REF1 are out of range (R433). -/
  ref0Bad : Bool := false
  ref1Bad : Bool := false
  /-- The Keeper's liveness strobe has stopped (R53). -/
  keeperSilent : Bool := false
deriving DecidableEq, Repr, Inhabited

end Sys2Proof.Machine
end

