-- ==== Sys2Proof/Machine/State/Record.lean ====
section
/-! DEFINITION. State of the event unit (EVT), the event recorder (EVR), the Keeper's firmware slots, management
service, sealed lines, Smoke, calendar, sensors and debug port, with their reset values. -/
namespace Sys2Proof.Machine

/-- An event on its way: source, data words (R559) and the device time of its raising. -/
structure EventMsg where
  src : Nat
  data : List Word
  dlen : Nat
  time : Nat
deriving DecidableEq, Repr, Inhabited

/-- An event the unit has routed to the recorder: severity and snapshot set as its routing stood on arrival (R552). -/
structure QueuedEvent where
  msg : EventMsg
  severity : Nat
  snap : Nat
deriving DecidableEq, Repr, Inhabited

/-- The interrupt queue of one CE (R553). -/
structure PendQueue where
  queue : List Nat := []
  lost : Nat := 0
deriving DecidableEq, Repr, Inhabited

/-- One requester's staging of a software event (R555). -/
structure SoftStage where
  result : Nat := 0
  dlen : Nat := 0
  source : Nat := 0
  data : Tab Word := []
deriving DecidableEq, Repr, Inhabited

/-- The EVT block. -/
structure Evt where
  /-- Routings changed from the default of R551 (bits 31:16 of EVT_ROUTEn); NV. -/
  routes : Tab (Option Word) := []
  /-- Occurrence counts (RWS). -/
  counts : Tab Nat := []
  pend : Tab PendQueue := []
  soft : Tab SoftStage := []
  /-- EVT_BADACC KIND, CAUSE and COUNT, and EVT_BADADDR. -/
  badKind : Nat := 0
  badCause : Nat := 0
  badCount : Nat := 0
  badAddr : Word := 0
  /-- Events raised and not yet arrived, oldest first. -/
  inFlight : List EventMsg := []
deriving DecidableEq, Repr, Inhabited

/-- An event record (R533). -/
structure EvRecord where
  time : Nat
  seq : Nat
  source : Nat
  severity : Nat
  snap : Bool
  modul : Bool
  dlen : Nat
  rep : Nat
  lastTime : Nat
  data : List Word
  tag : Word
deriving DecidableEq, Repr, Inhabited

/-- One read of a snapshot: address, value, read time. -/
structure SnapEntry where
  addr : Word
  value : Word
  time : Nat
deriving DecidableEq, Repr, Inhabited

/-- A pool slot (R536). -/
structure Snapshot where
  seq : Nat
  set : Nat
  failed : Nat
  entries : List SnapEntry
deriving DecidableEq, Repr, Inhabited

/-- The event recorder (R532 to R537). -/
structure Evr where
  queue : List QueuedEvent := []
  /-- The queue has refused an event since 3584 was last raised. -/
  lossOpen : Bool := false
  slots : Tab (Option EvRecord) := []
  pool : Tab (Option Snapshot) := []
  /-- Records written since manufacture. -/
  written : Nat := 0
  newest : Nat := 0
  lost : Nat := 0
  dropped : Nat := 0
  /-- Slot of the open record (R535). -/
  openSlot : Option Nat := none
  repeatWin : Nat := 100
  index : Nat := 0
  /-- EVR_SETs_ADDRk under 16 × s + k. -/
  sets : Tab Word := []
deriving DecidableEq, Repr, Inhabited

/-- Instructions of the debug port (R540). -/
inductive DebugInstr where
  | bypass | idcode | samplePreload | extest | auth | access | bootload
deriving DecidableEq, Repr, Inhabited

/-- States of the inactive firmware slot (KPR_FW SLOT_STATE). -/
inductive SlotState where
  | empty | staging | staged | verified
deriving DecidableEq, Repr, Inhabited

/-- Smoke states (R538). -/
inductive SmokeState where
  | run | requested | waitSafe | frozen | thawing
deriving DecidableEq, Repr, Inhabited

/-- The answer a management session last received. -/
structure MgmtAnswer where
  tag : Word
  status : Nat
  data : List Word
deriving DecidableEq, Repr, Inhabited

/-- A request of a session (R525). READ and WRITE wait at the truss while their block is in reset (R546). -/
inductive MgmtReq where
  | read (tag addr : Word) (len : Nat)
  | write (tag addr : Word) (data : List Word)
  | stage (tag : Word) (offset : Nat) (data : List Byte)
  | relay (tag : Word) (toA toB : Bool) (code : Nat) (payload : List Byte)
  | records (tag first : Word) (count : Nat)
  | key (tag : Word) (enrol : Bool) (slot : Nat) (key signature : List Byte)
deriving DecidableEq, Repr, Inhabited

/-- One management session (R524 to R526). -/
structure Session where
  isOpen : Bool := false
  port : MgPort := .mg0
  rights : Nat := 0
  tenant : Nat := 0
  answer : Option MgmtAnswer := none
  /-- Requests not yet answered, in order: the first of them is held at a block in reset, or a SEALED request before them awaits its
  answers. -/
  waiting : List MgmtReq := []
deriving DecidableEq, Repr, Inhabited

/-- A request on the sealed lines whose answers are awaited (R527). -/
structure SealedRelay where
  /-- The session to answer, or none: the Keeper's own FREEZE, THAW or BENCH. -/
  session : Option Nat
  tag : Word
  toA : Bool
  toB : Bool
  /-- Answers received: die, code, result, first 32 bytes of the log entry. -/
  answers : List (Channel × Nat × Nat × List Byte)
deriving DecidableEq, Repr, Inhabited

/-- A sealed request frame on its way to a die, as sent (R527). -/
structure SealedFrame where
  code : Nat
  payload : List Byte
  /-- The CRC-32C the frame carries. -/
  crc : Word
deriving DecidableEq, Repr, Inhabited

/-- The Keeper's own units: firmware, service, sensors, Smoke, calendar, debug port. -/
structure Kpr where
  /-- KPR_FW. -/
  fwResult : Nat := 0
  running : Bool := false
  selected : Bool := false
  fallback : Bool := false
  slotState : SlotState := .empty
  minSvn : Nat := 0
  svn : Nat := 0
  /-- Both firmware slots have failed and the module waits in phase 3 (R517). -/
  noFirmware : Bool := false
  /-- Firmware slots A and B of bank 24. -/
  slotA : Tab Byte := []
  slotB : Tab Byte := []
  /-- Length and progress of the firmware staging. -/
  fwLen : Nat := 0
  fwGot : Nat := 0
  /-- Digest of the running Keeper image (R516), 48 bytes. -/
  fwDigest : List Byte := []
  smoke : SmokeState := .run
  smokePin : Bool := false
  /-- REFCLK time at which WAIT_SAFE was entered, and the ms it lasted. -/
  smokeSince : Nat := 0
  smokeWaited : Nat := 0
  vsense : Tab Nat := []
  /-- Sensors now outside the range of R47, one bit each. -/
  vOut : Nat := 0
  fanMin : Tab Nat := []
  fanSpeed : Tab Nat := []
  temps : Tab Int := []
  sessions : Tab Session := []
  /-- Relays whose answers are awaited, oldest first. -/
  relays : List SealedRelay := []
  sealedA : List SealedFrame := []
  sealedB : List SealedFrame := []
  /-- The calendar: seconds since 2000-01-01 00:00:00 TAI, VALID, END, staged date and time, a pending SET. -/
  calSec : Nat := 0
  calValid : Bool := false
  calEnd : Bool := false
  stageDate : Word := 0xC0000101
  stageTime : Word := 0
  calResult : Nat := 0
  /-- Who wrote the SET that is held behind the pending one (R548). -/
  calHeld : Option Requester := none
  taiUtc : Nat := 37
  /-- VKEEP has been lost since the calendar last reported (R531). -/
  vkeepLost : Bool := true
  /-- The debug port. -/
  dbgInstr : DebugInstr := .idcode
  dbgOut : List Word := []
  dbgBypass : Bool := false
  dbgAuth : Bool := false
  /-- Number of the challenge of the next AUTH. -/
  dbgChallenge : Nat := 0
  /-- Boundary cells of the north and south regions: captured, preloaded, and whether EXTEST drives the preload. -/
  dbgCells : List Bool := []
  dbgPreload : List Bool := []
  dbgDrives : Bool := false
  /-- Cores whose watchdog is served; the liveness strobe runs (R518, R53). -/
  strobe : Bool := false
  /-- BACnet/SC private keys in the Keeper NV area, by virtual device (R515). -/
  scKeys : Tab (List Byte) := []
deriving DecidableEq, Repr, Inhabited

end Sys2Proof.Machine
end

