-- ==== Sys2Proof/Machine/State/History.lean ====
section
/-! DEFINITION. State of the timebase (TMB), acquisition (ACQ) and the history store (STO), with their reset values. -/
namespace Sys2Proof.Machine

/-- The timebase on the I/O die (R487 to R490). -/
structure Tmb where
  /-- Device time in ns since 2000-01-01 00:00:00 TAI, and the fraction of a ns that the rate adjustment has gathered, in
  units of 10^-7 ns. -/
  time : Nat := 0
  frac : Int := 0
  running : Bool := false
  source : Nat := 0
  locked : Bool := false
  gm : Bool := false
  /-- By port, whether this module or another is grandmaster of the port's network, once an announce has told (R458). -/
  lanGm : Tab (Option Bool) := []
  /-- Rate adjustment in 0.1 ppm, and the last offset in ns. -/
  adj : Int := 0
  offset : Int := 0
  /-- The high word latched by the last read of TMB_TIME_LO. -/
  timeHi : Word := 0
  /-- PPS_IN counts as present; the time last told by IEEE 802.1AS, in ns, less `now` when it was told. -/
  ppsOk : Bool := false
  gpBase : Option Int := none
  /-- Since when, as `now` counts, the offset has stayed within 100 ns (R490). -/
  nearSince : Option Nat := none
deriving DecidableEq, Repr, Inhabited

/-- A 16-byte record of a stream: TIME, TAG, VALUE; an EVENT page carries whole event records instead (R494). -/
inductive StreamRec where
  | plain (time : Nat) (tag value : Word)
  | event (r : EvRecord)
deriving DecidableEq, Repr, Inhabited

/-- A closed page (R494). -/
structure Page where
  stream : Nat
  seq : Nat
  restart : Bool
  gap : Bool
  modul : Bool
  firstTime : Nat
  tag : Word
  recs : List StreamRec
deriving DecidableEq, Repr, Inhabited

/-- The staging of one stream: the open page's records, the closed pages still in the buffer, and drops (R497). -/
structure Stage where
  recs : List StreamRec := []
  openGap : Bool := false
  nextSeq : Nat := 0
  waiting : List Page := []
  /-- A run of dropped records: time of the first and how many. -/
  dropRun : Option (Nat × Nat) := none
  /-- A page has been written whole since the last drop event. -/
  whole : Bool := true
  /-- The next page is the first after a start-up (R505). -/
  restart : Bool := true
deriving DecidableEq, Repr, Inhabited

/-- One acquisition unit's registers. -/
structure AcqUnit where
  cfg : Word := 1
  sigs : Tab Word := []
  dropped : Nat := 0
  gap : Bool := false
deriving DecidableEq, Repr, Inhabited

/-- One trigger (R495). -/
structure Trigger where
  cfg : Word := 0
  level : Word := 0
  hyst : Word := 0
  units : Nat := 0
  fires : Nat := 0
  armedRise : Bool := false
  armedFall : Bool := false
deriving DecidableEq, Repr, Inhabited

/-- One interval unit (R496). -/
structure IntervalUnit where
  cfg : Word := 0
  openAt : Option Nat := none
  order : Bool := false
  coinc : Bool := false
  units : Nat := 0
  last : Word := 0
  discarded : Nat := 0
  /-- Events held for 250 ns after their stamp: (stamp, is a stop). -/
  heldEv : List (Nat × Bool) := []
deriving DecidableEq, Repr, Inhabited

/-- The ACQ block. -/
structure Acq where
  units : Tab AcqUnit := []
  trigs : Tab Trigger := []
  ints : Tab IntervalUnit := []
deriving DecidableEq, Repr, Inhabited

/-- One root port and its drive (R500). -/
structure Port where
  link : Nat := 0
  gen : Nat := 0
  width : Nat := 0
  drive : Nat := 0
  cause : Nat := 0
  errors : Nat := 0
  blocks : Nat := 0
  flushes : Nat := 0
deriving DecidableEq, Repr, Inhabited

/-- A page whose Write command is outstanding at the drives still named. -/
structure PageWrite where
  page : Page
  at0 : Bool
  at1 : Bool
deriving DecidableEq, Repr, Inhabited

/-- One ring of the store (R504, R505). -/
structure Ring where
  writing : List PageWrite := []
  /-- Pages kept, by SEQ. -/
  pages : Tab (Option Page) := []
  /-- SEQ after the newest page written, and the oldest SEQ kept. -/
  head : Nat := 0
  oldest : Nat := 0
  /-- Head as last journalled (R505). -/
  journal : Nat := 0
deriving DecidableEq, Repr, Inhabited

/-- States of a consumer (R508). -/
inductive ConsState where
  | off | down | live | backfill
deriving DecidableEq, Repr, Inhabited

/-- One consumer (R506 to R509). -/
structure Consumer where
  state : ConsState := .off
  rate : Nat := 2000
  lost : Nat := 0
  /-- Lowest SEQ not yet acknowledged, SEQ after the newest page sent, and SEQ of the next back-fill page, by stream. -/
  cursor : Tab Nat := []
  sent : Tab Nat := []
  fill : Tab Nat := []
  /-- The page last sent: stream, SEQ, with BACKFILL set. -/
  lastSent : Option (Nat × Nat × Bool) := none
  /-- Its datagram: the page's 4,096 bytes. -/
  datagram : List Byte := []
  /-- Cursors as last journalled. -/
  journal : Tab Nat := []
deriving DecidableEq, Repr, Inhabited

/-- The STO block. -/
structure Sto where
  state : Nat := 0
  mirror : Bool := false
  degraded : Bool := false
  rebuild : Bool := false
  rate : Nat := 256
  port0 : Port := {}
  port1 : Port := {}
  result : Nat := 0
  /-- The drives carry a layout written by FORMAT, with the FRAME_TAG it recorded. -/
  formatted : Bool := false
  formatTag : Word := 0
  /-- The blocks and the shares of the streams in 0.1 %, as FORMAT laid the store out (R504). -/
  blocks : Nat := 0
  shares : List Nat := []
  /-- Block of the drive that has left, copied by REBUILD up to here. -/
  rebuildPort : Nat := 0
  rings : Tab Ring := []
  /-- Staging of streams 0 to 18. -/
  stages : Tab Stage := []
  cons : Tab Consumer := []
  /-- A STO command runs: no new command is issued after a brace commit (R511). -/
  halted : Bool := false
deriving DecidableEq, Repr, Inhabited

end Sys2Proof.Machine
end

