-- ==== Sys2Proof/Machine/State/Net.lean ====
section
/-! DEFINITION. State of the network block (R455 to R485): ports and what waits for them, stations, the pair, with their reset values. -/
namespace Sys2Proof.Machine

/-- What a port sends: a station frame with the check codes of KIND 8 and its CRC-32C, a waggle copy with that of the waggle, a PRP
supervision frame, a gPTP message, a datagram to a consumer of the history store. -/
inductive NetFrame where
  | station (f : StationFrame) (checks : List DWord) (crc : Word)
  | waggle (w : Waggle) (crc : Word)
  | supervision (pair : Nat) (seq : Nat)
  | gptp (m : GptpMsg)
  | page (consumer : Nat) (datagram : List Byte)
deriving DecidableEq, Repr

/-- A frame that waits for a port to be UP or for its gate (R457, R459, R464): the pair it is for, the number of its redundancy control
trailer where it takes one, and the ports it has still to leave by. -/
structure NetQueued where
  frame : NetFrame
  pair : Nat
  ports : List Nat
  rct : Option Nat := none
deriving DecidableEq, Repr

/-- One Ethernet port: its counts are kept through every reset except power-on. -/
structure NetPort where
  state : PortState := .down
  held : Nat := 0
  badFcs : Nat := 0
  dups : Nat := 0
  /-- A frame has been dropped since the last one sent. -/
  dropping : Bool := false
  /-- The last frame that left by the port, its sender's address, its VLAN priority where it carries a tag, and the number in its
  trailer where it carries one. -/
  sent : Option NetFrame := none
  sentSrc : BitVec 48 := 0
  sentPrio : Option Nat := none
  sentRct : Option Nat := none
deriving DecidableEq, Repr, Inhabited

/-- A frame that a pair's node table knows (R456): its sender, its sequence number, when it came. -/
structure PrpSeen where
  pair : Nat
  src : BitVec 48
  seq : BitVec 16
  time : Nat
deriving DecidableEq, Repr, Inhabited

/-- A station cycle's exchange (R463): its SEQ and CYCLE_AT, the sendings made, the frames sent, whether a valid input frame has come,
and whether the queue refused a frame. -/
structure Exchange where
  seq : Word
  cycleAt : Nat
  sendings : Nat
  frames : List (StationFrame × List DWord)
  answered : Bool
  refused : Bool
deriving DecidableEq, Repr

/-- An input frame of KIND 2 as received: its SEQ, CYCLE_AT and words. -/
structure InFrame where
  seq : Word
  cycleAt : Nat
  words : List Word
deriving DecidableEq, Repr, Inhabited

/-- NET_STNs STATE of an enabled station. -/
inductive StationState where
  | waiting | running | lost
deriving DecidableEq, Repr, Inhabited

/-- One station. -/
structure Station where
  state : StationState := .waiting
  missed : Nat := 0
  retries : Nat := 0
  losses : Nat := 0
  exch : Option Exchange := none
  /-- The SEQ of the newest valid input frame of any KIND. -/
  newest : Option Word := none
  /-- Input frames, newest first; and the one that the input images of this tick use (R191, R479). -/
  frames : List InFrame := []
  chosen : Option InFrame := none
  /-- The frame chosen has come since the station was last lost. -/
  fresh : Bool := false
  /-- Output words as tasks last delivered them. -/
  out : Tab Word := []
deriving DecidableEq, Repr, Inhabited

/-- Why the holder releases its duty (R470, R474). -/
inductive Release where
  | unfit | handover
deriving DecidableEq, Repr, Inhabited

/-- The NET block. -/
structure Net where
  ports : Tab NetPort := []
  queue : List NetQueued := []
  nodes : List PrpSeen := []
  superSeq : Tab Nat := []
  /-- The number of the next trailer of each pair (R456). -/
  rct : Tab Nat := []
  stations : Tab Station := []
  /-- The last valid input frame forwarded to the partner, the last selection record, the last call-order record (R479, R480). -/
  forwarded : Option StationFrame := none
  selection : List Selection := []
  ordered : Option (Nat × Word × Word) := none
  /-- A tick at the standby whose selection record has not arrived: its number. -/
  tickDue : Option Nat := none
  /-- The holder duty, its release and since when, and the RELEASE of a standby's share. -/
  holder : Bool := false
  release : Option Release := none
  releaseAt : Nat := 0
  /-- The holder duty is to be taken at the next tick, with its CAUSE. -/
  take : Option Nat := none
  /-- SET and fitness as last assessed. -/
  lastSet : Nat := 0
  wasFit : Bool := false
  /-- The module has gone silent (R478). -/
  gone : Bool := false
  /-- The partner: its last waggle; the Lualas link is up; a network waggle has come since it was last declared silent, and when the newest
  did; and that it has been declared silent. -/
  partner : Option Waggle := none
  lualasOk : Bool := false
  netOk : Bool := false
  netAt : Nat := 0
  silent : Bool := false
  /-- A module clash, and whether this module held the duty when it began. -/
  clash : Bool := false
  clashHeld : Bool := false
  mixed : Bool := false
  cause : Nat := 0
  handovers : Nat := 0
  result : Nat := 0
  /-- A command held while RESULT reads 15, and who wrote it (R548). -/
  heldCmd : Option (Nat × Requester) := none
  /-- Resynchronisation: complete at this standby, under way, stopped by a release. -/
  synced : Bool := false
  resyncing : Bool := false
  stale : Bool := false
  /-- COUNT of the next waggle, the COUNT last received over the Lualas link, the last waggle sent. -/
  count : Word := 0
  lastCount : Option Word := none
  sent : Option Waggle := none
  lanes : Nat := 0
  miss : Nat := 0
  diverge : Nat := 0
  /-- OUT_DIGEST of the last tick, and whether the partner's of that tick has been compared. -/
  outDigest : BitVec 64 := 0
  compared : Bool := true
  /-- NET_HEALTH: the last verdict, the tests failed in it, when it was formed; tests failing now; verdicts failed in a row. -/
  verdict : Nat := 0
  failed : Nat := 0
  verdictAt : Nat := 0
  failing : Nat := 0
  failRun : Nat := 0
deriving DecidableEq, Repr

end Sys2Proof.Machine
end

