-- ==== Sys2Proof/Machine/State/Power.lean ====
section
/-! DEFINITION. State of the power, reset, truss and frame-image blocks (KPR_ISLAND_STATE, RST, TRS, FRM), of the
control pins and of the save's progress, with their reset values. -/
namespace Sys2Proof.Machine

/-- The state of every die (KPR_ISLAND_STATE; the Keeper's own is not shown there). -/
structure Dies where
  comp0 : DieState := .unpowered
  comp1 : DieState := .unpowered
  io : DieState := .unpowered
  safA : DieState := .unpowered
  safB : DieState := .unpowered
  field : DieState := .unpowered
  mem0 : DieState := .unpowered
  mem1 : DieState := .unpowered
  mem2 : DieState := .unpowered
  mem3 : DieState := .unpowered
  keeper : DieState := .inReset
deriving DecidableEq, Repr, Inhabited

/-- The control pins of R52, as inputs last seen and outputs driven. -/
structure Pins where
  /-- VIO18 is on: since phase 2 of start-up found it good, and until it falls below its reset level (R61, R78). -/
  vio18 : Bool := false
  /-- PFW_N has been low for 2 µs (R62). -/
  pfwLow : Bool := false
  /-- FREEZE_N is low. -/
  freezeLow : Bool := false
  /-- PRESENCE_N is low. -/
  presenceLow : Bool := false
  /-- RSTOUT_N is driven low (R70). -/
  rstoutLow : Bool := true
  /-- READY is high (R78, R81). -/
  ready : Bool := false
  /-- The Keeper die pulls FAULT_N low (R52). -/
  faultKeeper : Bool := true
  /-- The field die pulls FAULT_N low (R53). -/
  faultField : Bool := true
  /-- FORCED is high (R52, R212). -/
  forced : Bool := false
  /-- Levels of SAFE_OK_A and SAFE_OK_B, which toggle once a safety cycle (R54). -/
  safeOkA : Bool := false
  safeOkB : Bool := false
  /-- PAIR_SEL as sampled at the release of the power-on reset (R55). -/
  pairSel : Bool := false
deriving DecidableEq, Repr, Inhabited

/-- A reset asked for through R71: the units chosen, those that have not yet answered idle, whether reset is asserted, and the units
asked for since then, whose own run follows. -/
structure ResetRun where
  units : List ResetUnit
  waiting : List ResetUnit
  asserted : Bool
  later : List ResetUnit := []
deriving DecidableEq, Repr, Inhabited

/-- Brace (R82 to R88). -/
inductive BraceState where
  | idle
  | brace (secondPass : Bool)
  | committed
  | parked
deriving DecidableEq, Repr, Inhabited

/-- A reset that waits for the save to complete (R90). -/
inductive HeldReset where
  | pin | kwdog
deriving DecidableEq, Repr, Inhabited

/-- The mark of a save area in MRAM (R79, R80, R87, R89), and the frame digest it was saved under. -/
structure SaveMark where
  started : Bool := false
  /-- The first pass of the save has been copied into the area (R85). -/
  copied : Bool := false
  complete : Bool := false
  consumed : Bool := false
  digest : List Byte := []
deriving DecidableEq, Repr, Inhabited

/-- What a module reset was caused by (R67). -/
inductive ResetKind where
  | powerOn | supply | pin | kwdog | braceRestart
deriving DecidableEq, Repr, Inhabited

/-- The RST block and the start-up sequencer. -/
structure Rst where
  /-- RST_CAUSE bits 9:1; W1C, kept through all but power-on. -/
  cause : Word := 2
  /-- RST_PHASE PHASE, 0 to 10 and 15. -/
  phase : Nat := 0
  /-- RST_PHASE START: 0 none yet, 1 cold, 2 warm. -/
  startKind : Nat := 0
  /-- A module reset (power-on, supply, pin, Keeper watchdog, brace restart) is asserted and not yet released. -/
  asserted : Bool := true
  /-- Start-up stopped by PFW_N or a supply in phases 1 to 8 (R90). -/
  stopped : Bool := false
  /-- The cause of the last module reset. -/
  kind : ResetKind := .powerOn
  /-- The module resets asserted since the last release, oldest first: start-up reports each of them (R91). -/
  causes : List ResetKind := [.powerOn]
  /-- A power-on reset has been released and PAIR_SEL has not yet been sampled (R55). -/
  needPair : Bool := true
  /-- The marks of save areas A and B; NV. -/
  saveA : SaveMark := {}
  saveB : SaveMark := {}
  /-- Start-up has closed the VCORE loop (phase 4), so PMB_FAULT alone holds it. -/
  vready : Bool := false
  /-- The set value stands at CEIL with the slowest monitor below 2.00 G hs/s (event source 9). -/
  atCeil : Bool := false
  island : Option ResetRun := none
  block : Option ResetRun := none
  /-- RST_IDLE_TIMEOUT fields. -/
  idleIsland : Nat := 1900
  idleBlock : Nat := 95
  brace : BraceState := .idle
  /-- RST_BRACE AREA: the area holding the newest complete save; NV. -/
  area : Bool := false
  /-- RST_BRACE LAST_FLUSH in µs; NV. -/
  lastFlush : Nat := 0
  /-- Resets that wait for the save to complete (R90). -/
  held : List HeldReset := []
  /-- RST_VCORE: LOOP, PMB_FAULT (RWS), CEIL (NV), SET. -/
  vloop : Bool := false
  pmbFault : Bool := false
  ceil : Nat := 900
  vset : Nat := 800
  /-- 200 µs loop steps in a row whose slowest reading was above 2.10 G hs/s, and steps since the last lowering (R63). -/
  fastSteps : Nat := 0
  sinceLower : Nat := 0
  /-- The speed floor is lost (R65). -/
  floorLost : Bool := false
deriving DecidableEq, Repr, Inhabited

/-- One virtual channel of a link, at its sender and at its receiver (R99, R103 to R105). -/
structure VcLane where
  /-- Credits the sender holds: free entries of the receiver's buffer (R104). -/
  credits : Nat := 16
  /-- The pair in the replay buffer and how often it has been sent: 0, held back by a reset of the receiver and not yet sent anew. -/
  replay : Option (FlitPair × Nat) := none
  /-- A retry has been requested and not yet started. -/
  retryAsked : Bool := false
  /-- Sequence bit of the pair last accepted. -/
  lastSeq : Option Bool := none
  /-- Pairs in the receiver's buffer, oldest first. -/
  buffer : List FlitPair := []
deriving DecidableEq, Repr, Inhabited

/-- One link of the truss with its virtual channels and spare lane (R99 to R106). -/
structure Link where
  vc0 : VcLane := {}
  vc1 : VcLane := {}
  vc2 : VcLane := {}
  vc3 : VcLane := {}
  /-- Pairs accepted by the receiver. -/
  passed : Nat := 0
  /-- The pair last accepted. -/
  lastPair : Option FlitPair := none
  /-- The pair that last left the receiver's buffer, with its virtual channel. -/
  lastOut : Option (Nat × FlitPair) := none
  /-- Transfers abandoned by a forced reset, whose requesters got an abandoned completion (R108). -/
  abandoned : Nat := 0
  /-- The link is marked failed and its traffic is on the spare lane. -/
  failed : Bool := false
  /-- The spare lane has failed as well: the endpoint behind the link is unreachable. -/
  unreachable : Bool := false
  /-- A credit-book fault asks for a resynchronisation of this link (R110). -/
  resync : Bool := false
deriving DecidableEq, Repr, Inhabited

/-- One speed monitor (R94). -/
structure Monitor where
  /-- Phase 4 has calibrated it. -/
  cal : Bool := false
  /-- Calibrated, and it has reported since. -/
  valid : Bool := false
  rate : Nat := 0
  /-- Readings in a row more than 25 % below the median of the others on its die (R95). -/
  low : Nat := 0
deriving DecidableEq, Repr, Inhabited

/-- The TRS block. -/
structure Trs where
  /-- Endpoint ports whose routers are out of reset (R76). -/
  routers : List Nat := []
  mons : Tab Monitor := []
  links : Tab Link := []
  /-- By router output, the virtual channels 1 to 3 of the last 64 pairs that left by it, newest first (R99, R102). -/
  served : Tab (List Nat) := []
  /-- By endpoint port, the abandoned completions that its requesters have received (R108). -/
  abandonedTo : Tab Nat := []
  /-- TRS_LINK_ERR FAILED and RETRIES (RWS). -/
  failed : Nat := 0
  retries : Nat := 0
  /-- TRS_BOOKS FAULT (RWS) and OPEN, five bits each. -/
  bookFault : Nat := 0
  bookOpen : Nat := 0
  /-- Audits in a row, after the one that set FAULT, for which each book has stayed faulted and open (R110). -/
  bookRun : List Nat := [0, 0, 0, 0, 0]
  /-- TRS_THERM STATE, SENSOR and HOTTEST. -/
  therm : Nat := 0
  sensor : Nat := 0
  hottest : Int := 0
  /-- Samples in a row at or above the rise thresholds of T1, T2, T3, and below those of T1, T2, T3 less 3 °C (R112). -/
  rise : List Nat := [0, 0, 0]
  fall : List Nat := [0, 0, 0]
  /-- TRS_VCBUD0 to 127 as the frame image set them; none: the reset value (R102). -/
  budgets : Tab Word := []
deriving DecidableEq, Repr, Inhabited

/-- States of the inactive bank set (R131). -/
inductive SetState where
  | empty | staging | staged | verifiedCode | verifiedStruct | previous
deriving DecidableEq, Repr, Inhabited

/-- One entry of the structural change log (R140). -/
structure LogEntry where
  time : Nat
  seq : Nat
  kind : Nat
  code : Nat
  release : Nat
  rep : Nat
  flags : Nat
  digest : List Byte
  active : List Byte
  refuse : Word
deriving DecidableEq, Repr, Inhabited

/-- The FRM block, the program-store bank sets, the key slots and the structural change log. -/
structure Frm where
  /-- FRM_STATUS ACTIVE_SET; NV: false is bank set A. -/
  activeSet : Bool := false
  pending : Bool := false
  bench : Bool := false
  benchArmed : Bool := false
  presence : Bool := false
  loopOk : Bool := false
  tamper : Bool := false
  setState : SetState := .empty
  /-- CLASS of the inactive image: 0 none, 1 code, 2 firmware, 3 structural. -/
  cls : Nat := 0
  busy : Bool := false
  refuse : Nat := 0
  /-- FRM_REFUSE SECTION and INDEX. -/
  refSection : Nat := 0
  refIndex : Nat := 0
  breaks : Nat := 0
  /-- The two installation key slots in MRAM (R123). -/
  key0 : Option (List Byte) := none
  key1 : Option (List Byte) := none
  /-- FRM_RELEASE and the frame digest last computed for the active image (48 bytes, or none yet). -/
  release : Word := 0
  digest : List Byte := []
  /-- FRM_LOG_INDEX. -/
  logIndex : Nat := 0
  /-- The structural change log, oldest first (R140). -/
  log : List LogEntry := []
  /-- Bytes of bank sets A and B: the length stored and the contents. -/
  lenA : Nat := 0
  setA : Tab Byte := []
  lenB : Nat := 0
  setB : Tab Byte := []
  /-- Bytes of the staging in progress: expected length, and how many have been written. -/
  stageLen : Nat := 0
  stageGot : Nat := 0
  /-- A code activation or revert waits for its handover (R131), and the port it was ordered on. -/
  handover : Bool := false
  handoverSrc : LogSource := .keeper
  /-- Presence has held since phase 6 began (R137). -/
  heldPhase6 : Bool := false
  /-- The LFSR whose bit 14 is the level that SEAL_A sends (R124); the manual gives no start value. -/
  lfsr : BitVec 15 := 0x7FFF
  /-- Wrong and right samples of SEAL_B in a row, up to 3 and 1,024 (R124). -/
  sealWrong : Nat := 0
  sealRight : Nat := 0
deriving DecidableEq, Repr, Inhabited

end Sys2Proof.Machine
end

