-- ==== Sys2Proof/Machine/State/Save.lean ====
section
/-! DEFINITION. What a save area in MRAM holds (R84, R87): the control engines of the classes live and held, the dirty comb lines and the
state of the fixed-function units that a warm start restores. -/
namespace Sys2Proof.Machine

structure SaveContent where
  ces : Tab Ce := []
  slots : Tab SlotImage := []
  hst : Tab Hoist := []
  dor : Tab Door := []
  dsp : Dsp := {}
deriving DecidableEq, Repr, Inhabited

end Sys2Proof.Machine
end

