-- ==== Sys2Proof/Machine/State.lean ====
section
/-! DEFINITION. The state of one module: every block the spec names, the pins, the memories, and the queue of waiting
commands; its reset; and the reasons a command can stop. -/
namespace Sys2Proof.Machine

/-- Faults: none. The spec gives every command an effect, and what it calls an error it also gives a state for, so no
command of this model stops with a fault (safe: the type has no value). -/
inductive Fault where
deriving DecidableEq, Repr

/-- Why a command has no effect to give. -/
inductive Refusal where
  /-- Raised by an arm of Dispatch whose command has no meaning yet: safe, the run stops. -/
  | notModelled (mnemonic : String)
deriving DecidableEq, Repr

@[ext]
structure State where
  /-- REFCLK time in ns since the power-on reset. -/
  now : Nat
  /-- The model's own counter of free values: how many have been drawn. -/
  free : Nat
  /-- KPR_DEVICE_ID CODE: the fused ordering code, 1 IA, 2 IB, 3 EV (R3). -/
  ordering : Nat
  dies : Dies
  pins : Pins
  rst : Rst
  trs : Trs
  frm : Frm
  /-- The frame image the start-up loaded (R78 phase 6), as the blocks use it. -/
  img : ImageContent
  kpr : Kpr
  evt : Evt
  evr : Evr
  tmb : Tmb
  ces : Tab Ce
  /-- Bytes of the MRAM banks that the frame image assigns, at bank × 32 MiB + offset (R17). -/
  mram : Tab Byte
  /-- Save areas A and B in MRAM (R84). -/
  areaA : SaveContent
  areaB : SaveContent
  acq : Acq
  sto : Sto
  cmb : Cmb
  cyc : Cyc
  /-- Hoist channels (R247). -/
  hst : Tab Hoist
  fbk : FbkBlock
  /-- Door channels (R316). -/
  dor : Tab Door
  /-- The DSP unit (R347). -/
  dsp : Dsp
  /-- Safety dies A and B. -/
  safA : SafDie
  safB : SafDie
  saf : SafView
  /-- The field die (R415). -/
  fio : Fio
  /-- CAN channels (R438). -/
  can : Tab CanChannel
  net : Net
  /-- Commands that wait, first in, first out. -/
  pending : List Instr
deriving DecidableEq, Repr

/-- The module under power-on reset, which the spec gives every register a value for: the values stand as the defaults of the blocks'
structures. The fused ordering code and the empty non-volatile memories are the model's choice. -/
def State.reset : State where
  now := 0
  free := 0
  ordering := 1
  dies := {}
  pins := {}
  rst := {}
  trs := {}
  frm := {}
  img := default
  kpr := {}
  evt := {}
  evr := {}
  tmb := {}
  ces := []
  mram := []
  areaA := {}
  areaB := {}
  acq := {}
  sto := {}
  cmb := {}
  cyc := {}
  hst := []
  fbk := {}
  dor := []
  dsp := {}
  safA := {}
  safB := {}
  saf := {}
  fio := {}
  can := []
  net := {}
  pending := []

end Sys2Proof.Machine
end

