-- ==== Sys2Proof/Machine/Tables.lean ====
section
/-! DEFINITION. Sparse tables by number: a lookup with a default, an insertion that keeps the keys strictly rising and
lists no entry equal to the default, and byte memories built on them. -/
namespace Sys2Proof.Machine

/-- What a table holds under a key, or the default. -/
def tget {α : Type} (d : α) : Tab α → Nat → α
  | [], _ => d
  | (j, a) :: t, k => if j = k then a else tget d t k

/-- An entry put in its place among rising keys. -/
def tinsert {α : Type} (k : Nat) (v : α) : Tab α → Tab α
  | [] => [(k, v)]
  | (j, a) :: t => if k < j then (k, v) :: (j, a) :: t else if j = k then (k, v) :: t else (j, a) :: tinsert k v t

/-- The table without a key. -/
def terase {α : Type} (k : Nat) (t : Tab α) : Tab α := t.filter (fun e => decide (e.1 ≠ k))

/-- The table with `v` under `k`; the default takes no entry. -/
def tset {α : Type} [DecidableEq α] (d : α) (t : Tab α) (k : Nat) (v : α) : Tab α :=
  if v = d then terase k t else tinsert k v (terase k t)

/-- The entry under `k` changed by `f`. -/
def tupd {α : Type} [DecidableEq α] (d : α) (t : Tab α) (k : Nat) (f : α → α) : Tab α := tset d t k (f (tget d t k))

/-- Every listed entry changed by `f`, and the keys `ks` with them. -/
def tupdAll {α : Type} [DecidableEq α] (d : α) (ks : List Nat) (f : Nat → α → α) (t : Tab α) : Tab α :=
  ks.foldl (fun u k => tupd d u k (f k)) t

/-- The canonical form: keys strictly rising and no entry equal to the default. -/
def twf {α : Type} [DecidableEq α] (d : α) : Tab α → Bool
  | [] => true
  | [(_, a)] => decide (a ≠ d)
  | (j, a) :: (k, b) :: t => decide (a ≠ d) && decide (j < k) && twf d ((k, b) :: t)

/-- A run of bytes of a memory, from `a`, `n` long; an unlisted byte reads 0. -/
def readBytes (m : Tab Byte) (a n : Nat) : List Byte := (List.range n).map (fun i => tget 0 m (a + i))

/-- The memory with the bytes `bs` stored from `a` on. -/
def writeBytes (m : Tab Byte) (a : Nat) : List Byte → Tab Byte
  | [] => m
  | b :: bs => writeBytes (tset 0 m a b) (a + 1) bs

/-- An element of a list replaced; a number past the end changes nothing. -/
def lset {α : Type} (l : List α) (i : Nat) (v : α) : List α := l.set i v

/-- The first `some` of a function over a list. -/
def firstSome {α β : Type} (f : α → Option β) : List α → Option β
  | [] => none
  | a :: t => match f a with
    | some b => some b
    | none => firstSome f t

/-- The smallest of a list by a key, the earliest among equals. -/
def minBy {α : Type} (key : α → Int) : List α → Option α
  | [] => none
  | a :: t => match minBy key t with
    | none => some a
    | some b => if key a ≤ key b then some a else some b

/-- Adjacent numbers and elements of a list, from 0. -/
def numbered {α : Type} (l : List α) : List (Nat × α) := (List.range l.length).zip l

end Sys2Proof.Machine
end

