-- ==== Sys2Proof/Machine/Ops.lean ====
section
/-! DEFINITION. The operations every block shares: answering a next state, device time, free values, raising events, the
state of dies, digests and checks. -/
namespace Sys2Proof.Machine

/-- What a command answers. -/
abbrev Result := Host.Outcome State Fault Refusal

/-- The command is done, and the machine goes on in `s`. -/
def done (s : State) : Result := .next s

/-- Device time in ns (R487). -/
def devTime (s : State) : Nat := s.tmb.time

/-- A free value of the model, and the state that has drawn it. -/
def freeNat (s : State) : Nat := (Config.freeWord s.free).toNat
def freeBool (s : State) : Bool := Config.freeBit s.free
def drawn (s : State) : State := { s with free := s.free + 1 }

/-- The state of a die. -/
def Dies.get (d : Dies) : Die → DieState
  | .comp0 => d.comp0 | .comp1 => d.comp1 | .io => d.io | .safA => d.safA | .safB => d.safB | .field => d.field
  | .mem0 => d.mem0 | .mem1 => d.mem1 | .mem2 => d.mem2 | .mem3 => d.mem3 | .keeper => d.keeper

/-- The dies with one of them in another state. -/
def Dies.put (d : Dies) (x : Die) (v : DieState) : Dies :=
  match x with
  | .comp0 => { d with comp0 := v } | .comp1 => { d with comp1 := v } | .io => { d with io := v }
  | .safA => { d with safA := v } | .safB => { d with safB := v } | .field => { d with field := v }
  | .mem0 => { d with mem0 := v } | .mem1 => { d with mem1 := v } | .mem2 => { d with mem2 := v }
  | .mem3 => { d with mem3 := v } | .keeper => { d with keeper := v }

/-- A die runs. -/
def running (s : State) (x : Die) : Bool := decide (s.dies.get x = .running)

/-- The dies of a list put into a state. -/
def Dies.putAll (d : Dies) (xs : List Die) (v : DieState) : Dies := xs.foldl (fun e x => e.put x v) d

/-- FRAME_TAG: bytes 0 to 3 of the frame digest last computed for the active image, 0 before the first (R559). -/
def frameTag (s : State) : Word := wordN (leNat (s.frm.digest.take 4))

/-- An event raised by a block: it travels on VC3 and arrives in the block's order (R554). While the Keeper is in reset
events are lost (R556). Its data are one word per item (R559). -/
def raise (src : Nat) (data : List Word) (s : State) : State :=
  if running s .keeper then
    { s with evt := { s.evt with
        inFlight := s.evt.inFlight ++ [{ src := src, data := data, dlen := 4 * data.length, time := devTime s }] } }
  else s

/-- An event raised where a condition holds. -/
def raiseIf (b : Bool) (src : Nat) (data : List Word) (s : State) : State := if b then raise src data s else s

/-- One step of CRC-32C (Castagnoli), reflected, over one bit. -/
def crcBit (c : Nat) : Nat := if c % 2 = 1 then (c / 2) ^^^ 0x82F63B78 else c / 2

/-- CRC-32C over one more byte. -/
def crcByte (c : Nat) (b : Byte) : Nat :=
  crcBit (crcBit (crcBit (crcBit (crcBit (crcBit (crcBit (crcBit (c ^^^ b.toNat))))))))

/-- CRC-32C of a run of bytes (R118, R140, R533, R527). -/
def crc32c (bs : List Byte) : Word := wordN ((bs.foldl crcByte 0xFFFFFFFF) ^^^ 0xFFFFFFFF)

/-- The bytes of a text of words, little-endian (R6). -/
def wordBytes (ws : List Word) : List Byte := ws.flatMap (fun w => leBytes 4 w.toNat)

/-- Header and payload of a station frame as they are sent (R460). -/
def frameBytes (f : StationFrame) : List Byte :=
  leBytes 2 f.station.toNat ++ [f.kind, f.flags] ++ leBytes 4 f.seq.toNat ++ leBytes 8 f.cycleAt.toNat
    ++ leBytes 2 (4 * f.payload.length) ++ leBytes 2 0 ++ leBytes 4 f.tag.toNat ++ wordBytes f.payload

/-- The number of a requester in the tables that give each its own staging (R555): CEs 0 to 127, sessions 128 to 135,
the debug port 136, snapshots 137. -/
def reqNumber : Requester → Nat
  | .ce n => n.val
  | .session n => 128 + n.val
  | .debug => 136
  | .snapshot => 137

/-- EVT_BADACC KIND of a requester. -/
def reqKind : Requester → Nat
  | .ce _ => 0 | .session _ => 1 | .debug => 2 | .snapshot => 3

/-- An access refused and counted (R549): KIND, CAUSE, COUNT saturating, and the address. -/
def badAccess (req : Requester) (cause : Nat) (addr : Word) (s : State) : State :=
  { s with evt := { s.evt with
      badKind := reqKind req, badCause := cause, badCount := satAdd 65535 s.evt.badCount 1, badAddr := addr } }

/-- The windows of R544, in the order of their rows: base and end. -/
def windows : List (Nat × Nat) := [
  (0x00000000, 0x00FFFFFF), (0x01000000, 0x01FFFFFF), (0x02000000, 0x02FFFFFF), (0x03000000, 0x03FFFFFF),
  (0x04000000, 0x05FFFFFF), (0x06000000, 0x07FFFFFF), (0x08000000, 0x09FFFFFF), (0x0A000000, 0x0AFFFFFF),
  (0x0B000000, 0x0BFFFFFF), (0x0C000000, 0x0CFFFFFF), (0x0D000000, 0x0DFFFFFF), (0x0E000000, 0x0EFFFFFF),
  (0x0F000000, 0x0FFFFFFF), (0x10000000, 0x10FFFFFF), (0x11000000, 0x11FFFFFF), (0x12000000, 0x12FFFFFF),
  (0x13000000, 0x13FFFFFF), (0x14000000, 0x14FFFFFF), (0x15000000, 0x15FFFFFF), (0x16000000, 0x16FFFFFF)]

/-- The row of R544 whose window holds an address. -/
def windowOf (a : Word) : Option Nat :=
  ((numbered windows).find? (fun p => decide (p.2.1 ≤ a.toNat ∧ a.toNat ≤ p.2.2))).map (·.1)

/-- The dies that must run for an access to a window (R544): its row there, and the offset in the window. -/
def diesOf (w off : Nat) : List Die :=
  match w with
  | 4 => if off < 0x400000 then [.comp0] else if off < 0x800000 then [.comp1] else []
  | 5 => [.comp0, .comp1]
  | 6 => [.comp0]
  | 10 => [.comp0]
  | 12 => [.field]
  | 18 => if off < 0x010 then [.io] else [.keeper]
  | w => if w < 4 ∨ w = 17 ∨ w = 19 then [.keeper] else [.io]

/-- The block of a window that a block reset can hold (R73). -/
def unitOf : Nat → Option ResetUnit
  | 13 => some .can
  | 15 => some .acq
  | 16 => some .sto
  | _ => none

/-- A unit has been asked to be idle, and its reset is not yet released: it accepts no new work (R71). -/
def askedIdle (s : State) (u : ResetUnit) : Bool :=
  let asked (r : Option ResetRun) : Bool := match r with | some r => r.units.contains u | none => false
  asked s.rst.island || asked s.rst.block
/-- A block of the I/O die has been asked to be idle, alone or with the island. -/
def blockIdle (s : State) (u : ResetUnit) : Bool := askedIdle s u || askedIdle s .io

/-- The unit of a reset request that a die belongs to (R15). -/
def dieUnit : Die → Option ResetUnit
  | .comp0 => some .comp0 | .comp1 => some .comp1 | .io => some .io
  | .mem0 | .mem1 | .mem2 | .mem3 => some .mem
  | _ => none

/-- A die runs and takes new work: it is not asked to be idle (R71). -/
def serves (s : State) (x : Die) : Bool :=
  running s x && !((dieUnit x).any (askedIdle s))

/-- The window's block is asked to be idle or in a block reset. -/
def blockHeld (s : State) (w : Nat) : Bool := (unitOf w).any (askedIdle s)

/-- The access is held at the truss: a die of the block is not running, or the block is in reset (R546); from the idle request on the block
takes no new work (R71). -/
def accessHeld (s : State) (w off : Nat) : Bool :=
  (diesOf w off).any (fun d => !(serves s d)) || blockHeld s w

/-- A command of a register of a block comes to it (R546): while its die is unpowered or in reset, or the block is in reset or asked to be
idle (R71), it is held at the truss and changes nothing. -/
def atBlock (w off : Nat) (run : State → State) (s : State) : State := if accessHeld s w off then s else run s

end Sys2Proof.Machine
end

