-- ==== Sys2Proof/Machine/Flags.lean ====
section
/-! DEFINITION. Status values computed from the state: service set, die codes, thermal pending state, and the packing of
status registers shared by several blocks. -/
namespace Sys2Proof.Machine

/-- Brace has begun and not ended. -/
def inBrace (s : State) : Bool := decide (s.rst.brace ≠ .idle)

/-- The module holds the holder duty; a network waggle has arrived within 300 µs (NETWAGGLE_OK), one on either path (PAIRED); the module is
the standby of a pair. -/
def isHolder (s : State) : Bool := s.net.holder
def netFresh (s : State) : Bool := s.net.netOk && decide (s.now ≤ s.net.netAt + 300000)
def hasPartner (s : State) : Bool := s.net.lualasOk || netFresh s
def isStandby (s : State) : Bool := hasPartner s && !isHolder s
/-- The modules exchange more than waggles: their frame digests are equal (R483). -/
def exchanges (s : State) : Bool := hasPartner s && !s.net.mixed

/-- The code of a die state in KPR_ISLAND_STATE. -/
def dieCode : DieState → Nat
  | .unpowered => 0 | .inReset => 1 | .running => 2 | .failed => 3

/-- SET (R28, R29): the highest set all of whose dies run. -/
def serviceSet (d : Dies) : Nat :=
  let r (x : Die) : Bool := decide (d.get x = .running)
  let hold := r .safA && r .safB && r .field
  let rescue := hold && r .io && r .keeper && r .mem3
  let full := rescue && r .comp0 && r .comp1 && r .mem0 && r .mem1 && r .mem2
  if full then 3 else if rescue then 2 else if hold then 1 else 0

/-- KPR_ISLAND_STATE. -/
def islandState (d : Dies) : Word :=
  regOf [(23, 22, dieCode d.mem3), (21, 20, dieCode d.mem2), (19, 18, dieCode d.mem1), (17, 16, dieCode d.mem0),
    (15, 14, dieCode d.field), (13, 12, dieCode d.safB), (11, 10, dieCode d.safA), (9, 8, dieCode d.io),
    (7, 6, dieCode d.comp1), (5, 4, dieCode d.comp0), (3, 0, serviceSet d)]

/-- The rise thresholds of T1, T2 and T3 in °C (R111). -/
def riseAt : Nat → Int
  | 1 => 90 | 2 => 98 | _ => 104

/-- PENDING and the length of its run in samples (R112): the state that the shortest outstanding dwell leads to. The runs of `rise`
are at or above the thresholds of T1 to T3, those of `fall` below them less 3 °C; 2,000 ms lie between the first and the last of 2,001
samples. -/
def thermPending (st : Nat) (rise fall : List Nat) : Nat × Nat :=
  let up := ((List.range 3).map (· + 1)).filter
    (fun k => decide (st < k) && decide (0 < rise.getD (k - 1) 0) && decide (rise.getD (k - 1) 0 = rise.getD st 0))
  let down := (List.range 3).filter
    (fun k => decide (k < st) && decide (0 < fall.getD k 0) && decide (fall.getD k 0 = fall.getD (st - 1) 0))
  match up.reverse, down with
  | k :: _, _ => (k, rise.getD (k - 1) 0)
  | [], k :: _ => (k, fall.getD k 0)
  | [], [] => (st, 0)

/-- TRS_THERM. -/
def thermReg (t : Trs) : Word :=
  let p := thermPending t.therm t.rise t.fall
  regOf [(31, 30, t.therm), (29, 28, p.1), (26, 16, if p.1 = t.therm then 0 else 2001 - p.2), (12, 8, t.sensor),
    (7, 0, twos 8 t.hottest)]

/-- The slowest VALID monitor reading and its monitor (R95); none before phase 4. -/
def slowestMon (t : Trs) : Option (Nat × Nat) :=
  let vs := (t.mons.filter (fun e => e.2.valid)).map (fun e => (e.1, e.2.rate))
  minBy (fun p => (p.2 : Int)) vs

/-- TRS_SPEED. -/
def speedReg (t : Trs) : Word :=
  match slowestMon t with
  | some (n, r) => regOf [(22, 16, n), (15, 0, r)]
  | none => 0

/-- RST_BRACE STATE. -/
def braceCode : BraceState → Nat
  | .idle => 0 | .brace _ => 1 | .committed => 2 | .parked => 2

/-- RST_BRACE. -/
def braceReg (r : Rst) : Word := regOf [(31, 30, braceCode r.brace), (16, 16, b2n r.area), (15, 0, r.lastFlush)]

/-- RST_VCORE. -/
def vcoreReg (r : Rst) : Word :=
  regOf [(31, 31, b2n r.vloop), (30, 30, b2n r.pmbFault), (25, 16, r.ceil), (9, 0, r.vset)]

/-- CEIL as it acts: above 900 as 900, below 800 as 800. -/
def ceilActs (r : Rst) : Nat := if 900 < r.ceil then 900 else if r.ceil < 800 then 800 else r.ceil

/-- The units of an island or block request that is still under way, or asked for behind it. -/
def runMask (order : List ResetUnit) : Option ResetRun → Nat
  | none => 0
  | some r => ((numbered order).map (fun e => if r.units.contains e.2 || r.later.contains e.2 then 2 ^ e.1 else 0)).foldl (· + ·) 0

/-- FRM_STATUS SET_STATE. -/
def setStateCode : SetState → Nat
  | .empty => 0 | .staging => 1 | .staged => 2 | .verifiedCode => 3 | .verifiedStruct => 4 | .previous => 5

/-- FRM_STATUS. -/
def frmStatus (f : Frm) : Word :=
  regOf [(31, 31, b2n f.activeSet), (30, 30, b2n f.pending), (29, 29, b2n f.bench), (28, 28, b2n f.benchArmed),
    (27, 27, b2n f.presence), (26, 26, b2n f.loopOk), (25, 25, b2n f.tamper), (21, 19, setStateCode f.setState),
    (18, 17, f.cls), (16, 16, b2n f.busy), (4, 0, f.refuse)]

/-- FRM_SEAL and FRM_INFO. -/
def frmSeal (f : Frm) : Word := regOf [(31, 31, b2n f.tamper), (15, 0, f.breaks)]
def frmInfo (f : Frm) : Word := regOf [(31, 31, b2n f.key1.isSome), (30, 30, b2n f.key0.isSome), (14, 0, f.log.length)]

/-- KPR_FW SLOT_STATE and KPR_SMOKE STATE. -/
def slotCode : SlotState → Nat
  | .empty => 0 | .staging => 1 | .staged => 2 | .verified => 3
def smokeCode : SmokeState → Nat
  | .run => 0 | .requested => 1 | .waitSafe => 2 | .frozen => 3 | .thawing => 4

/-- KPR_FW. -/
def fwReg (k : Kpr) : Word :=
  regOf [(27, 24, k.fwResult), (23, 23, b2n k.running), (22, 22, b2n k.selected), (21, 21, b2n k.fallback),
    (20, 19, slotCode k.slotState), (11, 6, k.minSvn), (5, 0, k.svn)]

/-- TMB_STATUS. -/
def tmbStatus (t : Tmb) : Word :=
  regOf [(31, 30, t.source), (29, 29, b2n t.locked), (28, 28, b2n t.gm), (27, 16, twos 12 t.adj),
    (15, 0, twos 16 (if t.offset < -32767 then -32767 else if 32767 < t.offset then 32767 else t.offset))]

end Sys2Proof.Machine
end

