-- ==== Sys2Proof/Machine/CanOps.lean ====
section
/-! DEFINITION. The CAN channels: receive rings, transmit FIFOs, error confinement, SUPPRESS and the window's registers (R438 to R454). -/
namespace Sys2Proof.Machine

def canOf (s : State) (n : Nat) : CanChannel := tget ({} : CanChannel) s.can n
def putCan (s : State) (n : Nat) (x : CanChannel) : State := { s with can := tset ({} : CanChannel) s.can n x }
/-- A channel's fields of FIELDBUS, and those of an enabled channel. -/
def canEntry (s : State) (n : Nat) : Option CanCfg := s.img.can.find? (fun k => decide (k.no = n))
def canCfg (s : State) (n : Nat) : Option CanCfg := (canEntry s n).filter (·.en)

/-- Event sources of a channel (R454). -/
def canRaise (n k : Nat) (data : List Word) (s : State) : State := raise (2688 + 8 * n + k) data s

/-- The CAN block is in reset (R452). -/
def canHeld (s : State) : Bool :=
  match s.rst.block with
  | some r => r.asserted && r.units.contains .can
  | none => false

/-- CAN_STATUS STATE (R448): error passive above 127 in either count. -/
def canPassive (x : CanChannel) : Bool := decide (127 < x.txErr) || decide (127 < x.rxErr)
def canState (s : State) (n : Nat) : Nat :=
  let x := canOf s n
  match canCfg s n with
  | none => 0
  | some k => if running s .io = false ∨ canHeld s = true then 0 else if x.busOff then 4 else if x.integrating then 1 else if k.listen then 5
      else if canPassive x then 3 else 2

/-- The channel takes part in the traffic of the bus, or at least hears it. -/
def canSends (s : State) (n : Nat) : Bool := decide (canState s n = 2 ∨ canState s n = 3)
def canHears (s : State) (n : Nat) : Bool := canSends s n || decide (canState s n = 5)

/-- What CNn_TX drives (R440): nothing with VIO18 off; the recessive level; the recessive level but while the head is on the bus, which
the bus decides; or the bits of a head that is known to be on the bus. -/
inductive CanLevel where
  | undriven | recessive | contending | frame
deriving DecidableEq, Repr

/-- CNn_TX (R440): recessive while the channel is disabled, in listen-only or in bus-off, while the I/O die or the block is in reset, and
while the channel has nothing to send: no head, or one that SUPPRESS or the idle request keeps from the bus. A removal that waits is that of
a head on the bus. -/
def canTx (s : State) (n : Nat) : CanLevel :=
  let x := canOf s n
  if s.pins.vio18 = false ∨ s.dies.io = .unpowered then .undriven
  else if !(canSends s n) || decide (x.fifo = []) then .recessive
  else if x.removal.isSome then .frame
  else if x.suppress || (blockIdle s .can && x.idled) then .recessive
  else .contending

/-! ## Frames -/

/-- The bytes a DLC stands for (R438). -/
def dlcBytes (fdf : Bool) (d : Nat) : Nat :=
  if d ≤ 8 then d
  else if fdf then (match d with | 9 => 12 | 10 => 16 | 11 => 20 | 12 => 24 | 13 => 32 | 14 => 48 | _ => 64)
  else 8

/-- The DLC of a length in bytes. -/
def lenDlc (len : Nat) : Nat :=
  match len with
  | 12 => 9 | 16 => 10 | 20 => 11 | 24 => 12 | 32 => 13 | 48 => 14 | 64 => 15 | n => n

/-- A LEN allowed for the format (R438). -/
def lenAllowed (fdf : Bool) (len : Nat) : Bool := decide (len ≤ 8) || (fdf && [12, 16, 20, 24, 32, 48, 64].contains len)

/-- The ID and FLAGS words of a ring entry (R443). -/
def canIdWord (f : CanFrame) : Word := if f.ide then regOf [(28, 0, f.id.toNat)] else regOf [(10, 0, f.id.toNat)]
def canFlags (own : Bool) (f : CanFrame) : Word :=
  regOf [(31, 31, b2n f.ide), (30, 30, b2n f.fdf), (29, 29, b2n f.brs), (28, 28, b2n f.esi), (27, 27, b2n f.rtr), (26, 26, b2n own),
    (15, 8, dlcBytes f.fdf f.dlc.toNat), (3, 0, f.dlc.toNat)]

/-- The staged frame (R445): OWN, ESI and SEQ of it are ignored, and the DLC is that of LEN. -/
def stagedFrame (x : CanStage) : CanFrame :=
  let len := fld x.flags 15 8
  let fdf := bitAt x.flags 30
  let bytes := (List.range 16).flatMap (fun k => leBytes 4 (tget 0 x.data k).toNat)
  { ide := bitAt x.flags 31, fdf := fdf, brs := bitAt x.flags 29, esi := false, rtr := bitAt x.flags 27,
    id := BitVec.ofNat 29 x.id.toNat, dlc := BitVec.ofNat 4 (lenDlc len),
    data := if bitAt x.flags 27 then [] else bytes.take len }

/-- A frame of the ring or one dropped on overflow (R442, R444): the first drop after a frame that was written raises k 3. -/
def ringWrite (n : Nat) (own : Bool) (f : CanFrame) (time : Nat) (s : State) : State :=
  let x := canOf s n
  if (x.rxWr - x.rxRd).toNat = 4096 then
    let s := putCan s n { x with overflow := satAdd 65535 x.overflow 1, dropping := true }
    if x.dropping then s else canRaise n 3 [] s
  else
    let e : CanEntry := { time := time, id := canIdWord f, flags := canFlags own f, seq := x.rxWr,
                          data := if f.rtr then [] else f.data.take (dlcBytes f.fdf f.dlc.toNat) }
    putCan s n { x with ring := tset none x.ring (x.rxWr.toNat % 4096) (some e), rxWr := x.rxWr + 1, dropping := false }

/-! ## Error confinement (R448) -/

/-- New error counts, with the events of the states they lead to: error passive, bus-off, and back to error active. -/
def canCounts (n tec rcv : Nat) (s : State) : State :=
  let x := canOf s n
  let was := canSends s n
  let off := decide (255 < tec)
  let y := { x with txErr := Nat.min 255 tec, rxErr := Nat.min 255 rcv, busOff := x.busOff || off, recovering := false
                    busOffs := if off then satAdd 255 x.busOffs 1 else x.busOffs }
  let s := putCan s n y
  if was = false then s
  else if off then canRaise n 1 [] s
  else if canPassive y ∧ canPassive x = false then canRaise n 0 [] s
  else if canPassive x ∧ canPassive y = false then canRaise n 2 [] s
  else s

/-- REC after a frame received without error: one less, and from above 127 to a value between 119 and 127 that the standard leaves
open. -/
def recAfterGood (n : Nat) (s : State) : State :=
  let x := canOf s n
  if 127 < x.rxErr then canCounts n x.txErr (119 + freeNat s % 9) (drawn s) else canCounts n x.txErr (x.rxErr - 1) s

/-- CAN_FRAME_RECEIVED (R441, R442). -/
def canReceive (n : Nat) (f : CanFrame) (time : Nat) (s : State) : State :=
  if canHears s n then recAfterGood n (ringWrite n false f time s) else s

/-! ## The transmit FIFO (R445, R446, R450) -/

/-- SUPPRESS of a channel (R450, R472). -/
def suppressWanted (s : State) (n : Nat) : Bool :=
  match canCfg s n with
  | some k => running s .io && k.shared && !(s.net.holder && s.net.release.isNone)
  | none => false

/-- The entries at the head leave without being sent while SUPPRESS is 1 (R450); a head that is on the bus stays until it ends. -/
def drainSuppressed (x : CanChannel) : CanChannel :=
  if x.suppress then
    let keep := if x.removal.isSome then 1 else 0
    { x with fifo := x.fifo.take keep, suppressed := satAdd 4294967295 x.suppressed (x.fifo.length - keep) }
  else x

/-- SUPPRESS follows the holder duty, with event k 7. Whether a head is on the bus at that moment is the bus's own: free. -/
def suppressUpdate (n : Nat) (s : State) : State :=
  let x := canOf s n
  let w := suppressWanted s n
  if x.suppress = w then s
  else
    let live := w && canSends s n && decide (x.fifo ≠ [])
    let s' := if live then drawn s else s
    let busy := live && x.removal.isNone && freeBool s
    let y := { x with suppress := w, removal := if busy then some .suppressed else x.removal }
    canRaise n 7 [] (putCan s' n (drainSuppressed y))
def suppressAll (s : State) : State := (s.img.can.map (·.no)).foldl (fun s n => suppressUpdate n s) s

/-- A push of a staged frame is decided (R445): the first check that fails gives RESULT; the first failure after a success raises k 5. -/
def canPush (n : Nat) (st : CanStage) (s : State) : State :=
  let x := canOf s n
  let len := fld st.flags 15 8
  let fdf := bitAt st.flags 30
  let fdEn := ((canCfg s n).map (·.fdEn)).getD false
  let bad := !(lenAllowed fdf len) || (fdf && !fdEn) || (bitAt st.flags 29 && !fdf) || (bitAt st.flags 27 && fdf)
  let listen := ((canCfg s n).map (·.listen)).getD true
  let r := if (canCfg s n).isNone ∨ listen then 3 else if bad then 2 else if 64 ≤ x.fifo.length then 1 else 0
  if r = 0 then
    putCan s n (drainSuppressed { x with result := 0, pushing := none, pushed := true, fifo := x.fifo ++ [stagedFrame st] })
  else
    let s' := putCan s n { x with result := r, pushing := none, pushed := false }
    if x.pushed then canRaise n 5 [wordN r] s' else s'

/-- The head leaves the FIFO; the next entry becomes head, but for a block asked to be idle (R452). -/
def dropHead (asked : Bool) (x : CanChannel) : CanChannel :=
  drainSuppressed { x with fifo := x.fifo.drop 1, removal := none, idled := asked }

/-- Counts and events of a removal that has happened. -/
def removeHead (n : Nat) (why : CanRemoval) (s : State) : State :=
  let x := canOf s n
  let drop := dropHead (blockIdle s .can)
  match why with
  | .command => putCan s n (drop x)
  | .timeout => canRaise n 4 [] (putCan s n (drop { x with dropped := satAdd 65535 x.dropped 1 }))
  | .suppressed => putCan s n (drop { x with suppressed := satAdd 4294967295 x.suppressed 1 })

/-- A removal falls due on the head (R446, R453): at once, or when a frame on the bus ends in error. -/
def headRemoval (n : Nat) (why : CanRemoval) (onBus : Bool) (s : State) : State :=
  let x := canOf s n
  if running s .io = false ∨ x.fifo = [] then s
  else if onBus ∧ canSends s n then
    putCan s n { x with removal := if x.removal.isSome then x.removal else some why }
  else removeHead n why s

/-- ABORT_HEAD and FLUSH (R446, R453). -/
def canAbort (n : Nat) (onBus : Bool) (s : State) : State :=
  let s := headRemoval n .command onBus s
  if running s .io then putCan s n { canOf s n with result := 0 } else s
def canFlush (n : Nat) (onBus : Bool) (s : State) : State :=
  if running s .io = false then s
  else
    let x := canOf s n
    let s := putCan s n { x with fifo := x.fifo.take 1, result := 0 }
    headRemoval n .command onBus s

/-- The block has been asked to be idle: no new head is taken (R452). -/
def canAskedIdle (s : State) : Bool := blockIdle s .can

/-- CAN_FRAME_SENT (R446): the head has completed on the bus; an FD frame sent in error passive carries ESI (R438, R443). -/
def canSent (n time : Nat) (s : State) : State :=
  let x := canOf s n
  let asked := canAskedIdle s
  match x.fifo with
  | [] => s
  | f :: _ =>
    if canSends s n = false ∨ (x.suppress = true ∧ x.removal = none) ∨ (asked = true ∧ x.idled = true) then s
    else
      let echo := ((canCfg s n).map (·.txEcho)).getD false
      let esi := f.fdf && canPassive x
      let s := putCan s n (dropHead asked x)
      let s := if echo then ringWrite n true { f with esi := esi } time s else s
      canCounts n ((canOf s n).txErr - 1) (canOf s n).rxErr s

/-- An error frame on the bus: ERRFRAMES and CAN_LASTERR. -/
def errorFrame (n lec : Nat) (dataPhase : Bool) (s : State) : State :=
  let x := canOf s n
  putCan s n { x with errFrames := satAdd 65535 x.errFrames 1, lec := lec, dataPhase := dataPhase }

/-- The head's frame has ended in error: a removal that had fallen due takes it (R446). -/
def headFailed (n : Nat) (s : State) : State :=
  match (canOf s n).removal with
  | some w => removeHead n w s
  | none => s

/-- CAN_BUS_ERROR (R446, R448, R449). -/
def canBusEvent (n : Nat) (e : CanEvent) (s : State) : State :=
  let x := canOf s n
  match e with
  | .arbitrationLost => if canSends s n then headFailed n s else s
  | .overload => if canHears s n then putCan s n { x with errFrames := satAdd 65535 x.errFrames 1 } else s
  | .receiver lec dp byEight =>
    if canHears s n then canCounts n x.txErr (x.rxErr + (if byEight then 8 else 1)) (errorFrame n (lec.val + 1) dp s) else s
  | .sender lec dp exempt =>
    if canSends s n then
      headFailed n (canCounts n (if exempt then x.txErr else x.txErr + 8) x.rxErr (errorFrame n (lec.val + 1) dp s))
    else s
  | .delay clocks bit1 =>
    let brs := match x.fifo with | f :: _ => f.fdf && f.brs | [] => false
    let out := match canCfg s n with
      | some k => k.tdcEn && decide (k.dbrp * (1 + k.dtseg1 + k.dtseg2) < clocks.toNat + k.tdco)
      | none => false
    if canSends s n && brs && out then
      canRaise n 6 [] (headFailed n (canCounts n (x.txErr + 8) x.rxErr (errorFrame n (if bit1 then 4 else 5) true s)))
    else s

/-- HEAD_TMO_EXPIRY (R446, R448): not in bus-off, and not with HEAD_TMO 0. -/
def headTimeout (n : Nat) (onBus : Bool) (s : State) : State :=
  if (canOf s n).headTmo = 0 ∨ canState s n = 4 then s else headRemoval n .timeout onBus s

/-- RECOVER (R448). -/
def canRecover (n : Nat) (s : State) : State :=
  if running s .io then
    let x := canOf s n
    putCan s n { x with recovering := x.recovering || x.busOff, result := 0 }
  else s

/-- A command of CAN_TXCTL is applied: a PUSH takes the staging registers and is pending, the others act at once. -/
def canApply (n : Nat) (c : CanCmd) (s : State) : State :=
  let s := match c.tmo with | some t => putCan s n { canOf s n with headTmo := t } | none => s
  let told := c.onBus.isSome
  let onBus := c.onBus.getD (freeBool s)
  match c.cmd with
  | 1 => putCan s n { canOf s n with result := 15, pushing := some (canOf s n).stage }
  | 2 => canAbort n onBus (if told then s else drawn s)
  | 3 => canFlush n onBus (if told then s else drawn s)
  | 4 => canRecover n s
  | _ => s

/-- A command of CAN_TXCTL (R445, R548): while a push is pending the first is held and a further one is discarded, and counted in
EVT_BADACC where its requester is known. -/
def canCommand (n : Nat) (c : CanCmd) (s : State) : State :=
  let x := canOf s n
  if x.pushing.isNone then canApply n c s
  else if x.held.isNone then putCan s n { x with held := some c }
  else match c.by0 with
    | some req => badAccess req 3 (wordN (0x10000010 + n * 0x100000)) s
    | none => s

/-- A pending push is decided, and the command held behind it is applied. -/
def canDecide (n : Nat) (s : State) : State :=
  match (canOf s n).pushing with
  | none => s
  | some st =>
    let s := canPush n st s
    match (canOf s n).held with
    | some c => canApply n c (putCan s n { canOf s n with held := none })
    | none => s

/-- Every pending push is decided, while the block works. -/
def canDecideAll (s : State) : State :=
  if running s .io then (s.can.map (·.1)).foldl (fun s n => canDecide n s) s else s

/-- CAN_PUSH (R445): the push that is pending, or else one of the frame that is staged, is decided. -/
def canPushNow (n : Nat) (s : State) : State :=
  canDecide n (if (canOf s n).pushing.isSome then s else canApply n { cmd := 1 } s)

/-- BUS_OFF_RECOVERY (R448): with AUTO_RECOVER, or once RECOVER has been written. -/
def busOffRecovery (n : Nat) (s : State) : State :=
  let x := canOf s n
  let auto := ((canCfg s n).map (·.autoRecover)).getD false
  if canState s n = 4 ∧ (auto || x.recovering) = true then
    canRaise n 2 [] (putCan s n { x with busOff := false, recovering := false, txErr := 0, rxErr := 0 })
  else s

/-- BUS_INTEGRATION (R452). -/
def busIntegration (n : Nat) (s : State) : State :=
  if canState s n = 1 then putCan s n { canOf s n with integrating := false } else s

/-- A write of CAN_RX_RD (R444): not behind its present value and not ahead of CAN_RX_WR. -/
def rxRdWrite (n : Nat) (v : Word) (s : State) : State :=
  let x := canOf s n
  if running s .io ∧ (v - x.rxRd).toNat ≤ (x.rxWr - x.rxRd).toNat then putCan s n { x with rxRd := v } else s

/-! ## Reset (R452) -/

/-- A channel after a reset of the block: the RWS counts are kept through all but the power-on reset. -/
def canReset (por : Bool) (x : CanChannel) : CanChannel :=
  if por then {}
  else { ({} : CanChannel) with
    overflow := x.overflow, dropped := x.dropped, busOffs := x.busOffs, errFrames := x.errFrames, suppressed := x.suppressed }
def resetCan (por : Bool) (s : State) : State :=
  { s with can := tupdAll ({} : CanChannel) (s.can.map (·.1)) (fun _ x => canReset por x) s.can }

/-- The block leaves reset, or its configuration is loaded: HEAD_TMO from FIELDBUS, and SUPPRESS as the holder duty has it. -/
def canLoad (s : State) : State :=
  suppressAll (s.img.can.foldl (fun s k => putCan s k.no { canOf s k.no with headTmo := k.headTmo }) s)

/-! ## Registers -/

/-- A byte run as a word. -/
def ringEntryWord (e : CanEntry) (k : Nat) : Word :=
  match k with
  | 0 => loWord e.time | 1 => hiWord e.time | 2 => e.id | 3 => e.flags | 4 => e.seq
  | k => if k < 21 then wordN (leNat ((e.data.drop (4 * (k - 5))).take 4)) else 0

/-- A register of channel `n`'s window. -/
def canReg (s : State) (n off : Nat) : Option Word :=
  let x := canOf s n
  let cfg (f : CanCfg → Word) : Option Word := some (((canEntry s n).map f).getD 0)
  match off with
  | 0x000 => some (regOf [(31, 29, canState s n), (28, 28, b2n x.suppress), (22, 16, x.fifo.length), (15, 8, x.txErr), (7, 0, x.rxErr)])
  | 0x004 => cfg (fun k => regOf [(31, 31, b2n k.en), (30, 30, b2n k.fdEn), (29, 29, b2n k.shared), (28, 28, b2n k.txEcho),
      (27, 27, b2n k.autoRecover), (26, 26, b2n k.listen), (25, 25, b2n k.tdcEn), (15, 8, k.tdco)])
  | 0x008 => cfg (fun k => regOf [(31, 27, k.nbrp - 1), (26, 19, k.ntseg1 - 1), (18, 12, k.ntseg2 - 1), (11, 5, k.nsjw - 1)])
  | 0x00C => cfg (fun k => regOf [(31, 27, k.dbrp - 1), (26, 22, k.dtseg1 - 1), (21, 18, k.dtseg2 - 1), (17, 14, k.dsjw - 1)])
  | 0x010 => some (regOf [(27, 24, x.result), (15, 0, x.headTmo)])
  | 0x014 => some x.stage.id
  | 0x018 => some x.stage.flags
  | 0x020 => some x.rxWr
  | 0x024 => some x.rxRd
  | 0x028 => some (regOf [(31, 16, x.overflow), (15, 0, x.dropped)])
  | 0x02C => some (regOf [(23, 16, x.busOffs), (15, 0, x.errFrames)])
  | 0x030 => some (regOf [(31, 29, x.lec), (28, 28, b2n x.dataPhase)])
  | 0x034 => some (wordN x.suppressed)
  | o =>
    if o % 4 ≠ 0 then none
    else if 0x040 ≤ o ∧ o < 0x080 then some (tget 0 x.stage.data ((o - 0x040) / 4))
    else if 0x80000 ≤ o ∧ o < 0x100000 then
      some (match tget none x.ring ((o - 0x80000) / 128) with
        | some e => ringEntryWord e ((o - 0x80000) % 128 / 4)
        | none => 0)
    else none

/-- A write to channel `n`'s window: CMD and HEAD_TMO of CAN_TXCTL, the staged frame, CAN_RX_RD, CLEAR. -/
def canWrite (req : Requester) (n off : Nat) (v : Word) (s : State) : State :=
  let x := canOf s n
  if running s .io = false then s
  else match off with
  | 0x010 =>
    if 1 ≤ fld v 31 28 ∧ fld v 31 28 ≤ 4 then
      canCommand n { cmd := fld v 31 28, tmo := some (fld v 15 0), by0 := some req } s
    else putCan s n { x with headTmo := fld v 15 0 }
  | 0x014 => putCan s n { x with stage := { x.stage with id := v &&& maskOf 28 0 } }
  | 0x018 => putCan s n { x with stage := { x.stage with flags := v &&& (maskOf 31 26 ||| maskOf 15 8 ||| maskOf 3 0) } }
  | 0x024 => rxRdWrite n v s
  | 0x02C => if bitAt v 31 then
      putCan s n { x with overflow := 0, dropped := 0, busOffs := 0, errFrames := 0, suppressed := 0 } else s
  | o => if 0x040 ≤ o ∧ o < 0x080 ∧ o % 4 = 0 then putCan s n { x with stage := { x.stage with data := tset 0 x.stage.data ((o - 0x040) / 4) v } } else s

end Sys2Proof.Machine
end

