-- ==== Sys2Proof/Machine/PortOps.lean ====
section
/-! DEFINITION. What leaves by the Ethernet ports: the frames that wait, their gates, and the two LANs of a pair (R455 to R464). -/
namespace Sys2Proof.Machine

/-! ## Ports and what waits for them (R455 to R457, R464) -/

def netPort (s : State) (p : Nat) : NetPort := tget ({} : NetPort) s.net.ports p
def putNetPort (s : State) (p : Nat) (x : NetPort) : State :=
  { s with net := { s.net with ports := tset ({} : NetPort) s.net.ports p x } }
def portCfg (s : State) (p : Nat) : Option PortCfg := s.img.network.ports.find? (fun k => decide (k.no = p))

/-- The enabled ports of PRP pair `k`, LAN A first; a port that NETWORK does not leave out of its pair; and those of pair `k`. -/
def pairPorts (s : State) (k : Nat) : List Nat := [2 * k, 2 * k + 1].filter (fun p => (portCfg s p).isSome)
def onLan (s : State) (p : Nat) : Bool := (portCfg s p).any (·.paired)
def lanPorts (s : State) (k : Nat) : List Nat := (pairPorts s k).filter (onLan s)

/-- A port is UP. -/
def portUp (s : State) (p : Nat) : Bool :=
  running s .io && (portCfg s p).isSome && decide ((netPort s p).state = .up)

/-- The traffic class of a frame (R459): 7 of station frames, waggle copies and gPTP messages; PRP supervision frames and datagrams
take class 0 (log entry 134). -/
def frameClass : NetFrame → Nat
  | .station _ _ _ | .waggle _ _ | .gptp _ => 7
  | .supervision _ _ | .page _ _ => 0

/-- The VLAN priority a frame carries (R459): 7 with class 7; the others go untagged. -/
def framePrio (f : NetFrame) : Option Nat := if frameClass f = 7 then some 7 else none

/-- The bytes of a frame on the wire, its MAC header, tag, trailer and FCS included, at least 64 (R455, R460). -/
def frameLength : NetFrame → Nat
  | .station f checks _ => Nat.max 64 (24 + 24 + 4 * f.payload.length + 8 * checks.length + 4 + 4)
  | .waggle _ _ => 24 + 24 + 64 + 4 + 4
  | .supervision _ _ => 64
  | .gptp _ => 86
  | .page _ d => 14 + 20 + 8 + d.length + 6 + 4

/-- The time a frame takes on a port, in ns rounded up, with its preamble and gap of 20 bytes. -/
def frameTime (c : PortCfg) (f : NetFrame) : Nat := (8 * (frameLength f + 20) + (if c.fast then 24 else 9)) / (if c.fast then 25 else 10)

/-- The entry of a gate control list that stands `t` ns into the cycle, and what is left of it; the last one lasts to the cycle's end. -/
def gateAt : List GateEntry → Nat → Nat → Option (GateEntry × Nat)
  | [], _, _ => none
  | [g], t, off => some (g, 250000 - off - t)
  | g :: h :: r, t, off => if t < g.ns then some (g, g.ns - t) else gateAt (h :: r) (t - g.ns) (off + g.ns)

/-- Where the windows of class 7 alone begin, in ns from the cycle's start. -/
def windowStarts : List GateEntry → Nat → List Nat
  | [], _ => []
  | g :: r, off => (if g.classes = 0x80 then [off] else []) ++ windowStarts r (off + g.ns)

/-- How long it is from `t` in the cycle to the next window of class 7, where the list has one. -/
def nextWindow (gs : List GateEntry) (t : Nat) : Option Nat :=
  ((windowStarts gs 0).map (fun w => if t < w then w - t else w + 250000 - t)).min?

/-- A port lets a frame start now (R459): the gate of its class is open, and a frame of another class ends before the next window of class
7. A port without a list has every gate open (log entry 134). -/
def gateOpen (s : State) (c : PortCfg) (f : NetFrame) : Bool :=
  let gs := c.gates.take 16
  let t := devTime s % 250000
  match gateAt gs t 0 with
  | none => true
  | some (g, _) =>
    g.classes.getLsbD (frameClass f)
      && (decide (frameClass f = 7) || (match nextWindow gs t with | some d => decide (frameTime c f ≤ d) | none => true))

/-- A frame leaves by a port of its pair, from address base + k, with its trailer where the port is one of its pair's LANs (R455,
R456). -/
def portSend (p : Nat) (e : NetQueued) (s : State) : State :=
  putNetPort s p { netPort s p with
    sent := some e.frame, dropping := false, sentSrc := Config.macBase + BitVec.ofNat 48 e.pair, sentPrio := framePrio e.frame
    sentRct := if onLan s p then e.rct else none }

/-- An entry may leave by a port now. -/
def leavesNow (s : State) (p : Nat) (e : NetQueued) : Bool :=
  e.ports.contains p && (match portCfg s p with | some c => gateOpen s c e.frame | none => false)

/-- An entry has left by a port, or has been dropped there. -/
def unqueue (p : Nat) (e : NetQueued) : NetQueued := { e with ports := e.ports.filter (fun q => decide (q ≠ p)) }

/-- The frames that wait for a port leave by it in order, as it is UP and as their gates are open (R457, R459). -/
def drainPort (p : Nat) (s : State) : State :=
  if portUp s p then
    let go := s.net.queue.filter (leavesNow s p)
    let rest := (s.net.queue.map (fun e => if leavesNow s p e then unqueue p e else e)).filter (fun e => decide (e.ports ≠ []))
    go.foldl (fun s e => portSend p e s) { s with net := { s.net with queue := rest } }
  else s

/-- A turn of the gates: every port sends what it may. -/
def gateTurn (s : State) : State := if s.net.queue = [] then s else (List.range 8).foldl (fun s p => drainPort p s) s

def isStationFrame : NetFrame → Bool
  | .station _ _ _ => true
  | _ => false

/-- The ports that a frame of pair `k` leaves by (R456): both LANs and a port left out of the pair, which sends without a trailer; a
supervision frame the LANs alone. -/
def framePorts (s : State) (k : Nat) : NetFrame → List Nat
  | .supervision _ _ => lanPorts s k
  | _ => pairPorts s k

/-- A frame is sent on both LANs of a pair under one trailer number (R456): at once by a port that is UP and whose gate is open, else held
for it (R457, R459). A station frame that finds the queue of 512 full is dropped and counted (R464). The answer tells whether it was
refused. -/
def pairSend (k : Nat) (f : NetFrame) (s : State) : State × Bool :=
  let ports := framePorts s k f
  let held := (s.net.queue.filter (fun e => decide (e.pair = k) && isStationFrame e.frame)).length
  if isStationFrame f ∧ 512 ≤ held then
    (putNetPort s (2 * k) { netPort s (2 * k) with held := satAdd 65535 (netPort s (2 * k)).held 1 }, true)
  else
    let n := tget 0 s.net.rct k
    let lan := ports.any (onLan s)
    let e : NetQueued := { frame := f, pair := k, ports := ports, rct := if lan then some n else none }
    let s : State := { s with net := { s.net with
      rct := if lan then tset 0 s.net.rct k ((n + 1) % 65536) else s.net.rct, queue := if ports = [] then s.net.queue else s.net.queue ++ [e] } }
    (ports.foldl (fun s p => drainPort p s) s, false)

/-- Frames that wait are dropped: all of them, or those of stations (log entry 134). -/
def clearQueue (all : Bool) (s : State) : State :=
  { s with net := { s.net with queue := if all then [] else s.net.queue.filter (fun e => !(isStationFrame e.frame)) } }

/-! ## gPTP (R458) -/

/-- priority1 of NETWORK; by default 100 at module 0 and 101 at module 1 (R458). -/
def ownPriority (s : State) : Nat := s.img.network.priority1.getD (if s.pins.pairSel then 101 else 100)

/-- A gPTP message is sent by one port, on its own network, without a trailer. -/
def gptpSend (p : Nat) (m : GptpMsg) (s : State) : State :=
  drainPort p { s with net := { s.net with
    queue := s.net.queue ++ [{ frame := .gptp m, pair := p / 2, ports := [p] }] } }

/-- What the module sends as a grandmaster-capable system while its device time goes on from `before` (R458): on each port that is UP and
whose network has no better grandmaster, an announce at every second and its time at every 125 ms (PRESUMED, log entry 168). -/
def gptpTurn (before : Nat) (s : State) : State :=
  let t := devTime s
  let due (n : Nat) : Bool := decide (before / n ≠ t / n)
  if s.net.gone = true ∨ due 125000000 = false then s
  else
    let ps := (List.range 8).filter (fun p => portUp s p && decide (tget none s.tmb.lanGm p ≠ some false))
    let s := if due 1000000000 then
        ps.foldl (fun s p => gptpSend p (.announce 0 (BitVec.ofNat 8 (ownPriority s))) s) s
      else s
    ps.foldl (fun s p => gptpSend p (.time 0 (t / 1000000000) 0) s) s

end Sys2Proof.Machine
end

