-- ==== Sys2Proof/Machine/Duty.lean ====
section
/-! DEFINITION. Holder and standby duties: fitness, sending, release, handover and silence (R31, R468 to R478). -/
namespace Sys2Proof.Machine

/-- The task tables in force (R185): that of the loaded image, and during a handover the new set's entries for each CE that has switched.
DESIGN CHOICE, log entry 151: a task that the new table moves to another CE is its old CE's until that one has switched. -/
def tableInForce (s : State) : List TaskCfg :=
  match s.cyc.next with
  | none => s.img.tasks
  | some c =>
    let old := s.img.tasks.filter (fun x => !(s.cyc.switched.contains x.ce))
    old ++ c.tasks.filter (fun x => s.cyc.switched.contains x.ce && !((old.map (·.task)).contains x.task))

/-- A lift task of the tables in force is STOPPED (R194). -/
def liftStopped (s : State) : Bool :=
  (tableInForce s).any (fun c => decide (c.cls = 0) && decide ((tget ({} : Task) s.cyc.tasks c.task).state = .stopped))

/-- A book other than the credits has stayed faulted for 10 ms (R110). -/
def booksLost (s : State) : Bool := (s.trs.bookRun.drop 1).any (fun n => decide (10 ≤ n))

/-- A field of the partner's last waggle, while one has arrived within 300 µs. -/
def partnerHas (s : State) (f : Waggle → Bool) : Bool :=
  match s.net.partner with
  | some w => hasPartner s && f w
  | none => false

/-- FIT (R469): a module in Smoke counts as not fit (R538). -/
def fit (s : State) : Bool :=
  decide (serviceSet s.dies = 3) && !s.rst.floorLost && !(booksLost s) && !(liftStopped s) && decide (s.net.verdict = 1)
    && (decide (s.trs.therm ≤ 2) || partnerHas s (fun w => decide (w.therm = 3)))
    && !(s.frm.bench && partnerHas s (fun w => !w.bench)) && decide (s.kpr.smoke = .run) && !s.net.gone

/-- The partner can take the holder duty: it is there, fit, and no resynchronisation of it is open or was stopped (R470, R485). -/
def partnerUsable (s : State) : Bool := partnerHas s (fun w => w.fit && !w.gone) && !s.net.resyncing && !s.net.stale

/-- SENDING (R470, R472, R473). -/
def sending (s : State) : Bool :=
  running s .io && !s.net.gone && !(s.net.clash && !s.net.clashHeld)
    && (if s.net.holder then decide (s.net.release ≠ some .unfit) else fit s && s.net.synced && !s.net.mixed)

/-- RELEASE as waggles carry it: of the holder duty, or of a standby's share. -/
def releasing (s : State) : Bool := s.net.release.isSome || (!s.net.holder && s.net.synced && !(fit s))

/-- The waggle that a module sends now (R476). -/
def waggleNow (s : State) : Waggle := {
  count := s.net.count, holder := s.net.holder, release := releasing s, fit := fit s, sending := sending s, bench := s.frm.bench,
  forced := s.pins.forced, gone := s.net.gone, modul := s.pins.pairSel, set := BitVec.ofNat 4 (serviceSet s.dies),
  therm := BitVec.ofNat 2 s.trs.therm, verdict := BitVec.ofNat 2 s.net.verdict, sentAt := BitVec.ofNat 64 (devTime s),
  digest := BitVec.ofNat 64 (leNat (s.frm.digest.take 8)), outDigest := s.net.outDigest }

/-- Bytes 0 to 59 of a waggle, and its CRC-32C (R476). -/
def waggleBytes (w : Waggle) : List Byte :=
  leBytes 4 w.count.toNat
    ++ [BitVec.ofNat 8 (b2n w.holder + 2 * b2n w.release + 4 * b2n w.fit + 8 * b2n w.sending + 16 * b2n w.bench + 32 * b2n w.forced
          + 64 * b2n w.gone + 128 * b2n w.modul),
        BitVec.ofNat 8 (w.set.toNat + 16 * w.therm.toNat + 64 * w.verdict.toNat)]
    ++ leBytes 2 0 ++ leBytes 8 w.sentAt.toNat ++ leBytes 8 w.digest.toNat ++ leBytes 8 w.outDigest.toNat ++ leBytes 28 0
def waggleCrc (w : Waggle) : Word := crc32c (waggleBytes w)

/-- The holder duty changes, with its CAUSE (R471, R486). -/
def dutyChange (holder : Bool) (cause : Nat) (s : State) : State :=
  suppressAll (raise 2842 [wordN cause] { s with net := { s.net with
    holder := holder, release := none, take := none, cause := cause, handovers := satAdd 255 s.net.handovers 1 } })

/-- The module goes silent (R478): it gives up its duties and sends one last waggle, with GONE, on every path (R476). -/
def goSilent (s : State) : State :=
  if s.net.gone then s
  else
    let s := if s.net.holder then dutyChange false s.net.cause s else s
    let s : State := { s with
      net := { s.net with gone := true, release := none, take := none, synced := false, resyncing := false }
      pins := { s.pins with faultKeeper := true } }
    let w := waggleNow s
    let s : State := if running s .io then
        (pairSend 0 (.waggle w (waggleCrc w)) (clearQueue true { s with net := { s.net with sent := some w, count := s.net.count + 1 } })).1
      else s
    raise 2849 [] (suppressAll s)

/-- HANDOVER and RESYNC as they are decided (R474, R482). -/
def pairStart (cmd : Nat) (s : State) : State :=
  let answer (r : Nat) : State := { s with net := { s.net with result := r } }
  match cmd with
  | 1 =>
    if s.net.holder = false then answer 1
    else if s.net.clash ∨ s.net.lualasOk = false ∨ partnerUsable s = false then answer 2
    else if s.net.mixed ∧ s.frm.presence = false then answer 3
    else suppressAll { s with net := { s.net with result := 15, release := some .handover, releaseAt := devTime s } }
  | 2 =>
    { s with net := { s.net with
        result := 0, resyncing := hasPartner s && !s.net.mixed, synced := s.net.synced && s.net.holder, stale := false } }
  | _ => s

/-- A pending HANDOVER is decided; a command held behind it follows (R548). -/
def pairDecided (r : Nat) (s : State) : State :=
  if s.net.result = 15 then
    let held := s.net.heldCmd
    let s : State := { s with net := { s.net with result := r, heldCmd := none } }
    match held with
    | some (c, _) => pairStart c s
    | none => s
  else s

/-- A release ends without the duty having moved: the module keeps its duties (R470, R485). -/
def keepDuty (r : Nat) (s : State) : State := pairDecided r (suppressAll { s with net := { s.net with release := none } })

/-- The holder's release begins, goes on or ends, as the module's own fitness and its partner's have it (R470, R472, R485). -/
def releaseUpdate (s : State) : State :=
  if s.net.holder = false ∨ s.net.clash = true then s
  else match s.net.release with
    | some .unfit => if partnerUsable s then s else keepDuty 2 s
    | some .handover =>
      if partnerUsable s = false then keepDuty 2 s
      else if s.net.mixed ∧ s.frm.presence = false then keepDuty 3 s
      else s
    | none =>
      if fit s then s
      else if s.net.resyncing then { s with net := { s.net with resyncing := false, stale := true } }
      else if partnerUsable s then
        suppressAll (clearQueue false { s with net := { s.net with release := some .unfit, releaseAt := devTime s } })
      else s

/-- THAWING ends at once, or with the resynchronisation it has started (R538): event source 135. -/
def smokeSettle (s : State) : State :=
  if s.kpr.smoke = .thawing ∧ s.net.resyncing = false then
    raise 135 [] { s with kpr := { s.kpr with smoke := .run } }
  else s

/-- The module's fitness is assessed anew, after anything that R469 rests on has changed. -/
def reassess (s : State) : State :=
  let s := smokeSettle s
  let st := serviceSet s.dies
  let f := fit s
  let fell := decide (st ≤ 1) && decide (2 ≤ s.net.lastSet)
  let s : State := { s with net := { s.net with
    lastSet := st, wasFit := f, releaseAt := if s.net.wasFit && !f then devTime s else s.net.releaseAt } }
  releaseUpdate (if fell then goSilent s else s)

end Sys2Proof.Machine
end

