-- ==== Sys2Proof/Machine/ImageOps.lean ====
section
/-! DEFINITION. Frame images: the Quaren container (R118, R119), the manifest (R120, R121), the limits of R135, R186 and
R216, and the structural change log (R140, R141). -/
namespace Sys2Proof.Machine

/-- The bytes and length of a program-store bank set: false is A. -/
def bankBytes (f : Frm) (set : Bool) : Tab Byte := if set then f.setB else f.setA
def bankLen (f : Frm) (set : Bool) : Nat := if set then f.lenB else f.lenA

/-- A little-endian number of `n` bytes at an offset of a bank set. -/
def leAt (m : Tab Byte) (off n : Nat) : Nat := leNat (readBytes m off n)

/-- One entry of the section table (R118). -/
structure SectionEntry where
  typ : Nat
  off : Nat
  len : Nat
  crc : Word
  zero : Nat
deriving DecidableEq, Repr

/-- Entry `i` of the section table: TYPE, SECTION_FORMAT, OFFSET, LENGTH, CRC, zero. -/
def sectionEntry (m : Tab Byte) (i : Nat) : SectionEntry :=
  let b := 64 + 32 * i
  { typ := leAt m b 4, off := leAt m (b + 8) 8, len := leAt m (b + 16) 8, crc := wordN (leAt m (b + 24) 4),
    zero := leAt m (b + 28) 4 }

/-- The section table of a container. -/
def sectionTable (m : Tab Byte) : List SectionEntry := (List.range (leAt m 6 2)).map (sectionEntry m)

/-- The bytes of a section. -/
def sectionBytes (m : Tab Byte) (e : SectionEntry) : List Byte := readBytes m e.off e.len

/-- Types that R119 lists, and those of them that must be present. -/
def sectionTypes : List Nat := [1, 2, 3, 4, 5, 6, 7, 8, 9, 10, 11, 12, 13, 15]
def sectionRequired : List Nat := [1, 2, 8, 9, 12, 13, 15]

/-- Section types of class structural (R119). -/
def sectionStructural : List Nat := [1, 4, 5, 6, 7, 8, 9, 10, 11, 12]

/-- Numbers strictly rising. -/
def rising : List Nat → Bool
  | [] => true
  | [_] => true
  | a :: b :: t => decide (a < b) && rising (b :: t)

/-- Sections follow one another on 4 KiB boundaries inside the container, with zero bytes between them. -/
def sectionsPlaced (m : Tab Byte) (total : Nat) : Nat → List SectionEntry → Bool
  | _, [] => true
  | stop, e :: es =>
    decide (stop ≤ e.off) && decide (e.off % 4096 = 0) && decide (e.off + e.len ≤ total)
      && (readBytes m stop (e.off - stop)).all (fun b => decide (b = 0)) && sectionsPlaced m total (e.off + e.len) es

/-- The entry of a section type, if the container has it. -/
def findSection (m : Tab Byte) (typ : Nat) : Option SectionEntry :=
  firstSome (fun e => if e.typ = typ then some e else none) (sectionTable m)

/-- Bytes of the MANIFEST section at an offset in it (R120). -/
def manifestBytes (m : Tab Byte) (off n : Nat) : List Byte :=
  match findSection m 15 with
  | some e => readBytes m (e.off + off) n
  | none => []

/-- Values that R118 and R120 give and no step of R134 names: the header's FLAGS bits 31:1 and its last 16 bytes are 0, the MANIFEST is
1,208 bytes long and its RELEASE_FLAGS are 0. DESIGN CHOICE, log entry 119: a container without them fails step 1. -/
def headerZeros (m : Tab Byte) : Bool :=
  decide (leAt m 20 4 < 2) && decide (leAt m 48 16 = 0) && decide ((findSection m 15).map (·.len) = some 1208)
    && decide (leNat (manifestBytes m 4 4) = 0)

/-- Step 1 of R134: the container. -/
def containerOk (m : Tab Byte) (stored : Nat) : Bool :=
  let t := sectionTable m
  let n := leAt m 6 2
  decide (readBytes m 0 4 = [0x51, 0x52, 0x4E, 0x1A]) && decide (leAt m 4 2 = 1) && decide (7 ≤ n) && decide (n ≤ 14)
    && decide (leAt m 8 8 = stored) && decide (stored ≤ 134217728)
    && t.all (fun e => sectionTypes.contains e.typ && decide (e.zero = 0)) && rising (t.map (·.typ))
    && sectionRequired.all (fun k => (t.map (·.typ)).contains k)
    && sectionsPlaced m stored (64 + 32 * n) t
    && t.all (fun e => decide (crc32c (sectionBytes m e) = e.crc)) && headerZeros m

/-- RELEASE_ID of a manifest (R120). -/
def manifestRelease (m : Tab Byte) : Word := wordN (leNat (manifestBytes m 0 4))

/-- The frame digest, computed over the container up to the MANIFEST section (R121); zeros of bytes that are no container. -/
def frameDigest (m : Tab Byte) : List Byte :=
  match findSection m 15 with
  | some e => sha384 (readBytes m 0 e.off)
  | none => List.replicate 48 0

/-- The section digest slot of type `k` in a manifest: zero bytes for an absent type. -/
def digestSlot (m : Tab Byte) (k : Nat) : List Byte := manifestBytes m (344 + 48 * k) 48

/-- Step 5 of R134: the frame digest and every section digest equal the manifest. -/
def digestsOk (m : Tab Byte) : Bool :=
  decide (frameDigest m = manifestBytes m 296 48)
    && (List.range 16).all (fun k =>
      match findSection m k with
      | some e => if k = 15 then decide (digestSlot m k = List.replicate 48 0)
                  else decide (digestSlot m k = sha384 (sectionBytes m e))
      | none => decide (digestSlot m k = List.replicate 48 0))

/-- Step 3 of R134: the vendor signature verifies under the key whose digest is fused (R122); the key travels in the
running Keeper firmware image (R516). -/
def vendorOk (s : State) (m : Tab Byte) : Bool :=
  let key := readBytes (if s.kpr.running then s.kpr.slotB else s.kpr.slotA) 16 97
  decide (sha384 key = Config.releaseKeyDigest)
    && ecdsaP384 key (manifestBytes m 0 200) (manifestBytes m 200 96)

/-- The enrolled installation keys (R123). -/
def enrolledKeys (f : Frm) : List (List Byte) := [f.key0, f.key1].filterMap id

/-- Step 4 of R134: the installation signature verifies under an enrolled key. -/
def installOk (f : Frm) (m : Tab Byte) : Bool :=
  (enrolledKeys f).any (fun k => ecdsaP384 k (manifestBytes m 0 1112) (manifestBytes m 1112 96))

/-- One 32-byte entry of the task table (R185), with the sources and destinations of its words, which other parts of the CODE section
hold. -/
def taskEntry (bs : List Byte) (x : TaskCfg) : TaskCfg :=
  let f (off n : Nat) : Nat := leNat ((bs.drop off).take n)
  { x with
    task := f 0 1, ce := f 1 1, cls := f 2 1, prio := f 3 1, period := f 4 4, phase := f 8 4, ovrLimit := f 12 1
    errorTask := f 13 1, edgeWords := f 14 2, entry := wordN (f 16 4), inBase := f 20 4, inSize := f 24 2
    outSize := f 26 2, outBase := f 28 4 }

/-- The task table of a CODE section: its entries, each with the words that its task number names. -/
def taskTable (bs : List Byte) (words : List TaskCfg) : List TaskCfg :=
  (List.range (bs.length / 32)).map (fun i =>
    let e := (bs.drop (32 * i)).take 32
    taskEntry e ((words.find? (fun x => decide (x.task = leNat (e.take 1)))).getD default))

/-- What a container's sections hold. -/
def contentOf (m : Tab Byte) : ImageContent :=
  let c := Config.imageContent ((sectionTable m).map (fun e => (e.typ, sectionBytes m e)))
  { c with tasks := taskTable (Config.taskTable (((findSection m 2).map (sectionBytes m)).getD [])) c.tasks }

/-- The first entry of a list that breaks a rule, as (section type, entry index). -/
def breaksAt {α : Type} (sec : Nat) (bad : α → Bool) (l : List α) : Option (Nat × Nat) :=
  firstSome (fun p => if bad p.2 then some (sec, p.1) else none) (numbered l)

/-- A broken limit of a section as a whole: index 0. -/
def breaksIf (sec : Nat) (b : Bool) : Option (Nat × Nat) := if b then some (sec, 0) else none

/-- How often a number stands in a list. -/
def countIn (n : Nat) (l : List Nat) : Nat := (l.filter (fun x => decide (x = n))).length

/-- The role of a CE in a frame image. -/
def roleOf (c : ImageContent) (ce : Nat) : Option CeRole :=
  (c.roles.find? (fun r => decide (r.ce = ce))).map (·.role)

/-- The CEs with the planner role of a group. -/
def plannersOf (c : ImageContent) (g : Nat) : List Nat :=
  (c.roles.filter (fun r => decide (r.role = .planner g))).map (·.ce)

/-- R33: the planner CEs of one group lie on one compute die. -/
def plannersTogether (c : ImageContent) (g : Nat) : Bool :=
  let p := plannersOf c g
  p.all (fun n => decide (n < 64)) || p.all (fun n => decide (64 ≤ n))

/-- R34: a tile with a sandbox CE holds only sandbox CEs. -/
def tilesWhole (c : ImageContent) : Bool :=
  (List.range 32).all (fun t =>
    let sb := (List.range 4).map (fun i => decide (roleOf c (4 * t + i) = some .sandbox))
    sb.all id || sb.all not)

/-- Banks the frame image may not assign (R135). -/
def banksTaken : List Nat := [0, 1, 2, 3, 4, 5, 6, 7, 8, 16, 17, 24]

/-- A save area: three whole banks of one chiplet (R84), of those that the image may assign (R17). -/
def saveAreaOk (banks : List Nat) : Bool :=
  decide (banks.length = 3) && rising banks
    && banks.all (fun b => decide (b < 32) && decide (b / 8 = banks.headD 0 / 8) && !(banksTaken.contains b))

/-- Task CLASS as the role of a CE allows it (R186, R229): lift 0, BA 1 and 2, sandbox 3 alone; an error task goes with a lift
or a BA task. -/
def classFits (role : Option CeRole) (cls : Nat) : Bool :=
  match role with
  | some .lift => decide (cls = 0 ∨ cls = 4) | some .ba => decide (cls = 1 ∨ cls = 2 ∨ cls = 4)
  | some .sandbox => decide (cls = 3) | _ => false

/-- A number outside a range. -/
def outside (lo hi n : Nat) : Bool := decide (n < lo) || decide (hi < n)

/-- A field of a task's entry outside its range (R185); its areas lie in data SRAM. -/
def entryBreaks (t : TaskCfg) : Bool :=
  outside 0 4 t.cls || outside 0 15 t.prio || outside 0 127 t.ce
    || (if t.cls = 4 then decide (t.period ≠ 0 ∨ t.phase ≠ 0)
        else outside (if t.cls = 0 then 1 else 40) 40000 t.period || decide (t.period ≤ t.phase))
    || outside 1 15 t.ovrLimit || decide (64 < t.edgeWords)
    || decide (t.inBase % 64 ≠ 0 ∨ t.inSize % 64 ≠ 0 ∨ t.outSize % 64 ≠ 0 ∨ t.outBase % 64 ≠ 0)
    || outside 64 4096 t.inSize || outside 0 4096 t.outSize
    || decide (0x80000 < t.inBase + t.inSize ∨ 0x80000 < t.outBase + t.outSize)

/-- A task that breaks a rule of R185, R186 or R229. -/
def taskBreaks (c : ImageContent) (t : TaskCfg) : Bool :=
  let role := roleOf c t.ce
  let scratch := c.roles.any (fun r => decide (r.ce = t.ce ∧ r.cls = .scratch))
  let others := c.tasks.filter (fun u => decide (u.task ≠ t.task))
  decide (240 ≤ t.task) || entryBreaks t || decide (8 < (c.tasks.filter (fun u => decide (u.ce = t.ce))).length) || !(classFits role t.cls)
    || scratch || decide (countIn t.task (c.tasks.map (·.task)) ≠ 1)
    || (decide (t.errorTask ≠ 255) && !(c.tasks.any (fun e => decide (e.task = t.errorTask ∧ e.ce = t.ce ∧ e.cls = 4))))
    || t.outs.any (fun d => decide (d ≠ .none) && others.any (fun u => u.outs.contains d))
    || (decide (role = some .sandbox) && decide (t.outSize ≠ 0))

/-- A sandbox CE that breaks R229: bound twice, to tenant 0 or to a tenant that TENANTS does not define, or not of the pool. -/
def sandboxBreaks (c : ImageContent) (x : SandboxCfg) : Bool :=
  decide (countIn x.ce (c.sandbox.map (·.ce)) ≠ 1) || decide (x.tenant = 0) || !((c.tenants.map (·.no)).contains x.tenant)
    || decide (roleOf c x.ce ≠ some .sandbox)

/-- A car whose limits break R251 or R252. -/
def carBreaks (k : CarCfg) : Bool :=
  outside 100 20000 k.vmax || outside 100 20000 k.vbreak || outside 100 2500 k.a1 || outside 100 k.a1 k.a2
    || outside 100 5000 k.jerk || outside 0 100 k.vstart || outside 0 100 k.vstop || outside 1 8 k.lead
    || outside 0 255 k.settle || outside 1 4095 k.levelTol || outside 1 4095 k.followLim
    || ((decide (k.adjV ≠ 0 ∨ k.adjA ≠ 0 ∨ k.deckSpacing ≠ 0) || !k.pairs.isEmpty) && (outside 10 500 k.adjV || outside 10 1000 k.adjA || outside 2000 8000 k.deckSpacing))
    || (decide (k.vbreak < k.vmax)
      && (decide (2 * k.jerk * (k.vbreak - Nat.max k.vstart k.vstop) + k.a2 * k.a2 < 2 * k.a1 * k.a1)
        || decide (2 * k.jerk * (k.vmax - k.vbreak) < k.a2 * k.a2)))

/-- OWNER of a point's CONFIG word (R215). -/
def PointCfg.owner (c : PointCfg) : Nat := fld (c.words.getD 4 0) 9 0

/-- A block of POINTS that breaks R216: no home tile, a tile with more than 32 blocks, or a tenant-0 slot on a sandbox
tile. -/
def blockBreaks (c : ImageContent) (h : Nat × Nat) : Bool :=
  let here := c.points.filter (fun p => decide (p.slot / 256 = h.1))
  decide (32 ≤ h.2) || decide (32 < (c.homes.filter (fun g => decide (g.2 = h.2))).length)
    || decide (countIn h.1 (c.homes.map (·.1)) ≠ 1)
    || (decide (roleOf c (4 * h.2) = some .sandbox) && here.any (fun p => decide (p.owner = 0)))
def blocksBreak (c : ImageContent) : Option (Nat × Nat) :=
  match c.homes.find? (blockBreaks c) with
  | some h => some (6, h.1)
  | none => (c.points.find? (fun p => !((c.homes.map (·.1)).contains (p.slot / 256)))).map (fun p => (6, p.slot / 256))

/-- A car without both of its sources, or a local interface that two cars name (R286). -/
def feedbackBreaks (c : ImageContent) (k : CarCfg) : Bool :=
  let mine := c.feedback.filter (fun x => decide (x.car = k.no))
  decide (mine.length ≠ 1) || mine.any (fun x =>
    (!x.absStn && (decide (16 ≤ x.absNum)
      || decide (1 < (c.feedback.filter (fun y => !y.absStn && decide (y.absNum = x.absNum))).length)))
    || (!x.quadStn && (decide (16 ≤ x.quadNum)
      || decide (1 < (c.feedback.filter (fun y => !y.quadStn && decide (y.quadNum = x.quadNum))).length))))

/-- A door whose values break R319 or R320. -/
def doorBreaks (k : DoorCfg) : Bool :=
  outside 200 3000 k.stroke || outside 100 6000 k.mass || outside 1000 100000 k.ecPitch || outside 0 1023 k.elecOff
    || outside 50 1000 k.vopen || outside 50 1000 k.vclose || outside 50 1000 k.vopenDef || outside 100 3000 k.acc
    || outside 100 5000 k.decRev || outside 5 100 k.creepV || outside 0 100 k.creepD || outside 1 1000 k.endTol
    || outside 10 100 k.ekLim || outside 10 k.ekLim k.ekNudge || outside 50 150 k.forceLim || outside 20 k.forceLim k.obstN
    || outside 1 255 k.kf || outside 0 255 k.friction || outside 0 8000 k.ampQ || outside 0 8000 k.ampS
    || outside 0 8000 k.ampHold || outside 10 2000 k.bandQ || outside 10 2000 k.bandS || outside 0 255 k.koff
    || outside 0 1000 k.offMax || outside 1 (k.ecPitch / 40) k.stallLim || outside 1 8 k.dlead || outside 0 255 k.revLimit
    || (k.isHeavy && (outside 50 1000 k.vqs || outside 10 255 k.vhys)) || outside 0 500 k.adoDist
    || (decide (k.adoDist ≠ 0) && outside 100 800 k.adoVmax)
    || decide (8000 * k.forceLim < k.mass * k.acc) || decide (k.ampS < (k.forceLim + k.friction) * 1000 / k.kf)

/-- The first channel of the field table outside the ranges of its chapter (R415, R418, R428, R429, R431) or too wide for its register
field, by the numbers of R415. -/
def fieldBreaks (f : FieldCfg) : Option Nat :=
  firstSome id [
    (f.ins.find? (fun k => decide (48 ≤ k.no) || decide (3 < k.typ) || outside 0 255 k.filt
      || (decide (k.typ = 0) && (outside 40 255 k.von || outside 20 (k.von - 10) k.voff)))).map (·.no),
    (f.outs.find? (fun k => decide (24 ≤ k.no))).map (fun k => 100 + k.no),
    (f.coils.find? (fun k => decide (16 ≤ k.no) || decide (3 < k.mode)
      || decide (65535 < k.tPull) || decide (65535 < k.iTrip) || decide (4095 < k.iPull) || decide (4095 < k.iHold)
      || [k.band, k.koff, k.shunt, k.offMax, k.vQs, k.vHys, k.ampQ, k.ampS].any (fun x => decide (255 < x))
      || decide (65535 < k.vmax) || decide (65535 < k.acc)
      || (decide (k.mode ≠ 0) && (outside 1 255 k.shunt || decide (16000 < k.iTrip * k.shunt)))
      || (decide (k.mode = 2) && (decide (8 ≤ k.no) || decide (k.no % 2 = 1)
        || !(f.coils.any (fun j => decide (j.no = k.no + 1 ∧ j.mode = 3)))))
      || (decide (k.mode = 3) && (decide (k.no % 2 = 0)
        || !(f.coils.any (fun j => decide (j.no + 1 = k.no ∧ j.mode = 2))))))).map (fun k => 200 + k.no),
    (f.adcs.find? (fun a => decide (32 ≤ a))).map (fun a => 300 + a)]

/-- A CAN channel whose rates break R438 or R439, enabled or not: a rate is 80 MHz over its product of BRP and time quanta. -/
def canBreaks (k : CanCfg) : Bool :=
  let n := k.nbrp * (1 + k.ntseg1 + k.ntseg2)
  let d := k.dbrp * (1 + k.dtseg1 + k.dtseg2)
  decide (16 ≤ k.no) || outside 80 8000 n
    || outside 10 n d || (decide (d < 40) && !k.tdcEn)

/-- An interface that no ordering code has (R135): NP0 to NP7 and their pairs 0 to 3, the sixteen local absolute and the sixteen local
quadrature interfaces. CAN channels, field channels and the history store have checks of their own. -/
def portsBreak (c : ImageContent) : Option (Nat × Nat) :=
  firstSome id [
    breaksAt 10 (fun p : PortCfg => decide (8 ≤ p.no) || decide (countIn p.no (c.network.ports.map (·.no)) ≠ 1)) c.network.ports,
    breaksAt 5 (fun t : StationCfg => decide (4 ≤ t.pair)) c.stations,
    breaksAt 4 (fun k : SsiCfg => decide (16 ≤ k.no)) c.ssi,
    breaksAt 4 (fun k : QeCfg => decide (16 ≤ k.no)) c.qe]

/-- A ROLES entry that locks more than 12 blocks, or blocks that are not whole blocks of the program store (R177). -/
def lockBreaks (r : RoleEntry) : Bool :=
  decide (r.lockBlocks ≠ 0) && (decide (12 < r.lockBlocks) || decide (r.lockBase.toNat % 4096 ≠ 0)
    || decide (0x8000000 < r.lockBase.toNat + 4096 * r.lockBlocks))

/-- The limits of R135 in the order of their table, with what R177 asks of ROLES, then those that other rules add to step 10 (R286, R319,
R415, R439): the first broken one, as section type and entry index. -/
def firstBroken (isIB : Bool) (c : ImageContent) : Option (Nat × Nat) :=
  let carNos := c.cars.map (·.no)
  let checks : List (Option (Nat × Nat)) := [
    breaksAt 1 (fun r : RoleEntry => lockBreaks r || decide (128 ≤ r.ce) || decide (countIn r.ce (c.roles.map (·.ce)) ≠ 1)) c.roles,
    breaksIf 1 (decide (c.roles.length ≠ 128)),
    breaksIf 1 (!((List.range 8).all (plannersTogether c)) || !(tilesWhole c)),
    breaksIf 1 (decide (32 < (c.roles.filter (fun r => decide (r.cls = .live))).length)),
    (c.tasks.find? (taskBreaks c)).map (fun t => (2, t.task)),
    breaksIf 2 (!(rising (c.tasks.map (·.task)))),
    breaksAt 4 (fun k : CarCfg => decide (64 ≤ k.no) || decide (countIn k.no carNos ≠ 1) || decide (64 ≤ k.shaft)
      || decide (2 < countIn k.shaft (c.cars.map (·.shaft)))) c.cars,
    (c.cars.find? carBreaks).map (fun k => (4, k.no)),
    breaksIf 4 (decide (64 < c.cars.length)),
    breaksAt 4 (fun g : GroupCfg => decide (8 ≤ g.no) || decide (g.cars.length = 0) || decide (16 < g.cars.length)
      || decide ((plannersOf c g.no).length = 0)) c.groups,
    breaksIf 4 (decide (8 < c.groups.length)),
    breaksAt 4 (fun k : CarCfg => decide (((c.groups.filter (fun g => g.cars.contains k.no)).length) ≠ 1)) c.cars,
    breaksIf 4 (decide (256 < c.landings.length)),
    breaksAt 4 (fun k : CarCfg => !(k.served.all (fun l => (c.landings.map (·.no)).contains l))) c.cars,
    breaksAt 4 (fun k : CarCfg => decide (2 < k.doors.length) || k.doors.any (fun d => decide (2 ≤ d))) c.cars,
    breaksIf 4 (decide (8 < (c.cars.map (fun k => k.heavy.length)).foldl (· + ·) 0)),
    breaksAt 5 (fun t : StationCfg => decide (2048 ≤ t.no) || decide (countIn t.addr (c.stations.map (·.addr)) ≠ 1))
      c.stations,
    breaksIf 5 (decide (2048 < c.stations.length)),
    breaksAt 6 (fun p : PointCfg => decide (262144 ≤ p.slot) || !((c.tenants.map (·.no)).contains p.owner)) c.points,
    breaksIf 6 (decide (262144 < c.points.length)),
    blocksBreak c,
    breaksAt 7 (fun t : TenantCfg => decide (1024 ≤ t.no)) c.tenants,
    breaksAt 7 (sandboxBreaks c) c.sandbox,
    breaksIf 7 (c.roles.any (fun r => decide (r.role = .sandbox) && !((c.sandbox.map (·.ce)).contains r.ce))),
    breaksIf 7 (decide (1024 < c.tenants.length) || !((c.tenants.map (·.no)).contains 0)),
    breaksAt 8 (fun w : Word => decide (32 < fld w 23 18)) c.budgets,
    breaksAt 9 (fun b : Nat => banksTaken.contains b || decide (32 ≤ b)) c.memory.banks,
    breaksAt 9 (fun g : BankGrant => (decide (g.runtime = .readExecute) || decide (g.task = .readExecute))
      && decide (roleOf c g.ce ≠ some .sandbox)) c.memory.grants,
    breaksIf 9 (!(saveAreaOk c.memory.saveA) || !(saveAreaOk c.memory.saveB)
      || decide (c.memory.saveA.headD 0 / 8 = c.memory.saveB.headD 0 / 8)),
    breaksIf 9 (isIB && c.memory.store.assigned),
    portsBreak c,
    (c.cars.find? (feedbackBreaks c)).map (fun k => (4, k.no)),
    (c.doors.find? doorBreaks).map (fun k => (4, k.ch)),
    (fieldBreaks c.field).map (fun n => (4, 0xF00000 + n)),
    (c.can.find? canBreaks).map (fun k => (0x0B, k.no))]
  firstSome id checks

/-- KPR_DEVICE_ID CODE is SH-8128-IB. -/
def isIB (s : State) : Bool := decide (s.ordering = 2)

/-- The code of a log source in a log entry's flags (R140). -/
def srcCode : LogSource → Nat
  | .keeper => 0 | .mg0 => 1 | .mg1 => 2 | .debug => 3

/-- An entry appended to the structural change log, or folded into the last one (R140, R141). `img` is the bank set concerned, where
there is one. DESIGN CHOICE, log entry 120: the flags show presence, bench mode and PENDING as the event leaves them, and bytes 56 to 59
of an entry that is no refusal hold FRM_REFUSE as it stands; an event identical to a last entry whose REPEAT stands at 65,535 starts a new
entry, and one that needs an entry when all 16,384 are used is not logged, while what it is about goes on. -/
def logAppend (src : LogSource) (kind code : Nat) (img : Option (Tab Byte)) (s : State) : State :=
  let f := s.frm
  let dig := match img with
    | some m => (frameDigest m).take 16
    | none => List.replicate 16 0
  let rel := match img with
    | some m => (manifestRelease m).toNat
    | none => 0
  let act := (f.digest ++ List.replicate 16 0).take 16
  let e : LogEntry := {
    time := devTime s, seq := f.log.length, kind := kind, code := code, release := rel, rep := 0,
    flags := b2n f.presence + 2 * b2n f.bench + 4 * b2n f.pending + 8 * srcCode src,
    digest := dig, active := act, refuse := regOf [(31, 24, f.refSection), (23, 0, f.refIndex)] }
  match f.log.getLast? with
  | some l =>
    if l.kind = kind ∧ l.code = code ∧ l.digest = dig ∧ l.active = act ∧ l.rep < 65535 then
      { s with frm := { f with log := f.log.dropLast ++ [{ l with rep := l.rep + 1 }] } }
    else if 16384 ≤ f.log.length then s
    else raiseIf (decide (f.log.length + 1 = 15360)) 75 [] { s with frm := { f with log := f.log ++ [e] } }
  | none => { s with frm := { f with log := [e] } }

end Sys2Proof.Machine
end

