-- ==== Sys2Proof/Machine/HistoryOps.lean ====
section
/-! DEFINITION. Streams, pages and their staging (R494, R497), acquisition of samples, triggers and marks (R491 to R496),
rings and consumers (R505 to R510). -/
namespace Sys2Proof.Machine

/-- The staging of a stream: 0 TREND, 1 ALARM, 2 EVENT, 3 to 18 acquisition unit 0 to 15. -/
def stageOf (s : State) (st : Nat) : Stage := tget ({} : Stage) s.sto.stages st
def putStage (s : State) (st : Nat) (g : Stage) : State :=
  { s with sto := { s.sto with stages := tset ({} : Stage) s.sto.stages st g } }

/-- Pages in a stream's buffer, the open one with them. -/
def fill (g : Stage) : Nat := g.waiting.length + (if g.recs = [] then 0 else 1)

/-- An acquisition unit. -/
def acqUnit (s : State) (u : Nat) : AcqUnit := tget ({} : AcqUnit) s.acq.units u
def putUnit (s : State) (u : Nat) (a : AcqUnit) : State :=
  { s with acq := { s.acq with units := tset ({} : AcqUnit) s.acq.units u a } }

/-- The share of a stream in the store, in 0.1 %, as FORMAT laid it out (R504). -/
def shareOf (s : State) (st : Nat) : Nat := s.sto.shares.getD st 0

/-- The store takes pages of a stream: it runs, and the stream has a share. -/
def storeTakes (s : State) (st : Nat) : Bool :=
  decide (s.sto.state = 2) && decide (0 < shareOf s st) && !s.sto.halted
    && (decide (st < 3) || bitAt (acqUnit s (st - 3)).cfg 30)

/-- A consumer of the NETWORK section, and its configuration. -/
def consumer (s : State) (k : Nat) : Consumer := tget ({} : Consumer) s.sto.cons k
def putConsumer (s : State) (k : Nat) (c : Consumer) : State :=
  { s with sto := { s.sto with cons := tset ({} : Consumer) s.sto.cons k c } }
def consumerCfg (s : State) (k : Nat) : Option ConsumerCfg :=
  s.img.network.consumers.find? (fun c => decide (c.no = k))

/-- The ring of a stream. -/
def ringOf (s : State) (st : Nat) : Ring := tget ({} : Ring) s.sto.rings st
def putRing (s : State) (st : Nat) (r : Ring) : State :=
  { s with sto := { s.sto with rings := tset ({} : Ring) s.sto.rings st r } }

/-- Blocks that FORMAT finds for the store (R502): the smaller drive in MIRROR, both in SPAN, at most 2^40. -/
def storeBlocks (s : State) : Nat :=
  let b (p : Port) : Nat := if p.drive = 1 then p.blocks else 0
  if s.sto.mirror then
    (if s.sto.port0.drive = 1 ∧ s.sto.port1.drive = 1 then Nat.min s.sto.port0.blocks s.sto.port1.blocks
     else Nat.max (b s.sto.port0) (b s.sto.port1))
  else Nat.min (2 ^ 40) (b s.sto.port0 + b s.sto.port1)

/-- Blocks that the index of every ring needs beside `x` blocks of index: an entry of 16 bytes for each 256 pages (R504). -/
def indexBlocks (s : State) (free x : Nat) : Nat :=
  ceilDiv (16 * (List.range 19).foldl (fun n st => n + ceilDiv ((free - x) * shareOf s st / 1000) 256) 0) 4096

/-- X of R504: the least number of blocks of index that holds the index of every ring, by halving. -/
def leastIndex (s : State) (free : Nat) : Nat → Nat → Nat → Nat
  | 0, _, hi => hi
  | fuel + 1, lo, hi =>
    if hi ≤ lo then hi
    else
      let m := (lo + hi) / 2
      if indexBlocks s free m ≤ m then leastIndex s free fuel lo m else leastIndex s free fuel (m + 1) hi

/-- Pages that a stream's ring holds: its share of the blocks after the superblocks and the index (R504). -/
def ringPages (s : State) (st : Nat) : Nat :=
  let free := s.sto.blocks - 16
  Nat.max 1 ((free - leastIndex s free 41 0 free) * shareOf s st / 1000)

/-- The history block of a stream's page (R502, R504): after the superblocks and the index, the rings in the order of the streams. -/
def pageBlock (s : State) (st seq : Nat) : Nat :=
  let free := s.sto.blocks - 16
  16 + leastIndex s free 41 0 free + ((List.range st).filter (fun k => decide (0 < shareOf s k))).foldl (fun n k => n + ringPages s k) 0
    + seq % ringPages s st

/-- The drives that a page goes to (R502): in MIRROR those in use, in SPAN the one that has its block. -/
def pageDrives (s : State) (st seq : Nat) : Bool × Bool :=
  if s.sto.mirror then (decide (s.sto.port0.drive = 1), decide (s.sto.port1.drive = 1))
  else
    let first := decide (pageBlock s st seq < s.sto.port0.blocks)
    (first, !first)

/-- The 256 bytes of a record (R533) as 64 words. -/
def recordWords (r : EvRecord) : List Word :=
  let data := (wordBytes r.data ++ List.replicate 64 0).take 64
  let body := leBytes 8 r.time ++ leBytes 4 r.seq ++ leBytes 2 r.source
    ++ leBytes 1 (r.severity + 4 * b2n r.snap + 8 * b2n r.modul) ++ leBytes 1 r.dlen ++ leBytes 4 r.rep ++ leBytes 4 0
    ++ leBytes 8 r.lastTime ++ data ++ leBytes 4 r.tag.toNat ++ List.replicate 152 0
  let all := body ++ leBytes 4 (crc32c body).toNat
  (List.range 64).map (fun k => wordN (leNat ((all.drop (4 * k)).take 4)))

/-- The bytes of a record in a page (R494). -/
def streamBytes : StreamRec → List Byte
  | .plain time tag value => leBytes 8 time ++ leBytes 4 tag.toNat ++ leBytes 4 value.toNat
  | .event r => wordBytes (recordWords r)

/-- The 4,096 bytes of a page (R494): the CRC takes its own place and BACKFILL as zero. -/
def pageBytes (p : Page) (backfill : Bool) : List Byte :=
  let head (fill crc : Nat) : List Byte := [0x48, 0x53, 0x54, 0x1A] ++ leBytes 1 p.stream
    ++ leBytes 1 (fill + 2 * b2n p.restart + 4 * b2n p.gap + 8 * b2n p.modul) ++ leBytes 2 p.recs.length ++ leBytes 8 p.seq
    ++ leBytes 8 p.firstTime ++ leBytes 4 p.tag.toNat ++ leBytes 4 crc
  let body := (p.recs.flatMap streamBytes ++ List.replicate 4064 0).take 4064
  head (b2n backfill) (crc32c (head 0 0 ++ body)).toNat ++ body

/-- A page is sent to a consumer, one datagram, by the PRP pair of the consumer (R506, R508); a module that has gone silent sends nothing
(R478). -/
def sendPage (k : Nat) (p : Page) (backfill : Bool) (s : State) : State :=
  if s.net.gone then s
  else
    let c := consumer s k
    let bytes := pageBytes p backfill
    let s := putConsumer s k { c with
      lastSent := some (p.stream, p.seq, backfill), datagram := bytes
      sent := tset 0 c.sent p.stream (Nat.max (tget 0 c.sent p.stream) (p.seq + 1)) }
    match consumerCfg s k with
    | some cc => (pairSend cc.pair (.page k bytes) s).1
    | none => s

/-- A closed page goes to the consumers that take it as it closes: LIVE and BACKFILL ones of a stored stream (R508), or the
unit's own consumer once where it has HOST and no STORE (R510). -/
def sendClosed (st : Nat) (p : Page) (s : State) : State :=
  if storeTakes s st then
    s.img.network.consumers.foldl (fun s c =>
      let k := consumer s c.no
      if c.streams.contains st && decide (k.state = .live ∨ k.state = .backfill) then sendPage c.no p false s else s) s
  else if 3 ≤ st then
    let u := (acqUnit s (st - 3)).cfg
    if bitAt u 29 && !(bitAt u 30) && (consumerCfg s (fld u 23 20)).isSome then sendPage (fld u 23 20) p false s else s
  else s

/-- The storage block takes no new work: it has been asked to be idle, or is in reset (R71, R512). -/
def stoDown (s : State) : Bool := blockIdle s .sto

/-- The open page of a stream closes (R494): it takes the next SEQ and goes to the drives and to the consumers. A page of a
stream that no store and no consumer takes leaves the buffer at once. While the storage block takes no new work it stays open. -/
def closePage (st : Nat) (s : State) : State :=
  let g := stageOf s st
  if stoDown s then s
  else match g.recs with
  | [] => s
  | r :: _ =>
    let p : Page := { stream := st, seq := g.nextSeq, restart := g.restart, gap := g.openGap, modul := s.pins.pairSel,
                      firstTime := (match r with | .plain t _ _ => t | .event e => e.time), tag := frameTag s, recs := g.recs }
    let takes := storeTakes s st
    let s := putStage s st { g with
      recs := [], openGap := false, nextSeq := g.nextSeq + 1, restart := false, whole := true,
      waiting := if takes then g.waiting ++ [p] else g.waiting }
    let s := if takes then
        let r := ringOf s st
        let dr := pageDrives s st p.seq
        putRing s st { r with writing := r.writing ++ [{ page := p, at0 := dr.1, at1 := dr.2 }] }
      else s
    sendClosed st p s

/-- A page is full (R494): 254 records, or as many whole event records as 4,064 bytes hold. -/
def pageFull (st : Nat) (g : Stage) : Bool := decide ((if st = 2 then 15 else 254) ≤ g.recs.length)

/-- A unit's count of dropped records (ACQ_UNITu_STAT). -/
def countDrop (st : Nat) (s : State) : State :=
  if st < 3 then s
  else
    let a := acqUnit s (st - 3)
    putUnit s (st - 3) { a with dropped := satAdd 65535 a.dropped 1, gap := true }

/-- The store has failed under a stream that it is to keep (R503). -/
def storeFailed (s : State) (st : Nat) : Bool :=
  decide (s.sto.state = 3) && decide (0 < shareOf s st) && (decide (st < 3) || bitAt (acqUnit s (st - 3)).cfg 30)

/-- A stream's staging has room (R497): its buffer is not full, and the storage block and the store can take what it holds. -/
def hasRoom (s : State) (st : Nat) : Bool :=
  (decide ((stageOf s st).recs ≠ []) || decide (fill (stageOf s st) < 64)) && !stoDown s && !storeFailed s st

/-- A record joins the open page, which closes when it is full (R494). -/
def putRec (st : Nat) (r : StreamRec) (s : State) : State :=
  let g := stageOf s st
  let g := { g with recs := g.recs ++ [r] }
  let s := putStage s st g
  if pageFull st g then closePage st s else s

/-- What stands before the first record after a run of drops (R497): the gap record of an acquisition unit, and GAP of the page. DEDUCED,
log entry 170: the streams TREND, ALARM and EVENT, whose records have no KIND, get GAP alone. -/
def gapRec (st : Nat) (s : State) : State :=
  match (stageOf s st).dropRun with
  | none => s
  | some (t, n) =>
    let s := putStage s st { stageOf s st with openGap := true, dropRun := none }
    if 3 ≤ st then putRec st (.plain t (regOf [(31, 24, 4)]) (wordN n)) s else s

/-- A record that finds no room is dropped and counted, and the first drop after a whole page raises 3328 + u (R497). -/
def dropRec (st time : Nat) (s : State) : State :=
  let g := stageOf s st
  let s := putStage s st { g with
    dropRun := (match g.dropRun with | some (t, n) => some (t, n + 1) | none => some (time, 1)), whole := false }
  raiseIf (g.whole && decide (3 ≤ st)) (3328 + (st - 3)) [] (countDrop st s)

/-- A record put into a stream's staging (R494, R497). An acquisition block that has been asked to be idle takes no new record (R71). -/
def appendRec (st : Nat) (r : StreamRec) (time : Nat) (s : State) : State :=
  if 3 ≤ st ∧ blockIdle s .acq = true then s
  else
    let s := if hasRoom s st then gapRec st s else s
    if hasRoom s st then putRec st r s else dropRec st time s

/-- TAG of an acquisition record: number, flags, KIND (R494). -/
def acqTag (kind flags n : Nat) : Word := regOf [(31, 24, kind), (23, 16, flags), (15, 0, n)]

/-- Enabled acquisition units. -/
def enabledUnits (s : State) : List Nat := (List.range 16).filter (fun u => bitAt (acqUnit s u).cfg 31)

/-- A mark or interval record placed in the enabled units of a set (R495, R496). -/
def placeMark (units kind flags n : Nat) (value : Word) (time : Nat) (s : State) : State :=
  (enabledUnits s).foldl (fun s u =>
    if units.testBit u then appendRec (3 + u) (.plain time (acqTag kind flags n) value) time s else s) s

/-- SIGNAL `j` of a unit (ACQ_UNITu_SIGk). -/
def unitSignal (a : AcqUnit) (j : Nat) : Nat :=
  let w := tget 0 a.sigs (j / 2)
  if j % 2 = 0 then fld w 15 0 else fld w 31 16

/-- A unit takes a signal. -/
def takesSignal (a : AcqUnit) (sig : Nat) : Bool :=
  (List.range (Nat.min 16 (fld a.cfg 28 24))).any (fun j => decide (unitSignal a j = sig))

/-- DIV of a unit as it acts (R492). -/
def unitDiv (a : AcqUnit) : Nat := Nat.max 1 (fld a.cfg 15 0)

/-- An event offered to the interval units whose start or stop source it is (R496): held for 250 ns after its stamp. -/
def offerInterval (src : Nat) (rise : Option Bool) (time : Nat) (s : State) : State :=
  { s with acq := { s.acq with
      ints := tupdAll ({} : IntervalUnit) (List.range 8) (fun _ i =>
        let ok (e : Nat) : Bool := match rise with
          | none => true
          | some b => if b then decide (e = 1 ∨ e = 3) else decide (e = 2 ∨ e = 3)
        if bitAt i.cfg 31 then
          let starts := decide (fld i.cfg 15 8 = src) && ok (fld i.cfg 1 0)
          let stops := decide (fld i.cfg 23 16 = src) && ok (fld i.cfg 3 2)
          { i with heldEv := i.heldEv ++ (if starts then [(time, false)] else []) ++ (if stops then [(time, true)] else []) }
        else i) s.acq.ints } }

/-- Signals compared as signed values (R491). -/
def signedSignal (sig : Nat) : Bool :=
  decide (80 ≤ sig ∧ sig ≤ 95) || decide (144 ≤ sig ∧ sig ≤ 399)

/-- A value as R491 has a trigger compare it. -/
def signalValue (sig : Nat) (w : Word) : Int := if signedSignal sig then w.toInt else (w.toNat : Int)

/-- One trigger sees a sample of its signal (R495): its arming, and whether it fires. -/
def triggerStep (t : Trigger) (sig : Nat) (v : Word) : Trigger × Bool :=
  let x := signalValue sig v
  let lv := signalValue sig t.level
  let hy := signalValue sig (if t.hyst = 0 then 1 else t.hyst)
  let e := fld t.cfg 30 29
  let up := decide (e = 1 ∨ e = 3)
  let dn := decide (e = 2 ∨ e = 3)
  let fireUp := up && t.armedRise && decide (lv ≤ x)
  let fireDn := dn && t.armedFall && decide (x ≤ lv)
  let t := { t with
    armedRise := up && ((t.armedRise && !fireUp) || (!fireUp && decide (x ≤ lv - hy)))
    armedFall := dn && ((t.armedFall && !fireDn) || (!fireDn && decide (lv + hy ≤ x))) }
  (if fireUp || fireDn then { t with fires := (t.fires + 1) % 65536 } else t, fireUp || fireDn)

/-- TRIGGER_FIRE (R495): every enabled trigger on the signal sees the sample; one that fires marks its units. -/
def runTriggers (sig : Nat) (v : Word) (time : Nat) (s : State) : State :=
  (List.range 32).foldl (fun s k =>
    let t := tget ({} : Trigger) s.acq.trigs k
    if bitAt t.cfg 31 && decide (fld t.cfg 15 0 = sig) then
      let (t', fires) := triggerStep t sig v
      let s := { s with acq := { s.acq with trigs := tset ({} : Trigger) s.acq.trigs k t' } }
      if fires then offerInterval (128 + k) none time (placeMark t'.units 1 0 k v time s) else s
    else s) s

/-- A sample of a signal (R491 to R493): recorded by every enabled unit that takes it, as captured; a periodic signal only
where its count is a multiple of the unit's DIV. Triggers see every sample. -/
def acqSampleAt (sig : Nat) (v : Word) (invalid : Bool) (period : Option Nat) (time : Nat) (s : State) : State :=
  let s := (enabledUnits s).foldl (fun s u =>
    let a := acqUnit s u
    let keep := match period with
      | some p => decide ((time / p) % unitDiv a = 0)
      | none => true
    if takesSignal a sig && keep then
      appendRec (3 + u) (.plain time (acqTag 0 (if invalid then 4 else 0) sig) v) time s
    else s) s
  runTriggers sig v time s

/-- A sample taken now. -/
def acqSample (sig : Nat) (v : Word) (invalid : Bool) (period : Option Nat) (s : State) : State :=
  acqSampleAt sig v invalid period (devTime s) s

/-- The trend, alarm and event streams (R233, R234, R494). -/
def trendRecord (tag value : Word) (s : State) : State := appendRec 0 (.plain (devTime s) tag value) (devTime s) s
def alarmRecord (tag value : Word) (s : State) : State := appendRec 1 (.plain (devTime s) tag value) (devTime s) s
def eventRecordOut (r : EvRecord) (s : State) : State := appendRec 2 (.event r) r.time s

/-- A consumer's state changes: event source 3461 (R508). -/
def consumerState (k : Nat) (st : ConsState) (s : State) : State :=
  let c := consumer s k
  raiseIf (decide (c.state ≠ st)) 3461 [] (putConsumer s k { c with state := st })

/-- The overwrite of a ring has moved its oldest page (R509): a cursor below it jumps, LOST counts the pages skipped, and
event source 3460 tells the consumer and stream. -/
def overwriteCursors (st oldest : Nat) (s : State) : State :=
  s.img.network.consumers.foldl (fun s cc =>
    let c := consumer s cc.no
    let cur := tget 0 c.cursor st
    if cc.streams.contains st && decide (cur < oldest) then
      raise 3460 [wordN cc.no, wordN st] (putConsumer s cc.no { c with
        cursor := tset 0 c.cursor st oldest, lost := satAdd 4294967295 c.lost (oldest - cur) })
    else s) s

/-- A page counts as written (R501): it leaves the buffer and joins its ring, where the oldest page may fall (R505, R509). -/
def pageWritten (st : Nat) (w : PageWrite) (s : State) : State :=
  let r := ringOf s st
  let head := w.page.seq + 1
  let oldest := Nat.max r.oldest (head - ringPages s st)
  let pages := (tset (none : Option Page) r.pages w.page.seq (some w.page)).filter (fun e => decide (oldest ≤ e.1))
  let g := stageOf s st
  let s := putStage s st { g with waiting := g.waiting.filter (fun p => decide (p.seq ≠ w.page.seq)) }
  overwriteCursors st oldest (putRing s st { r with
    pages := pages, head := Nat.max r.head head, oldest := oldest,
    writing := r.writing.filter (fun x => decide (x.page.seq ≠ w.page.seq)) })

/-- A consumer has every page of its streams that are stored: every cursor has reached the newest page (R508). -/
def caughtUp (s : State) (cc : ConsumerCfg) : Bool :=
  let c := consumer s cc.no
  cc.streams.all (fun st => decide (shareOf s st = 0) || decide ((stageOf s st).nextSeq ≤ tget 0 c.cursor st))

/-- Flush is sent to the drives in use (R501). -/
def flushDrives (s : State) : State :=
  let f (p : Port) : Port := if p.drive = 1 then { p with flushes := p.flushes + 1 } else p
  { s with sto := { s.sto with port0 := f s.sto.port0, port1 := f s.sto.port1 } }

/-- STO_CMD FORMAT (R504): every page and cursor is discarded; page numbers go on, for none is ever reused (R494). -/
def stoFormat (s : State) : State :=
  if s.frm.presence = false then { s with sto := { s.sto with result := 1 } }
  else if s.sto.state = 0 ∨ s.sto.state = 3 then { s with sto := { s.sto with result := 2 } }
  else
    let next : Tab Nat := (s.sto.stages.map (fun e => (e.1, e.2.nextSeq))).filter (fun e => decide (e.2 ≠ 0))
    let s : State := { s with sto := { s.sto with
      state := 2, formatted := true, formatTag := frameTag s, result := 0
      blocks := storeBlocks s, shares := s.img.memory.store.shares
      rings := next.map (fun e => (e.1, { ({} : Ring) with head := e.2, oldest := e.2, journal := e.2 }))
      stages := next.map (fun e => (e.1, { ({} : Stage) with nextSeq := e.2 }))
      cons := tupdAll ({} : Consumer) (List.range 16) (fun _ c =>
        { c with cursor := next, sent := next, fill := next, journal := next }) s.sto.cons } }
    let s := s.img.network.consumers.foldl (fun s c => consumerState c.no .live s) s
    raise 3463 [] s

/-- A rebuild copy can start: the mirror is degraded and both drives are in use (R503). -/
def rebuildReady (s : State) : Bool :=
  s.sto.mirror && s.sto.degraded && decide (s.sto.port0.drive = 1) && decide (s.sto.port1.drive = 1)

/-- A rebuild copy starts as a drive returns, and on STO_CMD REBUILD (R503). -/
def startRebuild (s : State) : State := if rebuildReady s then { s with sto := { s.sto with rebuild := true } } else s
def stoRebuild (s : State) : State :=
  let r := if rebuildReady s then 0 else 2
  startRebuild { s with sto := { s.sto with result := r } }

/-- STO_CMD FLUSH. -/
def stoFlush (s : State) : State :=
  if s.sto.state = 2 then flushDrives { s with sto := { s.sto with result := 0 } }
  else { s with sto := { s.sto with result := 2 } }

/-- A write of CMD to STO_CMD; other values are ignored. -/
def stoCommand (cmd : Nat) (s : State) : State :=
  match cmd with
  | 1 => stoFormat s | 2 => stoRebuild s | 3 => stoFlush s
  | _ => s

/-- The scan from a journalled head (R505): over the pages that follow on, at most `fuel`. -/
def scanHead (r : Ring) : Nat → Nat → Nat
  | 0, n => n
  | fuel + 1, n => if (tget (none : Option Page) r.pages n).isSome then scanHead r fuel (n + 1) else n

/-- A ring as the store recovers it (R505): pages that the scan does not reach are lost. -/
def recoverRing (r : Ring) : Ring :=
  let head := scanHead r 4096 r.journal
  { r with writing := [], head := head, pages := r.pages.filter (fun e => decide (e.1 < head)) }

/-- The drives that the store needs are in use: either one in MIRROR, both in SPAN (R503). -/
def drivesReady (s : State) : Bool :=
  let a := decide (s.sto.port0.drive = 1)
  let b := decide (s.sto.port1.drive = 1)
  if s.img.memory.store.mirror then a || b else a && b

/-- The store at start-up or after a reset of STO (R504, R505, R512): unformatted until FORMAT, else running from the
recovered heads, with event source 3462; pages that the drives had not completed are lost. DEDUCED, log entry 137: a mirror that starts
on one drive starts DEGRADED, with event source 3458. -/
def storeStarts (s : State) : State :=
  if isIB s || !s.img.memory.store.assigned || !(drivesReady s) then { s with sto := { s.sto with state := 0, halted := false } }
  else if !s.sto.formatted then { s with sto := { s.sto with state := 1, mirror := s.img.memory.store.mirror, halted := false } }
  else
    let mirror := s.img.memory.store.mirror
    let half := decide (s.sto.port0.drive ≠ 1) || decide (s.sto.port1.drive ≠ 1)
    let s : State := { s with sto := { s.sto with
      state := 2, mirror := mirror, halted := false
      degraded := mirror && half, rebuildPort := if s.sto.port0.drive = 1 then 1 else 0
      rings := s.sto.rings.map (fun e => (e.1, recoverRing e.2)) } }
    let s : State := { s with sto := { s.sto with
      stages := tupdAll ({} : Stage) (List.range 19) (fun st g => { ({} : Stage) with
        nextSeq := if shareOf s st = 0 then g.nextSeq else (ringOf s st).head }) s.sto.stages } }
    let s := s.img.network.consumers.foldl (fun s c => consumerState c.no .live s) s
    raise 3462 [] (raiseIf (mirror && half) 3458 [] s)

end Sys2Proof.Machine
end

