-- ==== Sys2Proof/Machine/EventOps.lean ====
section
/-! DEFINITION. The event unit's routing, counting and interrupts (R551 to R556) and software events (R555). -/
namespace Sys2Proof.Machine

/-- The block of an event source (R551). -/
def blockOf (src : Nat) : Option EventBlock :=
  if src ≤ 31 then some .rst else if src ≤ 63 then some .trs else if src ≤ 95 then some .frm
  else if src ≤ 127 then some .cmb else if src ≤ 255 then some .kpr else if src ≤ 511 then some .ce
  else if src ≤ 1023 then some .cyc else if src ≤ 1279 then some .hst else if src ≤ 1791 then some .dor
  else if src ≤ 2047 then some .fbk else if src ≤ 2175 then some .dsp else if src ≤ 2431 then some .saf
  else if src ≤ 2687 then some .fio else if src ≤ 2815 then some .can else if src ≤ 3327 then some .net
  else if src ≤ 3455 then some .acq else if src ≤ 3583 then some .sto else if src ≤ 3703 then some .evr
  else if src ≤ 3711 then some .tmb else if src ≤ 4095 then some .soft else none

/-- The default SEVERITY of a source that R551 allocates (0 INFO, 1 NOTICE, 2 WARNING, 3 FAULT); none for an unused one. -/
def sourceSeverity (src : Nat) : Option Nat :=
  let pick (faults warns notes : List Nat) (dflt : Nat) : Option Nat :=
    some (if faults.contains src then 3 else if warns.contains src then 2 else if notes.contains src then 1 else dflt)
  if src ≤ 16 then pick [8, 10, 11, 14] [] [] 1
  else if 32 ≤ src ∧ src ≤ 37 then pick [32, 33, 35] [] [] 2
  else if 64 ≤ src ∧ src ≤ 75 then pick [] [66, 72, 75] [] 1
  else if 96 ≤ src ∧ src ≤ 105 then pick [98] [96, 99, 103, 105] [] 1
  else if 128 ≤ src ∧ src ≤ 136 then pick [] [129, 130, 131, 133, 134, 136] [] 1
  else if 256 ≤ src ∧ src ≤ 511 then some (if src % 2 = 0 then 3 else 2)
  else if 512 ≤ src ∧ src ≤ 991 then some (if src % 2 = 0 then 3 else 2)
  else if 992 ≤ src ∧ src ≤ 994 then some 1
  else if 1024 ≤ src ∧ src ≤ 1279 then some (if src % 4 = 0 then 3 else 2)
  else if 1280 ≤ src ∧ src ≤ 1791 then some (if src % 4 = 0 then 3 else if src % 4 = 1 then 1 else 2)
  else if 1792 ≤ src ∧ src ≤ 1919 then some (if src % 2 = 0 then 3 else 1)
  else if 1920 ≤ src ∧ src ≤ 1951 then some 2
  else if 1952 ≤ src ∧ src ≤ 1983 then some 0
  else if 2048 ≤ src ∧ src ≤ 2175 then (if src % 16 ≤ 7 then some 2 else if src % 16 = 8 then some 0 else none)
  else if 2176 ≤ src ∧ src ≤ 2191 then pick [] [] [2184, 2187, 2191] 3
  else if 2240 ≤ src ∧ src ≤ 2431 then some (if 2304 ≤ src ∧ src ≤ 2367 then 1 else 3)
  else if 2432 ≤ src ∧ src ≤ 2477 then some (if src = 2475 then 0 else 2)
  else if 2688 ≤ src ∧ src ≤ 2815 then some (if (src - 2688) % 8 = 2 ∨ (src - 2688) % 8 = 7 then 1 else 2)
  else if 2816 ≤ src ∧ src ≤ 2851 then pick [2843, 2845, 2847, 2849, 2851] [] [2841, 2842, 2846, 2850] 2
  else if 3328 ≤ src ∧ src ≤ 3351 then some 2
  else if 3456 ≤ src ∧ src ≤ 3463 then pick [] [3456, 3457, 3458, 3460] [] 1
  else if src = 3587 then none
  else if 3584 ≤ src ∧ src ≤ 3591 then pick [] [3584, 3585, 3586] [] 1
  else if 3704 ≤ src ∧ src ≤ 3707 then pick [] [3706, 3707] [] 1
  else if 3712 ≤ src ∧ src ≤ 4095 then some 0
  else none

/-- EVT_ROUTEn bits 31:16 as they stand (R551, R552); none for an unused source. -/
def routeOf (s : State) (n : Nat) : Option Word :=
  match sourceSeverity n with
  | none => none
  | some sev => some ((tget none s.evt.routes n).getD (regOf [(31, 31, 1), (29, 28, sev)]))

/-- EVT_ROUTEn as read: an unused source reads 0. -/
def routeReg (s : State) (n : Nat) : Word :=
  match routeOf s n with
  | none => 0
  | some w => w ||| regOf [(15, 0, tget 0 s.evt.counts n)]

/-- A write of EVT_ROUTEn (R552): later events take the new routing; INT is cleared for a TARGET in the sandbox pool. -/
def routeWrite (n : Nat) (value : Word) (s : State) : State :=
  match sourceSeverity n with
  | none => s
  | some _ =>
    let w := value &&& (regOf [(31, 31, 1), (29, 16, 0x3FFF)])
    let w := if decide (roleOf s.img (fld w 22 16) = some .sandbox) then w &&& ~~~(maskOf 23 23) else w
    { s with evt := { s.evt with routes := tset none s.evt.routes n (some w) } }

/-- The interrupt queue of a CE (R553). -/
def pendOf (s : State) (c : Nat) : PendQueue := tget ({} : PendQueue) s.evt.pend c
def putPend (s : State) (c : Nat) (q : PendQueue) : State :=
  { s with evt := { s.evt with pend := tset ({} : PendQueue) s.evt.pend c q } }

/-- EVENT_INTERRUPT_QUEUE (R553): an interrupt joins its CE's queue of 16 or is dropped and counted. -/
def queueInterrupt (c src : Nat) (s : State) : State :=
  let q := pendOf s c
  if q.queue.length < 16 then putPend s c { q with queue := q.queue ++ [src] }
  else putPend s c { q with lost := satAdd 255 q.lost 1 }

/-- The queue of a CE emptied: it enters OFF, or RESTART (R553). -/
def emptyPend (c : Nat) (s : State) : State := putPend s c { pendOf s c with queue := [] }

/-- An event reaches the event unit (R552): it is counted, whether recorded or not; with REC it joins the recorder's queue of
1,024 or is lost (R532); with INT it is queued for its CE. -/
def eventArrives (m : EventMsg) (s : State) : State :=
  match routeOf s m.src with
  | none => s
  | some r =>
    let s : State := { s with evt := { s.evt with
      counts := tset 0 s.evt.counts m.src ((tget 0 s.evt.counts m.src + 1) % 65536) } }
    let s : State :=
      if bitAt r 31 then
        if s.evr.queue.length < 1024 then
          { s with evr := { s.evr with queue := s.evr.queue ++ [{ msg := m, severity := fld r 29 28, snap := fld r 27 24 }] } }
        else { s with evr := { s.evr with lost := satAdd 255 s.evr.lost 1, lossOpen := true } }
      else s
    if bitAt r 23 then queueInterrupt (fld r 22 16) m.src s else s

/-- A requester's own staging of software events (R555). -/
def softOf (s : State) (r : Nat) : SoftStage := tget ({} : SoftStage) s.evt.soft r
def putSoft (s : State) (r : Nat) (x : SoftStage) : State :=
  { s with evt := { s.evt with soft := tset ({} : SoftStage) s.evt.soft r x } }

/-- EVT_SOFT_CMD as a requester reads it. -/
def softReg (s : State) (r : Nat) : Word :=
  let x := softOf s r
  regOf [(27, 24, x.result), (18, 12, x.dlen), (11, 0, x.source)]

/-- REC of a source's routing (R551). -/
def recorded (s : State) (src : Nat) : Bool :=
  match routeOf s src with
  | some w => bitAt w 31
  | none => false

/-- The first DLEN bytes staged, as words. -/
def softData (x : SoftStage) : List Word :=
  (List.range (ceilDiv x.dlen 4)).map (fun k =>
    let w : Word := tget 0 x.data k
    if 4 * k + 4 ≤ x.dlen then w else w &&& maskOf (8 * (x.dlen - 4 * k) - 1) 0)

/-- A write of EVT_SOFT_CMD (R555): SOURCE and DLEN are taken; RAISE answers RANGE, FULL or done. The event carries the first DLEN bytes
staged and the device time of the write. -/
def softWrite (r : Nat) (value : Word) (s : State) : State :=
  let x : SoftStage := { softOf s r with dlen := fld value 18 12, source := fld value 11 0 }
  if fld value 31 28 = 1 then
    if x.source < 3712 ∨ 64 < x.dlen then putSoft s r { x with result := 1 }
    else
      if recorded s x.source && decide (1024 ≤ s.evr.queue.length) then putSoft s r { x with result := 2 }
      else
        let s := putSoft s r { x with result := 0 }
        if running s .keeper then
          { s with evt := { s.evt with
              inFlight := s.evt.inFlight ++ [{ src := x.source, data := softData x, dlen := x.dlen, time := devTime s }] } }
        else s
  else putSoft s r x

/-- The 512 bytes of a pool slot (R536) as 128 words. -/
def snapWords (x : Snapshot) : List Word :=
  let es := x.entries.flatMap (fun e => leBytes 4 e.addr.toNat ++ leBytes 4 e.value.toNat ++ leBytes 8 e.time)
  let body := leBytes 4 x.seq ++ leBytes 1 x.set ++ leBytes 1 x.entries.length ++ leBytes 2 x.failed
    ++ (es ++ List.replicate 256 0).take 256 ++ List.replicate 244 0
  let all := body ++ leBytes 4 (crc32c body).toNat
  (List.range 128).map (fun k => wordN (leNat ((all.drop (4 * k)).take 4)))

/-- EVR_STATUS. -/
def evrStatus (e : Evr) : Word := regOf [(31, 16, e.newest), (15, 8, e.lost), (7, 0, e.dropped)]

/-- EVT_BADACC. -/
def badReg (e : Evt) : Word := regOf [(30, 29, e.badKind), (28, 26, e.badCause), (15, 0, e.badCount)]

/-- EVT_PENDc. -/
def pendReg (s : State) (c : Nat) : Word := regOf [(20, 16, (pendOf s c).queue.length), (15, 8, (pendOf s c).lost)]

end Sys2Proof.Machine
end

