-- ==== Sys2Proof/Machine/Float.lean ====
section
/-! DEFINITION. IEEE 754 binary32 arithmetic, rounded to nearest even (R155). A finite number is a sign, a magnitude and a
power of two, so that sums and products are exact before their one rounding. -/
namespace Sys2Proof.Machine

/-- A binary32 datum: NaN, an infinity, or (-1)^s × m × 2^e. -/
inductive FloatVal where
  | nan
  | inf (s : Bool)
  | fin (s : Bool) (m : Nat) (e : Int)
deriving DecidableEq, Repr

/-- The datum that 32 bits spell. -/
def floatOf (w : Word) : FloatVal :=
  let s := bitAt w 31
  let e := fld w 30 23
  let f := fld w 22 0
  if e = 255 then (if f = 0 then .inf s else .nan)
  else if e = 0 then .fin s f (-149)
  else .fin s (f + 8388608) ((e : Int) - 150)

/-- The bits of an infinity, a zero, and a quiet form of a NaN. -/
def infBits (s : Bool) : Word := regOf [(31, 31, b2n s), (30, 23, 255)]
def zeroBits (s : Bool) : Word := regOf [(31, 31, b2n s)]
def quiet (w : Word) : Word := w ||| maskOf 22 22

/-- A quiet NaN whose sign and payload the manual leaves open, from a free value. -/
def freeNan (free : Word) : Word := regOf [(30, 22, 0x1FF)] ||| (free &&& (maskOf 31 31 ||| maskOf 21 0))

/-- How many bits a number has. -/
def bitLen (m : Nat) : Nat := if m = 0 then 0 else Nat.log2 m + 1

/-- A magnitude shifted right with the bits lost gathered into a sticky bit: the quotient, and whether what is lost is
below, at, or above one half (as 0 exact, 1 below, 2 half, 3 above). -/
def shiftLoss (m k : Nat) (sticky : Bool) : Nat × Nat :=
  let q := m / 2 ^ k
  let r := m % 2 ^ k
  let half := 2 ^ k / 2
  if k = 0 then (q, if sticky then 1 else 0)
  else if r < half then (q, if r = 0 ∧ sticky = false then 0 else 1)
  else if r = half ∧ sticky = false then (q, 2)
  else (q, 3)

/-- The nearest binary32 of (-1)^s × (m × 2^e, plus something less than one unit of m where `sticky`), ties to even. -/
def roundFloat (s : Bool) (m : Nat) (e : Int) (sticky : Bool) : Word :=
  if m = 0 then zeroBits s
  else
    let len := (bitLen m : Int)
    -- the exponent of the last kept bit: 24 bits, but never below 2^-149
    let lsb := if e + len - 24 < -149 then (-149 : Int) else e + len - 24
    let (q, loss) :=
      if lsb ≤ e then (m * 2 ^ (e - lsb).toNat, if sticky then 1 else 0) else shiftLoss m (lsb - e).toNat sticky
    let q := if loss = 3 ∨ (loss = 2 ∧ q % 2 = 1) then q + 1 else q
    let (q, lsb) := if q = 16777216 then (8388608, lsb + 1) else (q, lsb)
    if q < 8388608 then regOf [(31, 31, b2n s), (22, 0, q)]
    else
      let be := lsb + 150
      if 255 ≤ be then infBits s else regOf [(31, 31, b2n s), (30, 23, be.toNat), (22, 0, q - 8388608)]

/-- The exact sum of two finite numbers as a signed magnitude over a common power of two. -/
def addExact (s1 : Bool) (m1 : Nat) (e1 : Int) (s2 : Bool) (m2 : Nat) (e2 : Int) : Int × Int :=
  let e := if e1 ≤ e2 then e1 else e2
  let a : Int := (m1 * 2 ^ (e1 - e).toNat : Nat)
  let b : Int := (m2 * 2 ^ (e2 - e).toNat : Nat)
  ((if s1 then -a else a) + (if s2 then -b else b), e)

/-- A finite sum rounded; an exact zero sum of unlike signs is +0, of like signs keeps the sign. -/
def addFinite (s1 : Bool) (m1 : Nat) (e1 : Int) (s2 : Bool) (m2 : Nat) (e2 : Int) : Word :=
  let (v, e) := addExact s1 m1 e1 s2 m2 e2
  if v = 0 then zeroBits (s1 && s2) else roundFloat (decide (v < 0)) v.natAbs e false

/-- NaN operands propagate: the first NaN among them, made quiet. -/
def nanAmong : List Word → Option Word
  | [] => none
  | w :: t => match floatOf w with
    | .nan => some (quiet w)
    | _ => nanAmong t

/-- FADD. `free` gives the NaN of an invalid operation. -/
def fadd (a b free : Word) : Word :=
  match nanAmong [a, b], floatOf a, floatOf b with
  | some n, _, _ => n
  | none, .inf s, .inf t => if s = t then infBits s else freeNan free
  | none, .inf s, _ => infBits s
  | none, _, .inf t => infBits t
  | none, .fin s m e, .fin t n f => addFinite s m e t n f
  | none, _, _ => freeNan free

/-- The sign turned over. -/
def fneg (w : Word) : Word := w ^^^ maskOf 31 31

/-- FSUB. -/
def fsub (a b free : Word) : Word :=
  match nanAmong [a, b] with
  | some n => n
  | none => fadd a (fneg b) free

/-- FMUL. -/
def fmul (a b free : Word) : Word :=
  match nanAmong [a, b], floatOf a, floatOf b with
  | some n, _, _ => n
  | none, .inf s, .inf t => infBits (s ^^ t)
  | none, .inf s, .fin t n _ => if n = 0 then freeNan free else infBits (s ^^ t)
  | none, .fin s m _, .inf t => if m = 0 then freeNan free else infBits (s ^^ t)
  | none, .fin s m e, .fin t n f => roundFloat (s ^^ t) (m * n) (e + f) false
  | none, _, _ => freeNan free

/-- FMA: a × b + c with one rounding. -/
def ffma (a b c free : Word) : Word :=
  match nanAmong [a, b, c], floatOf a, floatOf b, floatOf c with
  | some n, _, _, _ => n
  | none, .fin s m e, .fin t n f, .fin u k g => addFinite (s ^^ t) (m * n) (e + f) u k g
  | none, .fin _ _ _, .fin _ _ _, .inf u => infBits u
  | none, _, _, _ =>
    -- one factor is infinite: the product decides unless it is invalid or meets an unlike infinity
    let p := fmul a b free
    match floatOf p, floatOf c with
    | .inf s, .inf t => if s = t then infBits s else freeNan free
    | .inf s, _ => infBits s
    | _, _ => freeNan free

/-- FDIV: division by zero gives infinity, 0 / 0 is invalid. -/
def fdiv (a b free : Word) : Word :=
  match nanAmong [a, b], floatOf a, floatOf b with
  | some n, _, _ => n
  | none, .inf _, .inf _ => freeNan free
  | none, .inf s, .fin t _ _ => infBits (s ^^ t)
  | none, .fin s _ _, .inf t => zeroBits (s ^^ t)
  | none, .fin s m e, .fin t n f =>
    if n = 0 then (if m = 0 then freeNan free else infBits (s ^^ t))
    else
      let q := m * 2 ^ 64 / n
      roundFloat (s ^^ t) q (e - f - 64) (decide (m * 2 ^ 64 % n ≠ 0))
  | none, _, _ => freeNan free

/-- FSQRT: of a negative number it is invalid; of -0 it is -0. -/
def fsqrt (a free : Word) : Word :=
  match floatOf a with
  | .nan => quiet a
  | .inf s => if s then freeNan free else infBits false
  | .fin s m e =>
    if m = 0 then zeroBits s
    else if s then freeNan free
    else
      let odd := decide (e % 2 ≠ 0)
      let n := (if odd then 2 * m else m) * 2 ^ 64
      let r := isqrt n
      roundFloat false r (((if odd then e - 1 else e) - 64) / 2) (decide (r * r ≠ n))

/-- A finite or infinite datum below another, and equal to another. -/
def fLess : FloatVal → FloatVal → Bool
  | .nan, _ => false
  | _, .nan => false
  | .inf s, .inf t => s && !t
  | .inf s, .fin _ _ _ => s
  | .fin _ _ _, .inf t => !t
  | .fin s m e, .fin t n f => decide ((addExact s m e (!t) n f).1 < 0)
def fEqual : FloatVal → FloatVal → Bool
  | .inf s, .inf t => decide (s = t)
  | .fin s m e, .fin t n f => decide ((addExact s m e (!t) n f).1 = 0)
  | _, _ => false

/-- FMIN and FMAX: NaN propagates; of zeros, -0 counts as the smaller. -/
def fmin (a b : Word) : Word :=
  match nanAmong [a, b] with
  | some n => n
  | none => if fLess (floatOf a) (floatOf b) || (fEqual (floatOf a) (floatOf b) && bitAt a 31) then a else b
def fmax (a b : Word) : Word :=
  match nanAmong [a, b] with
  | some n => n
  | none => if fLess (floatOf b) (floatOf a) || (fEqual (floatOf a) (floatOf b) && !bitAt a 31) then a else b

/-- An integer as binary32. -/
def fOfInt (i : Int) : Word := roundFloat (decide (i < 0)) i.natAbs 0 false

/-- A datum rounded to the nearest integer, ties to even; none of a NaN or an infinity. -/
def fToInt (a : Word) : Option Int :=
  match floatOf a with
  | .fin s m e =>
    let n : Nat := if 0 ≤ e then m * 2 ^ e.toNat else
      let (q, loss) := shiftLoss m (-e).toNat false
      if loss = 3 ∨ (loss = 2 ∧ q % 2 = 1) then q + 1 else q
    some (if s then -(n : Int) else (n : Int))
  | _ => none

/-- FCVT to an integer between two bounds; a NaN or a value outside is a free value. -/
def fToWord (a : Word) (lo hi : Int) (free : Word) : Word :=
  match fToInt a with
  | some i => if lo ≤ i ∧ i ≤ hi then wordI i else free
  | none => free

end Sys2Proof.Machine
end

