-- ==== Sys2Proof/Machine/CeOps.lean ====
section
/-! DEFINITION. Control engines: registers, guards, exception entry and return, loop units, the SETM shadow, halts and
restart (R144 to R184). -/
namespace Sys2Proof.Machine

/-- A control engine. -/
def ceOf (s : State) (n : Nat) : Ce := tget ({} : Ce) s.ces n
def putCe (s : State) (n : Nat) (c : Ce) : State := { s with ces := tset ({} : Ce) s.ces n c }

/-! ## Registers -/

/-- g0 reads 0, and writes to it are discarded (R144). -/
def greg (c : Ce) (r : Nat) : Word := if r = 0 then 0 else tget 0 c.g r
def putG (c : Ce) (r : Nat) (w : Word) : Ce := if r = 0 then c else { c with g := tset 0 c.g r w }

/-- p0 reads 16#FFFF, and writes to it are discarded. -/
def preg (c : Ce) (r : Nat) : Nat := if r = 0 then 65535 else tget 0 c.p r
def putP (c : Ce) (r : Nat) (m : Nat) : Ce := if r = 0 then c else { c with p := tset 0 c.p r (m % 65536) }

/-- Lane `k` of a vector register. -/
def vlane (c : Ce) (j k : Nat) : Word := tget 0 c.v (16 * j + k)
def putLane (c : Ce) (j k : Nat) (w : Word) : Ce := { c with v := tset 0 c.v (16 * j + k) w }

/-- The 16 bits of a guard (R152). -/
def guardBits (c : Ce) (gd : Guard) : Nat := if gd.pn then 65535 - preg c gd.ps.val else preg c gd.ps.val

/-- The guard of a scalar or control-flow instruction: bit 0 decides. -/
def guardOn (c : Ce) (gd : Guard) : Bool := (guardBits c gd).testBit 0

/-- The lanes on which a vector instruction executes. -/
def activeLanes (c : Ce) (gd : Guard) : List Nat := bitsOf 16 (guardBits c gd)

/-- CE_MODE. -/
def modeReg (c : Ce) : Word := regOf [(31, 31, b2n c.priv), (9, 0, c.tctx)]

/-- CE_STATE's code of an engine state. -/
def ceCode : CeState → Nat
  | .off => 0 | .idle => 1 | .run => 2 | .halt => 3 | .fault => 4

/-- CE_STATE and CE_ERR. -/
def ceStateReg (c : Ce) : Word :=
  regOf [(31, 29, ceCode c.st), (28, 26, ceCode c.prev), (20, 16, c.hsrc), (4, 0, c.resumeElem)]
def ceErrReg (c : Ce) : Word := regOf [(23, 16, c.psRefuse), (15, 8, c.icPar), (7, 0, c.sramCe)]

/-- Special registers by number; none where R155 has no such register. -/
def specialReg (c : Ce) (s : Nat) : Option Word :=
  match s with
  | 0 => some c.epc | 1 => some c.xstatus | 2 => some c.xinfo | 3 => some c.xaddr | 4 => some c.xtarget
  | 5 => some c.xvec | 6 => some (modeReg c) | 8 => some c.ls0 | 9 => some c.le0 | 10 => some c.lc0
  | 12 => some c.ls1 | 13 => some c.le1 | 14 => some c.lc1
  | _ => none

/-- The writable bits of CE_XSTATUS and of CE_XINFO. -/
def xstatusMask : Word := ~~~(maskOf 4 4)
def xinfoMask : Word := maskOf 26 24 ||| maskOf 4 0

/-- A special register written: reserved bits, and bits 7:0 of CE_XVEC, ignore the write. CE_MODE is not written. -/
def putSpecial (c : Ce) (s : Nat) (w : Word) : Ce :=
  match s with
  | 0 => { c with epc := w } | 1 => { c with xstatus := w &&& xstatusMask } | 2 => { c with xinfo := w &&& xinfoMask }
  | 3 => { c with xaddr := w } | 4 => { c with xtarget := w } | 5 => { c with xvec := w &&& ~~~(maskOf 7 0) }
  | 8 => { c with ls0 := w } | 9 => { c with le0 := w } | 10 => { c with lc0 := w }
  | 12 => { c with ls1 := w } | 13 => { c with le1 := w } | 14 => { c with lc1 := w }
  | _ => c

/-- Registers a task-mode MFS may read: the loop registers and MODE (R154). -/
def taskReads (s : Nat) : Bool := [6, 8, 9, 10, 12, 13, 14].contains s

/-! ## Exceptions -/

/-- Exception causes (R167). -/
def causeFetch : Nat := 1
def causeIllegal : Nat := 2
def causePriv : Nat := 3
def causeAlign : Nat := 4
def causeDaccess : Nat := 5
def causeStorePs : Nat := 6
def causePoint : Nat := 7
def causeEcc : Nat := 8
def causeTruss : Nat := 9
def causeDiv : Nat := 10
def causeSyscall : Nat := 11
def causeBreak : Nat := 12
def causeInterrupt : Nat := 13

/-- XACT is set: an exception is active (R174). -/
def xact (c : Ce) : Bool := bitAt c.xstatus 31

/-- EXCEPTION_ENTRY (R168 to R170): EPC names the instruction, or the branch when it stands in a delay slot; the state is
saved in CE_XSTATUS, and the CE goes on in runtime mode with TCTX 0 at CE_XVEC + 16 × CAUSE. -/
def enterException (cause sub : Nat) (xaddr : Word) (elem : Nat) (c : Ce) : Ce :=
  let sh := c.shadow
  { c with
    epc := (match c.slot with | some d => d.branch | none => c.pc)
    xtarget := (match c.slot with | some d => d.target | none => c.xtarget)
    xstatus := regOf [(31, 31, 1), (30, 30, b2n c.slot.isSome), (29, 28, (sh.map (·.left)).getD 0), (27, 27, b2n c.loopen),
      (26, 26, b2n c.priv), (25, 16, c.tctx), (15, 15, b2n ((sh.map (·.priv)).getD false)), (14, 5, (sh.map (·.tctx)).getD 0),
      (3, 0, cause)]
    xinfo := regOf [(26, 24, sub), (4, 0, elem)]
    xaddr := xaddr
    priv := true, tctx := 0, shadow := none, loopen := false, slot := none, elem := 0, split := false
    pc := c.xvec + wordN (16 * cause) }

/-! ## The scheduler's side of a CE (R188, R197, R204) -/

/-- A task, and the stack of a CE. -/
def taskOf (s : State) (t : Nat) : Task := tget ({} : Task) s.cyc.tasks t
def putTask (s : State) (t : Nat) (x : Task) : State := { s with cyc := { s.cyc with tasks := tset ({} : Task) s.cyc.tasks t x } }
def stackOf (s : State) (n : Nat) : List Nat := tget [] s.cyc.ceStacks n
def putStack (s : State) (n : Nat) (l : List Nat) : State := { s with cyc := { s.cyc with ceStacks := tset [] s.cyc.ceStacks n l } }

/-- The frame image whose programs a CE runs: during a handover, the new set's for a CE that has switched. -/
def imageOf (s : State) (n : Nat) : ImageContent :=
  match s.cyc.next with
  | some c => if s.cyc.switched.contains n then c else s.img
  | none => s.img

/-- The tasks that a CE carries (R185). -/
def tasksOn (s : State) (n : Nat) : List TaskCfg := (tableInForce s).filter (fun t => decide (t.ce = n))

/-- A CE's stack and its pending starts cleared: its tasks wait for their next tick, but the stopped ones (R183, R203). With `records` an
error task whose records still wait stays pending for them (R198); without, they go with the pending starts. -/
def clearStack (records : Bool) (n : Nat) (s : State) : State :=
  putStack ((tasksOn s n).foldl (fun s c =>
    let t := taskOf s c.task
    if t.state = .absent then s
    else putTask s c.task { t with
      state := if t.state = .stopped then .stopped else if records ∧ c.cls = 4 ∧ t.queue ≠ [] then .pending else .waiting
      begun := false
      queue := if records then t.queue else [] }) s) n []

/-- The lock of a CE's role. -/
def roleEntry (s : State) (n : Nat) : Option RoleEntry := s.img.roles.find? (fun r => decide (r.ce = n))

/-- Lines of the locked blocks (R177): those of program-store addresses, for an executable data bank cannot be locked. -/
def lockedLines (s : State) (n : Nat) : List Nat :=
  match roleEntry s n with
  | some r => ((List.range (64 * Nat.min 12 r.lockBlocks)).map (fun i => (r.lockBase.toNat / 4096) * 64 + i)).filter
      (fun l => decide (64 * l < 0x8000000))
  | none => []

/-- A task of the new table on a CE that has switched (R204, R206): it waits for its first tick, or for the error records that it still
holds; a stopped one stays STOPPED. Its first cycle carries FLAGS bit 2. -/
def taskSwitched (s : State) (x : TaskCfg) : State :=
  let t := taskOf s x.task
  putTask s x.task { t with
    state := if t.state = .stopped then .stopped else if x.cls = 4 ∧ t.queue ≠ [] then .pending else .waiting
    begun := false, late := false, set := !s.frm.activeSet, flags := t.flags ||| 4 }

/-- A CE that carries tasks switches to the new set (R204, R206): its instruction space is the new set, with its locked lines filled from
there (R177), its tasks are those of the new table, with those that left it for a CE switched before, and its data map is to run. A task
that the new table gives to no CE has no further start. -/
def switchCe (n : Nat) (s : State) : State :=
  match s.cyc.handover, s.cyc.next with
  | some h, some img =>
    if h.left.contains n then
      let old := tasksOn s n
      let s : State := { s with cyc := { s.cyc with
        handover := some { h with left := h.left.filter (fun k => decide (k ≠ n)), mapping := h.mapping ++ [n] },
        switched := s.cyc.switched ++ [n] } }
      let s := putCe s n { ceOf s n with set := !s.frm.activeSet, lines := lockedLines s n, badLine := none }
      let s := old.foldl (fun s x =>
        if (img.tasks.map (·.task)).contains x.task then s
        else putTask s x.task { taskOf s x.task with state := .absent, begun := false, queue := [] }) s
      let mine := (tableInForce s).filter (fun x => decide (x.ce = n) ||
        (s.cyc.switched.contains x.ce && (old.map (·.task)).contains x.task))
      putStack (mine.foldl taskSwitched s) n []
    else s
  | _, _ => s

/-- The CE may switch at a handover now: its stack is empty after Th (R204). -/
def mustSwitch (s : State) (n : Nat) : Bool :=
  match s.cyc.handover with
  | some h => h.switching && h.left.contains n && decide (stackOf s n = [])
  | none => false

/-- A CE switches at Th at once: IDLE, in FAULT or OFF, or halted by something else than brace (R204, R208, R213). -/
def switchesNow (s : State) (n : Nat) : Bool :=
  let c := ceOf s n
  decide (c.st = .idle) || decide (c.st = .fault) || decide (c.st = .off) || (decide (c.st = .halt) && !(c.hsrc.testBit 1))

/-- A CE whose stack has become empty after Th switches (R204). -/
def settleSwitch (n : Nat) (s : State) : State := if mustSwitch s n && switchesNow s n then switchCe n s else s

/-- A CE has entered FAULT (R197, R213, R214): CAUSE 6 for each of its tasks, with event source 512 + 2t; during a handover it
switches at once. -/
def ceLost (n : Nat) (s : State) : State :=
  let s := (tasksOn s n).foldl (fun s c =>
    raise (512 + 2 * c.task) [6] (putTask s c.task { taskOf s c.task with err := 6 })) s
  match s.cyc.handover with
  | some h => if h.switching then switchCe n s else s
  | none => s

/-- An exception on CE `n` (R167, R174): entered, or, while XACT is 1, the CE goes to FAULT with event source 256 + 2n. Where
R168 gives CE_XADDR no value for the cause, it takes a free one. -/
def takeException (n cause sub : Nat) (xaddr : Option Word) (elem : Nat) (s : State) : State :=
  let c := ceOf s n
  if xact c then ceLost n (raise (256 + 2 * n) [c.epc] (putCe s n { c with st := .fault }))
  else
    match xaddr with
    | some a => putCe s n (enterException cause sub a elem c)
    | none => drawn (putCe s n (enterException cause sub (wordN (freeNat s)) elem c))

/-! ## Going on to the next instruction -/

/-- The step of one loop unit at its end (R159): the count after it, and where it jumps back to. -/
def loopUnit (en : Bool) (pc ls le lc : Word) : Word × Option Word :=
  if en = false ∨ lc = 0 ∨ pc ≠ le then (lc, none)
  else if 1 < lc.toNat then (lc - 1, some ls)
  else (0, none)

/-- LOOP_STEP (R159): unit 1 acts first, and unit 0 only if unit 1 falls through. -/
def loopStep (c : Ce) (next : Word) : Ce × Word :=
  let (lc1, j1) := loopUnit c.loopen c.pc c.ls1 c.le1 c.lc1
  let c := { c with lc1 := lc1 }
  match j1 with
  | some a => (c, a)
  | none =>
    let (lc0, j0) := loopUnit c.loopen c.pc c.ls0 c.le0 c.lc0
    ({ c with lc0 := lc0 }, j0.getD next)

/-- One instruction of a SETM shadow has issued (R150): after the last the new mode applies. -/
def shadowStep (c : Ce) : Ce :=
  match c.shadow with
  | none => c
  | some h =>
    if h.left ≤ 1 then { c with shadow := none, priv := h.priv, tctx := h.tctx }
    else { c with shadow := some { h with left := h.left - 1 } }

/-- An instruction that is no taken branch retires: a loop that ends at it takes its step, in a delay slot too (R159), and execution goes on
at the loop's start, after the slot, or 4 on. -/
def retire (c : Ce) : Ce :=
  let p := loopStep { c with elem := 0, split := false } (match c.slot with | some d => d.target | none => c.pc + 4)
  shadowStep { p.1 with pc := p.2, slot := none }

/-- A branch retires: its delay slot is next, and then `target` (R156). -/
def retireBranch (target : Word) (c : Ce) : Ce :=
  shadowStep { c with elem := 0, split := false, slot := some { branch := c.pc, target := target }, pc := c.pc + 4 }

/-! ## Fetching -/

/-- The right of a CE on a bank in its mode (R148); only CEs of the sandbox pool hold execute. -/
def bankRight (s : State) (n : Nat) (priv : Bool) (bank : Nat) : BankRight :=
  if bank < 8 then .read
  else if bank = 8 ∨ bank = 16 ∨ bank = 17 ∨ bank = 24 then .none
  else if s.img.memory.saveA.contains bank ∨ s.img.memory.saveB.contains bank then .none
  else match s.img.memory.grants.find? (fun g => decide (g.ce = n ∧ g.bank = bank)) with
    | some g =>
      let r := if priv then g.runtime else g.task
      if r = .readExecute ∧ (roleEntry s n).map (·.role) ≠ some .sandbox then .read else r
    | none => .none

/-- The bank of an MRAM data or instruction address, from 16#4000_0000 on. -/
def bankOf (a : Word) : Nat := (a.toNat - 0x40000000) / 0x2000000

/-- The SUB of the FETCH exception that an address raises, if any (R147): 1 address, 2 right. -/
def fetchFault (s : State) (n : Nat) (c : Ce) (a : Word) : Option Nat :=
  if a.toNat % 4 ≠ 0 then some 1
  else if a.toNat < 0x8000000 then none
  else if 0x40000000 ≤ a.toNat ∧ a.toNat < 0x80000000 then
    (if bankRight s n c.priv (bankOf a) = .readExecute then none else some 2)
  else some 1

/-- CE `n` issues an instruction (R145): only in RUN, and after its fetch; the instruction then runs. -/
def issue (n : Nat) (run : Ce → State → State) (s : State) : State :=
  let c := ceOf s n
  if c.st ≠ .run then s
  else
    match fetchFault s n c c.pc with
    | some sub => takeException n causeFetch sub (some c.pc) 0 s
    | none => run c s

/-! ## Halts, restart, release -/

/-- A point of R175: between instructions, but not between a branch and its slot and not in a SETM shadow; between elements of a comb
instruction and while it waits for comb budget, wherever it stands. -/
def allowedPoint (c : Ce) : Bool := c.split || (c.slot.isNone && c.shadow.isNone)

/-- A halt source asked of a CE (R183): added at once in HALT, else taken at the next point of R175 (CE_HALT). -/
def requestHalt (bit : Nat) (n : Nat) (s : State) : State :=
  let c := ceOf s n
  match c.st with
  | .halt => putCe s n { c with hsrc := putBit c.hsrc bit true }
  | .run => putCe s n { c with haltReq := putBit c.haltReq bit true }
  | .idle => putCe s n { c with haltReq := putBit c.haltReq bit true }
  | _ => s

/-- CE_HALT_WITHDRAW (R183): a source withdrawn; with none left the CE returns to the state it left. -/
def withdrawHalt (bit : Nat) (n : Nat) (s : State) : State :=
  let c := ceOf s n
  let c := { c with haltReq := putBit c.haltReq bit false, hsrc := putBit c.hsrc bit false }
  if c.st = .halt ∧ c.hsrc = 0 then putCe s n { c with st := c.prev, elem := c.resumeElem, resumeElem := 0 }
  else putCe s n c

/-- A CE's registers at their reset values, its SRAM, error counts and cache kept (R183). -/
def ceRegsReset (c : Ce) : Ce :=
  { ({} : Ce) with sram := c.sram, psRefuse := c.psRefuse, icPar := c.icPar, sramCe := c.sramCe, lines := c.lines, set := c.set,
                   st := c.st }

/-- RESTART in HALT or FAULT (R183, R553): IDLE with registers at reset values and no pending interrupt; a CE that a handover waits for
switches with its stack empty (R204). -/
def ceRestart (n : Nat) (s : State) : State :=
  let c := ceOf s n
  if c.st = .halt ∨ c.st = .fault then
    settleSwitch n (clearStack false n (emptyPend n (putCe s n { ceRegsReset c with st := .idle }))) else s

/-- EXEC_BANK_STORE_INVALIDATE (R182): the lines of a stored range leave every cache that may hold them. -/
def invalidateLines (a : Word) (n : Nat) (s : State) : State :=
  let lo := a.toNat / 64
  let hi := (a.toNat + n - 1) / 64
  let drop (_ : Nat) (c : Ce) : Ce := { c with lines := c.lines.filter (fun l => decide (l < lo) || decide (hi < l)) }
  { s with ces := tupdAll ({} : Ce) (s.ces.map (·.1)) drop s.ces }

/-- A CE in reset: OFF, registers at reset values, interrupts emptied, error counts kept (RWS) unless by power-on. -/
def ceReset (por : Bool) (n : Nat) (s : State) : State :=
  let c := ceOf s n
  emptyPend n (putCe s n { ({} : Ce) with
    psRefuse := if por then 0 else c.psRefuse, icPar := if por then 0 else c.icPar, sramCe := if por then 0 else c.sramCe })

/-- SRAM of a cold start: the initial data of the frame image, or zero (R79). -/
def coldSram (s : State) (n : Nat) : Tab Byte :=
  (s.img.init.filter (fun d => decide (d.ce = n))).foldl (fun m d => writeBytes m d.addr d.bytes) []

/-- The bank set whose image the module runs (R133): while an activation is pending, the one that was active before it. -/
def runSet (f : Frm) : Bool := if f.pending then !f.activeSet else f.activeSet

/-- A cold start of a CE (R79, R183): IDLE, registers at reset values, SRAM initialised, locked lines filled. -/
def ceCold (n : Nat) (s : State) : State :=
  putCe s n { ceRegsReset (ceOf s n) with st := .idle, sram := coldSram s n, lines := lockedLines s n, set := runSet s.frm }

/-- CE_ERR's event: the first refused store after a CLEAR, or a count reaching 16 (R184). -/
def errReport (n : Nat) (old : Ce) (s : State) : State :=
  let c := ceOf s n
  raiseIf ((decide (old.psRefuse = 0) && decide (c.psRefuse = 1)) || (decide (old.sramCe < 16) && decide (16 ≤ c.sramCe))
    || (decide (old.icPar < 16) && decide (16 ≤ c.icPar))) (257 + 2 * n) [ceErrReg c] s

/-- CE_CTRL written by the Keeper: HALT, RESUME and RESTART, in that order of bits. -/
def ceCtrlWrite (n : Nat) (w : Word) (s : State) : State :=
  let s := if bitAt w 0 then requestHalt 4 n s else s
  let s := if bitAt w 1 then withdrawHalt 4 n s else s
  if bitAt w 2 then ceRestart n s else s

end Sys2Proof.Machine
end

