-- ==== Sys2Proof/Machine/CombOps.lean ====
section
/-! DEFINITION. The comb: slots and their words, the tenancy guard, writes and priority arrays, sources, forces, alarms,
trends and the mirror (R215 to R234). -/
namespace Sys2Proof.Machine

def pointOf (s : State) (id : Nat) : Point := tget ({} : Point) s.cmb.points id
def putPoint (s : State) (id : Nat) (p : Point) : State :=
  { s with cmb := { s.cmb with points := tset ({} : Point) s.cmb.points id p } }

/-- A word of a slot (R215), and a word replaced. -/
def pword (p : Point) (k : Nat) : Word := tget 0 p.words k
def putWord (p : Point) (k : Nat) (w : Word) : Point := { p with words := tset 0 p.words k w }

/-- The bits of a word of a slot that R215 gives a meaning; the others are reserved and read 0. -/
def slotMask : Nat → Word
  | 1 => maskOf 31 26 ||| maskOf 15 8
  | 4 => maskOf 31 24 ||| maskOf 9 0
  | 5 => maskOf 31 30 ||| maskOf 9 0
  | 9 => maskOf 31 29 ||| maskOf 15 0
  | 10 => maskOf 31 27 ||| maskOf 15 0
  | 11 => maskOf 31 16 ||| maskOf 12 8 ||| maskOf 4 0
  | 13 => maskOf 31 28
  | 14 => maskOf 31 30 ||| maskOf 26 0
  | _ => 0xFFFFFFFF

/-! ## Fields of a slot (R215) -/

def Point.quality (p : Point) : Nat := fld (pword p 1) 31 30
def Point.typ (p : Point) : Nat := fld (pword p 4) 31 28
def Point.commandable (p : Point) : Bool := bitAt (pword p 4) 25
def Point.lifeSafety (p : Point) : Bool := bitAt (pword p 4) 24
def Point.owner (p : Point) : Nat := fld (pword p 4) 9 0
def Point.visMode (p : Point) : Nat := fld (pword p 5) 31 30
def Point.visList (p : Point) : Nat := fld (pword p 5) 9 0
def Point.eventState (p : Point) : Nat := fld (pword p 10) 31 30
def Point.programPrio (p : Point) : Nat := fld (pword p 11) 4 0
def Point.interval (p : Point) : Nat := fld (pword p 13) 31 28
def Point.sourceKind (p : Point) : Nat := fld (pword p 14) 31 30
def Point.sourceUnit (p : Point) : Nat := fld (pword p 14) 26 16
def Point.sourceWord (p : Point) : Nat := fld (pword p 14) 15 0

/-- A field of a word of a slot replaced. -/
def putField (p : Point) (k hi lo v : Nat) : Point := putWord p k (mergeMask (maskOf hi lo) (pword p k) (regOf [(hi, lo, v)]))

/-- The home tile of a point (R216): as POINTS gives it, or block mod 32; and the compute die it lies on. -/
def homeTile (s : State) (id : Nat) : Nat :=
  match s.img.homes.find? (fun h => decide (h.1 = id / 256)) with
  | some h => h.2
  | none => id / 256 % 32
def homeDie (s : State) (id : Nat) : Die := if homeTile s id < 16 then .comp0 else .comp1

/-! ## Values and priority arrays (R221, R223) -/

/-- The entry of the lowest-numbered active priority. -/
def topEntry (a : PrioArray) : Option (Nat × Word) :=
  firstSome (fun p => (tget none a.entries p).map (fun v => (p, v))) ((List.range 16).map (· + 1))

/-- VALUE as a force leaves it: forced bits from the force, the others from below (R209, R223). -/
def forced (f : Option (Word × Word)) (v : Word) : Word :=
  match f with
  | some (m, w) => mergeMask m v w
  | none => v

/-- VALUE, ACTIVE_PRIO and FORCED computed again: from the array, unless a source feeds the slot, and under its force. -/
def refresh (p : Point) : Point :=
  let p := match p.arr with
    | some a =>
      if p.sourceKind ≠ 0 then p
      else match topEntry a with
        | some (k, v) => putField { p with base := v } 11 12 8 k
        | none => putField { p with base := a.relinquish } 11 12 8 0
    | none => p
  putField (putWord p 0 (forced p.force p.base)) 1 27 27 (b2n p.force.isSome)

/-- A value written at a priority, or the priority relinquished. -/
def setPrio (p : Point) (k : Nat) (v : Option Word) : Point :=
  match p.arr with
  | some a => refresh { p with arr := some { a with entries := tset none a.entries k v } }
  | none => match v with
    | some w => refresh { p with base := w }
    | none => p

/-- The device time of an accepted write (R223). -/
def stamp (p : Point) (t : Nat) : Point := putWord (putWord p 2 (loWord t)) 3 (hiWord t)

/-- The device time that a slot shows (R215). -/
def slotTime (p : Point) : Nat := (pword p 3).toNat * 4294967296 + (pword p 2).toNat

/-- A requester's relinquishing that the guard has accepted: no write of VALUE, so TIME stays (R215, R223). -/
def acceptRelinquish (p : Point) (prio : Nat) : Point := setPrio p prio none

/-- A requester's write of VALUE that the guard has accepted (R223). A slot not yet written, or lost and written from POINTS, is good
again. -/
def acceptValue (p : Point) (prio : Nat) (v : Word) (t : Nat) : Point :=
  let p := stamp (setPrio p prio (some v)) t
  if p.quality = 3 ∨ (p.quality = 2 ∧ fld (pword p 1) 15 8 = 7) then
    putField (putField (putField p 1 31 30 0) 1 28 28 0) 1 15 8 0
  else p

/-! ## Alarms (R233) -/

/-- Values of a type compared: REAL as binary32, INT32 signed, UINT32 unsigned. -/
def valueLess (typ : Nat) (a b : Word) : Bool :=
  if typ = 0 then fLess (floatOf a) (floatOf b) else if typ = 1 then decide (a.toInt < b.toInt) else decide (a.toNat < b.toNat)

/-- VALUE < HIGH_LIMIT − DEADBAND, and VALUE > LOW_LIMIT + DEADBAND, the limits moved exactly for the integer types. -/
def belowHigh (typ : Nat) (v h d : Word) : Bool :=
  if typ = 0 then fLess (floatOf v) (floatOf (fsub h d 0))
  else if typ = 1 then decide (v.toInt < h.toInt - d.toInt) else decide ((v.toNat : Int) < (h.toNat : Int) - (d.toNat : Int))
def aboveLow (typ : Nat) (v l d : Word) : Bool :=
  if typ = 0 then fLess (floatOf (fadd l d 0)) (floatOf v)
  else if typ = 1 then decide (l.toInt + d.toInt < v.toInt) else decide (l.toNat + d.toNat < v.toNat)

/-- The state that a condition of VALUE leads to from normal, high limit or low limit. -/
def alarmTarget (p : Point) : Option Nat :=
  let cfg := pword p 9
  let v := pword p 0
  if 3 ≤ p.typ then none
  else match p.eventState with
    | 0 => if bitAt cfg 31 && valueLess p.typ (pword p 6) v then some 2
           else if bitAt cfg 30 && valueLess p.typ v (pword p 7) then some 3 else none
    | 2 => if belowHigh p.typ v (pword p 6) (pword p 8) then some 0 else none
    | 3 => if aboveLow p.typ v (pword p 7) (pword p 8) then some 0 else none
    | _ => none

/-- The ACK bit of a transition to a state. -/
def ackBit (st : Nat) : Nat := if st = 0 then 27 else if st = 1 then 28 else 29

/-- A transition: EVENT_STATE, its ACK bit cleared, IN_ALARM, no delay pending. -/
def alarmMove (p : Point) (st : Nat) : Point :=
  let p := putField (putField (putField p 10 31 30 st) 10 (ackBit st) (ackBit st) 0) 10 15 0 0
  { putField p 1 29 29 (b2n (decide (st ≠ 0))) with alarmPend := none }

/-- One evaluation: a delay in units of 100 ms counts at a scan. The slot after it, and the transition made. -/
def alarmStep (scan : Bool) (p : Point) : Point × Option (Nat × Nat) :=
  let cfg := pword p 9
  let st := p.eventState
  if bitAt cfg 29 ∧ p.quality = 2 ∧ st ≠ 1 then (alarmMove p 1, some (st, 1))
  else if st = 1 then (if p.quality = 2 then (p, none) else (alarmMove p 0, some (1, 0)))
  else match alarmTarget p with
    | none => ({ putField p 10 15 0 0 with alarmPend := none }, none)
    | some t =>
      let left := if p.alarmPend = some t then fld (pword p 10) 15 0 - (if scan then 1 else 0) else 10 * fld cfg 7 0
      if left = 0 then (alarmMove p t, some (st, t))
      else ({ putField p 10 15 0 left with alarmPend := some t }, none)

/-- ALARM_EVALUATION: at once again after fault has gone back to normal. -/
def alarmEval (scan : Bool) (p : Point) : Point × List (Nat × Nat) :=
  match alarmStep scan p with
  | (p1, some (1, 0)) =>
    let (p2, m) := alarmStep false p1
    (p2, (1, 0) :: m.toList)
  | (p1, m) => (p1, m.toList)

/-- A record placed in the alarm queue of 16,384: when it is full the oldest record of state normal falls, or else the new
record; either raises event source 103. -/
def queueAlarm (r : AlarmRec) (s : State) : State :=
  let q := s.cmb.alarms
  if q.length < 16384 then { s with cmb := { s.cmb with alarms := q ++ [r] } }
  else match q.find? (fun x => decide (x.new = 0)) with
    | some x => raise 103 [] { s with cmb := { s.cmb with alarms := q.erase x ++ [r] } }
    | none => raise 103 [] s

/-! ## Committing a change -/

/-- What a slot's mirror and save hold of it. -/
def slotImage (p : Point) : SlotImage := { words := p.words, base := p.base, arr := p.arr }

/-- The pair's comb is the other module's (R480); its writes go there while the modules exchange more than waggles (R483). -/
def combStandby (s : State) : Bool := isStandby s
def forwardsWrites (s : State) : Bool := isStandby s && exchanges s
/-- The access is a CE's. -/
def ofCe : CombWho → Bool
  | .ce _ => true
  | _ => false

/-- A slot changed to `p` with some alarm transitions: SEQ counts a change of VALUE or STATUS, the slot is dirty for the mirror, a trend of
INTERVAL 6 samples it (R234), and the holder mirrors the change. -/
def storePoint (moves : List (Nat × Nat)) (id : Nat) (p : Point) (s : State) : State :=
  let old := pointOf s id
  let moved := decide (pword p 0 ≠ pword old 0 ∨ pword p 1 ≠ pword old 1)
  let p := if moved then putWord p 15 (pword old 15 + 1) else p
  let changed := decide (slotImage p ≠ slotImage old)
  let p := { p with dirty := p.dirty || changed }
  let s := putPoint s id p
  let s : State := if moved && decide (p.interval = 6) then
    { s with cmb := { s.cmb with trendQ := s.cmb.trendQ ++ [(id, pword p 0, pword p 1, slotTime p)] } } else s
  let s : State := if changed && exchanges s then { s with cmb := { s.cmb with mirrorOut := some (id, slotImage p) } } else s
  moves.foldl (fun s m => queueAlarm (AlarmRec.mk (devTime s) id m.1 m.2 (fld (pword p 9) 15 8) (pword p 0)) s) s

/-- VALUE or STATUS of a slot has been written, or the scan has come to it: the alarm state is evaluated (R233). -/
def commitPoint (scan : Bool) (id : Nat) (new : Point) (s : State) : State :=
  let (p, moves) := alarmEval scan new
  storePoint moves id p s

/-! ## The tenancy guard (R224 to R227) -/

/-- Requester kinds of CMB_GUARD_LAST. -/
def whoKind : CombWho → Nat
  | .ce _ => 0 | .session _ => 1 | .station _ => 2 | .keeper => 3 | .unit => 4

/-- The tenant that a session is bound to (R237, R238, R242). -/
def sessionTenant (s : State) : NetSession → Option Nat
  | .bac (.sc k) => (tget none s.cmb.conns k).map (·.tenant)
  | .bac (.ip k) => s.img.bacIp[k]?
  | .modbus k => s.img.modbusBinds[k]?.map (·.1)
  | .map no => (s.img.modbus.find? (fun m => decide (m.no = no))).map (·.tenant)

/-- The requester's tenant, which it cannot choose (R224): TCTX, the tenant of its session or station, CMB_ACC_CTRL TENANT, or 0; none where
no such session or station exists. -/
def whoTenant (s : State) : CombWho → Option Nat
  | .ce n => some (ceOf s n.val).tctx
  | .session x => sessionTenant s x
  | .station n => (s.img.stations.find? (fun t => decide (t.no = n.val))).map (·.tenant)
  | .keeper => some s.cmb.accTenant
  | .unit => some 0

/-- The TENANTS entry of a tenant. -/
def tenantCfg (s : State) (t : Nat) : Option TenantCfg := s.img.tenants.find? (fun x => decide (x.no = t))

/-- Step 1: a sandbox CE presents the tenant bound to it (R229); one that no binding names presents none. -/
def boundOk (s : State) (w : CombWho) (tenant : Nat) : Bool :=
  match w with
  | .ce n => match s.img.sandbox.find? (fun x => decide (x.ce = n.val)) with
    | some x => decide (x.tenant = tenant)
    | none => decide ((roleEntry s n.val).map (·.role) ≠ some .sandbox)
  | _ => true

/-- Visible to a requester tenant, and the words it may read (R226). -/
def visible (s : State) (p : Point) (r : Nat) : Bool :=
  decide (r = p.owner) || decide (r = 0)
    || decide (p.visMode = 2) || (decide (p.visMode = 1) && (s.img.shares.getD p.visList []).contains r)
def mayReadWord (s : State) (p : Point) (r word : Nat) : Bool :=
  if r = p.owner then true
  else if r = 0 then
    (match tenantCfg s p.owner with | some t => t.oprRead | none => false) || p.lifeSafety || [1, 4, 11].contains word
  else [0, 1, 2, 3, 15].contains word

/-- The priority of a write of VALUE: a CE's and a unit's is PROGRAM_PRIO, or 2 for a tenant-0 CE at another's slot; others
state it, 0 acting as 16. A station's is PROGRAM_PRIO. -/
def writePrio (p : Point) (w : CombWho) (r stated : Nat) : Nat :=
  match w with
  | .ce _ => if r = 0 ∧ p.owner ≠ 0 then 2 else p.programPrio
  | .unit => p.programPrio
  | .station _ => p.programPrio
  | _ => if stated = 0 then 16 else stated

/-- The requester is the source that the slot names (R222): kind and unit. -/
def isSource (p : Point) (src : Option (Nat × Nat)) : Bool := decide (src = some (p.sourceKind, p.sourceUnit))

/-- A write of VALUE or a relinquishing at a priority is allowed (R222, R227). -/
def mayWriteValue (p : Point) (w : CombWho) (r prio : Nat) (src : Option (Nat × Nat)) : Bool :=
  let sourceOk := decide (p.sourceKind = 0) || isSource p src
  let keen := decide (prio = 1 ∨ prio = 2)
  let entitled :=
    if r = p.owner then decide (r = 0) || !keen
    else if r = 0 then p.commandable && p.lifeSafety && keen
    else false
  let unitOk := match w with | .unit => decide (p.owner = 0) | _ => true
  sourceOk && entitled && unitOk

/-- Words an owner may write besides 0 and 15. -/
def ownerWords : List Nat := [6, 7, 8, 9, 10, 12, 13]

/-- A write of word 15 that relinquishes (R221). -/
def relinquishes (p : Point) (v : Word) : Bool := bitAt v 31 && p.arr.isSome

/-- Step 4 for an operation: a GUARD for a read, READ_ONLY for a write. -/
def opAllowed (s : State) (p : Point) (w : CombWho) (r : Nat) (src : Option (Nat × Nat)) : CombOp → Option CombResult
  | .read k => if mayReadWord s p r k.val then none else some .guarded
  | .readSlot => none
  | .write k v prio =>
    let ok := if k.val = 0 then mayWriteValue p w r (writePrio p w r prio.val) src
      else if k.val = 15 then relinquishes p v && mayWriteValue p w r (writePrio p w r prio.val) src
      else decide (r = p.owner) && ownerWords.contains k.val
    if ok then none else some .readOnly
  | .relinquish prio =>
    if p.arr.isSome && mayWriteValue p w r (writePrio p w r prio.val) src then none else some .readOnly

/-- The home guard (R225): the first check that fails gives the result. -/
def guardResult (s : State) (w : CombWho) (r id : Nat) (op : CombOp) (src : Option (Nat × Nat)) (double : Bool) :
    Option CombResult :=
  let p := pointOf s id
  if !(boundOk s w r) then some .guarded
  else if !p.alloc then some (if r = 0 then .unassigned else .guarded)
  else if !(visible s p r) then some .guarded
  else match opAllowed s p w r src op with
    | some e => some e
    | none => if double || p.broken then some .ecc else none

/-- A denial is counted and shown (CMB_GUARD_DENY, CMB_GUARD_LAST), with event source 96 at the first since a CLEAR. -/
def denyLast (s : State) : Word := regOf [(31, 29, s.cmb.denyKind), (28, 19, s.cmb.denyTenant), (17, 0, s.cmb.denyId)]
def countDenial (w : CombWho) (r id : Nat) (s : State) : State :=
  let first := decide (s.cmb.denyCount = 0)
  let s : State := { s with cmb := { s.cmb with
    denyCount := satAdd 16777215 s.cmb.denyCount 1, denyKind := whoKind w, denyTenant := r, denyId := id } }
  raiseIf first 96 [denyLast s] s

/-- A write or relinquishing carried out; reserved bits ignore the write (R215). -/
def applyOp (p : Point) (w : CombWho) (r : Nat) (t : Nat) : CombOp → Point
  | .write k v prio =>
    if k.val = 0 then acceptValue p (writePrio p w r prio.val) v t
    else if k.val = 15 then acceptRelinquish p (writePrio p w r prio.val)
    else if k.val = 10 then putWord p 10 (pword p 10 ||| (v &&& maskOf 29 27))
    else putWord p k.val (v &&& slotMask k.val)
  | .relinquish prio => acceptRelinquish p (writePrio p w r prio.val)
  | _ => p

/-- The operation is a write of VALUE or relinquishes it, on which the alarm state is evaluated (R233). -/
def opTouches : CombOp → Bool
  | .write k _ _ => decide (k.val = 0 ∨ k.val = 15)
  | .relinquish _ => true
  | _ => false

/-- The operation changes the slot. -/
def opWrites : CombOp → Bool
  | .read _ => false | .readSlot => false | _ => true

/-- The words a read delivers; a whole slot shows 0 for the words the requester may not read. -/
def readWordsOf (s : State) (p : Point) (r : Nat) : CombOp → List Word
  | .read k => [pword p k.val]
  | .readSlot => (List.range 16).map (fun k => if mayReadWord s p r k then pword p k else 0)
  | _ => []

/-- COMB_ACCESS (R220, R225): one element, checked and applied whole. A double-bit error in the slot fails the element that meets it, and
the slot waits for its reload (R218). A home die that does not run, or is asked idle (R71), answers none. At the standby, CE writes are
discarded and other writes go to the holder (R480); with unequal frame digests nothing goes there, and they stay the standby's own (R483,
log entry 52). -/
def combAccess (w : CombWho) (r id : Nat) (op : CombOp) (src : Option (Nat × Nat)) (ecc : Ecc) (s : State) :
    CombResult × State :=
  if 262144 ≤ id then (.idRange, s)
  else if serves s (homeDie s id) = false then (.truss, s)
  else match guardResult s w r id op src (decide (ecc = .double)) with
    | some .ecc => (.ecc, putPoint s id { pointOf s id with broken := true })
    | some .unassigned => (.unassigned, s)
    | some e => (e, countDenial w r id s)
    | none =>
      let p := pointOf s id
      if opWrites op then
        if combStandby s && ofCe w then (.ok [], s)
        else if forwardsWrites s then (.ok [], { s with cmb := { s.cmb with forwardOut := some (w, id, op) } })
        else
          let q := applyOp p w r (devTime s) op
          (.ok [], if opTouches op then commitPoint false id q s else storePoint [] id q s)
      else (.ok (readWordsOf s p r op), s)

/-! ## Sources (R222) -/

/-- The allocated slots that a source feeds. -/
def sourceSlots (s : State) (kind unitNo : Nat) : List Nat :=
  (s.cmb.points.filter (fun e => e.2.alloc && decide (e.2.sourceKind = kind ∧ e.2.sourceUnit = unitNo))).map (·.1)

/-- The source's value for one slot: VALUE, and STATUS good again after a loss. -/
def sourceValue (p : Point) (v : Word) (t : Nat) : Point :=
  let p := stamp (refresh { p with base := v }) t
  putField (putField (putField p 1 31 30 0) 1 26 26 0) 1 15 8 0

/-- A source delivers its words, received at `t`: each slot it feeds takes the word it names, under the guard with the
source's tenant. -/
def sourceWrite (w : CombWho) (r kind unitNo : Nat) (vals : List Word) (t : Nat) (s : State) : State :=
  (sourceSlots s kind unitNo).foldl (fun s id =>
    let p := pointOf s id
    match vals[p.sourceWord]? with
    | none => s
    | some v =>
      if serves s (homeDie s id) = false then s
      else match guardResult s w r id (.write 0 v 0) (some (kind, unitNo)) false with
        | some .ecc => s
        | some .unassigned => s
        | some _ => countDenial w r id s
        | none =>
          if forwardsWrites s then { s with cmb := { s.cmb with forwardOut := some (w, id, .write 0 v 0) } }
          else commitPoint false id (sourceValue p v t) s) s

/-- The source's station or device is declared lost: SOURCE_LOST 1, QUALITY 2, RELIABILITY 12; VALUE stays. -/
def sourceLost (kind unitNo : Nat) (s : State) : State :=
  (sourceSlots s kind unitNo).foldl (fun s id =>
    let p := pointOf s id
    commitPoint false id (putField (putField (putField p 1 26 26 1) 1 31 30 2) 1 15 8 12) s) s

/-! ## Forces of KIND 5, and the load of phase 7 -/

/-- A force set on, or taken from, a point (R223). -/
def pointForce (id : Nat) (f : Option (Word × Word)) (s : State) : State :=
  let p := pointOf s id
  if p.alloc then commitPoint false id (refresh { p with force := f }) s else s

/-- The words of a slot as POINTS gives them. -/
def cfgWords (c : PointCfg) : Tab Word :=
  (numbered c.words).foldl (fun t e => tset 0 t e.1 (e.2 &&& slotMask e.1)) []

/-- A slot written from POINTS: QUALITY 3, SEQ 0, every priority relinquished (R219). -/
def freshPoint (c : PointCfg) : Point :=
  let p : Point := { alloc := true, words := cfgWords c, base := tget 0 (cfgWords c) 0 }
  let p := { p with arr := if p.commandable then some { relinquish := c.relinquish } else none }
  putWord (putField p 1 31 30 3) 15 0

/-- A slot taken from its mirror, its words 4, 5, 11 and 14 and its relinquish default from POINTS (R219). -/
def keptPoint (c : PointCfg) (m : SlotImage) : Point :=
  let old : Point := { words := m.words }
  let ws := [4, 5, 11, 14].foldl (fun t k => tset 0 t k (tget 0 (cfgWords c) k)) m.words
  let p : Point := { alloc := true, words := ws, base := m.base }
  let p := if p.commandable then
      match old.commandable, m.arr with
      | true, some a => { p with arr := some { a with relinquish := c.relinquish } }
      | _, _ => { p with arr := some { relinquish := c.relinquish }, base := c.relinquish }
    else putField p 11 12 8 0
  refresh p

/-- A slot with neither copy readable (R218): QUALITY 2, FAULT 1, RELIABILITY 7 and VALUE from POINTS. -/
def lostPoint (c : PointCfg) (p : Point) : Point :=
  let v := c.words.getD 0 0
  putField (putField (putField (putWord { p with base := v } 0 v) 1 31 30 2) 1 28 28 1) 1 15 8 7

/-- One slot's load in phase 7 (R219): the mirror copy taken, and whether neither is readable. A copy that still holds another owner's slot
is never loaded, whichever image the mirror is said to be of. -/
def loadPoint (s : State) (same : Bool) (unA unB : List Nat) (c : PointCfg) : Point × Bool :=
  let a := tget ({} : SlotImage) s.cmb.mirA c.slot
  let b := tget ({} : SlotImage) s.cmb.mirB c.slot
  if unA.contains c.slot && unB.contains c.slot then (lostPoint c (freshPoint c), true)
  else
    let m := if unA.contains c.slot then b else a
    let old : Point := { words := m.words }
    let cfg := (tget 0 (cfgWords c) 4)
    if old.owner = fld cfg 9 0 ∧ old.typ = fld cfg 31 28 then
      (if same then refresh { alloc := true, words := m.words, base := m.base, arr := m.arr } else keptPoint c m, false)
    else (freshPoint c, false)

/-- Phase 7's load of the home slots of the slices released, `mine` (R219): from a mirror that this image wrote as it stands, else slot by
slot as the rule for another image has it; a warm start then lays the saved slots over them. Slots not
allocated are zero in both copies. -/
def combLoad (mine : Nat → Bool) (unA unB : List Nat) (saved : Tab SlotImage) (s : State) : State :=
  let same := decide (s.cmb.mirDigest = s.frm.digest)
  let s0 := s
  let s : State := { s with cmb := { s.cmb with
    points := s.cmb.points.filter (fun e => !(mine e.1)), loaded := true } }
  let keep (m : Tab SlotImage) : Tab SlotImage := m.filter (fun e => (s.img.points.map (·.slot)).contains e.1)
  let s : State := { s with cmb := { s.cmb with mirA := keep s.cmb.mirA, mirB := keep s.cmb.mirB } }
  (s.img.points.filter (fun c => mine c.slot)).foldl (fun s c =>
    let (p, lost) := loadPoint s0 same unA unB c
    let p := match saved.find? (fun e => decide (e.1 = c.slot)) with
      | some (_, m) => refresh { p with words := m.words, base := m.base, arr := m.arr }
      | none => p
    let p := { p with dirty := decide (slotImage p ≠ tget ({} : SlotImage) s.cmb.mirA c.slot) }
    let s := putPoint s c.slot p
    if lost then raise 98 [] { s with cmb := { s.cmb with lost := satAdd 255 s.cmb.lost 1 } } else s) s

/-- SLOT_RELOAD (R218): from copy A, else from copy B, with event source 97; with neither readable the slot is lost, with event
source 98. -/
def slotReload (id : Nat) (okA okB : Bool) (s : State) : State :=
  let p := pointOf s id
  if p.broken then
    if okA || okB then
      let m := tget ({} : SlotImage) (if okA then s.cmb.mirA else s.cmb.mirB) id
      let q := refresh { p with words := m.words, base := m.base, arr := m.arr, broken := false, dirty := false }
      raise 97 [] (putPoint { s with cmb := { s.cmb with repaired := satAdd 65535 s.cmb.repaired 1 } } id q)
    else
      let c := (s.img.points.find? (fun c => decide (c.slot = id))).getD default
      raise 98 [] (commitPoint false id (lostPoint c { p with broken := false })
        { s with cmb := { s.cmb with lost := satAdd 255 s.cmb.lost 1 } })
  else s

/-! ## Write-behind (R217) -/

/-- A changed slot is written to copy A; mirror traffic waits during brace. -/
def mirrorWriteA (id : Nat) (s : State) : State :=
  let p := pointOf s id
  if p.dirty && !(inBrace s) then putPoint s id { p with dirty := false, flightA := some (slotImage p) } else s

/-- The mirror counts as written by the image that runs once neither copy has a slot of it to take (R219). -/
def mirrorWritten (s : State) : State :=
  if s.img.points.all (fun c =>
      let p := pointOf s c.slot
      p.alloc && !p.dirty && p.flightA.isNone && p.flightB.isNone) then { s with cmb := { s.cmb with mirDigest := s.frm.digest } } else s

/-- Copy A acknowledges, and the slot goes to copy B; copy B acknowledges. A copy with nothing late is up to date. -/
def mirrorAckA (id : Nat) (s : State) : State :=
  let p := pointOf s id
  match p.flightA with
  | some m =>
    let s : State := { s with cmb := { s.cmb with mirA := tset ({} : SlotImage) s.cmb.mirA id m, lateA := false } }
    putPoint s id { p with flightA := none, flightB := some m }
  | none => s
def mirrorAckB (id : Nat) (s : State) : State :=
  let p := pointOf s id
  match p.flightB with
  | some m =>
    let s : State := { s with cmb := { s.cmb with mirB := tset ({} : SlotImage) s.cmb.mirB id m, lateB := false } }
    mirrorWritten (putPoint s id { p with flightB := none })
  | none => s

/-- A mirror write not acknowledged within 10 ms outside brace (R246). -/
def mirrorLate (copyB : Bool) (id : Nat) (s : State) : State :=
  let p := pointOf s id
  let out := if copyB then p.flightB.isSome else p.flightA.isSome || p.dirty
  if out && !(inBrace s) then
    raise 99 [] { s with cmb := { s.cmb with lateA := s.cmb.lateA || !copyB, lateB := s.cmb.lateB || copyB } }
  else s

end Sys2Proof.Machine
end

