-- ==== Sys2Proof/Machine/TaskOps.lean ====
section
/-! DEFINITION. Errors of cyclic tasks, and the force table: what other blocks tell the schedulers and ask of the forces
(R193 to R199, R209 to R212). -/
namespace Sys2Proof.Machine

/-- The entry of a task in the table its CE runs. -/
def taskCfg (s : State) (t : Nat) : Option TaskCfg := (tableInForce s).find? (fun x => decide (x.task = t))

/-- A record for a task's error task (R198): at most 8 wait, further ones are counted in LOST; one that waits becomes
pending. -/
def queueError (c : TaskCfg) (r : ErrRec) (s : State) : State :=
  match taskCfg s c.errorTask with
  | none => s
  | some e =>
    let t := taskOf s e.task
    if t.state = .absent then s
    else
      let t := if t.queue.length < 8 then { t with queue := t.queue ++ [r] }
        else { t with lost := satAdd 4294967295 t.lost 1 }
      putTask s e.task { t with
        state := if t.state = .waiting then .pending else t.state, due := if t.state = .waiting then devTime s else t.due }

/-- An error of a task (R197): shown in ERR, with a record for its error task where the cause calls for one. -/
def taskError (c : TaskCfg) (cause station : Nat) (s : State) : State :=
  let s := putTask s c.task { taskOf s c.task with err := cause }
  if [2, 3, 4, 5].contains cause then
    queueError c { cause := cause, task := c.task, station := station, time := devTime s } s
  else s

/-- A task enters STOPPED, with event source 512 + 2t (R194): a stopped lift task costs the module its duties. A cycle of it that stands on
the stack runs on to its WAIT. -/
def stopTask (c : TaskCfg) (cause : Nat) (s : State) : State :=
  let s := putTask s c.task { taskOf s c.task with state := .stopped, stopping := false, begun := (taskOf s c.task).begun && (stackOf s c.ce).contains c.task }
  reassess (raise (512 + 2 * c.task) [wordN cause] s)

/-- A CE's persistent data in the image that it runs (R202). -/
def persistCfg (s : State) (n : Nat) : Option PersistCfg := (imageOf s n).persist.find? (fun x => decide (x.ce = n))

/-- The task on top of a CE's stack has written places of its data SRAM: the blocks of 4 KiB of persistent data among them (R202). -/
def noteWrites (n : Nat) (places : List Nat) (s : State) : State :=
  match (stackOf s n).head?, persistCfg s n with
  | some t, some x =>
    let hit := (places.filter (fun a => decide (x.base ≤ a ∧ a < x.base + x.len))).map (fun a => (a - x.base) / 4096)
    if hit = [] then s
    else putTask s t { taskOf s t with wrote := hit.foldl (fun l b => if l.contains b then l else l ++ [b]) (taskOf s t).wrote }
  | _, _ => s

/-- A task reads or writes a station (R199). -/
def usesStation (c : TaskCfg) (n : Nat) : Bool :=
  c.image.any (fun x => match x with
    | .stationStatus k => decide (k = n) | .stationWord k _ => decide (k = n) | _ => false)
    || c.outs.any (fun x => match x with | .stationWord k _ => decide (k = n) | _ => false)

/-- A station is lost, or returns (R197, R199): CAUSE 3 or 4 for every task that uses it. -/
def stationError (n cause : Nat) (s : State) : State :=
  (tableInForce s).foldl (fun s c => if usesStation c n then taskError c cause n s else s) s

/-- BA low tasks are shed in T2 and T3 (R196). -/
def shedding (s : State) : Bool := decide (2 ≤ s.trs.therm)

/-- The thermal state has changed from `old` (R196): event source 994 as shedding begins or ends, and FLAGS bit 5 for the BA low
tasks' first start after it. -/
def shedChange (old : Nat) (s : State) : State :=
  let was := decide (2 ≤ old)
  if was = shedding s then s
  else
    let s := raise 994 [] s
    if shedding s then s
    else (tableInForce s).foldl (fun s c =>
      if c.cls = 2 then putTask s c.task { taskOf s c.task with flags := (taskOf s c.task).flags ||| 32 } else s) s

/-! ## Forces -/

/-- The force on a target, and a word with it applied (R209). -/
def forceOn (s : State) (kind index : Nat) : Option Force :=
  s.cyc.forces.find? (fun f => decide (f.kind = kind ∧ f.index = index))
def forcedWord (s : State) (kind index : Nat) (w : Word) : Word :=
  match forceOn s kind index with
  | some f => mergeMask f.mask w f.value
  | none => w
def forcedBit (s : State) (kind index : Nat) (b : Bool) : Bool :=
  match forceOn s kind index with
  | some f => if bitAt f.mask 0 then bitAt f.value 0 else b
  | none => b

/-- The word index of a station target (R209). -/
def stationIndex (n word : Nat) : Nat := n * 0x1000 + word

/-- A station carries a force (status bit 2 of R191). -/
def stationForced (s : State) (n : Nat) : Bool :=
  s.cyc.forces.any (fun f => decide (f.kind ≤ 2) && decide (f.index / 0x1000 = n))

/-- The table with the FORCED pin as it asks (R212); the pin is low while the I/O die is in reset (R52). -/
def putForces (fs : List Force) (s : State) : State :=
  { s with cyc := { s.cyc with forces := fs }, pins := { s.pins with forced := decide (fs ≠ []) && running s .io } }

/-- A force leaves the table, with event source 992 (R210, R214). -/
def dropForce (f : Force) (s : State) : State :=
  let s := putForces (s.cyc.forces.erase f) s
  let s := if f.kind = 5 then pointForce f.index none s else s
  raise 992 [wordN f.kind, wordN f.index] s

/-- Every start-up clears every force, without events (R210). -/
def clearForces (s : State) : State :=
  let s := (s.cyc.forces.filter (fun f => decide (f.kind = 5))).foldl (fun s f => pointForce f.index none s) s
  putForces [] s

/-- Check 1 of a SET (R210): the target exists. -/
def targetExists (s : State) (kind index : Nat) (mask : Word) : Bool :=
  let bitOnly := decide (mask.toNat < 2)
  match kind with
  | 1 => s.img.stations.any (fun t => decide (t.no = index / 0x1000 ∧ index % 0x1000 < t.inWords))
  | 2 => s.img.stations.any (fun t => decide (t.no = index / 0x1000 ∧ index % 0x1000 < t.outWords))
  | 3 => decide (index < 48) && bitOnly
  | 4 => decide (index < 24) && bitOnly
  | 5 => decide (index < 262144)
  | _ => false

/-- The RESULT of a SET: the first check of R210 that fails, or 0. -/
def forceCheck (s : State) (kind index : Nat) (mask : Word) (tenant : Nat) : Nat :=
  if !(targetExists s kind index mask) then 4
  else
    let g := if kind = 5 then guardResult s .keeper tenant index (.write 0 0 0) none false else none
    if kind = 5 ∧ g = some .unassigned then 4
    else if kind = 5 ∧ g.isSome then 1
    else if kind ≠ 5 ∧ tenant ≠ 0 then 1
    else if (kind = 2 ∨ kind = 4) ∧ s.frm.presence = false then 2
    else if (forceOn s kind index).isNone ∧ 1024 ≤ s.cyc.forces.length then 3
    else 0

/-- The order that a standby sends to the holder when its CYC_FORCE_CMD is written (R480). -/
def forceSentOn (cmd tenant minutes : Nat) (s : State) : Option ForceOrder :=
  if forwardsWrites s && decide (1 ≤ cmd ∧ cmd ≤ 3) then
    some { cmd, tenant, minutes, target := s.cyc.cmdTarget, mask := s.cyc.cmdMask, value := s.cyc.cmdValue, presence := s.frm.presence }
  else s.cyc.forceOut

/-- CYC_FORCE_CMD: TENANT and TIMEOUT are taken, and CMD acts: SET, clear one, clear all. Forces form one table for the pair (R480): the
standby sends the order on, and table and RESULT follow as at the holder (DEDUCED, log entry 172). -/
def forceCommand (cmd tenant minutes : Nat) (s : State) : State :=
  let s : State := { s with cyc := { s.cyc with tenant := tenant, minutes := minutes, forceOut := forceSentOn cmd tenant minutes s } }
  let kind := fld s.cyc.cmdTarget 31 28
  let index := fld s.cyc.cmdTarget 27 0
  let result (r : Nat) (s : State) : State := { s with cyc := { s.cyc with result := r } }
  match cmd with
  | 1 =>
    let r := forceCheck s kind index s.cyc.cmdMask tenant
    if r ≠ 0 then result r s
    else
      let m := Nat.min minutes 1440
      let f : Force := {
        kind := kind, index := index, mask := s.cyc.cmdMask, value := s.cyc.cmdValue, tenant := tenant,
        expiry := if m = 0 then none else some (devTime s + m * 60000000000) }
      let rest := s.cyc.forces.filter (fun g => !(decide (g.kind = kind ∧ g.index = index)))
      let s := putForces (rest ++ [f]) s
      let s := if kind = 5 then pointForce index (some (f.mask, f.value)) s else s
      result 0 (raise 992 [wordN kind, wordN index] s)
  | 2 => match forceOn s kind index with
    | some f => result 0 (dropForce f s)
    | none => result 0 s
  | 3 => result 0 (s.cyc.forces.foldl (fun s f => dropForce f s) s)
  | _ => s

end Sys2Proof.Machine
end

