-- ==== Sys2Proof/Machine/Comb.lean ====
section
/-! DEFINITION. Commands of the comb: point instructions of the CEs (R161 to R165), elements, mirror and reload, the Keeper's
point access, alarms, trends and the energy unit (R215 to R244). -/
namespace Sys2Proof.Machine

/-! ## Point instructions -/

/-- The element sub-cause of a result (R164). -/
def elementSub : CombResult → Nat
  | .idRange => 1 | .unassigned => 2 | .guarded => 3 | .readOnly => 4 | .ecc => 5 | .truss => 6 | .ok _ => 0

/-- The CE is of the sandbox pool (R229, R230). -/
def isSandbox (s : State) (n : Nat) : Bool := s.img.sandbox.any (fun x => decide (x.ce = n))

/-- One element of CE `n` (R164, R225, R230): the point's range is found at the CE; a sandbox CE whose budget is spent sends
none until the next tick, the first such wait raising event source 100. -/
def ceElement (n : Fin 128) (id : Word) (op : CombOp) (ecc : Ecc) (s : State) : Option CombResult × State :=
  let c := ceOf s n.val
  if 262144 ≤ id.toNat then (some .idRange, s)
  else if isSandbox s n.val && decide (c.budget = 0) then
    (none, raiseIf (!c.waited) 100 [] (putCe s n.val { c with waited := true }))
  else
    let s := if isSandbox s n.val then putCe s n.val { c with budget := c.budget - 1 } else s
    let (r, s') := combAccess (.ce n) c.tctx id.toNat op none ecc s
    (some r, s')

/-- LDP and STP (R161): bits 7:0 of IMM12 must be zero; an element fault raises POINT with ELEM 0, and one that waits for comb budget has no
lane to resume at (R175). -/
def pointMove (store : Bool) (n : Fin 128) (f : FmtI) (ecc : Ecc) (s : State) : State :=
  issue n.val (fun c s =>
    if f.imm.toNat % 256 ≠ 0 then takeException n.val causeIllegal 0 none 0 s
    else if guardOn c f.guard = false then putCe s n.val (retire c)
    else
      let id := greg c f.ra.val
      let word : Fin 16 := Fin.ofNat 16 (f.imm.toNat / 256)
      let op : CombOp := if store then .write word (greg c f.rd.val) 0 else .read word
      match ceElement n id op ecc s with
      | (none, s') => putCe s' n.val { ceOf s' n.val with split := true, elem := 0 }
      | (some (.ok ws), s') =>
        let c' := ceOf s' n.val
        putCe s' n.val (retire (if store then c' else putG c' f.rd.val (ws.headD 0)))
      | (some e, s') => takeException n.val causePoint (elementSub e) (some id) 0 s') s

def execLdp (n : Fin 128) (f : FmtI) (ecc : Ecc) (s : State) : Result := done (pointMove false n f ecc s)
def execStp (n : Fin 128) (f : FmtI) (ecc : Ecc) (s : State) : Result := done (pointMove true n f ecc s)

/-- Elements of GATH or SCAT from lane `k` on, `fuel` lanes of them (R162 to R165): lanes whose guard bit is 0 are skipped;
a fault at lane k raises POINT with ELEM k; past lane 15 the instruction retires, else its next lane stands in `elem`. -/
def laneRun (scat : Bool) (n : Fin 128) (f : FmtM) (hurt : Option (Fin 16)) : Nat → Nat → State → State
  | 0, k, s =>
    let c := ceOf s n.val
    putCe s n.val (if 16 ≤ k then retire c else { c with elem := k, split := true })
  | m + 1, k, s =>
    let c := ceOf s n.val
    if (guardBits c f.guard).testBit k = false then laneRun scat n f hurt m (k + 1) s
    else
      let id := greg c f.ra.val + vlane c f.vb.val k
      let op : CombOp := if scat then .write f.word (vlane c f.vd.val k) 0 else .read f.word
      let ecc : Ecc := if hurt.map (·.val) = some k then .double else .clean
      match ceElement n id op ecc s with
      | (none, s') => putCe s' n.val { ceOf s' n.val with elem := k, split := true }
      | (some (.ok ws), s') =>
        laneRun scat n f hurt m (k + 1) (if scat then s' else putCe s' n.val (putLane (ceOf s' n.val) f.vd.val k (ws.headD 0)))
      | (some e, s') => takeException n.val causePoint (elementSub e) (some id) k s'

/-- GATH and SCAT (R161): they go on at the lane where they stopped, up to lane `upTo` (16: to their end), `hurt` being a lane
whose slot has a double-bit error. Bits 4:1 of the word must be zero. -/
def lanes (scat : Bool) (n : Fin 128) (f : FmtM) (upTo : Fin 17) (hurt : Option (Fin 16)) (s : State) : State :=
  issue n.val (fun c s =>
    if f.zero ≠ 0 then takeException n.val causeIllegal 0 none 0 s
    else laneRun scat n f hurt (upTo.val - c.elem) c.elem s) s

def execGath (n : Fin 128) (f : FmtM) (upTo : Fin 17) (hurt : Option (Fin 16)) (s : State) : Result :=
  done (lanes false n f upTo hurt s)
def execScat (n : Fin 128) (f : FmtM) (upTo : Fin 17) (hurt : Option (Fin 16)) (s : State) : Result :=
  done (lanes true n f upTo hurt s)

/-! ## Elements, mirror, reload -/

/-- COMB_ACCESS (R224, R225): an element of a requester reaches its home slice; one of a session or station that is bound to no tenant is
never sent. -/
def execCombAccess (w : CombWho) (id : Word) (op : CombOp) (ecc : Ecc) (s : State) : Result :=
  match whoTenant s w with
  | some t =>
    let (r, s') := combAccess w t id.toNat op none ecc s
    done { s' with cmb := { s'.cmb with answer := r } }
  | none => done s

def execMirrorWriteA (id : Fin 262144) (s : State) : Result := done (mirrorWriteA id.val s)
def execMirrorAckA (id : Fin 262144) (s : State) : Result := done (mirrorAckA id.val s)
def execMirrorAckB (id : Fin 262144) (s : State) : Result := done (mirrorAckB id.val s)
def execMirrorWriteTimeout (copyB : Bool) (id : Fin 262144) (s : State) : Result := done (mirrorLate copyB id.val s)

/-- SLOT_RELOAD (R218), with what is readable of the mirror. -/
def execSlotReload (id : Fin 262144) (okA okB : Bool) (s : State) : Result := done (slotReload id.val okA okB s)

/-! ## The Keeper's point access (R224) -/

/-- RESULT of CMB_ACC_CTRL; an access that the home die cannot take answers busy. -/
def accResult : CombResult → Nat
  | .ok _ => 0 | .guarded => 1 | .readOnly => 2 | .ecc => 3 | .unassigned => 4 | .idRange => 4 | .truss => 5

/-- A write of CMB_ACC_CTRL by the Keeper: WORD, PRIO and TENANT are taken, and CMD acts. -/
def keeperAccess (cmd word prio tenant : Nat) (s : State) : State :=
  let s : State := { s with cmb := { s.cmb with accWord := word, accPrio := prio, accTenant := tenant } }
  let k : Fin 16 := Fin.ofNat 16 word
  let p : Fin 17 := Fin.ofNat 17 (Nat.min 16 prio)
  let run (op : CombOp) : CombResult × State := combAccess .keeper tenant s.cmb.accId op none .clean s
  let close (r : CombResult) (s : State) : State := { s with cmb := { s.cmb with accResult := accResult r } }
  match cmd with
  | 1 => match run (.read k) with
    | (.ok ws, s') => close (.ok ws) { s' with cmb := { s'.cmb with accData := ws.headD 0 } }
    | (e, s') => close e s'
  | 2 => let (r, s') := run (.write k s.cmb.accData p); close r s'
  | 3 => let (r, s') := run (.relinquish p); close r s'
  | 4 => match run .readSlot with
    | (.ok ws, s') => close (.ok ws) { s' with cmb := { s'.cmb with window := ws } }
    | (e, s') => close e s'
  | _ => s

def execKeeperReadWord (word : Fin 16) (prio : Fin 32) (tenant : Fin 1024) (s : State) : Result :=
  done (atBlock 6 0 (keeperAccess 1 word.val prio.val tenant.val) s)
def execKeeperWriteWord (word : Fin 16) (prio : Fin 32) (tenant : Fin 1024) (s : State) : Result :=
  done (atBlock 6 0 (keeperAccess 2 word.val prio.val tenant.val) s)
def execKeeperRelinquish (word : Fin 16) (prio : Fin 32) (tenant : Fin 1024) (s : State) : Result :=
  done (atBlock 6 0 (keeperAccess 3 word.val prio.val tenant.val) s)
def execKeeperReadSlot (word : Fin 16) (prio : Fin 32) (tenant : Fin 1024) (s : State) : Result :=
  done (atBlock 6 0 (keeperAccess 4 word.val prio.val tenant.val) s)

/-! ## Alarms and trends -/

/-- TAG of an ALARM record (R494). -/
def alarmTag (r : AlarmRec) : Word :=
  regOf [(31, 24, r.cls), (21, 20, r.new), (19, 18, r.old), (17, 0, r.point)]

/-- EVENT_NOTIFICATION (R239, R241): an alarm record goes to the recipients of its notification class, at most 8, whose session is bound to
a tenant that may read the slot's alarm state. -/
def notesOf (s : State) (r : AlarmRec) : List EventNote :=
  ((s.img.recipients.filter (fun x => decide (x.cls = r.cls))).take 8).filterMap (fun x =>
    match sessionTenant s (.bac x.peer) with
    | some t =>
      let p := pointOf s r.point
      if p.alloc && visible s p t && mayReadWord s p t 10 then some { peer := x.peer, confirmed := x.confirmed, record := r } else none
    | none => none)

/-- The session unit and the history store's ALARM stream drain the alarm queue while the I/O die runs (R233, R239). -/
def drainAlarms (s : State) : State :=
  if running s .io then
    let s1 := s.cmb.alarms.foldl (fun s r => appendRec 1 (.plain r.time (alarmTag r) r.value) r.time s) s
    { s1 with cmb := { s1.cmb with alarms := [], notified := if s.cmb.alarms = [] then s.cmb.notified else s.cmb.alarms.flatMap (notesOf s) } }
  else s

/-- ALARM_SCAN (R233): every slot with an enable bit set, each slice on its own die. -/
def execAlarmScan (s : State) : Result :=
  done (drainAlarms ((s.cmb.points.filter (fun e => e.2.alloc && decide (fld (pword e.2 9) 31 29 ≠ 0))).foldl
    (fun s e => if running s (homeDie s e.1) then commitPoint true e.1 (pointOf s e.1) s else s) s))

/-- TAG of a TREND record (R494), from STATUS. -/
def trendTag (id : Nat) (st : Word) : Word :=
  regOf [(23, 23, fld st 26 26), (22, 22, fld st 27 27), (21, 21, fld st 28 28), (20, 20, fld st 29 29), (19, 18, fld st 31 30),
    (17, 0, id)]

/-- A sample goes to the TREND stream, or on SH-8128-IB to the last 64 of its slot (R234). -/
def recordTrend (id : Nat) (v st : Word) (t : Nat) (s : State) : State :=
  if isIB s then
    let p := pointOf s id
    putPoint s id { p with trend := ((v, st, t) :: p.trend).take 64 }
  else appendRec 0 (.plain t (trendTag id st) v) t s

/-- TREND_SAMPLE (R234): at a multiple of INTERVAL 1 to 5, or the oldest change of SEQ not yet sent of INTERVAL 6. -/
def execTrendSample (id : Fin 262144) (s : State) : Result :=
  let p := pointOf s id.val
  if !p.alloc ∨ p.interval = 0 ∨ 6 < p.interval then done s
  else if p.interval = 6 then
    match s.cmb.trendQ.find? (fun e => decide (e.1 = id.val)) with
    | some e =>
      done (recordTrend id.val e.2.1 e.2.2.1 e.2.2.2 { s with cmb := { s.cmb with trendQ := s.cmb.trendQ.erase e } })
    | none => done s
  else done (recordTrend id.val (pword p 0) (pword p 1) (slotTime p) s)

/-! ## Energy (R243, R244) -/

/-- A value of a TYPE in units of 2^-149; none where it is no finite number. -/
def exactOf (typ : Nat) (v : Word) : Option Int :=
  if typ = 0 then
    match floatOf v with
    | .fin sg m e => some ((if sg then -1 else 1) * ((m * 2 ^ (e + 149).toNat : Nat) : Int))
    | _ => none
  else if typ = 1 then some (v.toInt * ((2 ^ 149 : Nat) : Int))
  else some ((v.toNat * 2 ^ 149 : Nat) : Int)
def exactValue (p : Point) : Option Int := exactOf p.typ (pword p 0)

/-- One kW as F is scaled: 4,500 × 2^149. -/
def kiloWatt : Int := ((4500 * 2 ^ 149 : Nat) : Int)

/-- F × 4,500 (R243), with G the slices of DSP_REGEN in Wh that begin within t_left (R370): 18,000 E_int + 5 P × t_left − 18 G. -/
def forecastOf (e p : Int) (left : Nat) (regen : List Nat) : Int :=
  let g := (numbered regen).foldl (fun n x => if 5 * x.1 < left then n + x.2 else n) 0
  18000 * e + 5 * p * (left : Int) - ((18 * g * 2 ^ 149 : Nat) : Int)

/-- An energy-unit write of a point (R224). -/
def unitWrite (id : Nat) (v : Word) (s : State) : State := (combAccess .unit 0 id (.write 0 v 0) none .clean s).2

/-- The TYPE that POINTS gives a slot. -/
def cfgType (s : State) (id : Nat) : Nat :=
  fld (((s.img.points.find? (fun c => decide (c.slot = id))).map (fun c => c.words.getD 4 0)).getD 0) 31 28

/-- An energy-unit read of a point, through its guard (R20, R225): none where the element fails or its value is no finite number. -/
def unitRead (id : Nat) (s : State) : Option Int × State :=
  match combAccess .unit 0 id (.read 0) none .clean s with
  | (.ok ws, s') => (exactOf (cfgType s id) (ws.headD 0), s')
  | (_, s') => (none, s')

/-- A count in the encoding of a TYPE. -/
def inType (typ : Nat) (k : Nat) : Word := if typ = 0 then fOfInt k else wordN k

/-- The level point and shed points 1 to 8 written as LEVEL has them: shed point k is 1 exactly when LEVEL is k or more (R244). -/
def showLevel (s : State) : State :=
  let e := s.img.energy
  let s := unitWrite e.level (inType (cfgType s e.level) s.cmb.level) s
  (numbered (e.shed.take 8)).foldl (fun s x => unitWrite x.2 (wordN (b2n (decide (x.1 < s.cmb.level)))) s) s

/-- LEVEL changed (R244): event source 104, the level point and the shed points; both timers restart at the forecast that stands. -/
def setLevel (k : Nat) (s : State) : State :=
  if s.cmb.level = k then s
  else showLevel (raise 104 [] { s with cmb := { s.cmb with
    level := k, above := Nat.min 1 s.cmb.above, below := Nat.min 1 s.cmb.below } })

/-- ENERGY_FORECAST (R243): every 1 s F is computed from the meter and power points and its runs above and below the limit are counted. An
input that cannot be read or is no finite number leaves F a free value. -/
def execEnergyForecast (s : State) : Result :=
  if running s .comp0 = false then done s
  else
    let e := s.img.energy
    let sec := devTime s / 1000000000
    let left := 900 - sec % 900
    let (start, s) := unitRead e.meter s
    let (power, s) := unitRead e.power s
    let s : State := if s.cmb.interval = some (sec / 900) then s
      else { s with cmb := { s.cmb with interval := some (sec / 900), meter0 := start.getD 0 } }
    let f : Option Int := match start, power with
      | some m, some p => some (forecastOf (m - s.cmb.meter0) p left s.dsp.regen)
      | _, _ => none
    let s := if f.isNone then drawn s else s
    let v := f.getD (((freeNat s % 65536 : Nat) : Int) * kiloWatt)
    let lim : Int := (s.cmb.limit : Int) * kiloWatt
    let s : State := { s with cmb := { s.cmb with
      forecast := Nat.min 65535 (v / kiloWatt).toNat,
      above := if s.cmb.limit ≠ 0 ∧ lim < v then satAdd 11 s.cmb.above 1 else 0,
      below := if s.cmb.limit ≠ 0 ∧ 100 * v < 95 * lim then satAdd 61 s.cmb.below 1 else 0 } }
    done (if s.cmb.limit = 0 then setLevel 0 s else s)

/-- LEVEL_CHANGE (R244): up after 10 s above LIMIT, down after 60 s below 0.95 × LIMIT; 10 s lie between the first and the last of 11
forecasts. -/
def execLevelChange (s : State) : Result :=
  if s.cmb.limit = 0 ∨ running s .comp0 = false then done s
  else if 11 ≤ s.cmb.above ∧ s.cmb.level < 8 then done (setLevel (s.cmb.level + 1) s)
  else if 61 ≤ s.cmb.below ∧ 0 < s.cmb.level then done (setLevel (s.cmb.level - 1) s)
  else done s

/-- A write of CMB_ENERGY_CFG: LIMIT 0 holds LEVEL at 0. F has stayed above a limit made lower and below one made higher; the other timer,
and both from LIMIT 0, start anew (R244). -/
def setLimit (kw : Nat) (s : State) : State :=
  let old := s.cmb.limit
  let s : State := { s with cmb := { s.cmb with
    limit := kw
    above := if old ≠ 0 ∧ kw ≤ old then s.cmb.above else 0
    below := if old ≠ 0 ∧ old ≤ kw then s.cmb.below else 0 } }
  if kw = 0 then setLevel 0 s else s

end Sys2Proof.Machine
end

