-- ==== Sys2Proof/Machine/Bacnet.lean ====
section
/-! DEFINITION. The session unit: BACnet (R235 to R241) and Modbus (R242). -/
namespace Sys2Proof.Machine

/-- What the session unit answers. -/
def bacSays (m : BacMsg) (s : State) : State := { s with cmb := { s.cmb with bacOut := m } }

/-- The tenant that a session is bound to (R237, R238). -/
def bacTenant (s : State) (q : BacSession) : Option Nat := sessionTenant s (.bac q)

/-- The comb's requester of a session. -/
def bacWho (q : BacSession) : CombWho := .session (.bac q)

/-- The largest APDU accepted (R239). -/
def maxApdu : BacSession → Nat
  | .sc _ => 16384
  | .ip _ => 1476

/-- A request served while the I/O die runs and its session is bound; a longer one is not accepted.
Waiting alarm notifications go out with it (R239). -/
def serve (q : BacRequest) (act : Nat → State → State) (s : State) : State :=
  match bacTenant s q.who with
  | some r => if running s .io && decide (q.apdu ≤ maxApdu q.who) then drainAlarms (act r s) else s
  | none => s

/-- BACNET_SC_CONNECT (R237, R241): the connection is bound to the tenant of the virtual device addressed, or closed with event source 105.
A direct peer needs a certificate whose chain of CAs, `chain`, holds one that the tenant's entry names, and a SHA-384 fingerprint in that
entry's peer list; a hub needs HUB_OK. -/
def execBacnetScConnect (tenant : Fin 1024) (hub : Bool) (chain : List (List Byte)) (fingerprint : List Byte) (s : State) : Result :=
  if running s .io = false then done s
  else
    let ok := match tenantCfg s tenant.val with
      | some t => t.device.isSome && (if hub then t.hubOk else chain.any t.cas.contains && t.peers.contains fingerprint)
      | none => false
    if ok = false then done (raise 105 [] s)
    else if 4096 ≤ s.cmb.conns.length then done (bacSays (.error .resources) s)
    else
      let k := ((List.range 4096).find? (fun k => (tget none s.cmb.conns k).isNone)).getD 0
      done { s with cmb := { s.cmb with conns := tset none s.cmb.conns k (some { tenant := tenant.val, hub := hub }) } }

/-- The BACnet error of a guard result (R240). -/
def bacErrorOf : CombResult → BacError
  | .readOnly => .writeDenied | .ecc => .operational | .truss => .operational | _ => .unknownObject

/-- The words of a slot that a property comes from (R236); the priority array holds values as word 0 does (log 128). -/
def propWords : BacProp → List (Fin 16)
  | .presentValue => [0] | .statusFlags => [1] | .reliability => [1] | .eventState => [10] | .priorityArray => [0, 11]
  | .relinquishDefault => [0, 11] | .highLimit => [6] | .lowLimit => [7] | .deadband => [8] | .timeDelay => [9]
  | .limitEnable => [9] | .notificationClass => [9] | .ackedTransitions => [10] | .covIncrement => [12]
  | .outOfService => [] | .objectName => [] | .units => [] | .description => [] | .objectList => []

/-- Properties that a shared point shows to a reader that is not its owner. -/
def sharedProp : BacProp → Bool
  | .presentValue => true | .statusFlags => true | .reliability => true | _ => false

/-- The entry of POINTS for a slot. -/
def pointCfg (s : State) (id : Nat) : Option PointCfg := s.img.points.find? (fun c => decide (c.slot = id))

/-- The family and direction of a slot's point object, from TYPE and DIR (R236). -/
def pointKind (p : Point) : PointKind := if p.typ < 3 then .analog else if p.typ = 3 then .binary else .multiState
def pointDir (p : Point) : Nat := fld (pword p 4) 27 26

/-- A point that a tenant can see (R226, R235). -/
def sees (s : State) (r id : Nat) : Bool := (pointOf s id).alloc && visible s (pointOf s id) r

/-- The slot that an object of a request names (R235, R236): a slot that the tenant sees under another family or direction is no such
object; of one that it does not see the guard decides. -/
def slotNamed (s : State) (r : Nat) : BacObject → Option Nat
  | .point kind dir id =>
    let p := pointOf s id
    if sees s r id && !(decide (pointKind p = kind) && decide (pointDir p = dir.val)) then none else some id
  | _ => none

/-- An object of the tenant's virtual device that is no point object: the device itself, or the Trend Log of a visible point with INTERVAL
not 0 (R235, R239). -/
def otherObject (s : State) (r : Nat) : BacObject → Bool
  | .device inst => decide ((tenantCfg s r).bind (·.device) = some inst)
  | .trendLog id => sees s r id && decide ((pointOf s id).interval ≠ 0)
  | .point _ _ _ => false

/-- A BACnet object identifier: ASHRAE 135 object type in bits 31:22, instance in 21:0 (PRESUMED, log 127). -/
def objectWord (p : Point) (id : Nat) : Word :=
  let t := match pointKind p with
    | .analog => pointDir p
    | .binary => 3 + pointDir p
    | .multiState => if pointDir p = 2 then 19 else 13 + pointDir p
  regOf [(31, 22, t), (21, 0, id)]

/-- The object list of a virtual device: exactly the point objects that its tenant can see (R235). -/
def objectList (s : State) (r : Nat) : List Word :=
  (s.cmb.points.filter (fun e => sees s r e.1)).map (fun e => objectWord e.2 e.1)

/-- A property of the device object or of a Trend Log (R235): the device's name and object list. -/
def otherValue (s : State) (r : Nat) : BacObject → BacProp → BacError ⊕ List Word
  | .device _, .objectName => .inr (((tenantCfg s r).map (·.devName)).getD [] |>.map (fun b => b.zeroExtend 32))
  | .device _, .objectList => .inr (objectList s r)
  | _, _ => .inl .unknownProperty

/-- The value of a property of a readable slot (R236). -/
def propValue (s : State) (id : Nat) (prop : BacProp) : BacError ⊕ List Word :=
  let p := pointOf s id
  let st := pword p 1
  let cfg := pword p 9
  let acks := pword p 10
  match prop with
  | .presentValue => .inr [pword p 0]
  | .statusFlags => .inr [regOf [(2, 2, fld st 27 27), (1, 1, fld st 28 28), (0, 0, fld st 29 29)]]
  | .outOfService => .inr [0]
  | .reliability => .inr [wordN (fld st 15 8)]
  | .eventState => .inr [wordN p.eventState]
  | .priorityArray => match p.arr with
    | some a => .inr (((List.range 16).map (· + 1)).flatMap (fun k => match tget none a.entries k with
      | some v => [1, v]
      | none => [0, 0]))
    | none => .inl .unknownProperty
  | .relinquishDefault => match p.arr with
    | some a => .inr [a.relinquish]
    | none => .inl .unknownProperty
  | .highLimit => .inr [pword p 6]
  | .lowLimit => .inr [pword p 7]
  | .deadband => .inr [pword p 8]
  | .timeDelay => .inr [wordN (fld cfg 7 0)]
  | .limitEnable => .inr [regOf [(1, 1, fld cfg 31 31), (0, 0, fld cfg 30 30)]]
  | .notificationClass => .inr [wordN (fld cfg 15 8)]
  | .ackedTransitions => .inr [regOf [(2, 2, fld acks 27 27), (1, 1, fld acks 28 28), (0, 0, fld acks 29 29)]]
  | .covIncrement => .inr [pword p 12]
  | .objectName => .inr (((pointCfg s id).map (·.name)).getD [] |>.map (fun b => b.zeroExtend 32))
  | .units => .inr (((pointCfg s id).map (·.units)).getD [] |>.map (fun b => b.zeroExtend 32))
  | .description => .inr (((pointCfg s id).map (·.description)).getD [] |>.map (fun b => b.zeroExtend 32))
  | .objectList => .inl .unknownProperty

/-- One property of a slot read through the guard (R226, R236, R240). -/
def readSlotProp (w : CombWho) (r id : Nat) (prop : BacProp) (s : State) : (BacError ⊕ List Word) × State :=
  match combAccess w r id .readSlot none .clean s with
  | (.ok _, s') =>
    let p := pointOf s' id
    if r ≠ p.owner ∧ r ≠ 0 ∧ sharedProp prop = false then (.inl .unknownProperty, s')
    else if (propWords prop).all (fun k => mayReadWord s' p r k.val) then (propValue s' id prop, s')
    else (.inl .unknownObject, countDenial w r id s')
  | (e, s') => (.inl (bacErrorOf e), s')

/-- One property of an object read. -/
def readProp (w : CombWho) (r : Nat) (o : BacObject) (prop : BacProp) (s : State) : (BacError ⊕ List Word) × State :=
  match slotNamed s r o with
  | some id => readSlotProp w r id prop s
  | none => (if otherObject s r o then otherValue s r o prop else .inl .unknownObject, s)

/-- READ_PROPERTY. -/
def execReadProperty (q : BacRequest) (o : BacObject) (prop : BacProp) (s : State) : Result :=
  done (serve q (fun r s =>
    match readProp (bacWho q.who) r o prop s with
    | (.inl e, s') => bacSays (.error e) s'
    | (.inr ws, s') => bacSays (.value ws) s') s)

/-- READ_PROPERTY_MULTIPLE: each property answers for itself. -/
def execReadPropertyMultiple (q : BacRequest) (items : List (BacObject × BacProp)) (s : State) : Result :=
  done (serve q (fun r s =>
    let (rs, s) := items.foldl (fun (acc : List (BacError ⊕ List Word) × State) x =>
      let (v, s') := readProp (bacWho q.who) r x.1 x.2 acc.2
      (acc.1 ++ [v], s')) ([], s)
    bacSays (.values rs) s) s)

/-- The word write of a writable property (R227, R236): fields of ALARM_CFG keep the others. -/
def propWrite (p : Point) (prop : BacProp) (v : Option Word) (prio : Fin 17) : Option CombOp :=
  match prop, v with
  | .presentValue, some w => some (.write 0 w prio)
  | .presentValue, none => some (.relinquish prio)
  | .highLimit, some w => some (.write 6 w prio)
  | .lowLimit, some w => some (.write 7 w prio)
  | .deadband, some w => some (.write 8 w prio)
  | .timeDelay, some w => some (.write 9 (mergeMask (maskOf 7 0) (pword p 9) w) prio)
  | .notificationClass, some w => some (.write 9 (mergeMask (maskOf 15 8) (pword p 9) (w <<< 8)) prio)
  | .limitEnable, some w =>
    some (.write 9 (mergeMask (maskOf 31 30) (pword p 9) (regOf [(31, 31, fld w 1 1), (30, 30, fld w 0 0)])) prio)
  | .covIncrement, some w => some (.write 12 w prio)
  | _, _ => none

/-- Writes over BACnet/IP need the tenant's IP_WRITE (R238). -/
def ipBars (s : State) (q : BacSession) (r : Nat) : Bool :=
  match q with
  | .sc _ => false
  | .ip _ => match tenantCfg s r with | some t => !t.ipWrite | none => true

/-- One property of a slot written through the guard. -/
def writeSlotProp (q : BacSession) (r id : Nat) (prop : BacProp) (v : Option Word) (prio : Fin 17) (s : State) :
    Option BacError × State :=
  match propWrite (pointOf s id) prop v prio with
  | some op =>
    match combAccess (bacWho q) r id op none .clean s with
    | (.ok _, s') => (none, s')
    | (e, s') => (some (bacErrorOf e), s')
  | none =>
    match combAccess (bacWho q) r id .readSlot none .clean s with
    | (.ok _, s') => (some .writeDenied, s')
    | (e, s') => (some (bacErrorOf e), s')

/-- One property of an object written, where its session may write at all (R238); those of the device object and of a Trend Log are read
only (log 128). -/
def writeProp (q : BacSession) (r : Nat) (o : BacObject) (prop : BacProp) (v : Option Word) (prio : Fin 17) (s : State) :
    Option BacError × State :=
  if ipBars s q r then (some .writeDenied, s)
  else match slotNamed s r o with
  | some id => writeSlotProp q r id prop v prio s
  | none => (some (if otherObject s r o then .writeDenied else .unknownObject), s)

/-- WRITE_PROPERTY: a NULL Present_Value relinquishes the priority (0 acts as 16). -/
def execWriteProperty (q : BacRequest) (o : BacObject) (prop : BacProp) (value : Option Word) (prio : Fin 17) (s : State) :
    Result :=
  done (serve q (fun r s =>
    match writeProp q.who r o prop value prio s with
    | (none, s') => bacSays .ack s'
    | (some e, s') => bacSays (.error e) s') s)

/-- Writes in order, up to the first that fails. -/
def writeProps (q : BacSession) (r : Nat) : List (BacObject × BacProp × Option Word × Fin 17) → State → Option BacError × State
  | [], s => (none, s)
  | (o, prop, v, prio) :: t, s =>
    match writeProp q r o prop v prio s with
    | (none, s') => writeProps q r t s'
    | e => e

/-- WRITE_PROPERTY_MULTIPLE. -/
def execWritePropertyMultiple (q : BacRequest) (items : List (BacObject × BacProp × Option Word × Fin 17)) (s : State) :
    Result :=
  done (serve q (fun r s =>
    match writeProps q.who r items s with
    | (none, s') => bacSays .ack s'
    | (some e, s') => bacSays (.error e) s') s)

/-- WHO_IS: the virtual device of the session's tenant, if its instance lies in the range asked for. -/
def execWhoIs (q : BacRequest) (low high : Nat) (s : State) : Result :=
  done (serve q (fun r s =>
    let ds := ((tenantCfg s r).bind (·.device)).toList.filter (fun d => decide (low ≤ d ∧ d ≤ high))
    bacSays (if ds = [] then .none else .iAm ds) s) s)

/-- The point object of a slot (R236). -/
def objectOf (s : State) (id : Nat) : BacObject :=
  .point (pointKind (pointOf s id)) (Fin.ofNat 3 (pointDir (pointOf s id))) id

/-- WHO_HAS: I-Have for an object that the tenant can see, by identifier or name. -/
def execWhoHas (q : BacRequest) (what : ObjRef) (s : State) : Result :=
  done (serve q (fun r s =>
    let found : Option BacObject := match what with
      | .id o =>
        if otherObject s r o then some o
        else match slotNamed s r o with
          | some n => if sees s r n then some o else none
          | none => none
      | .name bs =>
        match (tenantCfg s r).bind (fun t => if t.devName = bs then t.device else none) with
        | some inst => some (.device inst)
        | none => (s.img.points.find? (fun c => decide (c.name = bs) && sees s r c.slot)).map (fun c => objectOf s c.slot)
    bacSays (match found with | some o => .iHave o | none => .none) s) s)

/-- A COV subscription of a readable slot (R239, R241): within 65,536 in all and the tenant's quota; a subscription again takes no new
place. -/
def subscribe (q : BacSession) (r id : Nat) (confirmed : Bool) (old : Option Nat) (s : State) : State :=
  let used := (s.cmb.subs.filter (fun e => match e.2 with
    | some x => decide (x.tenant = r) | none => false)).length
  let quota := ((tenantCfg s r).map (·.covQuota)).getD 0
  if old.isNone ∧ (65536 ≤ s.cmb.subs.length ∨ quota ≤ used) then bacSays (.error .noSpace) s
  else
    let k := old.getD (((List.range 65536).find? (fun k => (tget none s.cmb.subs k).isNone)).getD 0)
    let p := pointOf s id
    bacSays .ack { s with cmb := { s.cmb with subs := tset none s.cmb.subs k (some {
      who := q, tenant := r, point := id, confirmed := confirmed, lastValue := pword p 0, lastStatus := pword p 1,
      lastTime := devTime s }) } }

/-- SUBSCRIBE_COV (R239): a subscription reads VALUE and STATUS through the guard, as its notifications do (R226). -/
def execSubscribeCov (q : BacRequest) (o : BacObject) (confirmed cancel : Bool) (s : State) : Result :=
  done (serve q (fun r s =>
    match slotNamed s r o with
    | none => bacSays (.error .unknownObject) s
    | some id =>
    let mine (e : Nat × Option CovSub) : Bool := match e.2 with
      | some x => decide (x.who = q.who ∧ x.point = id)
      | none => false
    let old := (s.cmb.subs.find? mine).map (·.1)
    if cancel then
      bacSays .ack (match old with
        | some k => { s with cmb := { s.cmb with subs := tset none s.cmb.subs k none } }
        | none => s)
    else match combAccess (bacWho q.who) r id (.read 0) none .clean s with
      | (.ok _, s') => subscribe q.who r id confirmed old s'
      | (e, s') => bacSays (.error (bacErrorOf e)) s') s)

/-- VALUE has moved by COV_INCR or more since it was last notified; values that are no finite numbers, BOOL and MULTISTATE by
any change. -/
def covMoved (p : Point) (last : Word) : Bool :=
  let inc := exactValue (putWord p 0 (pword p 12))
  match exactValue p, exactValue (putWord p 0 last), inc with
  | some a, some b, some d =>
    if p.typ < 3 then decide (pword p 0 ≠ last) && decide (d.natAbs ≤ (a - b).natAbs) else decide (pword p 0 ≠ last)
  | _, _, _ => decide (pword p 0 ≠ last)

/-- COV_NOTIFICATION (R239): sent when VALUE moves by COV_INCR or STATUS changes, at least 100 ms after the last one, the slot being read
through the guard (R224). -/
def execCovNotification (k : Fin 65536) (s : State) : Result :=
  match tget none s.cmb.subs k.val with
  | none => done s
  | some x =>
    let p := pointOf s x.point
    if running s .io ∧ x.lastTime + 100000000 ≤ devTime s ∧ (covMoved p x.lastValue ∨ pword p 1 ≠ x.lastStatus) then
      match combAccess (bacWho x.who) x.tenant x.point (.read 0) none .clean s with
      | (.ok _, s') =>
        done (bacSays (.cov k.val x.confirmed (pword p 0) (pword p 1)) { s' with cmb := { s'.cmb with
          subs := tset none s'.cmb.subs k.val (some { x with
            lastValue := pword p 0, lastStatus := pword p 1, lastTime := devTime s' }) } })
      | (_, s') => done s'
    else done s

/-- GET_EVENT_INFORMATION: points whose ALARM_STATE the tenant can read that are not normal, or have a transition not yet
acknowledged: point, state and acknowledged bits. A slot whose die is out of service, or that waits for its reload, cannot be read. -/
def execGetEventInformation (q : BacRequest) (s : State) : Result :=
  done (serve q (fun r s =>
    let rs := (s.cmb.points.filter (fun e => sees s r e.1 && running s (homeDie s e.1) && !e.2.broken && mayReadWord s e.2 r 10 && decide (fld (pword e.2 9) 31 29 ≠ 0)
      && (decide (e.2.eventState ≠ 0) || decide (fld (pword e.2 10) 29 27 ≠ 7)))).map
        (fun e => (e.1, e.2.eventState, fld (pword e.2 10) 29 27))
    bacSays (.events rs) s) s)

/-- ACKNOWLEDGE_ALARM: a 1 written to the ACK bit of a transition (R227). -/
def execAcknowledgeAlarm (q : BacRequest) (o : BacObject) (kind : AlarmKind) (s : State) : Result :=
  let bit := match kind with | .offNormal => 29 | .fault => 28 | .normal => 27
  done (serve q (fun r s =>
    if ipBars s q.who r then bacSays (.error .writeDenied) s
    else match slotNamed s r o with
      | none => bacSays (.error .unknownObject) s
      | some id => match combAccess (bacWho q.who) r id (.write 10 (maskOf bit bit) 16) none .clean s with
        | (.ok _, s') => bacSays .ack s'
        | (e, s') => bacSays (.error (bacErrorOf e)) s') s)

/-- Trend samples of a point: the 64 held on SH-8128-IB, or its records in the TREND ring, oldest first. -/
def trendOf (s : State) (id : Nat) : List (Word × Word × Nat) :=
  if isIB s then (pointOf s id).trend.reverse
  else ((ringOf s 0).pages.filterMap (·.2)).flatMap (fun pg => pg.recs.filterMap (fun x => match x with
    | .plain t tag v => if fld tag 17 0 = id then some (v, tag, t) else none
    | .event _ => none))

/-- READ_RANGE (R239): from the Trend Log of a visible point with INTERVAL not 0. -/
def execReadRange (q : BacRequest) (id first count : Nat) (s : State) : Result :=
  done (serve q (fun r s =>
    match combAccess (bacWho q.who) r id (.read 0) none .clean s with
    | (.ok _, s') =>
      if (pointOf s' id).interval = 0 then bacSays (.error .unknownObject) s'
      else bacSays (.range (((trendOf s' id).drop first).take count)) s'
    | (e, s') => bacSays (.error (bacErrorOf e)) s') s)

/-! ## Modbus (R242) -/

/-- The exception code of a guard result. -/
def modbusCode : CombResult → Nat
  | .readOnly => 3 | .ecc => 4 | .truss => 4 | _ => 2

/-- Registers read one by one: the high register of a VALUE first. -/
def modbusRead (bind r : Nat) (m : ModbusMap) : List Nat → State → (Nat ⊕ List (BitVec 16)) × State
  | [], s => (.inr [], s)
  | k :: ks, s =>
    match m.regs.find? (fun e => decide (e.1 = k ∨ e.1 + 1 = k)) with
    | none => (.inl 2, s)
    | some (f, id) =>
      match combAccess (.session (.modbus bind)) r id (.read 0) none .clean s with
      | (.ok ws, s') =>
        let v := (ws.headD 0).toNat
        match modbusRead bind r m ks s' with
        | (.inr vs, s'') => (.inr (BitVec.ofNat 16 (if f = k then v / 65536 else v) :: vs), s'')
        | e => e
      | (e, s') => (.inl (modbusCode e), s')

/-- Registers written pair by pair, both halves of each VALUE. -/
def modbusWrite (bind r : Nat) (m : ModbusMap) : Nat → List (BitVec 16) → State → Option Nat × State
  | _, [], s => (none, s)
  | _, [_], s => (some 2, s)
  | k, a :: b :: vs, s =>
    match m.regs.find? (fun e => decide (e.1 = k)) with
    | none => (some 2, s)
    | some (_, id) =>
      match combAccess (.session (.modbus bind)) r id (.write 0 (wordN (a.toNat * 65536 + b.toNat)) 0) none .clean s with
      | (.ok _, s') => modbusWrite bind r m (k + 2) vs s'
      | (e, s') => (some (modbusCode e), s')

/-- MODBUS_TCP_REQUEST: checked by the guard against the tenant that the connection address and unit ID are bound to. -/
def execModbusTcpRequest (conn : Fin 64) (bind first count : Nat) (values : Option (List (BitVec 16))) (s : State) : Result :=
  if running s .io = false ∨ 64 ≤ conn.val then done s
  else
    let spoken (m : ModbusMsg) (s : State) : State := { s with cmb := { s.cmb with modbusOut := m } }
    match s.img.modbusBinds[bind]? with
    | none => done s
    | some (r, no) =>
      match s.img.modbus.find? (fun m => decide (m.no = no)) with
      | none => done (spoken (.exception 2) s)
      | some m =>
        match values with
        | none => match modbusRead bind r m ((List.range count).map (· + first)) s with
          | (.inl e, s') => done (spoken (.exception e) s')
          | (.inr vs, s') => done (spoken (.regs vs) s')
        | some vs => match modbusWrite bind r m first vs s with
          | (some e, s') => done (spoken (.exception e) s')
          | (none, s') => done (spoken .written s')

/-- MODBUS_RTU_RESPONSE (R222, R242): polled values written as source KIND 2 with the tenant of the map. -/
def execModbusRtuResponse (no : Fin 2048) (values : List Word) (s : State) : Result :=
  if running s .io = false then done s
  else match s.img.modbus.find? (fun m => decide (m.no = no.val)) with
    | none => done s
    | some m => done (sourceWrite (.session (.map no.val)) m.tenant 2 no.val values (devTime s) s)

/-- MODBUS_DEVICE_LOST (R222). -/
def execModbusDeviceLost (no : Fin 2048) (s : State) : Result := done (sourceLost 2 no.val s)

end Sys2Proof.Machine
end

