-- ==== Sys2Proof/Machine/Can.lean ====
section
/-! DEFINITION. Meanings of the CAN commands (R438 to R454). -/
namespace Sys2Proof.Machine

/-- CAN_FRAME_RECEIVED (R441, R442): `at0` is the device time of the sample point of its start-of-frame bit. -/
def execCanFrameReceived (n : Fin 16) (f : CanFrame) (at0 : DWord) (s : State) : Result := done (canReceive n.val f at0.toNat s)

/-- CAN_PUSH (R445): a pending push, or one of the staged frame, is decided. -/
def execCanPush (n : Fin 16) (s : State) : Result := done (atBlock 13 0 (canPushNow n.val) s)

/-- CAN_ABORT_HEAD (R446, R453): `onBus` tells whether the head is on the bus. -/
def execCanAbortHead (n : Fin 16) (onBus : Bool) (s : State) : Result := done (atBlock 13 0 (canCommand n.val { cmd := 2, onBus := some onBus }) s)

/-- CAN_FLUSH (R446, R453). -/
def execCanFlush (n : Fin 16) (onBus : Bool) (s : State) : Result := done (atBlock 13 0 (canCommand n.val { cmd := 3, onBus := some onBus }) s)

/-- CAN_RECOVER (R448). -/
def execCanRecover (n : Fin 16) (s : State) : Result := done (atBlock 13 0 (canCommand n.val { cmd := 4 }) s)

/-- CAN_FRAME_SENT (R441, R446). -/
def execCanFrameSent (n : Fin 16) (at0 : DWord) (s : State) : Result := done (canSent n.val at0.toNat s)

/-- CAN_BUS_ERROR (R446, R448, R449). -/
def execCanBusError (n : Fin 16) (e : CanEvent) (s : State) : Result := done (canBusEvent n.val e s)

/-- HEAD_TMO_EXPIRY (R446). -/
def execHeadTmoExpiry (n : Fin 16) (onBus : Bool) (s : State) : Result := done (headTimeout n.val onBus s)

/-- BUS_OFF_RECOVERY (R448). -/
def execBusOffRecovery (n : Fin 16) (s : State) : Result := done (busOffRecovery n.val s)

/-- CAN_RX_RD_WRITE (R444). -/
def execCanRxRdWrite (n : Fin 16) (v : Word) (s : State) : Result := done (atBlock 13 0 (rxRdWrite n.val v) s)

/-- BUS_INTEGRATION (R452). -/
def execBusIntegration (n : Fin 16) (s : State) : Result := done (busIntegration n.val s)

end Sys2Proof.Machine
end

