-- ==== Sys2Proof/Machine/BlockRegs.lean ====
section
/-! DEFINITION. Registers of the CE windows, the comb, acquisition and the history store (R550). -/
namespace Sys2Proof.Machine

/-! ## CE -/

/-- A register-file view or special register (R144, R155) by its offset in the window. -/
def ceView (c : Ce) (off : Nat) : Option Word :=
  if off % 4 ≠ 0 then none
  else if 0x100 ≤ off ∧ off < 0x180 then some (greg c ((off - 0x100) / 4))
  else if 0x180 ≤ off ∧ off < 0x1A0 then some (wordN (preg c ((off - 0x180) / 4)))
  else if 0x200 ≤ off ∧ off < 0x240 then specialReg c ((off - 0x200) / 4)
  else if 0x400 ≤ off ∧ off < 0x800 then some (tget 0 c.v ((off - 0x400) / 4))
  else none

/-- The bits that a view can read as 1: reserved bits, and bits that read 0, are none of them (R11). -/
def viewMask (off : Nat) : Word :=
  if off = 0x100 then 0
  else if 0x180 ≤ off ∧ off < 0x1A0 then maskOf 15 0
  else match off with
    | 0x204 => xstatusMask | 0x208 => xinfoMask | 0x214 => ~~~(maskOf 7 0) | 0x218 => maskOf 31 31 ||| maskOf 9 0
    | _ => 0xFFFFFFFF

/-- The views are of no defined instant in RUN and IDLE; CE_G0 and CE_P0 never change. -/
def viewFree (c : Ce) (off : Nat) : Bool :=
  decide (c.st = .run ∨ c.st = .idle) && (ceView c off).isSome && decide (off ≠ 0x100 ∧ off ≠ 0x180)

/-- A register of window `n`. -/
def ceReg (s : State) (n off : Nat) : Option Word :=
  let c := ceOf s n
  match off with
  | 0x000 => some (ceStateReg c)
  | 0x004 => some 0
  | 0x008 => some (if c.st = .halt ∨ c.st = .fault then c.pc else 0xFFFFFFFF)
  | 0x020 => some (match roleEntry s n with
      | some r => regOf [(31, 28, Nat.min 12 r.lockBlocks), (26, 12, r.lockBase.toNat / 4096)]
      | none => 0)
  | 0x024 => some (ceErrReg c)
  | o => if viewFree c o then some (wordN (freeNat s) &&& viewMask o) else ceView c o

/-- A view written, in HALT or FAULT alone. -/
def viewWrite (n off : Nat) (v : Word) (s : State) : State :=
  let c := ceOf s n
  if c.st = .halt ∨ c.st = .fault then
    putCe s n (
      if 0x100 ≤ off ∧ off < 0x180 then putG c ((off - 0x100) / 4) v
      else if 0x180 ≤ off ∧ off < 0x1A0 then putP c ((off - 0x180) / 4) (fld v 15 0)
      else if 0x200 ≤ off ∧ off < 0x240 then putSpecial c ((off - 0x200) / 4) v
      else if 0x400 ≤ off ∧ off < 0x800 then { c with v := tset 0 c.v ((off - 0x400) / 4) v }
      else c)
  else s

def ceWrite (n off : Nat) (v : Word) (s : State) : State :=
  match off with
  | 0x004 => ceCtrlWrite n v s
  | 0x024 => if bitAt v 31 then putCe s n { ceOf s n with psRefuse := 0, icPar := 0, sramCe := 0 } else s
  | o => viewWrite n o v s

/-- CE_CTRL is written by the Keeper alone, CE_MODE by no one. -/
def ceWritable (keeper : Bool) (off : Nat) : Bool :=
  (decide (off = 0x004) && keeper) || (decide (off = 0x024)) || (decide (0x100 ≤ off) && decide (off ≠ 0x218))

/-! ## CMB -/

/-- Copies A and B of the mirror count as up to date once the comb is loaded, while no write is late (R217). -/
def mirrorOk (s : State) (late : Bool) : Bool := s.cmb.loaded && !late

def cmbReg (s : State) (off : Nat) : Option Word :=
  let c := s.cmb
  match off with
  | 0x000 => some (regOf [(31, 31, b2n (mirrorOk s c.lateA)), (30, 30, b2n (mirrorOk s c.lateB)),
      (18, 0, (c.points.filter (fun e => e.2.alloc)).length)])
  | 0x010 => some (regOf [(17, 0, c.accId)])
  | 0x014 => some (regOf [(27, 24, c.accWord), (23, 19, c.accPrio), (18, 16, c.accResult), (9, 0, c.accTenant)])
  | 0x018 => some c.accData
  | 0x020 => some (regOf [(23, 0, c.denyCount)])
  | 0x024 => some (denyLast s)
  | 0x030 => some (regOf [(23, 16, c.lost), (15, 0, c.repaired)])
  | 0x050 => some (regOf [(31, 16, c.limit)])
  | 0x054 => some (regOf [(31, 28, c.level), (15, 0, c.forecast)])
  | o => if 0x100 ≤ o ∧ o < 0x140 ∧ o % 4 = 0 then some (c.window.getD ((o - 0x100) / 4) 0) else none

/-- TENANT of a Keeper access: for a session its entry's, whatever it writes (R224, R526). -/
def accTenantOf (req : Requester) (v : Word) (s : State) : Nat :=
  match req with
  | .session n => (tget ({} : Session) s.kpr.sessions n.val).tenant
  | _ => fld v 9 0

def cmbWrite (req : Requester) (off : Nat) (v : Word) (s : State) : State :=
  match off with
  | 0x010 => { s with cmb := { s.cmb with accId := fld v 17 0 } }
  | 0x014 => keeperAccess (fld v 31 28) (fld v 27 24) (fld v 23 19) (accTenantOf req v s) s
  | 0x018 => { s with cmb := { s.cmb with accData := v } }
  | 0x020 => if bitAt v 31 then { s with cmb := { s.cmb with denyCount := 0 } } else s
  | 0x030 => if bitAt v 31 then { s with cmb := { s.cmb with lost := 0, repaired := 0 } } else s
  | 0x050 => setLimit (fld v 31 16) s
  | _ => s

/-- CMB_ACC_ID, CMB_ACC_CTRL and CMB_ACC_DATA accept writes from the Keeper only. -/
def cmbWritable (keeper : Bool) (off : Nat) : Bool :=
  (keeper && [0x010, 0x014, 0x018].contains off) || [0x020, 0x030, 0x050].contains off

/-! ## ACQ -/

/-- The signals of R491. -/
def signalOk (n : Nat) : Bool := decide (n ≤ 111) || decide (144 ≤ n ∧ n ≤ 399)

/-- The interval sources of R496. -/
def intervalOk (n : Nat) : Bool := decide (n ≤ 96) || decide (128 ≤ n ∧ n ≤ 159)

/-- A field of a register that takes a written value only if it is allowed; a refused value leaves the field. -/
def takeField (ok : Nat → Bool) (hi lo : Nat) (old v : Word) : Word :=
  if ok (fld v hi lo) then mergeMask (maskOf hi lo) old v else old

/-- The head word of an interval unit. -/
def intervalReg (i : IntervalUnit) : Word :=
  i.cfg ||| regOf [(30, 30, b2n i.openAt.isSome), (29, 29, b2n i.order), (28, 28, b2n i.coinc)]

def acqReg (s : State) (off : Nat) : Option Word :=
  if off % 4 ≠ 0 then none
  else if off < 0x400 then
    let u := off / 64
    let a := acqUnit s u
    match off % 64 with
    | 0 => some a.cfg
    | 4 => some (regOf [(30, 30, b2n a.gap), (22, 16, fill (stageOf s (3 + u))), (15, 0, a.dropped)])
    | o => if 0x20 ≤ o then some (tget 0 a.sigs ((o - 0x20) / 4)) else none
  else if off < 0x600 then
    let t := tget ({} : Trigger) s.acq.trigs ((off - 0x400) / 16)
    match off % 16 with
    | 0 => some t.cfg
    | 4 => some t.level
    | 8 => some t.hyst
    | _ => some (regOf [(31, 16, t.fires), (15, 0, t.units)])
  else if 0x800 ≤ off ∧ off < 0x900 then
    let i := tget ({} : IntervalUnit) s.acq.ints ((off - 0x800) / 32)
    match off % 32 with
    | 0 => some (intervalReg i)
    | 4 => some (regOf [(15, 0, i.units)])
    | 8 => some i.last
    | 12 => some (wordN i.discarded)
    | _ => none
  else none

/-- A read of ACQ_UNITu_STAT ends its GAP. -/
def acqRead (off : Nat) (s : State) : State :=
  if off < 0x400 ∧ off % 64 = 4 then putUnit s (off / 64) { acqUnit s (off / 64) with gap := false } else s

/-- A write to a unit: while EN is 1 only EN is taken (R492). -/
def acqUnitWrite (u off : Nat) (v : Word) (s : State) : State :=
  let a := acqUnit s u
  let locked := bitAt a.cfg 31
  match off with
  | 0 => putUnit s u { a with cfg :=
      if locked then mergeMask (maskOf 31 31) a.cfg v else v &&& (maskOf 31 20 ||| maskOf 15 0) }
  | 4 => if bitAt v 31 then putUnit s u { a with dropped := 0 } else s
  | o =>
    if 0x20 ≤ o ∧ locked = false then
      let k := (o - 0x20) / 4
      putUnit s u { a with sigs := tset 0 a.sigs k (takeField signalOk 31 16 (takeField signalOk 15 0 (tget 0 a.sigs k) v) v) }
    else s

/-- A write to a trigger; enabling disarms it (R495). -/
def trigWrite (k off : Nat) (v : Word) (s : State) : State :=
  let t := tget ({} : Trigger) s.acq.trigs k
  let put (x : Trigger) : State := { s with acq := { s.acq with trigs := tset ({} : Trigger) s.acq.trigs k x } }
  match off with
  | 0 =>
    let cfg := mergeMask (maskOf 31 29) (takeField signalOk 15 0 t.cfg v) v
    put (if bitAt v 31 && !(bitAt t.cfg 31) then { t with cfg := cfg, armedRise := false, armedFall := false } else { t with cfg := cfg })
  | 4 => put { t with level := v }
  | 8 => put { t with hyst := v }
  | _ => put { t with units := fld v 15 0 }

/-- A write to an interval unit: EN cleared drops an open start and what is held, ORDER is W1C (R496). -/
def intWrite (k off : Nat) (v : Word) (s : State) : State :=
  let i := tget ({} : IntervalUnit) s.acq.ints k
  let put (x : IntervalUnit) : State := { s with acq := { s.acq with ints := tset ({} : IntervalUnit) s.acq.ints k x } }
  match off with
  | 0 =>
    let cfg := takeField intervalOk 23 16 (takeField intervalOk 15 8 (mergeMask (maskOf 31 31 ||| maskOf 3 0) i.cfg v) v) v
    put { i with cfg := cfg, order := i.order && !(bitAt v 29), openAt := if bitAt v 31 then i.openAt else none
                 heldEv := if bitAt v 31 then i.heldEv else [] }
  | 4 => put { i with units := fld v 15 0 }
  | _ => s

def acqWrite (off : Nat) (v : Word) (s : State) : State :=
  if off < 0x400 then acqUnitWrite (off / 64) (off % 64) v s
  else if off < 0x600 then trigWrite ((off - 0x400) / 16) (off % 16) v s
  else if 0x800 ≤ off ∧ off < 0x900 then intWrite ((off - 0x800) / 32) (off % 32) v s
  else s

def acqWritable (off : Nat) : Bool := decide (off < 0x600) || decide (off % 32 < 8)

/-! ## STO -/

def consCode : ConsState → Nat
  | .off => 0 | .down => 1 | .live => 2 | .backfill => 3

def stoPortReg (p : Port) : Word :=
  regOf [(31, 30, p.link), (29, 27, p.gen), (26, 23, p.width), (22, 21, p.drive), (20, 17, p.cause), (15, 0, p.errors)]

/-- A register of STO. The head of a stream is its newest page (R505), which is 0 before there is one. -/
def stoReg (s : State) (off : Nat) : Option Word :=
  let o := s.sto
  if off % 4 ≠ 0 then none
  else if off = 0 then
    some (regOf [(31, 30, o.state), (29, 29, b2n o.mirror), (28, 28, b2n o.degraded), (27, 27, b2n o.rebuild), (15, 0, o.rate)])
  else if 0x10 ≤ off ∧ off < 0x30 then
    let p := if off < 0x20 then o.port0 else o.port1
    match off % 16 with
    | 0 => some (stoPortReg p)
    | 4 => some (loWord p.blocks)
    | 8 => some (hiWord p.blocks)
    | _ => none
  else if off = 0x40 then some (regOf [(27, 24, o.result)])
  else if 0x400 ≤ off ∧ off < 0x500 then
    let k := (off - 0x400) / 16
    let c := consumer s k
    match off % 16 with
    | 0 => some (regOf [(31, 31, b2n (consumerCfg s k).isSome), (30, 29, consCode c.state), (15, 0, c.rate)])
    | 4 => some (wordN c.lost)
    | _ => none
  else if 0x800 ≤ off ∧ off < 0x930 then
    let r := ringOf s ((off - 0x800) / 16)
    match off % 16 with
    | 0 => some (loWord (r.head - 1))
    | 4 => some (hiWord (r.head - 1))
    | 8 => some (loWord r.oldest)
    | _ => some (hiWord r.oldest)
  else none

def stoWrite (off : Nat) (v : Word) (s : State) : State :=
  if off = 0 then { s with sto := { s.sto with rate := fld v 15 0 } }
  else if off = 0x40 then stoCommand (fld v 31 28) s
  else if 0x400 ≤ off ∧ off < 0x500 then
    let k := (off - 0x400) / 16
    putConsumer s k { consumer s k with rate := fld v 15 0 }
  else s

def stoWritable (off : Nat) : Bool :=
  decide (off = 0 ∨ off = 0x40) || (decide (0x400 ≤ off ∧ off < 0x500) && decide (off % 16 = 0))

end Sys2Proof.Machine
end

