-- ==== Sys2Proof/Machine/FeedbackOps.lean ====
section
/-! DEFINITION. Feedback units: local interfaces, the absolute sample with its checks, fusion, CLEAR, shaft learning, compare
units and their registers (R286 to R315). -/
namespace Sys2Proof.Machine

def hstOf (s : State) (c : Nat) : Hoist := tget ({} : Hoist) s.hst c
def putHst (s : State) (c : Nat) (h : Hoist) : State := { s with hst := tset ({} : Hoist) s.hst c h }

/-- The GEOMETRY entry of a car; its channel is enabled when it has one (R247). -/
def carCfg (s : State) (c : Nat) : Option CarCfg := s.img.cars.find? (fun k => decide (k.no = c))

def fbkOf (s : State) (c : Nat) : Fbk := tget ({} : Fbk) s.fbk.cars c
def putFbk (s : State) (c : Nat) (f : Fbk) : State := { s with fbk := { s.fbk with cars := tset ({} : Fbk) s.fbk.cars c f } }
def ssiOf (s : State) (n : Nat) : Ssi := tget ({} : Ssi) s.fbk.ssi n
def putSsi (s : State) (n : Nat) (x : Ssi) : State := { s with fbk := { s.fbk with ssi := tset ({} : Ssi) s.fbk.ssi n x } }
def qeOf (s : State) (n : Nat) : Qe := tget ({} : Qe) s.fbk.qe n
def putQe (s : State) (n : Nat) (x : Qe) : State := { s with fbk := { s.fbk with qe := tset ({} : Qe) s.fbk.qe n x } }
def cmpOf (s : State) (u : Nat) : Compare := tget ({} : Compare) s.fbk.cmp u
def putCmp (s : State) (u : Nat) (x : Compare) : State :=
  { s with fbk := { s.fbk with cmp := tset ({} : Compare) s.fbk.cmp u x } }

/-- A car's sources as GEOMETRY names them, and the cars that an interface or a station serves. -/
def fbkCfg (s : State) (c : Nat) : Option FbkCfg := s.img.feedback.find? (fun k => decide (k.car = c))
def ssiCar (s : State) (n : Nat) : Option FbkCfg := s.img.feedback.find? (fun k => !k.absStn && decide (k.absNum = n))
def qeCar (s : State) (n : Nat) : Option FbkCfg := s.img.feedback.find? (fun k => !k.quadStn && decide (k.quadNum = n))
def ssiCfg (s : State) (n : Nat) : Option SsiCfg := s.img.ssi.find? (fun k => decide (k.no = n))
def qeCfg (s : State) (n : Nat) : Option QeCfg := s.img.qe.find? (fun k => decide (k.no = n))

/-- FBK_SCALE, FBK_DATUM and the learned sill of a landing as they read (R313). -/
def fbkScale (s : State) (k : FbkCfg) : Nat := (fbkOf s k.car).scale.getD k.scale
def fbkDatum (s : State) (k : FbkCfg) : Int := (fbkOf s k.car).datum.getD k.datum
def nominalSill (s : State) (l : Nat) : Int := ((s.img.landings.find? (fun x => decide (x.no = l))).map (·.sill)).getD 0
def landSill (s : State) (c l : Nat) : Int :=
  match carCfg s c with
  | none => 0
  | some k => if k.served.contains l then
      (match (fbkOf s c).lands with
        | some t => tget 0 t l
        | none => nominalSill s l)
    else 0

/-- A quotient rounded to the nearest integer, halves upwards. -/
def roundDiv (n : Int) (d : Nat) : Int := Int.fdiv (2 * n + d) (2 * d)

/-- The difference of two counts, which wrap at 32 bits (R292). -/
def countDiff (a b : Int) : Int := (wordI (a - b)).toInt

/-- The quadrature position of a count difference, in 10 µm × 2^24 (R295). -/
def quadFine (f : Fbk) (k : FbkCfg) (dq : Int) : Int := (if k.quadDir then -dq else dq) * f.actScale

/-- The absolute position of a raw value (R291). -/
def absPos (f : Fbk) (k : FbkCfg) (raw : Int) : Int := if k.absDir then f.actDatum - raw else raw - f.actDatum

/-- Edges kept for R296: those newer than 1 ms before the newest, and one more. -/
def keepEdges (newest : Nat) : List (Nat × Int) → List (Nat × Int)
  | [] => []
  | e :: t => if e.1 + 1000000 ≤ newest then [e] else e :: keepEdges newest t
def addEdge (t : Nat) (q : Int) (es : List (Nat × Int)) : List (Nat × Int) := keepEdges t ((t, q) :: es)

/-- The counted edges of a car's quadrature source. -/
def quadEdges (s : State) (k : FbkCfg) : List (Nat × Int) :=
  if k.quadStn then (fbkOf s k.car).edges else (qeOf s k.quadNum).edges

/-- The newest count of a car's quadrature source (R300). -/
def rawCount (s : State) (k : FbkCfg) : Int :=
  if k.quadStn then (fbkOf s k.car).stnCount else (qeOf s k.quadNum).count.toInt

/-- Where the speed of R296 has no older edge or sample to reckon from, it is a free value. -/
def openSpeed (s : State) : Int := (wordN (freeNat s)).toInt

/-- The speed of R296 from the quadrature edges, in µm/s; the second answer says that it is a free value. -/
def edgeSpeed (s : State) (k : FbkCfg) : Int × Bool :=
  let f := fbkOf s k.car
  match quadEdges s k with
  | [] => (0, false)
  | e :: t =>
    if e.1 + 50000000 ≤ devTime s then (0, false)
    else match t.find? (fun x => decide (x.1 + 1000000 ≤ e.1)) with
      | some o => (roundDiv (quadFine f k (countDiff e.2 o.2) * 10000000000) ((e.1 - o.1) * 2 ^ 24), false)
      | none => (openSpeed s, true)

/-- The speed of R296 from the absolute values of the last PLAUS_N samples. -/
def absSpeed (s : State) (k : FbkCfg) : Int × Bool :=
  let g := (fbkOf s k.car).goods
  match g.head?, g.getLast? with
  | some a, some b => if b.time < a.time then (roundDiv ((a.pos - b.pos) * 10000000000) (a.time - b.time), false)
    else (openSpeed s, true)
  | _, _ => (openSpeed s, true)

/-- The measured speed: from the quadrature source, or from the absolute values when that is LOST. -/
def measuredSpeed (s : State) (k : FbkCfg) : Int × Bool :=
  if (fbkOf s k.car).quadSt = .lost then absSpeed s k else edgeSpeed s k

/-- The count of a car's quadrature source at an instant that has passed: for a local source the newest edge up to it, for a
station source the newest count carried on with the speed of R296. -/
def countAt (s : State) (k : FbkCfg) (t : Nat) : Int :=
  let f := fbkOf s k.car
  if k.quadStn then
    if f.stnTime = t ∨ f.actScale = 0 then f.stnCount
    else
      let v := (edgeSpeed s k).1
      let dt : Int := (t : Int) - (f.stnTime : Int)
      let d := roundDiv (v * dt * 2 ^ 24) (10000000000 * f.actScale)
      f.stnCount + (if k.quadDir then -d else d)
  else match (quadEdges s k).find? (fun e => decide (e.1 ≤ t)) with
    | some e => e.2
    | none => rawCount s k

/-! ## Registers of one car -/

def sourceCode : SourceState → Nat
  | .good => 0 | .suspect => 1 | .lost => 2

/-- FBK_STATE. -/
def fbkStateReg (s : State) (c : Nat) : Word :=
  match fbkCfg s c with
  | none => regOf [(26, 25, 3), (24, 23, 3)]
  | some _ =>
    let f := fbkOf s c
    regOf [(31, 31, b2n f.fusedValid), (30, 29, f.mode), (28, 28, b2n f.degraded), (27, 27, b2n f.tripReq),
      (26, 25, sourceCode f.absSt), (24, 23, sourceCode f.quadSt), (22, 19, f.absCause), (18, 16, f.quadCause),
      (15, 14, f.learn), (13, 12, f.result), (7, 0, f.age)]

/-! ## Source states (R304 to R306) -/

/-- A source shows a bad frame or period: SUSPECT, or LOST at CRC_RUN in a row. -/
def badStep (run crcRun : Nat) (st : SourceState) (old cause : Nat) : SourceState × Nat :=
  match st with
  | .lost => (.lost, old)
  | _ => if crcRun ≤ run then (.lost, cause) else (.suspect, cause)

/-- A good frame or period: SUSPECT goes back to GOOD. -/
def goodStep (st : SourceState) (cause : Nat) : SourceState × Nat :=
  match st with
  | .suspect => (.good, 0)
  | x => (x, cause)

/-- Learning fails with its event where a source is no longer GOOD (R314). -/
def learnWatch (c : Nat) (s : State) : State :=
  let f := fbkOf s c
  if f.learn = 1 ∧ (f.absSt ≠ .good ∨ f.quadSt ≠ .good) then
    raise (1793 + 2 * c) [] (putFbk s c { f with learn := 3, zone := none, sills := [] })
  else s

/-- What follows from the states of the two sources (R305, R306), compared with `old`: DEGRADED, MODE, TRIP_REQ, and event source
1792 + 2c where a source has become LOST. -/
def fbkReact (c : Nat) (old : Fbk) (s : State) : State :=
  let f := fbkOf s c
  let la := decide (f.absSt = .lost)
  let lq := decide (f.quadSt = .lost)
  let f := if la && lq then { f with fusedValid := false, tripReq := true, mode := 0 }
    else { f with
      degraded := f.degraded || la || lq
      mode := if la then 3 else if lq then 2 else if f.fusedValid then 1 else f.mode }
  let s := putFbk s c f
  let new := (la && decide (old.absSt ≠ .lost)) || (lq && decide (old.quadSt ≠ .lost))
  learnWatch c (raiseIf new (1792 + 2 * c) [fbkStateReg s c] s)

/-- A station is lost with the sources it carries (R304): CAUSE STATION. -/
def fbkStationLost (n : Nat) (s : State) : State :=
  s.img.feedback.foldl (fun s k =>
    let old := fbkOf s k.car
    let a := k.absStn && decide (k.absNum = n) && decide (old.absSt ≠ .lost)
    let q := k.quadStn && decide (k.quadNum = n) && decide (old.quadSt ≠ .lost)
    if a || q then
      let f := if a then { old with absSt := SourceState.lost, absCause := 7, goodAbs := 0 } else old
      let f := if q then { f with quadSt := SourceState.lost, quadCause := 4, goodQuad := 0 } else f
      fbkReact k.car old (putFbk s k.car f)
    else s) s

/-! ## The absolute sample -/

/-- A raw record to both safety dies over VC0 (R307). -/
def sendRaw (c kind : Nat) (value : Int) (verdict latch : Nat) (s : State) : State :=
  let r : Option RawRecord := some { value := value, verdict := verdict, latch := latch }
  let put (d : SafDie) : SafDie := { d with raws := tset none d.raws (2 * c + kind) r }
  { s with safA := if running s .safA then put s.safA else s.safA, safB := if running s .safB then put s.safB else s.safB }

/-- The period of the quadrature source that ends with an absolute sample (R293, R294): what it showed, 0 for a good one. A local
interface tells event source 1936 + n when it shows its first error. -/
def endPeriod (k : FbkCfg) (s : State) : Nat × State :=
  if k.quadStn then
    let f := fbkOf s k.car
    (f.periodBad, putFbk s k.car { f with periodBad := 0, quadSeen := false })
  else
    let q := qeOf s k.quadNum
    let bad := if q.periodBad ≠ 0 then q.periodBad else if q.far then 2 else 0
    (bad, putQe s k.quadNum { q with periodBad := 0, told := decide (bad ≠ 0) })

/-- The quadrature source gives a sample in the running period: a local one in each, a station source by a record. -/
def quadSample (k : FbkCfg) (f : Fbk) : Bool := !k.quadStn || f.quadSeen

/-- The verdict on the quadrature source's period taken into its state; a period with no sample of it gives none (log 132). -/
def quadPeriod (k : FbkCfg) (seen : Bool) (bad : Nat) (f : Fbk) : Fbk :=
  if seen = false then f
  else if bad = 0 then
    let r := goodStep f.quadSt f.quadCause
    { f with quadSt := r.1, quadCause := r.2, badQuad := 0, goodQuad := Nat.min 1000 (f.goodQuad + 1) }
  else
    let run := f.badQuad + 1
    let r := badStep run k.crcRun f.quadSt f.quadCause bad
    { f with quadSt := r.1, quadCause := r.2, badQuad := run, goodQuad := 0, quadErr := satAdd 255 f.quadErr 1 }

/-- The freeze check (R301): whether it names a source, and the unit after it. -/
def freezeCheck (k : FbkCfg) (x : FbSample) (f : Fbk) : Bool × Fbk :=
  let lim : Int := (k.freezeD * 10 : Nat)
  let (a, f) := match f.mAbs with
    | none => (false, { f with mAbs := some x })
    | some m =>
      if m.raw ≠ x.raw then (false, { f with mAbs := some x })
      else if lim * 2 ^ 24 ≤ ((quadFine f k (countDiff x.count m.count)).natAbs : Int) then
        (true, if f.absSt = SourceState.lost then { f with goodAbs := 0 }
          else { f with absSt := SourceState.lost, absCause := 6, goodAbs := 0, anchor := some m })
      else (false, f)
  let (q, f) := match f.mQuad with
    | none => (false, { f with mQuad := some x })
    | some m =>
      if m.count ≠ x.count then (false, { f with mQuad := some x })
      else if lim ≤ ((x.pos - m.pos).natAbs : Int) then
        (true, if f.quadSt = SourceState.lost then { f with goodQuad := 0 }
          else { f with quadSt := SourceState.lost, quadCause := 3, goodQuad := 0 })
      else (false, f)
  (a || q, f)

/-- The plausibility check (R302) at a counted sample. -/
def plausCheck (k : FbkCfg) (f : Fbk) : Fbk :=
  if f.absSt = .lost ∨ f.quadSt = .lost ∨ f.counted.length < k.plausN then f
  else
    match f.counted.head?, f.counted.getLast? with
    | some n, some o =>
      let e := (n.pos - o.pos) * 2 ^ 24 - quadFine f k (countDiff n.count o.count)
      if ((k.plausWin * 10 * 2 ^ 24 : Nat) : Int) < (e.natAbs : Int) then
        if f.plausRun = 0 then { f with plausRun := 1 }
        else { f with
          plausRun := 0, plausErr := satAdd 255 f.plausErr 1, absSt := SourceState.lost, absCause := 8, quadSt := SourceState.lost, quadCause := 5
          goodAbs := 0, goodQuad := 0 }
      else { f with plausRun := 0 }
    | _, _ => f

/-- The JUMP check (R290, order 5): within VMAX × Δt + PLAUS_WIN of the previous good value. -/
def jumps (k : FbkCfg) (vmax : Nat) (f : Fbk) (raw : Int) (t : Nat) : Bool :=
  match f.newest with
  | none => false
  | some p => decide (vmax * (t - p.time) + k.plausWin * 10 * 10000000 < (raw - p.raw).natAbs * 10000000)

/-- A good frame: the newest position, the anchor, and the checks that follow (R298, R301 to R303, R309). DEDUCED, log entry 156: an
absolute source that was SUSPECT at the sample that finds the quadrature source frozen survives it as SUSPECT (R314). -/
def goodSample (k : FbkCfg) (quadBad : Nat) (x : FbSample) (f : Fbk) : Fbk :=
  let was := f
  let r := goodStep f.absSt f.absCause
  let f := { f with
    absSt := r.1, absCause := r.2, badAbs := 0, goodAbs := Nat.min 1000 (f.goodAbs + 1), newest := some x
    goods := (x :: f.goods).take k.plausN
    counted := if quadBad = 0 then (x :: f.counted).take k.plausN else f.counted }
  let f := if f.absSt = .lost then f else { f with anchor := some x, hold := false }
  let (frozen, f) := freezeCheck k x f
  let f := if frozen ∨ quadBad ≠ 0 then f else plausCheck k f
  let f := if frozen ∧ was.absSt = .suspect ∧ f.absSt = .good ∧ f.quadSt = .lost then
    { f with absSt := .suspect, absCause := was.absCause } else f
  if f.fusedValid = false ∧ f.tripReq = false ∧ f.reported = true ∧ f.absSt ≠ .lost then { f with fusedValid := true } else f

/-- An absolute sample of a car (R290 to R307): `cause` is the verdict of checks 1 to 4, and check 5 is made here. The quadrature
source's period ends with it. -/
def absSample (k : FbkCfg) (cause : Nat) (raw : Int) (t : Nat) (count : Int) (s : State) : State :=
  let c := k.car
  let vmax := ((carCfg s c).map (·.vmax)).getD 0
  let old := fbkOf s c
  let s := putFbk s c { old with actScale := fbkScale s k, actDatum := fbkDatum s k }
  let seen := quadSample k old
  let (quadBad, s) := endPeriod k s
  let f := quadPeriod k seen quadBad (fbkOf s c)
  let cause := if cause = 0 ∧ jumps k vmax f raw t = true then 5 else cause
  let x : FbSample := { raw := raw, pos := absPos f k raw, count := count, time := t }
  let f :=
    if cause = 0 then goodSample k quadBad x f
    else
      let run := f.badAbs + 1
      let r := badStep run k.crcRun f.absSt f.absCause cause
      { f with absSt := r.1, absCause := r.2, badAbs := run, goodAbs := 0, absErr := satAdd 255 f.absErr 1 }
  let f := { f with reported := f.reported || seen }
  let s := fbkReact c old (putFbk s c f)
  let s := sendRaw c 0 raw cause t s
  let s := if k.quadStn then s else sendRaw c 1 count (if quadBad = 0 then 0 else 7 + quadBad) t s
  if k.absStn then s
  else
    let x := ssiOf s k.absNum
    raiseIf (decide (cause ≠ 0) && !x.bad) (1920 + k.absNum) [] (putSsi s k.absNum { x with bad := decide (cause ≠ 0) })

/-! ## The local absolute interface (R288 to R291) -/

/-- The parity of the low `k` bits of a number. -/
def oddOnes (k n : Nat) : Bool := decide (popCount k n % 2 = 1)

/-- The remainder of CRC-6, polynomial x^6 + x + 1, initial value 0, over `k` bits, most significant first. -/
def crc6 : Nat → Nat → Nat → Nat
  | 0, _, r => r
  | k + 1, n, r =>
    let top := (r.testBit 5) != (n.testBit k)
    crc6 k n (if top then ((r * 2) % 64) ^^^ 3 else (r * 2) % 64)

/-- Gray code as an unsigned number. -/
def grayValue : Nat → Nat → Nat → Nat
  | 0, _, a => a
  | k + 1, g, a => grayValue k g (2 * a + b2n ((g.testBit k) != (a.testBit 0)))

/-- Checks 2 to 4 of R290 on a frame, and the decoded value (R291). -/
def ssiDecode (g : SsiCfg) (frame : Nat) : Nat × Int :=
  let nc := match g.check with | 0 => 0 | 1 => 1 | _ => 6
  let ns := g.frameBits - g.posBits - nc
  let frame := frame % 2 ^ g.frameBits
  let chk := frame % 2 ^ nc
  let data := frame / 2 ^ nc
  let bits := data / 2 ^ ns
  let raw : Int := ((if g.gray then grayValue g.posBits bits 0 else bits : Nat) : Int)
  let cause :=
    if g.check = 1 ∧ oddOnes g.frameBits frame = true then 2
    else if g.check = 2 ∧ crc6 (g.posBits + ns) data 0 ≠ 63 - chk then 2
    else if data % 2 ^ ns ≠ 0 then 3
    else if bits = 2 ^ g.posBits - 1 then 4 else 0
  (cause, raw)

/-- A request of a local interface (R288): the latch instant, and the count of a local quadrature source. Where the sensor is not
ready no clock edges follow, and the frame is bad at once (R290); the raw value of its record, which no word gives, is a free value
(log entry 139). -/
def ssiRequest (n : Nat) (ready : Bool) (s : State) : State :=
  match ssiCar s n, ssiCfg s n with
  | some k, some _ =>
    let t := devTime s
    let s := offerInterval (80 + n) none t s
    if ready then putSsi s n { ssiOf s n with latch := some (t, countAt s k t) }
    else absSample k 1 (wordN (freeNat s)).toNat t (countAt s k t) (drawn (putSsi s n { ssiOf s n with latch := none }))
  | _, _ => s

/-- The end of a frame: its bits are shown, acquired and checked (R290, R291, R491). -/
def ssiFrame (n frame : Nat) (s : State) : State :=
  match ssiCar s n, ssiCfg s n, (ssiOf s n).latch with
  | some k, some g, some (t, q) =>
    let v := frame % 2 ^ g.frameBits
    let s := putSsi s n { ssiOf s n with latch := none, frame := v }
    let s := acqSampleAt (96 + n) (wordN v) false (some 4000) t s
    let d := ssiDecode g v
    absSample k d.1 d.2 t q s
  | _, _, _ => s

/-! ## Stations (R287, R461) -/

/-- A quadrature record of a station: its count is the newest, and a verdict of ILLEGAL or INDEX spoils the period. -/
def quadRecord (n : Nat) (r : FeedbackRec) (s : State) : State :=
  match fbkCfg s r.car.val with
  | some k =>
    if k.quadStn && decide (k.quadNum = n) then
      let f := fbkOf s k.car
      let q := r.value.toInt
      let t := r.latchAt.toNat
      let bad := if r.verdict = 8 then 1 else if r.verdict = 9 then 2 else 0
      let f := { f with
        stnCount := q, stnTime := t, stnIdx := r.index.toInt, quadSeen := true
        edges := if q ≠ f.stnCount then addEdge t q f.edges else f.edges
        periodBad := if f.periodBad ≠ 0 then f.periodBad else bad }
      sendRaw k.car 1 q r.verdict.toNat t (putFbk s k.car f)
    else s
  | none => s

/-- An absolute record of a station: the station's verdict stands in for checks 1 to 4. -/
def absRecord (n : Nat) (r : FeedbackRec) (s : State) : State :=
  match fbkCfg s r.car.val with
  | some k =>
    if k.absStn && decide (k.absNum = n) then
      absSample k (if r.verdict.toNat ≤ 4 then r.verdict.toNat else 2) r.value.toNat r.latchAt.toNat
        (countAt s k r.latchAt.toNat) s
    else s
  | none => s

/-- The records of one feedback frame, the quadrature ones first: values of one frame are latched together. -/
def feedbackFrame (n : Nat) (rs : List FeedbackRec) (s : State) : State :=
  let s := (rs.filter (fun r => r.quad)).foldl (fun s r => quadRecord n r s) s
  (rs.filter (fun r => !r.quad)).foldl (fun s r => absRecord n r s) s

/-! ## The local quadrature interface (R292, R293) and compare units (R297) -/

/-- The step of a transition: +1 in the order 00, 10, 11, 01 of (A, B), −1 against it; none where both changed or neither. -/
def quadStep (a b a' b' : Bool) : Option Int :=
  if a ≠ a' ∧ b ≠ b' then none
  else if a = a' ∧ b = b' then some 0
  else if (a != b') then some (-1) else some 1

/-- A compare unit sees a new count of its source: a hit is recorded, marked and told, and VALUE moves on. -/
def compareStep (u : Nat) (n : Nat) (count : Word) (s : State) : State :=
  let x := cmpOf s u
  if x.en ∧ x.src = n ∧ count = x.value then
    let t := devTime s
    let last := decide (x.spacing = 0)
    let s := putCmp s u { x with en := !last, value := x.value + x.spacing, hits := x.hits + 1, time := t }
    let s := if x.acq then placeMark 65535 2 0 u count t s else s
    raiseIf last (1952 + u) [] (offerInterval (48 + u) none t s)
  else s

/-- The first error after a good period of a local interface is told (R315). -/
def qeError (n bad : Nat) (s : State) : State :=
  let q := qeOf s n
  raiseIf (!q.told) (1936 + n) [] (putQe s n { q with
    told := true, periodBad := if q.periodBad = 0 then bad else q.periodBad })

/-- How far the count may stand from the last index latch (R293). -/
def tooFar (s : State) (n : Nat) (q : Qe) : Bool :=
  match qeCar s n, qeCfg s n with
  | some k, some g => decide (g.cpr ≠ 0) && q.idxAt.isSome && decide (g.cpr + k.idxTol < (countDiff q.count.toInt q.idx.toInt).natAbs)
  | _, _ => false

/-- New levels of A and B (R292), after the filter. -/
def quadEdge (n : Nat) (a b : Bool) (s : State) : State :=
  let t := devTime s
  let q := qeOf s n
  let s := if q.a ≠ a then offerInterval n (some a) t s else s
  let s := if q.b ≠ b then offerInterval (16 + n) (some b) t s else s
  match quadStep q.a q.b a b with
  | none => qeError n 1 (putQe s n { q with a := a, b := b, illegal := satAdd 255 q.illegal 1 })
  | some d =>
    if d = 0 then s
    else
      let c := q.count + wordI d
      let q' : Qe := { q with a := a, b := b, count := c, edges := addEdge t c.toInt q.edges }
      let far := tooFar s n q'
      let broke := far && !q.far
      let s := putQe s n { q' with far := far, idxErr := if broke then satAdd 255 q.idxErr 1 else q.idxErr }
      let s := if broke then qeError n 2 s else s
      (List.range 32).foldl (fun s u => compareStep u n c s) s

/-- An edge of Z (R293): the selected edge latches the count and its device time, and checks its distance from the one before. -/
def indexEdge (n : Nat) (rise : Bool) (s : State) : State :=
  let t := devTime s
  let s := offerInterval (32 + n) (some rise) t s
  let g := qeCfg s n
  let zpol := match g with | some g => g.zpol | none => false
  if rise = zpol then s
  else
    let q := qeOf s n
    let bad := match g, qeCar s n with
      | some g, some k =>
        decide (g.cpr ≠ 0) && q.idxAt.isSome
          && decide (k.idxTol < (((countDiff q.count.toInt q.idx.toInt).natAbs : Int) - (g.cpr : Int)).natAbs)
      | _, _ => false
    let s := putQe s n { q with
      idx := q.count, idxAt := some t, far := false, idxErr := if bad then satAdd 255 q.idxErr 1 else q.idxErr }
    if bad then qeError n 2 s else s

/-! ## Fusion (R298, R299) -/

/-- The fused position of a unit with its anchor, at a tick: the local count, or the station's newest count carried on with the
speed. -/
def fusedAt (s : State) (k : FbkCfg) (f : Fbk) (a : FbSample) (v : Int) : Int :=
  let q := quadFine f k (countDiff (rawCount s k) a.count)
  if k.quadStn then
    let dt : Int := (devTime s : Int) - (f.stnTime : Int)
    a.pos + roundDiv (q * 10000000000 + v * dt * 2 ^ 24) (2 ^ 24 * 10000000000)
  else a.pos + roundDiv q (2 ^ 24)

/-- A station that carries a car's absolute source is lost, so that no sample ends the periods of its quadrature source: the tick
does, and a local source's count goes to the safety dies then (R307). DEDUCED, log entry 139. -/
def tickPeriod (k : FbkCfg) (s : State) : State :=
  if k.absStn ∧ (fbkOf s k.car).absCause = 7 ∧ (fbkOf s k.car).absSt = .lost then
    let old := fbkOf s k.car
    let (bad, s) := endPeriod k s
    let s := fbkReact k.car old (putFbk s k.car (quadPeriod k (quadSample k old) bad (fbkOf s k.car)))
    if k.quadStn then s else sendRaw k.car 1 (rawCount s k) (if bad = 0 then 0 else 7 + bad) (devTime s) s
  else s

/-- FUSION_TICK of one car. -/
def fusionTick (c : Nat) (s : State) : State :=
  match fbkCfg s c with
  | none => s
  | some k =>
    let s := tickPeriod k s
    let t := devTime s
    let f : Fbk := { fbkOf s c with
      age := match (fbkOf s c).anchor with | some a => Nat.min 255 ((t - a.time) / 10000) | none => 0 }
    let s := putFbk s c f
    let s :=
      if f.fusedValid = false ∨ f.hold = true then s
      else
        let (v, isFree) := measuredSpeed s k
        let s := if isFree then drawn s else s
        if f.quadSt = .lost then
          match f.newest with
          | some a =>
            let dt : Int := (t : Int) - (a.time : Int)
            putFbk s c { f with speed := v, pos := a.pos + roundDiv (v * dt) 10000000000 }
          | none => s
        else match f.anchor with
          | some a => putFbk s c { f with speed := v, pos := fusedAt s k f a v }
          | none => s
    acqSample (144 + c) (wordI (fbkOf s c).pos) false (some 250000) s

/-! ## CLEAR (R308) -/

/-- FBK_CMD 1. -/
def fbkClear (c : Nat) (s : State) : State :=
  match fbkCfg s c with
  | none => s
  | some k =>
    let f := fbkOf s c
    let (v, isFree) := measuredSpeed s k
    let s := if isFree then drawn s else s
    if v.natAbs < 10000 ∧ 1000 ≤ f.goodAbs ∧ 1000 ≤ f.goodQuad then
      putFbk s c { f with
        absSt := .good, absCause := 0, quadSt := .good, quadCause := 0, mode := 1, degraded := false, tripReq := false
        hold := true, plausRun := 0, counted := [], result := 0 }
    else putFbk s c { f with result := 1 }

/-! ## Shaft learning (R310 to R312) -/

/-- FBK_CMD 2. -/
def learnBegin (c : Nat) (s : State) : State :=
  match fbkCfg s c with
  | none => s
  | some _ =>
    let f := fbkOf s c
    if s.frm.presence = false then putFbk s c { f with result := 2 }
    else if (hstOf s c).state ≠ .rest ∨ f.absSt ≠ .good ∨ f.quadSt ≠ .good then putFbk s c { f with result := 1 }
    else putFbk s c { f with result := 0, learn := 1, zone := none, sills := [] }

/-- FBK_CMD 4. -/
def learnAbort (c : Nat) (s : State) : State :=
  match fbkCfg s c with
  | none => s
  | some _ =>
    let f := fbkOf s c
    if f.learn = 1 then putFbk s c { f with result := 0, learn := 0, zone := none, sills := [] }
    else putFbk s c { f with result := 1 }

/-- Learning has failed. -/
def learnFail (c : Nat) (s : State) : State :=
  raise (1793 + 2 * c) [] (putFbk s c { fbkOf s c with learn := 3, zone := none, sills := [] })

/-- A learned sill goes to the landing whose nominal position lies within 50 mm; seen twice it must agree within 1 mm (R311). -/
def learnSill (c : Nat) (k : FbkCfg) (raw count : Int) (s : State) : State :=
  let f := fbkOf s c
  let pos := absPos f k raw
  match minBy (fun l : LandingCfg => ((l.sill - pos).natAbs : Int)) s.img.landings with
  | none => s
  | some l =>
    if 5000 < (l.sill - pos).natAbs then s
    else match f.sills.find? (fun x => decide (x.landing = l.no)) with
      | some o => if 100 < (raw - o.raw).natAbs then learnFail c s else s
      | none => putFbk s c { f with sills := f.sills ++ [{ landing := l.no, raw := raw, count := count }] }

/-- An edge of the door-zone signal during learning (R311). -/
def zoneEdge (c : Nat) (rise : Bool) (s : State) : State :=
  match fbkCfg s c with
  | none => s
  | some k =>
    let f := fbkOf s c
    match f.newest with
    | none => s
    | some x =>
      if f.learn ≠ 1 then s
      else
        let dt : Int := (devTime s : Int) - (x.time : Int)
        let d := roundDiv (f.speed * dt) 10000000000
        let raw := x.raw + (if k.absDir then -d else d)
        let e : ZoneEdge := { raw := raw, count := countAt s k (devTime s), up := decide (0 ≤ f.speed) }
        if rise then putFbk s c { f with zone := some e }
        else match f.zone with
          | none => s
          | some z =>
            let s := putFbk s c { f with zone := none }
            if z.up = e.up then
              learnSill c k (roundDiv (z.raw + e.raw) 2 - k.vaneOffset) (z.count + Int.fdiv (countDiff e.count z.count) 2) s
            else s

/-- The learned sill at the highest or lowest nominal position. -/
def endSill (s : State) (f : Fbk) (top : Bool) : Option LearnedSill :=
  minBy (fun x : LearnedSill => if top then -(nominalSill s x.landing) else nominalSill s x.landing) f.sills

/-- The new SCALE (R312), and whether it lies within 2 % of its nominal value. -/
def newScale (s : State) (k : FbkCfg) (f : Fbk) : Option Nat :=
  match endSill s f true, endSill s f false with
  | some t, some b =>
    let dq := (countDiff t.count b.count).natAbs
    if dq = 0 then none
    else
      let v := (roundDiv (((t.raw - b.raw).natAbs : Int) * 2 ^ 24) dq).toNat
      if 98 * k.scale ≤ 100 * v ∧ 100 * v ≤ 102 * k.scale then some v else none
  | _, _ => none

/-- The new DATUM: the datum landing sits at its nominal height. -/
def newDatum (s : State) (k : FbkCfg) (f : Fbk) : Int :=
  match f.sills.find? (fun x => decide (x.landing = k.datumLanding)) with
  | some x => if k.absDir then x.raw + nominalSill s k.datumLanding else x.raw - nominalSill s k.datumLanding
  | none => fbkDatum s k

/-- A learned table sets the planner's rebuild of its flight-time tables going (R349). -/
def askRebuild (c : Nat) (s : State) : State :=
  s.img.groups.foldl (fun s g =>
    if g.cars.contains c then
      { s with dsp := { s.dsp with groups := tupd ({} : Grp) s.dsp.groups g.no (fun x => { x with rebuild := true }) } }
    else s) s

/-- FBK_CMD 3 (R312): refused by state while the car is not in REST, else done or failed, with event source 1793 + 2c. -/
def learnEnd (c : Nat) (s : State) : State :=
  match fbkCfg s c, carCfg s c with
  | some k, some car =>
    let f := fbkOf s c
    if f.learn ≠ 1 ∨ (hstOf s c).state ≠ .rest then putFbk s c { f with result := 1 }
    else
      let s := putFbk s c { f with result := 0 }
      let f := fbkOf s c
      let covered := car.served.all (fun l => f.sills.any (fun x => decide (x.landing = l)))
      let near := f.sills.all (fun x => decide ((absPos f k x.raw - nominalSill s x.landing).natAbs ≤ 5000))
      match newScale s k f with
      | some v =>
        if covered && near then
          let d := newDatum s k f
          let pos (raw : Int) : Int := if k.absDir then d - raw else raw - d
          let lands := f.sills.foldl (fun t x => if car.served.contains x.landing then tset 0 t x.landing (pos x.raw) else t) []
          raise (1793 + 2 * c) [] (askRebuild c (putFbk s c { f with
            learn := 2, scale := some v, datum := some d, lands := some lands, zone := none, sills := [] }))
        else learnFail c s
      | none => learnFail c s
  | _, _ => s

/-! ## Release (R309) -/

/-- The feedback block at the release of the I/O island: NV values and error counts are kept. -/
def fbkRelease (s : State) : State :=
  let cars := s.fbk.cars.map (fun e =>
    (e.1, { ({} : Fbk) with
      plausErr := e.2.plausErr, quadErr := e.2.quadErr, absErr := e.2.absErr, scale := e.2.scale, datum := e.2.datum,
      lands := e.2.lands }))
  let qe := s.fbk.qe.map (fun e => (e.1, { ({} : Qe) with a := e.2.a, b := e.2.b, idxErr := e.2.idxErr, illegal := e.2.illegal }))
  let s : State := { s with fbk := {
    cars := cars.filter (fun e => decide (e.2 ≠ {})), ssi := [], qe := qe.filter (fun e => decide (e.2 ≠ {})),
    cmp := (s.fbk.cmp.map (fun e => (e.1, { ({} : Compare) with hits := e.2.hits }))).filter (fun e => decide (e.2 ≠ {})) } }
  s.img.feedback.foldl (fun s k =>
    putFbk s k.car { fbkOf s k.car with actScale := fbkScale s k, actDatum := fbkDatum s k }) s

/-! ## Registers -/

/-- A register of a car's window. -/
def fbkCarReg (s : State) (c off : Nat) : Option Word :=
  let f := fbkOf s c
  let cfg (g : FbkCfg → Word) : Option Word := some (match fbkCfg s c with | some k => g k | none => 0)
  match off with
  | 0x000 => some (fbkStateReg s c)
  | 0x004 => some (wordI f.pos)
  | 0x008 => some (wordI f.speed)
  | 0x00C => some (wordI (match f.newest with | some x => x.pos | none => 0))
  | 0x010 => cfg (fun k => wordI (rawCount s k))
  | 0x014 => cfg (fun k => if k.quadStn then wordI f.stnIdx else (qeOf s k.quadNum).idx)
  | 0x020 => cfg (fun k => regOf [(31, 31, b2n k.absStn), (30, 20, k.absNum), (19, 19, b2n k.quadStn), (18, 8, k.quadNum),
      (1, 1, b2n k.absDir), (0, 0, b2n k.quadDir)])
  | 0x024 => cfg (fun k => wordN (fbkScale s k))
  | 0x028 => cfg (fun k => wordI (fbkDatum s k))
  | 0x02C => cfg (fun k => regOf [(31, 24, k.plausWin), (23, 16, k.freezeD), (15, 12, k.crcRun), (11, 8, k.plausN), (7, 0, k.idxTol)])
  | 0x030 => some 0
  | 0x034 => some (regOf [(23, 16, f.plausErr), (15, 8, f.quadErr), (7, 0, f.absErr)])
  | o => if 0x400 ≤ o ∧ o < 0x800 ∧ o % 4 = 0 then some (wordI (landSill s c ((o - 0x400) / 4))) else none

/-- A write of FBK_CMD. -/
def fbkCommand (c cmd : Nat) (s : State) : State :=
  match cmd with
  | 1 => fbkClear c s | 2 => learnBegin c s | 3 => learnEnd c s | 4 => learnAbort c s | _ => s

/-- A register of the FBK block by its offset. -/
def fbkReg (s : State) (off : Nat) : Option Word :=
  if off < 0x40000 then fbkCarReg s (off / 0x1000) (off % 0x1000)
  else if off < 0x41000 then
    let n := (off - 0x40000) / 0x100
    let x := ssiOf s n
    match off % 0x100 with
    | 0 => some (match ssiCfg s n with
      | some g => regOf [(31, 26, g.frameBits), (25, 20, g.posBits), (19, 18, g.check), (17, 17, b2n g.gray), (16, 12, g.clk),
          (11, 10, g.period), (7, 0, g.dly)]
      | none => 0)
    | 4 => some (loWord x.frame)
    | 8 => some (wordN (x.frame / 2 ^ 32 % 256))
    | _ => none
  else if 0x50000 ≤ off ∧ off < 0x51000 then
    let n := (off - 0x50000) / 0x100
    let q := qeOf s n
    match off % 0x100 with
    | 0 => some (match qeCfg s n with
      | some g => regOf [(31, 29, g.filt), (28, 28, b2n g.zpol), (23, 0, g.cpr)]
      | none => 0)
    | 4 => some q.count
    | 8 => some q.idx
    | 12 => some (regOf [(15, 8, q.idxErr), (7, 0, q.illegal)])
    | _ => none
  else if 0x60000 ≤ off ∧ off < 0x60800 then
    let x := cmpOf s ((off - 0x60000) / 0x40)
    match off % 0x40 with
    | 0 => some (regOf [(31, 31, b2n x.en), (27, 24, x.src), (16, 16, b2n x.acq)])
    | 4 => some x.value
    | 8 => some x.spacing
    | 12 => some x.hits
    | 16 => some (loWord x.time)
    | 20 => some (hiWord x.time)
    | _ => none
  else none

/-- A write to a register of the FBK block. -/
def fbkWrite (off : Nat) (v : Word) (s : State) : State :=
  if off < 0x40000 then
    let c := off / 0x1000
    match off % 0x1000 with
    | 0x030 => fbkCommand c (fld v 3 0) s
    | 0x034 => if bitAt v 31 then putFbk s c { fbkOf s c with plausErr := 0, quadErr := 0, absErr := 0 } else s
    | _ => s
  else if 0x50000 ≤ off ∧ off < 0x51000 then
    let n := (off - 0x50000) / 0x100
    if off % 0x100 = 12 ∧ bitAt v 31 = true then putQe s n { qeOf s n with idxErr := 0, illegal := 0 } else s
  else if 0x60000 ≤ off ∧ off < 0x60800 then
    let u := (off - 0x60000) / 0x40
    let x := cmpOf s u
    match off % 0x40 with
    | 0 => putCmp s u { x with en := bitAt v 31, src := fld v 27 24, acq := bitAt v 16 }
    | 4 => putCmp s u { x with value := v }
    | 8 => putCmp s u { x with spacing := v }
    | _ => s
  else s

end Sys2Proof.Machine
end

