-- ==== Sys2Proof/Machine/Trig.lean ====
section
/-! DEFINITION. Sine and cosine in fixed point: values scaled by 2^40, from Taylor sums to the 23rd power in 2^48. -/
namespace Sys2Proof.Machine

/-- π / 2 scaled by 2^48. -/
def halfPi48 : Nat := 442139859501778

/-- Terms of the series of sine at `x`: `k` counts down, `t` is the present term, `n` its power. -/
def sinTerms : Nat → Int → Int → Nat → Int
  | 0, _, t, _ => t
  | k + 1, x, t, n => t + sinTerms k x (-(t * x / 2 ^ 48 * x / 2 ^ 48) / (((n + 1) * (n + 2) : Nat) : Int)) (n + 2)

/-- Sine of a quarter turn's share r / d, scaled by 2^40. -/
def sinQuarter (r d : Nat) : Int :=
  let x : Int := ((halfPi48 * r / d : Nat) : Int)
  sinTerms 11 x x 1 / 256

/-- sin(2π · num / den), scaled by 2^40. -/
def sin40 (num : Int) (den : Nat) : Int :=
  let f := (num % (den : Int)).toNat
  let q := 4 * f / den
  let r := 4 * f % den
  match q with
  | 0 => sinQuarter r den
  | 1 => sinQuarter (den - r) den
  | 2 => -sinQuarter r den
  | _ => -sinQuarter (den - r) den

/-- cos(2π · num / den), scaled by 2^40. -/
def cos40 (num : Int) (den : Nat) : Int := sin40 (4 * num + den) (4 * den)

end Sys2Proof.Machine
end

