-- ==== Sys2Proof/Machine/FieldOps.lean ====
section
/-! DEFINITION. The field die: supplies, inputs, outputs behind their gates, coil channels and motor pairs, ADC channels and registers
(R415 to R437). -/
namespace Sys2Proof.Machine

def fieldIn (s : State) (k : Nat) : FieldIn := tget ({} : FieldIn) s.fio.ins k
def fieldOut (s : State) (o : Nat) : FieldOut := tget ({} : FieldOut) s.fio.outs o
def coilOf (s : State) (k : Nat) : Coil := tget ({} : Coil) s.fio.coils k
def adcOf (s : State) (a : Nat) : Adc := tget ({} : Adc) s.fio.adcs a
def putIn (s : State) (k : Nat) (x : FieldIn) : State := { s with fio := { s.fio with ins := tset ({} : FieldIn) s.fio.ins k x } }
def putOut (s : State) (o : Nat) (x : FieldOut) : State :=
  { s with fio := { s.fio with outs := tset ({} : FieldOut) s.fio.outs o x } }
def putCoil (s : State) (k : Nat) (x : Coil) : State := { s with fio := { s.fio with coils := tset ({} : Coil) s.fio.coils k x } }
def putAdc (s : State) (a : Nat) (x : Adc) : State := { s with fio := { s.fio with adcs := tset ({} : Adc) s.fio.adcs a x } }

/-- The field table as the field die holds it: empty until the die has loaded it (R415). -/
def fieldTable (s : State) : FieldCfg := if s.fio.loaded then s.img.field else default

def inCfg (s : State) (k : Nat) : Option FieldInCfg := (fieldTable s).ins.find? (fun c => decide (c.no = k))
def outCfg (s : State) (o : Nat) : Option FieldOutCfg := (fieldTable s).outs.find? (fun c => decide (c.no = o))
def coilCfg (s : State) (k : Nat) : Option CoilCfg := (fieldTable s).coils.find? (fun c => decide (c.no = k))

/-- The groups of R45, 0 for VFIELD1 and 1 for VFIELD2, and their states. -/
def outGroup (o : Nat) : Nat := if o < 12 then 0 else 1
def coilGroup (k : Nat) : Nat := if k < 8 then 0 else 1
def groupState (s : State) (g : Nat) : GroupState := if g = 0 then s.fio.g1 else s.fio.g2
def groupGood (s : State) (g : Nat) : Bool := running s .field && decide (groupState s g = .good)

/-- Both switches of a gate are closed (R426). -/
def outGate (s : State) (o : Nat) : Bool := s.fio.gateA.testBit o && s.fio.gateB.testBit o
def coilGate (s : State) (k : Nat) : Bool := s.fio.coilA.testBit k && s.fio.coilB.testBit k

/-- FAULT_N as the field die drives it (R52, R53, R435). -/
def fieldFault (s : State) : State :=
  { s with pins := { s.pins with faultField := !(running s .field) || s.fio.keeperSilent } }

/-! ## Outputs (R422 to R425) -/

/-- An output's command after forces (R425): a safety-mapped one is held on, and a force can turn it off. -/
def outCommand (s : State) (o : Nat) : Bool :=
  match outCfg s o with
  | some k => forcedBit s 4 o (k.safety || (fieldOut s o).cmd)
  | none => false

/-- The command ahead of the gate: SHARED outputs are held off at a module without the holder duty (R468). -/
def outWanted (s : State) (o : Nat) : Bool :=
  match outCfg s o with
  | some k => outCommand s o && (!k.shared || isHolder s)
  | none => false

/-- Nothing but the output's own protection keeps it off. -/
def outFree (s : State) (o : Nat) : Bool := outWanted s o && outGate s o && groupGood s (outGroup o) && !s.fio.hot

/-- An output brought in line with its command, gate and supply. -/
def outRefresh (o : Nat) (s : State) : State :=
  let x := fieldOut s o
  let w := outWanted s o
  let free := outFree s o
  let x := match x.state with
    | .latched =>
      if w = false then { x with released := true }
      else if x.released then { x with state := if free then OutState.on else .off, released := false, overloads := 0 } else x
    | .hot =>
      if w then x
      else match x.before with
        | .latched => { x with released := true }
        | _ => { x with before := .off, overloads := 0, retryDue := false }
    | .wait =>
      if w = false then { x with state := OutState.off, overloads := 0, retryDue := false }
      else if x.retryDue ∧ free = true then { x with state := OutState.on, retryDue := false, retries := satAdd 255 x.retries 1 } else x
    | _ => { x with state := if free then OutState.on else .off, overloads := if w then x.overloads else 0 }
  putOut s o x

/-- FIO_OUTSTo. -/
def outReg (s : State) (o : Nat) : Word :=
  match outCfg s o with
  | none => 0
  | some k =>
    let x := fieldOut s o
    let st := if !(groupGood s (outGroup o)) then 6
      else match x.state with | .off => 0 | .on => 1 | .wait => 3 | .latched => 4 | .hot => 5
    regOf [(31, 29, st), (28, 28, b2n x.isOpen), (27, 27, b2n k.owOn), (26, 26, b2n k.owOff), (25, 25, b2n k.safety),
      (23, 16, x.retries), (15, 0, x.current)]

/-- The event of an output, with FIO_OUTSTo (R437). -/
def outEvent (o : Nat) (s : State) : State := raise (2432 + o) [outReg s o] s

/-! ## Coil channels (R429 to R432) -/

/-- A channel of current mode is commanded on: by its command bit, or through its gate alone when it is safety-mapped. -/
def coilWanted (s : State) (k : CoilCfg) : Bool :=
  (k.safety || (coilOf s k.no).cmd) && (!k.shared || isHolder s)

/-- Supply and die temperature allow the channel. -/
def coilSupply (s : State) (k : Nat) : Bool := groupGood s (coilGroup k) && !s.fio.hot

/-- A motor pair can run: both gates closed, supply good, and at the holder where it is SHARED. -/
def pairFree (s : State) (k : CoilCfg) : Bool :=
  coilGate s k.no && coilGate s (k.no + 1) && coilSupply s k.no && coilSupply s (k.no + 1) && (!k.shared || isHolder s)

/-- Entry to OFF: both gate lines are low, the offset is 0, a pair stops where it is. -/
def coilOff (x : Coil) : Coil := { x with state := .off, off := 0, speed := 0, switchTo := none, gh := false, gl := false }

/-- Entry to PULL: the coil's current is below its band, so the channel drives forward (R429, R430). -/
def coilPull (x : Coil) : Coil := { x with state := .pull, gh := true, gl := false }

/-- A coil channel brought in line with its command, gate and supply. -/
def coilRefresh (n : Nat) (s : State) : State :=
  match coilCfg s n with
  | none => s
  | some k =>
    let x := coilOf s n
    if k.mode = 1 then
      let on := coilWanted s k && (coilGate s n || !k.safety)
      let free := coilWanted s k && coilGate s n && coilSupply s n
      putCoil s n (if x.state = .tripped ∧ (on = false ∨ x.released = false) then { x with released := x.released || !on }
        else if free then { (if x.state = .off ∨ x.state = .tripped then coilPull x else x) with released := false }
        else { coilOff x with released := false })
    else if k.mode = 2 then
      let y := coilOf s (n + 1)
      let free := pairFree s k
      let both (f : Coil → Coil) (s : State) : State := putCoil (putCoil s n (f x)) (n + 1) (f y)
      if x.state = .tripped ∨ y.state = .tripped then
        both (fun c => if c.state = .tripped then (if free ∧ c.released = true then { c with state := .off, released := false }
          else { c with released := c.released || !free }) else coilOff c) s
      else if free then both (fun c => if c.state = .off then { c with state := .hold } else c) s
      else both coilOff s
    else s

/-- Every output and coil channel brought in line. -/
def fieldRefresh (s : State) : State :=
  if running s .field then
    (fieldTable s).coils.foldl (fun s k => coilRefresh k.no s) ((fieldTable s).outs.foldl (fun s k => outRefresh k.no s) s)
  else s

/-- FIO_CLk_STATE. -/
def coilReg (s : State) (n : Nat) : Word :=
  let x := coilOf s n
  let st := if !(groupGood s (coilGroup n)) then 5
    else match x.state with | .off => 0 | .pull => 1 | .hold => 2 | .move => 3 | .tripped => 4
  match coilCfg s n with
  | none => 0
  | some _ => regOf [(31, 29, st), (28, 28, b2n (!(coilGate s n))), (27, 25, x.cause), (24, 24, b2n x.strong),
      (23, 23, b2n x.refuse), (15, 0, twos 16 x.mean)]

/-- FIO_CLk_MOVE. -/
def moveReg (s : State) (k : CoilCfg) : Word := (coilOf s k.no).limits.getD (regOf [(31, 16, k.vmax), (15, 0, k.acc)])

/-- The current in mA that a channel is set to. -/
def coilSet (s : State) (k : CoilCfg) : Int :=
  let x := coilOf s k.no
  if k.mode = 1 then (match x.state with | .pull => 10 * k.iPull | .hold => 10 * k.iHold | _ => 0)
  else
    let lead := if k.mode = 2 then k.no else k.no - 1
    match coilCfg s lead with
    | none => 0
    | some l =>
      let y := coilOf s lead
      let amp : Int := ((100 * (if y.strong then l.ampS else l.ampQ) : Nat) : Int)
      let a := y.pos / 800
      amp * (if k.mode = 2 then sin40 a 1024 else cos40 a 1024) / 2 ^ 40

/-- The gate lines at a current of `i` mA (R430): drive below the band around `set + off`, open above it, as they are within it; with a
negative set value, which a motor pair has, the band is mirrored and the drive is reverse (log entry 166). -/
def chopper (k : CoilCfg) (set i : Int) (x : Coil) : Coil :=
  let low := set + x.off - 10 * (k.band : Int)
  let high := set + x.off + 10 * (k.band : Int)
  if x.state = .off ∨ x.state = .tripped ∨ set = 0 then { x with gh := false, gl := false }
  else if 0 < set then { x with gh := decide (i < low) || (x.gh && decide (i ≤ high)), gl := false }
  else { x with gl := decide (high < i) || (x.gl && decide (low ≤ i)), gh := false }

/-- The 50 µs update of the offset (R430), in mA, and the gate lines at the current it measured. -/
def coilOffset (k : CoilCfg) (mean : Int) (s : State) : State :=
  let x := coilOf s k.no
  let set := coilSet s k
  let lim : Int := ((10 * k.offMax : Nat) : Int)
  let off := x.off + (set - mean) * k.koff / 256
  putCoil s k.no (chopper k set mean { x with
    mean := mean
    off := if x.state = .off ∨ x.state = .tripped then 0 else if 10 * set.natAbs < 10 * k.iPull then x.off
      else max (-lim) (min lim off) })

/-- 50 µs of a motor pair's move (R431): speed up, hold or slow down so as to stop at the target, and arrive. -/
def pairStep (s : State) (k : CoilCfg) : Coil :=
  let x := coilOf s k.no
  let w := moveReg s k
  let acc := Nat.max 1 (fld w 15 0)
  let top := 20 * fld w 31 16
  let dist := x.target * 800 - x.pos
  let dir : Int := if dist < 0 then -1 else 1
  let u : Nat := x.speed.natAbs
  let d : Nat := dist.natAbs
  let stop (v : Nat) : Nat := v * v / acc
  let up : Nat := if top < u then Nat.max top (u - acc) else Nat.min top (u + acc)
  let v : Nat := if u + up + stop up ≤ d then up else if 2 * u + stop u ≤ d ∧ u ≤ top then u else u - acc
  let x := if d ≤ u + v ∨ (v = 0 ∧ d ≤ acc) then { x with pos := x.target * 800, speed := 0, state := CoilState.hold }
    else { x with pos := x.pos + dir * ((u + v : Nat) : Int), speed := dir * ((v : Nat) : Int) }
  let now := x.speed.natAbs
  let fast := decide (20 * k.vQs ≤ now)
  let slow := decide (now + 20 * k.vHys < 20 * k.vQs)
  let wish := if !x.strong && fast then some true else if x.strong && slow then some false
    else if (x.switchTo = some true ∧ slow = true) ∨ (x.switchTo = some false ∧ fast = true) then none else x.switchTo
  let crossed := decide (x.pos / 204800 ≠ (coilOf s k.no).pos / 204800) || decide (x.pos % (204800 : Int) = 0)
  match wish with
  | some b => if crossed then { x with strong := b, switchTo := none } else { x with switchTo := some b }
  | none => { x with switchTo := none }

/-- A channel's 50 µs update. -/
def coilUpdate (n : Nat) (mean : Int) (s : State) : State :=
  match coilCfg s n with
  | none => s
  | some k =>
    let s := if k.mode = 2 ∧ (coilOf s n).state = .move then
        let x := pairStep s k
        putCoil (putCoil s n x) (n + 1) { coilOf s (n + 1) with state := x.state }
      else s
    if k.mode = 0 then s else coilOffset k mean s

/-- A trip (R432): STATE 4 with its cause; the other channel of a pair goes off. A channel that is OFF trips on causes 1 and 3 too; a
command that is off as it trips has gone off (log entry 166). -/
def coilTrip (n cause : Nat) (s : State) : State :=
  match coilCfg s n with
  | none => s
  | some k =>
    let x := coilOf s n
    if x.state = .tripped ∨ k.mode = 0 ∨ (x.state = .off ∧ cause = 2) then s
    else
      let s := putCoil s n { coilOff x with state := .tripped, cause := cause, released := false }
      let other := if k.mode = 2 then some (n + 1) else if k.mode = 3 then some (n - 1) else none
      let s := match other with | some m => putCoil s m (coilOff (coilOf s m)) | none => s
      raise (2456 + n) [wordN cause] (coilRefresh (if k.mode = 3 then n - 1 else n) s)

/-- A write of FIO_CLk_TARGET (R431). -/
def targetWritePair (n : Nat) (v : Word) (s : State) : State :=
  match coilCfg s n with
  | none => s
  | some k =>
    let x := coilOf s n
    if k.mode ≠ 2 then s
    else if x.state = .move then putCoil s n { x with refuse := true }
    else
      let go := decide (x.state = .hold) && decide (x.pos ≠ v.toInt * 800)
      let s := putCoil s n { x with target := v.toInt, refuse := false, state := if go then .move else x.state }
      if go then putCoil s (n + 1) { coilOf s (n + 1) with state := .move } else s

/-! ## Supplies (R416) -/

/-- A group's state changes: its event, that of the safety dies (R414), and its outputs. -/
def groupChange (g : Nat) (st : GroupState) (s : State) : State :=
  if running s .field = false ∨ groupState s g = st then s
  else
    let s : State := { s with fio := if g = 0 then { s.fio with g1 := st } else { s.fio with g2 := st } }
    let s := raise (2472 + g) [] s
    let up (d : SafDie) : Bool := decide (d.state ≠ .off ∧ d.state ≠ .fault)
    fieldRefresh (raiseIf (up s.safA || up s.safB) 2190 [] s)

/-! ## Inputs (R418 to R421) -/

/-- FILLED (R421), with its event when it becomes 1: every input that the loaded field table enables is valid. -/
def fillCheck (s : State) : State :=
  let full := s.fio.loaded && (fieldTable s).ins.all (fun k => (fieldIn s k.no).valid)
  raiseIf (full && !s.fio.filled) 2475 [] { s with fio := { s.fio with filled := full } }

/-- The raw reading has held for FILT × 50 µs: the filter takes it. -/
def filterQualified (k : Nat) (s : State) : State :=
  if running s .field = false ∨ (inCfg s k).isNone then s
  else
    let x := fieldIn s k
    fillCheck (putIn s k { x with level := x.raw, valid := true })

/-- VON and VOFF in 0.1 V as they act (R418): the presets of types 1 to 3. -/
def inLevels (k : FieldInCfg) : Nat × Nat :=
  match k.typ with | 0 => (k.von, k.voff) | 1 => (130, 70) | _ => (95, 60)

/-- A comparator at `volts` (0.1 V): 1 at or above its upper threshold, 0 at or below its lower one, and between them its last reading. -/
def comparator (on off : Nat) (volts : Int) (last : Bool) : Bool :=
  decide ((on : Int) ≤ volts) || (last && decide ((off : Int) < volts))

/-- What the comparator of a safety die reads (R419): 11.0 V and 7.0 V whatever the TYPE. -/
def safetyReading (volts : Int) (last : Bool) : Bool := comparator 110 70 volts last

/-- The voltage at an input changes (R418 to R420, R491): its comparators read it; a change of the program's raw reading is an acquisition
sample, and FILT 0 takes each sample as it comes. -/
def rawChange (k : Nat) (volts : Int) (s : State) : State :=
  let x := fieldIn s k
  let s := if running s .field then putIn s k { x with rawA := safetyReading volts x.rawA, rawB := safetyReading volts x.rawB } else s
  match inCfg s k with
  | none => s
  | some c =>
    let level := comparator (inLevels c).1 (inLevels c).2 volts x.raw
    if running s .field = false ∨ x.raw = level then s
    else
      let s := putIn s k { fieldIn s k with raw := level }
      let s := if running s .io then acqSampleAt (32 + k) (wordN (b2n level)) false none (devTime s / 1000 * 1000) s else s
      if c.filt = 0 then filterQualified k s else s

/-- A filtered input as tasks see it, with its force (R209, R436), and its VALID. -/
def inputShown (s : State) (k : Nat) : Bool :=
  let x := fieldIn s k
  forcedBit s 3 k (running s .field && (inCfg s k).isSome && x.valid && x.level)
def inputValid (s : State) (k : Nat) : Bool := running s .field && (inCfg s k).isSome && (fieldIn s k).valid

/-- Bits of a word from a predicate on `base + i`. -/
def bitWord (n base : Nat) (f : Nat → Bool) : Word :=
  wordN (((List.range n).map (fun i => if f (base + i) then 2 ^ i else 0)).foldl (· + ·) 0)

/-- Words of the field inputs in an input image: filtered levels 0 to 31 and 32 to 47, then VALID likewise. -/
def fieldImageWord (s : State) (k : Nat) : Word :=
  match k with
  | 0 => bitWord 32 0 (inputShown s) | 1 => bitWord 16 32 (inputShown s)
  | 2 => bitWord 32 0 (inputValid s) | 3 => bitWord 16 32 (inputValid s) | _ => 0

/-! ## ADC channels (R433, R434) -/

def adcMean (x : Adc) : Nat := if x.samples = [] then 0 else (x.samples.foldl (fun n e => n + e.1) 0) / x.samples.length
def adcValid (x : Adc) : Bool := decide (x.samples.length = 64) && x.samples.all (·.2)

/-- The image word of a channel. -/
def adcImageWord (s : State) (a : Nat) : Word :=
  if running s .field && (fieldTable s).adcs.contains a then regOf [(31, 31, b2n (adcValid (adcOf s a))), (15, 0, adcMean (adcOf s a))]
  else 0

/-- A sample instant: every enabled channel, streamed where ACQ is 1, and the counts of the local quadrature interfaces (R491). -/
def adcSample (vs : List (BitVec 16)) (s : State) : State :=
  let io := running s .io
  let s := if running s .field then (fieldTable s).adcs.foldl (fun s a =>
      let v := (vs.getD a 0).toNat
      let ok := !(if a < 16 then s.fio.ref0Bad else s.fio.ref1Bad)
      let s := putAdc s a { samples := (v, ok) :: (adcOf s a).samples.take 63 }
      if io && (fieldTable s).acqAdcs.contains a then acqSample a (wordN v) (!ok) (some 4000) s else s) s
    else s
  if io then s.img.qe.foldl (fun s k => acqSample (80 + k.no) (qeOf s k.no).count false (some 4000) s) s else s

/-! ## Reset (R435) -/

/-- The field die in reset: nothing is kept, every output off and every gate line low. -/
def resetFieldDie (s : State) : State := fieldFault { s with fio := { s.fio with
  loaded := false, g1 := .lost, g2 := .lost, filled := false, temp := 0, warm := false, hot := false, ins := [], outs := [], coils := [], adcs := []
  ref0Bad := false, ref1Bad := false } }

/-- The field die takes the field table (R415): FIO_CLk_MOVE starts from it again. -/
def loadFieldTable (s : State) : State :=
  fillCheck (fieldRefresh { s with fio := { s.fio with
    loaded := true, coils := s.fio.coils.map (fun e => (e.1, { e.2 with limits := none })) } })

/-- The Keeper's liveness strobe stops, or is back (R53). -/
def keeperStrobe (silent : Bool) (s : State) : State := fieldFault { s with fio := { s.fio with keeperSilent := silent } }

/-- The die's temperature (R435): above 125 °C and above 140 °C an event each; once above 140 °C every output is off until it is below
125 °C. TEMP shows at most 127 °C (log entry 166). -/
def fieldTemp (t : Int) (s : State) : State :=
  if running s .field = false then s
  else
    let warm := decide (125 < t)
    let hot := decide (140 < t) || (s.fio.hot && decide (125 ≤ t))
    let s := raiseIf ((warm && !s.fio.warm) || (hot && !s.fio.hot)) 2474 [] s
    fieldRefresh { s with fio := { s.fio with temp := max (-128) (min 127 t), warm := warm, hot := hot } }

/-! ## Commands of outputs -/

def outOverload (o current : Nat) (s : State) : State :=
  let x := fieldOut s o
  if running s .field = false ∨ x.state ≠ .on then s
  else
    let n := x.overloads + 1
    outEvent o (putOut s o { x with
      state := if 3 ≤ n then .latched else .wait, overloads := n, current := current, retryDue := false, released := false })

/-- The 1 s of an overload has passed; one that ends during over-temperature is carried out once the switch has cooled. -/
def outRetry (o : Nat) (s : State) : State :=
  let x := fieldOut s o
  if running s .field = false ∨ (x.state ≠ .wait ∧ (x.state ≠ .hot ∨ x.before ≠ .wait)) then s
  else outRefresh o (putOut s o { x with retryDue := true })

def outHot (o : Nat) (s : State) : State :=
  let x := fieldOut s o
  if running s .field = false ∨ (outCfg s o).isNone ∨ x.state = .hot then s
  else outEvent o (putOut s o { x with state := .hot, before := if x.state = .on then .off else x.state })

def outCooled (o : Nat) (s : State) : State :=
  let x := fieldOut s o
  if running s .field = false ∨ x.state ≠ .hot then s else outRefresh o (putOut s o { x with state := x.before, before := .off })

/-- OPEN set (R424): OW_ON for an output that is on, OW_OFF for one that is off. -/
def openWire (o current : Nat) (s : State) : State :=
  let x := fieldOut s o
  match outCfg s o with
  | none => s
  | some k =>
    if running s .field = false ∨ x.isOpen = true ∨ (if x.state = .on then k.owOn else k.owOff) = false then s
    else outEvent o (putOut s o { x with isOpen := true, current := current })
def openWireClear (o : Nat) (s : State) : State :=
  if running s .field = false then s else putOut s o { fieldOut s o with isOpen := false }

/-- A task's output word for a field channel, numbered as the field table numbers it (R415, R425). -/
def fieldCommand (ch : Nat) (w : Word) (s : State) : State :=
  if running s .field = false then s
  else if 100 ≤ ch ∧ ch < 124 then outRefresh (ch - 100) (putOut s (ch - 100) { fieldOut s (ch - 100) with cmd := bitAt w 0 })
  else if 200 ≤ ch ∧ ch < 216 then coilRefresh (ch - 200) (putCoil s (ch - 200) { coilOf s (ch - 200) with cmd := bitAt w 0 })
  else s

/-! ## Registers -/

def groupCode : GroupState → Nat
  | .lost => 0 | .good => 1 | .beyond => 2

/-- A register of the FIO block. -/
def fioReg (s : State) (off : Nat) : Option Word :=
  let shown (k : Nat) : Bool := (inCfg s k).isSome && (fieldIn s k).valid && (fieldIn s k).level
  let raw (k : Nat) : Bool := (inCfg s k).isSome && (fieldIn s k).raw
  let valid (k : Nat) : Bool := (inCfg s k).isSome && (fieldIn s k).valid
  match off with
  | 0x000 => some (regOf [(31, 30, groupCode s.fio.g1), (29, 28, groupCode s.fio.g2), (27, 27, b2n s.fio.filled), (7, 0, twos 8 s.fio.temp)])
  | 0x010 => some (bitWord 32 0 shown) | 0x014 => some (bitWord 16 32 shown)
  | 0x018 => some (bitWord 32 0 valid) | 0x01C => some (bitWord 16 32 valid)
  | 0x020 => some (bitWord 32 0 raw) | 0x024 => some (bitWord 16 32 raw)
  | 0x030 => some (bitWord 24 0 (outCommand s)) | 0x034 => some (bitWord 24 0 (outGate s))
  | 0x038 => some (bitWord 16 0 (coilGate s))
  | o =>
    if o % 4 ≠ 0 then none
    else if 0x100 ≤ o ∧ o < 0x1C0 then some (match inCfg s ((o - 0x100) / 4) with
      | some k => regOf [(31, 30, k.typ), (23, 16, (inLevels k).1), (15, 8, (inLevels k).2), (7, 0, k.filt)]
      | none => 0)
    else if 0x200 ≤ o ∧ o < 0x260 then some (outReg s ((o - 0x200) / 4))
    else if 0x1000 ≤ o ∧ o < 0x1400 then
      let n := (o - 0x1000) / 64
      let x := coilOf s n
      let cfg (f : CoilCfg → Word) : Option Word := some (((coilCfg s n).map f).getD 0)
      let lead (f : CoilCfg → Word) : Option Word := cfg (fun k => if k.mode = 2 then f k else 0)
      match o % 64 with
      | 0x00 => cfg (fun k => regOf [(31, 30, k.mode), (27, 16, k.iPull), (15, 4, k.iHold)])
      | 0x04 => cfg (fun k => regOf [(31, 16, k.tPull), (15, 8, k.band), (7, 0, k.koff)])
      | 0x08 => cfg (fun k => regOf [(31, 16, k.iTrip), (15, 8, k.shunt), (7, 0, k.offMax)])
      | 0x0C => some (coilReg s n)
      | 0x10 => some (regOf [(15, 0, twos 16 x.off)])
      | 0x20 => lead (fun _ => wordI x.target)
      | 0x24 => lead (fun _ => wordI (x.pos / 800))
      | 0x28 => lead (fun k => regOf [(31, 24, k.vQs), (23, 16, k.vHys), (15, 8, k.ampQ), (7, 0, k.ampS)])
      | 0x2C => lead (moveReg s)
      | _ => none
    else if 0x2000 ≤ o ∧ o < 0x2200 then
      let a := (o - 0x2000) / 16
      let x := adcOf s a
      match o % 16 with
      | 0 => some (regOf [(31, 16, adcMean x), (15, 0, ((x.samples.head?.map (·.1)).getD 0))])
      | 4 => some (regOf [(31, 31, b2n ((fieldTable s).adcs.contains a)), (30, 30, b2n ((fieldTable s).acqAdcs.contains a)),
          (29, 29, b2n ((x.samples.head?.map (·.2)).getD false))])
      | _ => none
    else none

/-- A write to the FIO block: FIO_CLk_TARGET and FIO_CLk_MOVE. -/
def fioWrite (off : Nat) (v : Word) (s : State) : State :=
  if 0x1000 ≤ off ∧ off < 0x1400 ∧ running s .field = true then
    let n := (off - 0x1000) / 64
    match off % 64 with
    | 0x20 => targetWritePair n v s
    | 0x2C => (match coilCfg s n with
      | some k => if k.mode = 2 then putCoil s n { coilOf s n with limits := some v } else s
      | none => s)
    | _ => s
  else s

end Sys2Proof.Machine
end

