-- ==== Sys2Proof/Machine/StationOps.lean ====
section
/-! DEFINITION. Stations as other blocks see them: their configuration, the input words shown to tasks and doors, their output words
(R191, R199, R462). -/
namespace Sys2Proof.Machine

def stnOf (s : State) (n : Nat) : Station := tget ({} : Station) s.net.stations n
def putStn (s : State) (n : Nat) (x : Station) : State :=
  { s with net := { s.net with stations := tset ({} : Station) s.net.stations n x } }
def stationCfg (s : State) (n : Nat) : Option StationCfg := s.img.stations.find? (fun k => decide (k.no = n))

/-- A station cycle in ns (R462). -/
def stationCycle (code : Nat) : Nat := if code = 0 then 50000 else 250000 * 2 ^ (code - 1)

/-- An input word of a station from a frame of it (R199): substituted unless the frame is `valid`. -/
def stationWordOf (s : State) (n w : Nat) (valid : Bool) (f : Option InFrame) : Word :=
  let v := match f with | some f => f.words.getD w 0 | none => 0
  if valid then v
  else match ((stationCfg s n).bind (fun k => k.subst[w]?)) with
    | some (1, _) => v
    | some (2, c) => c
    | _ => 0

/-- The frame that the input images use is valid (R199): the station runs, and the frame has come since it was last lost, so that the real
values return with the tick that takes it in. -/
def chosenValid (x : Station) : Bool := decide (x.state = .running) && x.fresh

/-- A station's status word in an input image (R191). -/
def stationStatusWord (s : State) (n : Nat) : Word :=
  match stationCfg s n with
  | none => 0
  | some k =>
    let x := stnOf s n
    let ok := chosenValid x
    let age := match x.chosen with
      | some f => Nat.min 65535 ((devTime s / 250000 * 250000 - f.cycleAt) / stationCycle k.cycle)
      | none => 65535
    regOf [(31, 16, age), (2, 2, b2n (stationForced s n)), (1, 1, b2n (!ok)), (0, 0, b2n ok)]

/-- A word of a station in an input image, with its force (R191, R209); and as a door channel takes it, from the newest frame
(R317). -/
def stationInWord (s : State) (n w : Nat) : Word :=
  forcedWord s 1 (stationIndex n w) (stationWordOf s n w (chosenValid (stnOf s n)) (stnOf s n).chosen)
def stationNewWord (s : State) (n w : Nat) : Word :=
  let x := stnOf s n
  let f := match x.frames with | f :: _ => some f | [] => x.chosen
  forcedWord s 1 (stationIndex n w) (stationWordOf s n w (decide (x.state = .running) && decide (x.frames ≠ [])) f)

/-- A task's output word for a station (R188). -/
def stationOut (n w : Nat) (v : Word) (s : State) : State :=
  let x := stnOf s n
  if running s .io then putStn s n { x with out := tset 0 x.out w v } else s

end Sys2Proof.Machine
end

