-- ==== Sys2Proof/Machine/CarInputs.lean ====
section
/-! DEFINITION. What the hoist and door channels take from Position Feedback, from the safety dies and from dispatch. -/
namespace Sys2Proof.Machine

/-- The fused position and speed of a car as the hoist and door channels take them (R298, R300). -/
def fusedPos (s : State) (c : Nat) : Int := (fbkOf s c).pos
def fusedSpeed (s : State) (c : Nat) : Int := (fbkOf s c).speed

/-- One source is lost (R305), and the rescue cap that goes with it and with learning (R305, R310). -/
def fbDegraded (s : State) (c : Nat) : Bool := (fbkOf s c).degraded
def fbCapped (s : State) (c : Nat) : Bool := (fbkOf s c).degraded || decide ((fbkOf s c).learn = 1)

/-- The hoist channel releases a TAG at the end of ARRIVE (R266); the DSP unit on compute die 0 takes it (R354). -/
def releaseToken (tag : Word) (s : State) : State :=
  if tag ≠ 0 ∧ running s .comp0 = true then { s with dsp := { s.dsp with released := s.dsp.released ++ [tag] } } else s

/-- What a safety die last published, and a bit of a car's byte in it (R380, R381). -/
def pubOf (ch : Channel) (s : State) : Option SafPub := match ch with | .a => s.safA.pub | .b => s.safB.pub
def pubBit (ch : Channel) (s : State) (c i : Nat) : Bool :=
  match pubOf ch s with | some p => p.frame.getLsbD (8 * c + i) | none => false

/-- The permits of a die at the frame gates (R382, R390): RUN, the door bit of a channel's side, ADO. -/
def permit (ch : Channel) (s : State) (c : Nat) : Bool := pubBit ch s c 0
def doorPermit (ch : Channel) (s : State) (d : Nat) : Bool := pubBit ch s (d / 2) (1 + d % 2)
def adoPermit (ch : Channel) (s : State) (c : Nat) : Bool := pubBit ch s c 3

/-- The channel publishes a car's brakes lifted (R391). -/
def brakesLifted (ch : Channel) (s : State) (c : Nat) : Bool :=
  match pubOf ch s with | some p => p.lifted.contains c | none => false

/-- Rescue as both dies publish it (R282, R399): whether it runs, the car selected alone with UP and DOWN, and the rescue speed. -/
def rescueActive (s : State) : Bool :=
  match s.safA.pub, s.safB.pub with | some p, some q => p.frame.getLsbD 514 && q.frame.getLsbD 514 | _, _ => false
def rescueCommand (s : State) : Option (Nat × Bool × Bool) :=
  match s.safA.pub, s.safB.pub with | some p, some q => if p.rescue = q.rescue then p.rescue else none | _, _ => none
def rescueSpeed (s : State) : Nat := Nat.min s.safA.cfg.rescueV s.safB.cfg.rescueV

/-- Bench mode as both dies publish it (R248, R380). -/
def benchShown (s : State) : Bool :=
  match s.safA.pub, s.safB.pub with | some p, some q => p.frame.getLsbD 515 && q.frame.getLsbD 515 | _, _ => false

/-- The module is held to rescue service, or to less (R28): only rescue commands move a car. -/
def rescueService (s : State) : Bool := rescueActive s || decide (serviceSet s.dies < 3)

/-- Both compute dies run (R281). -/
def computeRuns (s : State) : Bool := running s .comp0 && running s .comp1

/-- An input at the level that tasks see, with its forces (R317). -/
def inputLevel (s : State) (r : InputRef) : Bool :=
  match r with
  | .field k => inputShown s k
  | .station n w b => bitAt (stationNewWord s n w) b

end Sys2Proof.Machine
end

