-- ==== Sys2Proof/Machine/HoistOps.lean ====
section
/-! DEFINITION. Hoist channels: queue operations and their checks, flights, frames, trips and the window's registers (R247 to
R285). -/
namespace Sys2Proof.Machine

/-! ## Entries (R267) -/

def QEntry.target (e : QEntry) : Int := e.w0.toInt
def QEntry.kind (e : QEntry) : Nat := fld e.w1 31 30
def QEntry.landing (e : QEntry) : Nat := fld e.w1 23 16
def QEntry.joint (e : QEntry) : Nat := fld e.w1 15 0
def QEntry.moveMax (e : QEntry) : Nat := fld e.w2 31 16
def QEntry.deck (e : QEntry) : Int := fldInt e.w2 15 0
def QEntry.isStop (e : QEntry) : Bool := decide (e.kind = 0)

/-- The first STOP entry, and its place. -/
def firstStop (q : List QEntry) : Option QEntry := q.find? QEntry.isStop
def stopIndex (q : List QEntry) : Option Nat := q.findIdx? QEntry.isStop

/-- The queue without its first STOP entry. -/
def dropStop (q : List QEntry) : List QEntry := match stopIndex q with | some i => q.eraseIdx i | none => q

/-! ## Refusals and events -/

/-- A command or operation refused with a code (R285): event source 1025 + 4c at the first after one that succeeded. -/
def hoistRefuse (c code op : Nat) (s : State) : State :=
  let h := hstOf s c
  raiseIf h.lastOk (1025 + 4 * c) [wordN code, wordN op] (putHst s c { h with refuse := code, lastOk := false })

/-- A refusal that a rule of its own tells with event source 1025 + 4c each time (R275, R282). -/
def hoistRefuseTold (c code op : Nat) (s : State) : State :=
  raise (1025 + 4 * c) [wordN code, wordN op] (putHst s c { hstOf s c with refuse := code, lastOk := false })

/-- The code of a channel state. -/
def hoistCode : HoistState → Nat
  | .off => 0 | .rest => 1 | .start => 2 | .flight => 3 | .stopping => 4 | .held => 5 | .arrive => 6 | .tripped => 7

/-! ## Limits and caps -/

/-- The car's limits in the units of a profile. -/
def limitsOf (k : CarCfg) : Limits := { vb := k.vbreak * giga, a1 := k.a1 * giga, a2 := k.a2 * giga, j := k.jerk }

/-- The cap of every move of a car (R256, R272, R282, R305): VMAX, VCAP, and the rescue speed in rescue, in bench mode and while
its feedback is degraded. -/
def baseCap (s : State) (k : CarCfg) (h : Hoist) : Nat :=
  let v := if h.vcap = 0 ∨ k.vmax < h.vcap then k.vmax else h.vcap
  if h.rescueFlight || benchShown s || fbCapped s k.no then Nat.min v (rescueSpeed s) else v

/-- The cap of the move that ends at an entry. -/
def moveCap (base : Nat) (e : QEntry) : Nat := if e.moveMax = 0 then base else Nat.min base e.moveMax

/-- The legs of a flight from position `x` in direction `dir`: joints still ahead, and the first STOP entry (R269). -/
def legsOf (k : CarCfg) (base : Nat) (dir x6 origin : Int) : List QEntry → List Leg
  | [] => []
  | e :: t =>
    let at6 := dir * (e.target - origin) * count6
    if e.isStop then [{ d := at6 - x6, cap := moveCap base e * giga, vend := Nat.min k.vstop (moveCap base e) * giga }]
    else if at6 ≤ x6 then legsOf k base dir x6 origin t
    else
      let next := match t with | f :: _ => moveCap base f | [] => base
      let lim := Nat.min e.joint (Nat.min (moveCap base e) next)
      { d := at6 - x6, cap := moveCap base e * giga, vend := lim * giga } :: legsOf k base dir at6 origin t

/-- The legs of the running flight: to a fixed target, or along the queue. -/
def flightLegs (s : State) (k : CarCfg) (h : Hoist) (q : List QEntry) : List Leg :=
  let base := baseCap s k h
  if h.noEntry then
    [{ d := h.dir * (h.target - h.origin) * count6 - h.motion.s6, cap := base * giga,
       vend := if h.rescueFlight then 0 else Nat.min k.vstop base * giga }]
  else legsOf k base h.dir h.motion.s6 h.origin q

/-! ## The check of R270 -/

/-- One constraint of a plan is met from the present state: its speed is above what the state calls for, or the stop to it
fits. -/
def meets (l : Limits) (v : Nat) (a : Int) (r : Int) (w : Nat) : Bool :=
  let vz := if 0 ≤ a then v + rampGain l.j a.natAbs else v
  decide (vz ≤ w) || decide (dStop l v a w ≤ r)

/-- A constraint that the running plan already keeps: a joint at the same place and no slower, or a stop at the end or beyond it (R271). -/
def keptBy (r : Int) (vend : Nat) (last : Bool) : Int → List Leg → Bool
  | _, [] => false
  | at6, g :: t =>
    let e := at6 + g.d
    (decide (e = r) && decide (g.vend ≤ vend)) || (last && decide (t = []) && decide (e ≤ r)) || keptBy r vend last e t

/-- Every joint and the stop that a change makes tighter is met (R270), distances adding up along the legs. -/
def meetsAll (l : Limits) (v : Nat) (a : Int) (old : List Leg) : Int → List Leg → Bool
  | _, [] => true
  | r, g :: t =>
    (keptBy (r + g.d) g.vend (decide (t = [])) 0 old || meets l v a (r + g.d) g.vend) && meetsAll l v a old (r + g.d) t

/-- The first leg's cap, where a change lowers it, is above what the present speed and acceleration call for (R270). -/
def capMet (l : Limits) (v : Nat) (a : Int) (old new : List Leg) : Bool :=
  match old, new with
  | g :: _, f :: _ => decide (g.cap ≤ f.cap) || decide (Nat.max v (levelSpeed l v a) ≤ f.cap)
  | _, _ => true

/-- The whole distance of legs. -/
def legsLength (gs : List Leg) : Int := gs.foldl (fun n g => n + g.d) 0

/-- The stop at the end of legs is met (R271): the rest is no less than d_stop to its stop speed. -/
def stopMet (l : Limits) (v : Nat) (a : Int) (gs : List Leg) : Bool :=
  match gs.getLast? with
  | some g => decide (0 ≤ legsLength gs) && meets l v a (legsLength gs) g.vend
  | none => false

/-- Where the set-point state and d_stop(v, a, 0) of a moving channel bring it to rest (R275, R276), to the nearest 10 µm. -/
def movingStop (k : CarCfg) (h : Hoist) : Int :=
  h.origin + h.dir * ((h.motion.s6 + dStop (limitsOf k) (speedOf h.motion) h.motion.a 0 + count6 / 2) / count6)

/-- The channel moves a car. -/
def moving (h : Hoist) : Bool := decide (h.state = .flight) || decide (h.state = .stopping)

/-- The committed stop of a car (R275, R276): while it moves, its set-point and d_stop; the target at its arrival; at rest, where it
stands. -/
def committedStop (s : State) (c : Nat) : Int :=
  let h := hstOf s c
  match carCfg s c with
  | some k => if moving h then movingStop k h else if h.state = .arrive then h.posSet else fusedPos s c
  | none => h.posSet

/-- VALID_AT of the frame that is computed at a tick (R259). -/
def frameAt (s : State) (k : CarCfg) : Nat := devTime s / 250000 * 250000 + k.lead * 250000

/-- The drive frame's position, velocity and acceleration from the motion, rounded to nearest (R260). -/
def setPoints (h : Hoist) : Hoist :=
  { h with
    posSet := h.origin + h.dir * ((h.motion.s6 + count6 / 2) / count6)
    velSet := h.dir * ((h.motion.v2 + 1000000000000000) / 2000000000000000)
    accSet := h.dir * ((h.motion.a + 500000) / 1000000) }

/-- A partner's position and committed stop at a VALID_AT (R276): as a frame of that instant had them, or its motion carried on from its
last frame (log 131). -/
def partnerState (s : State) (p : CarCfg) (t : Nat) : Int × Int :=
  let h := hstOf s p.no
  let now := (h.posSet, committedStop s p.no)
  if moving h = false then now
  else if t ≤ h.validAt then (h.history[(h.validAt - t) / 250000]?).getD now
  else
    let (m, ps) := advance p.jerk h.pieces (t - h.validAt) h.motion
    let g := setPoints { h with motion := m, pieces := ps }
    (g.posSet, movingStop p g)

/-- The effective limit that the partner sets (R276) at the VALID_AT of the frame: the partner's committed stop, or its position while it
rests or moves away, less or plus SEP_GAP. None for a car that shares no shaft. -/
def partnerLimit (s : State) (k : CarCfg) : Option Int :=
  match (if k.paired then carCfg s k.partner else none) with
  | some p =>
    let h := hstOf s k.no
    let x := hstOf s k.partner
    -- the upper car's partner is below it: its moving down is away
    let away := moving x && decide (x.dir = (if k.upper then -1 else 1))
    let y := partnerState s p (frameAt s k)
    let stop := if away then y.1 else y.2
    some (if k.upper then max h.vlimDn (stop + k.sepGap) else min h.vlimUp (stop - k.sepGap))
  | none => none

/-- A target lies inside the virtual limits and the effective limit. -/
def insideLimits (s : State) (k : CarCfg) (x : Int) : Bool :=
  let h := hstOf s k.no
  decide (h.vlimDn ≤ x) && decide (x ≤ h.vlimUp) && (match partnerLimit s k with
    | some l => if k.upper then decide (l ≤ x) else decide (x ≤ l)
    | none => true)

/-- A committed stop crosses a virtual limit in its direction (R275). -/
def crossesVirtual (s : State) (k : CarCfg) : Bool :=
  let h := hstOf s k.no
  let x := committedStop s k.no
  moving h && ((decide (h.dir = 1) && decide (h.vlimUp < x)) || (decide (h.dir = -1) && decide (x < h.vlimDn)))

/-- A committed stop crosses the effective limit in its direction (R276). -/
def crossesPartner (s : State) (k : CarCfg) : Bool :=
  let h := hstOf s k.no
  let x := committedStop s k.no
  match partnerLimit s k with
  | some l => moving h && (if k.upper then decide (h.dir = -1) && decide (x < l) else decide (h.dir = 1) && decide (l < x))
  | none => false

/-- A running flight meets a limit (R275, R276): its committed stop crosses the effective limit, or a virtual limit that a write has put
before its target. -/
def crossesLimit (s : State) (k : CarCfg) : Bool :=
  let h := hstOf s k.no
  crossesPartner s k || (crossesVirtual s k && !(decide (h.vlimDn ≤ h.target) && decide (h.target ≤ h.vlimUp)))

/-! ## Queue operations (R268) -/

/-- The queue as an operation would leave it. -/
def opQueue (h : Hoist) (o : QueueOp) : List QEntry :=
  match o.op with
  | 1 => h.queue.take o.index ++ o.entry :: h.queue.drop o.index
  | 2 => h.queue.set o.index o.entry
  | 3 => h.queue.eraseIdx o.index
  | _ =>
    if h.state = .flight ∨ h.state = .stopping ∨ h.state = .arrive ∨ h.state = .held then (firstStop h.queue).toList
    else []

/-- Check 5: the committed entry stays (R268). -/
def keepsCommitted (h : Hoist) (o : QueueOp) (q : List QEntry) : Bool :=
  match h.state with
  | .arrive => match stopIndex h.queue with
    | some i => if h.noEntry ∨ o.op = 4 then true
                else if o.op = 1 then decide (i < o.index) else decide (o.index ≠ i)
    | none => true
  | .held => (firstStop h.queue).isNone || (firstStop q).isSome
  | .rest => true
  | .start => true
  | .tripped => true
  | .off => true
  | _ => h.noEntry || (match firstStop q with
    | some e => decide (0 ≤ h.dir * (e.target - h.posSet))
    | none => false)

/-- The first check of R268 that fails, as a RESULT; 0 when the operation is applied. -/
def opCheck (s : State) (k : CarCfg) (h : Hoist) (o : QueueOp) : Nat :=
  let q := opQueue h o
  let e := o.entry
  let old := flightLegs s k h h.queue
  let new := flightLegs s k h q
  let l := limitsOf k
  if !(computeRuns s) then 3
  else if (o.op = 1 ∧ h.queue.length < o.index) ∨ ((o.op = 2 ∨ o.op = 3) ∧ h.queue.length ≤ o.index) then 10
  else if o.op ≤ 2 ∧ (2 ≤ e.kind ∨ e.target < h.vlimDn ∨ h.vlimUp < e.target ∨ e.deck < -30000 ∨ 30000 < e.deck) then 5
  else if 16 < q.length ∨ 8 < (q.takeWhile (fun x => !x.isStop)).length then 7
  else if !(keepsCommitted h o q) then 1
  else if moving h && !h.noEntry && decide (new ≠ old)
      && !(meetsAll l (speedOf h.motion) h.motion.a old 0 new && capMet l (speedOf h.motion) h.motion.a old new) then 6
  else 0

/-- The pending operation decided (R268); a command held behind it is applied as the next access, with the staging as it then
stands (R548). -/
def decideOp (c : Nat) (s : State) : State :=
  let h := hstOf s c
  match carCfg s c, h.qPending with
  | some k, some o =>
    let r := opCheck s k h o
    let h' : Hoist := { h with qPending := none, qResult := r }
    let h' := if r = 0 then { h' with queue := opQueue h o, lastOk := true, replan := true } else h'
    let h' := match h'.qHeld with
      | some (op, i, _) => { h' with
          qHeld := none, qIndex := i, qResult := 15, qPending := some { op := op, index := i, entry := h'.stage } }
      | none => h'
    let s := putHst s c h'
    if r = 0 then s else hoistRefuse c r o.op s
  | _, _ => s

/-! ## Flights -/

/-- The adjuster's move to an aim in 10 µm, from where and as fast as it moves (R278). -/
def aimDeck (k : CarCfg) (aim : Int) (h : Hoist) : Hoist :=
  let gap2 := (aim - h.deckBase) * 20000000000000000 - h.deckPos.1
  { h with deckTarget := aim, deckPieces := deckPieces gap2 h.deckPos.2 k.adjV k.adjA }

/-- The deck adjuster's set-point in 10 µm. -/
def deckSet (h : Hoist) : Int := h.deckBase + Int.tdiv h.deckPos.1 20000000000000000

/-- The offset that a flight's adjuster moves to (R278, R282): that of the first STOP entry; a rescue flight leaves the deck where it is. -/
def deckAim (h : Hoist) : Int :=
  if h.rescueFlight then deckSet h
  else if h.noEntry then h.deckTarget
  else ((firstStop h.queue).map QEntry.deck).getD 0

/-- A flight begins (R257): its plan from the fused position, at the start speed. -/
def beginFlight (s : State) (k : CarCfg) (h : Hoist) : Hoist :=
  let x := fusedPos s k.no
  let t := if h.noEntry then h.target else ((firstStop h.queue).map QEntry.target).getD h.target
  let dir : Int := if t < x then -1 else 1
  let h := { h with
    state := .flight, origin := x, dir := dir, motion := {}, target := t, fresh := true, arriving := false, settled := false,
    replan := false, stopAsked := false, resumeAsked := false, followRun := 0 }
  let legs := flightLegs s k h h.queue
  let (vs, ps) := planFromRest (limitsOf k) (if h.rescueFlight then 0 else k.vstart * giga) legs
  let h := { h with
    motion := { s6 := 0, v2 := 2 * ((vs * giga : Nat) : Int), a := 0 }, pieces := ps, deckBase := deckSet h, deckPos := (0, 0) }
  aimDeck k (deckAim h) h

/-- The plan joined anew from the present state (R271, R272); the adjuster follows the first STOP entry (R278). -/
def rejoin (s : State) (k : CarCfg) (h : Hoist) : Hoist :=
  let legs := flightLegs s k h h.queue
  let t := if h.noEntry then h.target else ((firstStop h.queue).map QEntry.target).getD h.target
  let h := { h with
    replan := false, target := t
    landing := if h.noEntry then h.landing else ((firstStop h.queue).map QEntry.landing).getD h.landing
    pieces := planLegs (limitsOf k) legs.length true (speedOf h.motion) h.motion.a legs }
  if deckAim h = h.deckTarget ∧ h.deckPieces ≠ [] then h else aimDeck k (deckAim h) h

/-- The flight turns into a stop at the limits (R273); the adjuster halts within ADJ_A (R278). -/
def beginStop (k : CarCfg) (h : Hoist) : Hoist :=
  { h with
    state := .stopping, pieces := phase (limitsOf k) (speedOf h.motion) h.motion.a 0
    stopAsked := false, replan := false
    deckPieces := if h.deckPos.2 = 0 ∨ k.adjA = 0 then [] else
      [((if 0 < h.deckPos.2 then -(k.adjA : Int) else (k.adjA : Int)), h.deckPos.2.natAbs / k.adjA)] }

/-- One frame period of the adjuster (R278): it moves in FLIGHT, STOPPING and ARRIVE alone, and ends at its aim. -/
def deckFrame (h : Hoist) : Hoist :=
  let (m, ps) := deckAdvance h.deckPieces 250000 h.deckPos
  if h.state ≠ .stopping ∧ ps = [] then { h with deckBase := h.deckTarget, deckPos := (0, 0), deckPieces := [] }
  else { h with deckPos := m, deckPieces := ps }

/-- The adjuster at rest where it is: it never moves in REST, HELD or TRIPPED (R278). -/
def deckHalt (h : Hoist) : Hoist := { h with deckBase := deckSet h, deckPos := (0, 0), deckPieces := [] }

/-- The adjuster set-point is at its aim, and the drive reports the deck within 1 mm of it (R279); a car with one deck has none. -/
def deckInPlace (k : CarCfg) (h : Hoist) : Bool := decide (k.adjV = 0) || (decide (deckSet h = h.deckTarget) && h.deckOk)

/-- The motion one frame on: the first frame stands at the start speed; joints crossed leave the queue (R259, R269). -/
def frameMotion (k : CarCfg) (h : Hoist) : Hoist :=
  let (m, ps) := if h.fresh then (h.motion, h.pieces) else advance k.jerk h.pieces 250000 h.motion
  let h := setPoints { h with motion := m, pieces := ps, fresh := false }
  let crossed (e : QEntry) : Bool := !e.isStop && decide (h.dir * (e.target - h.origin) * count6 ≤ m.s6)
  if h.noEntry then h
  else
    let i := (stopIndex h.queue).getD 0
    { h with queue := (h.queue.take i).filter (fun e => !crossed e) ++ h.queue.drop i }

/-- The end of a plan: the position set-point is the target, at the stop speed. -/
def frameArrives (h : Hoist) : Hoist :=
  let l := if h.noEntry then h.landing else ((firstStop h.queue).map QEntry.landing).getD h.landing
  { h with state := .arrive, posSet := h.target, accSet := 0, arriving := true, settled := false,
           motion := { h.motion with a := 0 }, landing := l, lastTarget := h.target, lastLanding := l }

/-- TRIPPED entered (R265): the velocity is 0 and KEPT is what is left; within LEVEL_TOL of the end it counts as an arrival. -/
def hoistTrip (c cause : Nat) (s : State) : State :=
  match carCfg s c with
  | none => s
  | some k =>
    let h := hstOf s c
    let kept := h.target - fusedPos s c
    let arrived := decide (h.state = .arrive) && decide (kept.natAbs ≤ k.levelTol)
    let tag := ((firstStop h.queue).map (·.w3)).getD 0
    let s := raise (1024 + 4 * c) [wordN (hoistCode h.state), wordN cause] s
    let s := putHst s c { deckHalt h with
      state := .tripped, kept := if arrived then 0 else kept, velSet := 0, accSet := 0, posSet := fusedPos s c
      runRequest := false, stopAsked := false, resumeAsked := false, noEntry := false, rescueFlight := false, deckWait := false
      queue := if arrived ∧ h.noEntry = false then dropStop h.queue else h.queue }
    if arrived ∧ h.noEntry = false then releaseToken tag s else s

/-- The end of ARRIVE (R266): the entry leaves, its TAG is released, and a level error is told. -/
def arriveEnds (c : Nat) (s : State) : State :=
  match carCfg s c with
  | none => s
  | some k =>
    let h := hstOf s c
    let bad := decide (k.levelTol < (fusedPos s c - h.target).natAbs)
    let tag := ((firstStop h.queue).map (·.w3)).getD 0
    let plain := decide (h.noEntry = false)
    let s := putHst s c { h with
      state := .rest, runRequest := false, levelErr := h.levelErr || bad, deckWait := false, kept := 0
      queue := if plain then dropStop h.queue else h.queue, noEntry := false, rescueFlight := false, settled := false }
    let s := raiseIf bad (1026 + 4 * c) [] s
    if plain then releaseToken tag s else s

/-- Stop flags set, with event source 1026 + 4c at the setting of any (R265, R285). -/
def flagStop (k : CarCfg) (fb lim fol : Bool) (s : State) : State :=
  let h := hstOf s k.no
  raiseIf (fb || lim || fol) (1026 + 4 * k.no) [] (putHst s k.no { h with
    fbStop := h.fbStop || fb, limStop := h.limStop || lim, follow := h.follow || fol })

/-- STOPPING entered, with the flags of what ends the flight (R264, R265). -/
def stopWith (k : CarCfg) (fb lim fol : Bool) (s : State) : State :=
  flagStop k fb lim fol (putHst s k.no (beginStop k (hstOf s k.no)))

/-! ## The frame (R259 to R261) -/

/-- The payload of a drive frame. -/
def framePayload (s : State) (k : CarCfg) (h : Hoist) : List Word :=
  let hold := !(decide (h.state = .flight ∨ h.state = .stopping ∨ h.state = .arrive))
  let lifted := brakesLifted .a s k.no && brakesLifted .b s k.no
  let flags := 4 * b2n lifted + 8 * b2n hold + 16 * b2n (h.rescueFlight || benchShown s) + 32 * b2n (decide (h.state = .tripped))
  let at0 := frameAt s k
  [regOf [(31, 24, hoistCode h.state), (23, 16, flags), (15, 0, h.seq)], wordI h.posSet,
   if hold then 0 else wordI h.velSet, if hold then 0 else wordI h.accSet, loWord at0, hiWord at0,
   regOf [(31, 16, k.no), (15, 0, twos 16 (if k.adjV = 0 then 0 else deckSet h))], 0]

/-- DRIVE_FRAME_GATE (R261): forces of KIND 2 on the frame's words first, then both permit bits. -/
def frameGate (s : State) (k : CarCfg) (ws : List Word) : List Word :=
  let forced := (numbered ws).map (fun p => forcedWord s 2 (stationIndex k.drive p.1) p.2)
  let permits := regOf [(17, 17, b2n (permit .b s k.no)), (16, 16, b2n (permit .a s k.no))]
  match forced with
  | w :: t => mergeMask (maskOf 17 16) w permits :: t
  | [] => []

/-- The following error is taken at the set-point valid at this tick, LEAD frames old (R265). -/
def followCheck (s : State) (k : CarCfg) (h : Hoist) : Hoist :=
  match h.history[k.lead - 1]? with
  | some p =>
    let beyond := decide (k.followLim * 100 < (fusedPos s k.no - p.1).natAbs)
    { h with followRun := if beyond then Nat.min 4 (h.followRun + 1) else 0 }
  | none => { h with followRun := 0 }

/-- SOURCE_LOST of a channel follows the compute dies, with its event once (R281). -/
def sourceFlag (c : Nat) (s : State) : State :=
  let h := hstOf s c
  let lost := !(computeRuns s)
  if running s .io = false ∨ h.state = .off then s
  else raiseIf (lost && !h.sourceLost) (1027 + 4 * c) [] (putHst s c { h with sourceLost := lost })

/-- SOURCE_LOST of every enabled channel, when the compute dies change state (R281). -/
def sourceFlags (s : State) : State := s.img.cars.foldl (fun s k => sourceFlag k.no s) s

/-- The reduced-service flags (R280, R281). -/
def serviceFlags (c : Nat) (s : State) : State :=
  let s := sourceFlag c s
  let h := hstOf s c
  let hot := decide (s.trs.therm = 3)
  if hot && decide (h.state = .rest) && !h.parked then raise (1027 + 4 * c) [] (putHst s c { h with parked := true })
  else if !hot then putHst s c { h with parked := false } else s

/-- Which permit or drive fault trips the channel, if any: 0 PERMIT_A, 1 PERMIT_B, 2 drive FAULT. -/
def tripCause (s : State) (c : Nat) : Option Nat :=
  let h := hstOf s c
  if decide (h.state = .start ∨ h.state = .flight ∨ h.state = .stopping ∨ h.state = .arrive) then
    if !(permit .a s c) then some 0 else if !(permit .b s c) then some 1
    else if h.drvStatus.testBit 2 then some 2 else none
  else none

/-- What sets FB_STOP and FOLLOW at a frame (R265): a source found degraded since the frame before, or since START, and 4 ticks in a row
beyond FOLLOW_LIM. -/
def newFlags (s : State) (h : Hoist) (c : Nat) : Bool × Bool :=
  (fbDegraded s c && !h.fbSeen && !h.fbStop, decide (4 ≤ h.followRun) && !h.follow)

/-- The flags of a frame in a state whose motion they end no more. -/
def flagFrame (k : CarCfg) (s : State) : State :=
  let f := newFlags s (hstOf s k.no) k.no
  flagStop k f.1 false f.2 s

/-- A running flight's frame: what ends or changes it, in order. -/
def flightFrame (k : CarCfg) (s : State) : State :=
  let c := k.no
  let h := hstOf s c
  let (fb, fol) := newFlags s h c
  let lim := crossesLimit s k
  if h.pieces = [] then flagFrame k (putHst s c (frameArrives h))
  else if h.stopAsked || fb || lim || fol then stopWith k fb lim fol s
  else if h.replan then putHst s c (rejoin s k h) else s

/-- A stopping flight's frame: RESUME joins it again where it can (R271), the adjuster moving again from where it has halted, and at rest it
is HELD (R273). -/
def stoppingFrame (k : CarCfg) (s : State) : State :=
  let c := k.no
  let s := flagFrame k s
  let h := hstOf s c
  if h.resumeAsked then
    let legs := flightLegs s k h h.queue
    if stopMet (limitsOf k) (speedOf h.motion) h.motion.a legs then
      let h := rejoin s k { h with resumeAsked := false, state := .flight, lastOk := true }
      putHst s c (aimDeck k (deckAim h) h)
    else hoistRefuse c 6 3 (putHst s c { h with resumeAsked := false })
  else if h.pieces = [] then
    putHst s c { deckHalt h with state := .held, kept := h.target - h.posSet, runRequest := false, velSet := 0, accSet := 0,
                                 motion := {}, noEntry := false, rescueFlight := false }
  else s

/-- START waits for the drive and the brakes (R264). A source that degrades meanwhile sets FB_STOP, and the flight then stops as it begins
(R265; DEDUCED, log entry 155). -/
def startFrame (k : CarCfg) (s : State) : State :=
  let c := k.no
  let s := flagStop k (newFlags s (hstOf s c) c).1 false false s
  let h := hstOf s c
  let entry := firstStop h.queue
  if h.noEntry = false ∧ entry.isNone then putHst s c { h with state := .rest, runRequest := false }
  else
    let h := match h.noEntry, entry with
      | false, some e => { h with target := e.target, landing := e.landing }
      | _, _ => h
    if h.drvStatus.testBit 0 && h.drvStatus.testBit 1 && brakesLifted .a s c && brakesLifted .b s c then
      let h := { beginFlight s k h with stopAsked := h.fbStop }
      let h := frameMotion k h
      putHst s c (if h.pieces = [] ∧ h.target = h.origin then frameArrives h else h)
    else putHst s c { h with posSet := fusedPos s c }

/-- HOIST_FRAME_COMPUTE (R259): one channel at one tick. The set-point it computes there is a signal of the acquisition (R491). -/
def hoistFrame (c : Nat) (s : State) : State :=
  match carCfg s c with
  | none => s
  | some k =>
    if running s .io = false ∨ (hstOf s c).state = .off then s
    else
      let s := serviceFlags c s
      let s := match tripCause s c with | some x => hoistTrip c x s | none => s
      let before := (hstOf s c).state
      let h := hstOf s c
      let h := if moving h then followCheck s k (deckFrame (frameMotion k h)) else
        if h.state = .arrive then followCheck s k (deckFrame { h with velSet := 0, accSet := 0 }) else h
      let s := putHst s c (if h.state = .tripped then { h with posSet := fusedPos s c } else h)
      let arrives := decide (before = .flight) && decide ((hstOf s c).pieces = [])
      let s := if arrives then flagFrame k (putHst s c (frameArrives (hstOf s c))) else s
      let s := decideOp c s
      let s := match before with
        | .flight => if arrives then s else flightFrame k s
        | .stopping => stoppingFrame k s
        | .start => startFrame k s
        | .arrive => flagFrame k s
        | _ => s
      let h := hstOf s c
      let wait := decide (h.state = .arrive) && h.settled && !(deckInPlace k h)
      let s := putHst s c { h with deckWait := wait }
      let s := if decide (h.state = .arrive) && h.settled && !wait then arriveEnds c s else s
      let h := hstOf s c
      let h := { h with seq := (h.seq + 1) % 65536, history := ((h.posSet, committedStop s c) :: h.history).take 8,
                        validAt := frameAt s k, fbSeen := fbDegraded s c, sepLim := (partnerLimit s k).getD 0 }
      acqSample (208 + c) (wordI h.posSet) false (some 250000) (putHst s c { h with frame := frameGate s k (framePayload s k h) })

/-! ## Commands -/

/-- Refusals of START, RELEVEL and RESUME after STATE, in the order of R264; 0 for none. -/
def startRefusal (s : State) (k : CarCfg) (thermal empty : Bool) (target : Option Int) : Nat :=
  if !(computeRuns s) then 3
  else if thermal && decide (s.trs.therm = 3) then 2
  else if rescueService s then 9
  else if empty then 11
  else match target with
    | some x => if insideLimits s k x then 0 else 5
    | none => 0

/-- A channel enters START (R264, R265): stop flags cleared, run request shown, set-point at the fused position. -/
def enterStart (c : Nat) (h : Hoist) (s : State) : State :=
  putHst s c { h with
    state := .start, runRequest := true, posSet := fusedPos s c, velSet := 0, accSet := 0, fbStop := false, limStop := false,
    follow := false, levelErr := false, lastOk := true, history := [], followRun := 0, stopAsked := false, resumeAsked := false,
    fbSeen := fbDegraded s c }

/-- A car moves, or is about to (R30). -/
def anyMoving (s : State) : Bool :=
  s.img.cars.any (fun k => let x := (hstOf s k.no).state; decide (x = .start ∨ x = .flight ∨ x = .stopping ∨ x = .arrive))

/-- The landing of a rescue flight (R282): the nearest that the car serves whose learned sill (R313) lies more than LEVEL_TOL beyond the
fused position in the direction. -/
def rescueLanding (s : State) (k : CarCfg) (up : Bool) : Option Nat :=
  let x := fusedPos s k.no
  minBy (fun l => if up then landSill s k.no l else -(landSill s k.no l)) (k.served.filter (fun l =>
    if up then decide (x + k.levelTol < landSill s k.no l) else decide (landSill s k.no l < x - k.levelTol)))

/-- The rescue flight of R282 in a direction, as a START: refused with THERMAL in T3 (R280), else with RESCUE where the service set bars it
(R28, R31), a car moves (R30), the channel is not in REST or HELD, no landing lies ahead, or its sill lies outside the limits (R275, R276).
-/
def rescueStart (c : Nat) (up : Bool) (s : State) : State :=
  match carCfg s c with
  | none => s
  | some k =>
    let h := hstOf s c
    if s.trs.therm = 3 then hoistRefuse c 2 1 s
    else if serviceSet s.dies < 2 ∨ anyMoving s = true ∨ (h.state ≠ .rest ∧ h.state ≠ .held) then hoistRefuse c 9 1 s
    else match rescueLanding s k up with
      | none => hoistRefuseTold c 9 1 s
      | some l =>
        let x := landSill s c l
        if insideLimits s k x then
          enterStart c { h with noEntry := true, rescueFlight := true, target := x, landing := l, kept := 0 } s
        else hoistRefuse c 9 1 s

/-- START in HST_CMD; in rescue service only the rescue inputs start a car (R28, R282). -/
def hstStart (c : Nat) (s : State) : State :=
  match carCfg s c with
  | none => s
  | some k =>
    let h := hstOf s c
    if h.state ≠ .rest then hoistRefuse c 1 1 s
    else
      let e := firstStop h.queue
      let r := startRefusal s k true e.isNone (e.map QEntry.target)
      if r ≠ 0 then hoistRefuse c r 1 s
      else enterStart c { h with noEntry := false, rescueFlight := false, target := (e.map QEntry.target).getD h.target,
                                 landing := (e.map QEntry.landing).getD h.landing } s

/-- STOP: the flight ends at the limits from the next frame (R273). -/
def hstStop (c : Nat) (s : State) : State :=
  let h := hstOf s c
  if h.state = .flight then putHst s c { h with stopAsked := true, lastOk := true } else hoistRefuse c 1 2 s

/-- RESUME (R274): a new flight from HELD through START, or the join of R271 at the next frame from STOPPING. -/
def hstResume (c : Nat) (s : State) : State :=
  match carCfg s c with
  | none => s
  | some k =>
    let h := hstOf s c
    if h.state = .held ∨ h.state = .stopping then
      let e := firstStop h.queue
      let r := startRefusal s k false e.isNone (e.map QEntry.target)
      if r ≠ 0 then hoistRefuse c r 3 s
      else if h.state = .stopping then putHst s c { h with resumeAsked := true }
      else enterStart c { h with noEntry := false, rescueFlight := false, target := (e.map QEntry.target).getD h.target,
                                 landing := (e.map QEntry.landing).getD h.landing } s
    else hoistRefuse c 1 3 s

/-- CANCEL in HELD (R274). -/
def hstCancel (c : Nat) (s : State) : State :=
  let h := hstOf s c
  if h.state = .held then
    putHst s c { h with state := .rest, kept := 0, queue := dropStop h.queue, lastOk := true }
  else hoistRefuse c 1 4 s

/-- RESET in TRIPPED (R264): STATE, PERMIT and STATE again, in that order. -/
def hstReset (c : Nat) (s : State) : State :=
  let h := hstOf s c
  if h.state ≠ .tripped then hoistRefuse c 1 5 s
  else if !(permit .a s c) || !(permit .b s c) then hoistRefuse c 4 5 s
  else if 10000 ≤ (fusedSpeed s c).natAbs ∨ h.drvStatus.testBit 2 then hoistRefuse c 1 5 s
  else
    putHst s c { h with state := if h.kept ≠ 0 then .held else .rest, lastOk := true, motion := {}, pieces := [] }

/-- HST_TARGET and LANDING: those of the first STOP entry, or of the last arrival. -/
def shownTarget (h : Hoist) : Int := match firstStop h.queue with | some e => e.target | none => h.lastTarget
def shownLanding (h : Hoist) : Nat := match firstStop h.queue with | some e => e.landing | none => h.lastLanding

/-- RELEVEL: a short move to HST_TARGET from REST, within 50 mm (R264). -/
def hstRelevel (c : Nat) (s : State) : State :=
  match carCfg s c with
  | none => s
  | some k =>
    let h := hstOf s c
    if h.state ≠ .rest ∨ 5000 < (shownTarget h - fusedPos s c).natAbs then hoistRefuse c 1 6 s
    else
      let r := startRefusal s k true false (some (shownTarget h))
      if r ≠ 0 then hoistRefuse c r 6 s
      else enterStart c { h with noEntry := true, rescueFlight := false, target := shownTarget h, landing := shownLanding h } s

/-- A write of HST_CMD: other values, and a channel that is not enabled, ignore it. -/
def hstCommand (c cmd : Nat) (s : State) : State :=
  if (carCfg s c).isNone ∨ running s .io = false then s
  else match cmd with
    | 1 => hstStart c s | 2 => hstStop c s | 3 => hstResume c s | 4 => hstCancel c s | 5 => hstReset c s | 6 => hstRelevel c s
    | _ => s

/-- A write of HST_QOP (R268, R548): pending until the next frame; a second is held, and a third is discarded and counted. -/
def queueWrite (req : Requester) (addr : Word) (c op index : Nat) (s : State) : State :=
  let h := hstOf s c
  if (carCfg s c).isNone ∨ op = 0 ∨ 4 < op then (if (carCfg s c).isNone then s else putHst s c { h with qIndex := index })
  else if h.qPending.isNone then
    putHst s c { h with qIndex := index, qResult := 15, qPending := some { op := op, index := index, entry := h.stage } }
  else if h.qHeld.isNone then putHst s c { h with qHeld := some (op, index, req) }
  else badAccess req 3 addr s

/-- A write of VCAP (R272): a dovetail from the next frame. -/
def vcapWrite (c v : Nat) (s : State) : State :=
  if (carCfg s c).isNone ∨ running s .io = false then s else putHst s c { hstOf s c with vcap := v, replan := true }

/-- A write of a virtual limit (R275): held inside GEOMETRY, refused whole where the limits would meet, and ending a flight whose
committed stop it cuts. -/
def vlimWrite (c : Nat) (up : Bool) (v : Int) (s : State) : State :=
  match carCfg s c with
  | none => s
  | some k =>
    let h := hstOf s c
    let x := if up then min v k.vlimUp else max v k.vlimDn
    if running s .io = false then s
    else if (up ∧ x ≤ h.vlimDn) ∨ (!up ∧ h.vlimUp ≤ x) then hoistRefuseTold c 5 0 s
    else
      let narrower := if up then x < h.vlimUp else h.vlimDn < x
      let s := putHst s c (if up then { h with vlimUp := x } else { h with vlimDn := x })
      if (hstOf s c).state = .flight ∧ crossesVirtual s k = true ∧ narrower then stopWith k false true false s else s

/-- A channel after the I/O island is released (R264, R283): at a warm start with what was kept. -/
def hoistRelease (warm : Bool) (saved : Tab Hoist) (k : CarCfg) (s : State) : State :=
  let o := tget ({} : Hoist) saved k.no
  if warm then
    putHst s k.no { ({} : Hoist) with
      state := if o.kept = 0 then .rest else .held, queue := o.queue, kept := o.kept, vcap := o.vcap, vlimUp := o.vlimUp,
      vlimDn := o.vlimDn }
  else putHst s k.no { ({} : Hoist) with state := .rest, vlimUp := k.vlimUp, vlimDn := k.vlimDn }

/-! ## Registers -/

/-- HST_STATE. -/
def hoistStateReg (s : State) (h : Hoist) : Word :=
  regOf [(31, 29, hoistCode h.state), (28, 28, b2n h.parked), (27, 27, b2n (!(computeRuns s))), (26, 26, b2n h.fbStop),
    (25, 25, b2n h.limStop), (24, 24, b2n h.levelErr), (23, 23, b2n h.follow), (22, 22, b2n (h.rescueFlight || benchShown s)),
    (21, 21, b2n h.deckWait), (20, 16, h.queue.length), (15, 12, h.refuse),
    (7, 0, shownLanding h)]

/-- A word of an entry. -/
def entryWord (e : QEntry) (k : Nat) : Word := match k with | 0 => e.w0 | 1 => e.w1 | 2 => e.w2 | _ => e.w3
def putEntryWord (e : QEntry) (k : Nat) (w : Word) : QEntry :=
  match k with | 0 => { e with w0 := w } | 1 => { e with w1 := w &&& 0xC0FFFFFF } | 2 => { e with w2 := w } | _ => { e with w3 := w }

/-- A register of window `c` by its offset; a channel that is not enabled reads 0 throughout (R247). -/
def hoistReg (s : State) (c off : Nat) : Option Word :=
  let h := hstOf s c
  let v : Option (CarCfg → Word) :=
    match off with
    | 0x000 => some (fun _ => hoistStateReg s h)
    | 0x004 => some (fun _ => 0)
    | 0x008 => some (fun _ => wordI h.posSet)
    | 0x00C => some (fun _ => wordI h.velSet)
    | 0x010 => some (fun _ => wordI h.accSet)
    | 0x014 => some (fun _ => wordI (shownTarget h))
    | 0x018 => some (fun _ => wordI h.kept)
    | 0x01C => some (fun _ => regOf [(31, 16, twos 16 (deckSet h)), (15, 0, twos 16 h.deckTarget)])
    | 0x020 => some (fun _ => wordI h.vlimUp)
    | 0x024 => some (fun _ => wordI h.vlimDn)
    | 0x028 => some (fun _ => wordI h.sepLim)
    | 0x030 => some (fun k => regOf [(31, 16, k.vmax), (15, 0, k.vbreak)])
    | 0x034 => some (fun k => regOf [(31, 16, k.a1), (15, 0, k.a2)])
    | 0x038 => some (fun k => regOf [(31, 16, k.jerk), (15, 8, k.vstart), (7, 0, k.vstop)])
    | 0x03C => some (fun k => regOf [(31, 16, h.vcap), (15, 12, k.lead)])
    | 0x040 => some (fun k => regOf [(31, 24, k.settle), (23, 12, k.levelTol), (11, 0, k.followLim)])
    | 0x044 => some (fun k => regOf [(31, 16, k.adjV), (15, 0, k.adjA)])
    | 0x048 => some (fun k => regOf [(31, 31, b2n k.paired), (30, 30, b2n k.upper), (29, 24, k.partner), (23, 0, k.sepGap)])
    | 0x050 => some (fun _ => regOf [(27, 24, h.qIndex), (23, 20, h.qResult)])
    | o =>
      if 0x054 ≤ o ∧ o < 0x064 ∧ o % 4 = 0 then some (fun _ => entryWord h.stage ((o - 0x054) / 4))
      else if 0x100 ≤ o ∧ o < 0x200 ∧ o % 4 = 0 then
        some (fun _ => match h.queue[(o - 0x100) / 16]? with | some e => entryWord e ((o - 0x100) % 16 / 4) | none => 0)
      else none
  match v, carCfg s c with
  | none, _ => none
  | some _, none => some 0
  | some f, some k => some (f k)

/-- A write to a register of window `c`. -/
def hoistWrite (req : Requester) (addr : Word) (c off : Nat) (v : Word) (s : State) : State :=
  if (carCfg s c).isNone then s
  else match off with
    | 0x004 => hstCommand c (fld v 3 0) s
    | 0x020 => vlimWrite c true v.toInt s
    | 0x024 => vlimWrite c false v.toInt s
    | 0x03C => vcapWrite c (fld v 31 16) s
    | 0x050 => queueWrite req addr c (fld v 31 28) (fld v 27 24) s
    | o =>
      if 0x054 ≤ o ∧ o < 0x064 ∧ o % 4 = 0 then
        let h := hstOf s c
        putHst s c { h with stage := putEntryWord h.stage ((o - 0x054) / 4) v }
      else s

end Sys2Proof.Machine
end

