-- ==== Sys2Proof/Machine/DoorOps.lean ====
section
/-! DEFINITION. Door channels: moves, obstruction handling, advanced opening, frames and the window's registers (R316 to R346). -/
namespace Sys2Proof.Machine

def dorOf (s : State) (d : Nat) : Door := tget ({} : Door) s.dor d
def putDor (s : State) (d : Nat) (x : Door) : State := { s with dor := tset ({} : Door) s.dor d x }

/-- The GEOMETRY entry of a door; its channel is enabled when it has one (R316). -/
def doorCfg (s : State) (d : Nat) : Option DoorCfg := s.img.doors.find? (fun k => decide (k.ch = d))

/-! ## Units -/

/-- 10 µm in twice 10^-18 mm, and 1 mm/s in 10^-9 mm/s. -/
def unit2 : Int := 20000000000000000
def mms : Nat := 1000000000

/-- The position set-point in 10 µm and the speed set-point in mm/s, rounded to the nearest. -/
def doorPosSet (x : Door) : Int := roundDiv x.p2 20000000000000000
def doorVelSet (x : Door) : Int := roundDiv x.v9 mms
def doorAccSet (x : Door) : Int := match x.plan with | e :: _ => e.acc | [] => 0

/-! ## Registers that act within bounds -/

def clampNat (lo hi n : Nat) : Nat := Nat.max lo (Nat.min hi n)

/-- AMP_FMAX and the bound of R320 on ACC. -/
def ampFmax (k : DoorCfg) : Nat := (k.forceLim + k.friction) * 1000 / k.kf
def accBound (k : DoorCfg) : Nat := 8000 * k.forceLim / k.mass

def vopenActs (k : DoorCfg) (x : Door) : Nat := clampNat 50 1000 (x.vopen.getD k.vopen)
def vcloseActs (k : DoorCfg) (x : Door) : Nat := clampNat 50 1000 (x.vclose.getD k.vclose)
def accActs (k : DoorCfg) (x : Door) : Nat := Nat.max 100 (Nat.min (accBound k) (x.acc.getD k.acc))
def targetOpen (k : DoorCfg) (x : Door) : Int :=
  let t := x.target.getD ((k.stroke * 100 : Nat) : Int)
  max 10000 (min ((k.stroke * 100 : Nat) : Int) t)

/-- V_EK of R332, in mm/s. -/
def vEk (k : DoorCfg) (nudge : Bool) : Nat := isqrt (2 * (if nudge then k.ekNudge else k.ekLim) * 1000000 / k.mass)

/-- Measured readings (R334). -/
def measuredPos (x : Door) : Int := match x.ret with | some r => r.pos | none => 0
def isClosed (k : DoorCfg) (x : Door) : Bool := decide ((measuredPos x).natAbs ≤ k.endTol)
def isOpened (k : DoorCfg) (x : Door) : Bool := decide ((measuredPos x - targetOpen k x).natAbs ≤ k.endTol)

/-- Bridge STATUS bits (R326): READY, FAULT, OVERTEMP, ENC_OK. -/
def bridgeBit (x : Door) (i : Nat) : Bool := match x.ret with | some r => r.status.testBit i | none => false

/-! ## Refusals and events -/

def doorCode : DoorState → Nat
  | .off => 0 | .rest => 1 | .opening => 2 | .closing => 3 | .stopping => 4 | .geared => 5 | .tripped => 6

/-- A refusal (R346): event source 1282 + 4d at the first after one that succeeded. -/
def doorRefuse (d code : Nat) (s : State) : State :=
  let x := dorOf s d
  raiseIf x.lastOk (1282 + 4 * d) [wordN code] (putDor s d { x with refuse := code, lastOk := false })

/-- SOURCE_LOST (R343). -/
def doorSourceLost (s : State) : Bool := !(computeRuns s)

/-! ## Plans (R331 to R333) -/

/-- Run speed of the running move, in mm/s. -/
def runSpeed (k : DoorCfg) (x : Door) : Nat :=
  if x.state = .closing then Nat.min (vcloseActs k x) (vEk k x.nudge)
  else if x.dflt then k.vopenDef else vopenActs k x

/-- The plan of a move from its present speed: `r2` is twice the distance left in 10^-18 mm, `v` the speed in 10^-9 mm/s towards the
end, `a1` the rate of the phase under way, `a2` ACC, `vr` the run speed and `cv` the creep speed in 10^-9 mm/s, `cd2` twice the
creep distance. Accelerations come out positive towards the end. DESIGN CHOICE, log entry 135: where ACC no longer reaches CREEP_V in
the distance that a late write or a geared start leaves, the deceleration is what reaches it; and where the distance before the creep
is too short to reach CREEP_V, the door goes on accelerating to it. -/
def doorPlan (r2 cd2 : Int) (v a1 a2 vr cv : Nat) : List DoorPiece :=
  let d2 := r2 - cd2
  let creep (w : Nat) (left2 : Int) : DoorPiece := DoorPiece.mk .creep 0 (left2.toNat / (2 * Nat.max 1 w) + 1)
  let slowAt (a v : Nat) : DoorPiece := DoorPiece.mk .decel (-(a : Int)) ((v - cv) / a)
  let slow := slowAt a2
  let brake (left2 : Int) : DoorPiece := slowAt (Nat.max a2 ((v * v - cv * cv) / Nat.max 1 left2.toNat + 1)) v
  if d2 ≤ 0 then
    if v ≤ cv then [DoorPiece.mk .creep (a1 : Int) ((cv - v) / a1), creep cv r2]
    else [brake r2, creep cv r2]
  else if v ≤ cv ∧ d2 * a1 ≤ ((cv * cv : Nat) : Int) - ((v * v : Nat) : Int) then
    [DoorPiece.mk .accel (a1 : Int) ((cv - v) / a1), creep cv r2]
  else
    let need := ((v * v : Nat) : Int) - ((cv * cv : Nat) : Int)
    if cv < v ∧ d2 * a2 ≤ need then [brake d2, creep cv r2]
    else if vr < v then
      let b2 := d2 * (a1 * a2 : Nat) - (((v * v - vr * vr) * a2 + (vr * vr - cv * cv) * a1 : Nat) : Int)
      if b2 < 0 then
        let vs := isqrt ((((v * v * a2 : Nat) : Int) - d2 * (a1 * a2 : Nat) - ((cv * cv * a1 : Nat) : Int)).toNat / Nat.max 1 (a2 - a1))
        [DoorPiece.mk .accel (-(a1 : Int)) ((v - vs) / a1), slow vs, creep cv r2]
      else
        [DoorPiece.mk .accel (-(a1 : Int)) ((v - vr) / a1), DoorPiece.mk .cruise 0 (b2.toNat / (2 * Nat.max 1 vr * (a1 * a2))), slow vr,
          creep cv r2]
    else
      let vp := isqrt (((d2 * (a1 * a2 : Nat)).toNat + v * v * a2 + cv * cv * a1) / (a1 + a2))
      if vr ≤ vp then
        let b2 := d2 * (a1 * a2 : Nat) - (((vr * vr - v * v) * a2 + (vr * vr - cv * cv) * a1 : Nat) : Int)
        [DoorPiece.mk .accel (a1 : Int) ((vr - v) / a1), DoorPiece.mk .cruise 0 (b2.toNat / (2 * Nat.max 1 vr * (a1 * a2))), slow vr,
          creep cv r2]
      else [DoorPiece.mk .accel (a1 : Int) ((vp - v) / a1), slow vp, creep cv r2]

/-- The plan of the running move from where it stands. -/
def planMove (k : DoorCfg) (x : Door) : Door :=
  let dir : Int := if x.moveEnd * unit2 < x.p2 then -1 else 1
  let vr := runSpeed k x * mms
  let cv := Nat.min (k.creepV * mms) vr
  let a2 := accActs k x
  let v := (dir * x.v9).toNat
  let a1 := match x.plan with
    | e :: _ => if e.phase = .accel ∧ e.acc ≠ 0 ∧ decide (dir * e.acc < 0) = decide (vr < v) then e.acc.natAbs else a2
    | [] => a2
  let ps := doorPlan (dir * (x.moveEnd * unit2 - x.p2)) (k.creepD * 2000000000000000000) v a1 a2 vr cv
  { x with plan := ps.map (fun e => { e with acc := dir * e.acc }), replan := false }

/-- Frames already sent belong to an earlier move: DESIGN CHOICE, log entry 135, a move other than a close is not judged a stall on their
telemetry, whose set-points a reversal or an engagement has left. -/
def newMove (x : Door) : Door := { x with sent := x.sent.map (fun f => { f with old := true }), forceRun := 0, openAsked := false }

/-- An opening or closing move begins (R331), at the present speed. -/
def startMove (k : DoorCfg) (opens dflt : Bool) (x : Door) : Door :=
  let x := newMove { x with
    state := if opens then DoorState.opening else DoorState.closing
    moveEnd := if opens then targetOpen k x else 0
    dflt := dflt, plan := [], peak := if opens then x.peak else none }
  planMove k x

/-- STOPPING entered (R334): at ACC, or at DEC_REV for a reversal. -/
def stopMove (k : DoorCfg) (isRev : Bool) (x : Door) : Door :=
  let a := if isRev then k.decRev else accActs k x
  { newMove x with
    state := .stopping, rev := isRev
    plan := if x.v9 = 0 then [] else [DoorPiece.mk .decel (if 0 < x.v9 then -(a : Int) else (a : Int)) (x.v9.natAbs / a)] }

/-- The plan advanced by `dt` ns. -/
def doorAdvance : List DoorPiece → Nat → Int × Int → (Int × Int) × List DoorPiece
  | [], _, m => (m, [])
  | e :: t, dt, (p, v) =>
    let j : Int := (Nat.min dt e.dur : Nat)
    let m := (p + 2 * v * j + e.acc * j * j, v + e.acc * j)
    if dt < e.dur then (m, { e with dur := e.dur - dt } :: t) else doorAdvance t (dt - e.dur) m

/-- A move has reached its end (R331, R334). -/
def moveEnds (x : Door) : Door :=
  { x with
    state := .rest, p2 := x.moveEnd * unit2, v9 := 0, plan := [], dflt := false
    revCount := if x.state = .closing then 0 else x.revCount, nudge := if x.state = .closing then false else x.nudge }

/-- One update of a planned state: 50 µs along the plan. -/
def planStep (k : DoorCfg) (x : Door) : Door :=
  let r := doorAdvance x.plan 50000 (x.p2, x.v9)
  let x := { x with p2 := r.1.1, v9 := r.1.2, plan := r.2 }
  if x.state = .stopping then
    let top := ((k.stroke * 100 : Nat) : Int) * unit2
    let x := if x.plan = [] then { x with v9 := 0 } else x
    if x.p2 < 0 then { x with p2 := 0, v9 := 0, plan := [] }
    else if top < x.p2 then { x with p2 := top, v9 := 0, plan := [] } else x
  else
    let e2 := x.moveEnd * unit2
    let reached := if x.state = .opening then decide (e2 ≤ x.p2) else decide (x.p2 ≤ e2)
    if reached || decide (x.plan = []) then moveEnds x else x

/-! ## Trips, stalls and reversals -/

/-- TRIPPED entered (R334), with event source 1280 + 4d. -/
def doorTrip (d cause : Nat) (s : State) : State :=
  let x := dorOf s d
  raise (1280 + 4 * d) [wordN (doorCode x.state), wordN cause] (putDor s d { newMove x with
    state := .tripped, tripCause := cause, armed := false, rev := false, v9 := 0, plan := [], p2 := measuredPos x * unit2 })

/-- DOOR_REVERSAL (R337): the set-points take the measured state, and the door stops at DEC_REV. -/
def doorReverse (k : DoorCfg) (cause : Nat) (s : State) : State :=
  let d := k.ch
  let x := dorOf s d
  let before := x.revCount
  let n := satAdd 255 before 1
  let x : Door := { x with
    revCause := cause, revCount := n, reversals := satAdd 255 x.reversals 1, nudge := false, lastOk := x.lastOk || x.openAsked
    p2 := measuredPos x * unit2, v9 := if x.vmeas < 0 then x.vmeas else 0 }
  let s := putDor s d (stopMove k true x)
  let s := raise (1281 + 4 * d) [wordN cause, wordI (measuredPos x), wordI x.force] s
  raiseIf (decide (k.revLimit ≠ 0) && decide (n = k.revLimit) && decide (before ≠ n)) (1283 + 4 * d) [] s

/-- F_obst × 2^40 from a frame and the position measured at its VALID_AT (R335). -/
def obstForce (k : DoorCfg) (f : SentFrame) (pos : Int) : Int :=
  (k.kf * f.amp : Nat) * sin40 (10 * (pos - f.pos)) k.ecPitch / 1000 + (k.mass : Int) * f.acc * 2 ^ 40 / 10000
    - (k.friction : Int) * 2 ^ 40

/-- The judgement of telemetry in a moving state: force obstruction at two updates in a row, each of them served, and stall. -/
def doorWatch (k : DoorCfg) (served : Bool) (x : Door) : Bool × Bool × Door :=
  match x.ret with
  | none => (false, false, { x with forceRun := 0 })
  | some r =>
    match x.sent.find? (fun f => decide (f.seq = r.echo) && (!f.old || decide (x.state = .closing)) && served) with
    | none => (false, false, { x with forceRun := 0 })
    | some f =>
      let stall := decide (k.stallLim < (f.pos - r.pos).natAbs)
      let x := if stall then { x with stalls := satAdd 255 x.stalls 1 } else x
      if x.state = .closing then
        let fo := obstForce k f r.pos
        let v := clampI 16 (roundDiv fo (2 ^ 40))
        let run := if ((k.obstN : Int) * 2 ^ 40 < fo) then x.forceRun + 1 else 0
        let x := { x with force := v, forceRun := run, peak := some (match x.peak with | some p => max p v | none => v) }
        (decide (2 ≤ run), stall, x)
      else (false, stall, x)

/-- What the telemetry and the inputs do to a moving door (R335 to R337): whether the channel has left its move. -/
def doorObstruct (k : DoorCfg) (served : Bool) (s : State) : Bool × State :=
  let d := k.ch
  let (force, stall, x) := doorWatch k served (dorOf s d)
  let s := putDor s d x
  match x.state with
  | .closing =>
    let reopen := !x.nudge && (match k.reopen with | some r => inputLevel s r | none => false)
    let cause := if force then 1 else if stall then 2 else if reopen then 3 else if x.openAsked then 4 else 0
    if cause = 0 then (false, s) else (true, doorReverse k cause s)
  | .opening =>
    if stall then (false, raise (1283 + 4 * d) [] (putDor s d (stopMove k false x))) else (false, s)
  | .geared => if stall then (false, putDor s d (stopMove k false x)) else (false, s)
  | _ => (false, s)

/-! ## Telemetry (R326) -/

/-- The newest return frame taken at an update: whether it serves it, the measured velocity, and telemetry losses. -/
def takeReturn (s : State) (k : DoorCfg) (x : Door) : Bool × Door :=
  let ok := match x.ret with
    | some r => x.arrived && r.status.testBit 3 && (match x.taken with
      | some t => decide (0 < (r.echo + 65536 - t) % 65536 ∧ (r.echo + 65536 - t) % 65536 < 32768)
      | none => true)
    | none => false
  let x := { x with arrived := false, taken := match x.ret with | some r => some r.echo | none => x.taken }
  if ok then
    let pos := measuredPos x
    let at0 := match x.ret with
      | some r => ((x.sent.find? (fun f => decide (f.seq = r.echo))).map (·.validAt)).getD (devTime s + k.dlead * 50000)
      | none => devTime s
    let vm := match x.meas with
      | some (t, p) => if t < at0 then Int.tdiv ((pos - p) * 10000000000000000) ((at0 - t : Nat) : Int) else x.vmeas
      | none => 0
    (true, { x with missed := 0, meas := some (at0, pos), vmeas := vm })
  else (false, { x with missed := Nat.min 3 (x.missed + 1), telem := satAdd 255 x.telem 1 })

/-- OFFSET_UPDATE (R327): the offsets of the mode in use follow the mean currents of the frame's interval. -/
def stepOffset (k : DoorCfg) (amp : Nat) (sn mean old : Int) : Int :=
  if 2 ^ 40 ≤ 4 * (sn.natAbs : Int) then
    let sg : Int := if amp = 0 then 0 else if sn < 0 then -1 else 1
    let err := (amp : Int) * (sn.natAbs : Int) / 2 ^ 20 - sg * mean * 2 ^ 20
    let lim : Int := (k.offMax * 2 ^ 20 : Nat)
    max (-lim) (min lim (old + Int.tdiv (err * k.koff) 256))
  else old

/-- The offsets of the mode in use, held at 0 where KOFF is 0. -/
def offsetsNow (k : DoorCfg) (x : Door) : Offsets := if k.koff = 0 then {} else if x.strong then x.strongOff else x.quiet

def offsetUpdate (k : DoorCfg) (x : Door) : Door :=
  match x.ret with
  | none => x
  | some r =>
    match x.sent.find? (fun f => decide (f.seq = r.echo)) with
    | none => x
    | some f =>
      if f.strong ≠ x.strong then x
      else
        let o := offsetsNow k x
        let o' : Offsets := if k.koff = 0 then {} else {
          a := stepOffset k f.amp (sin40 f.mid2 2048) r.ia o.a, b := stepOffset k f.amp (cos40 f.mid2 2048) r.ib o.b }
        if x.strong then { x with strongOff := o' } else { x with quiet := o' }

/-! ## Advanced opening (R339 to R342) -/

/-- Gear tables as they read and act. -/
def cfgGear (k : DoorCfg) : GearTable := { shifts := k.shifts, ratios := k.ratios }
def stagingGear (k : DoorCfg) (x : Door) : GearTable := x.staging.getD (cfgGear k)
def liveGear (k : DoorCfg) (x : Door) : GearTable := x.live.getD (cfgGear k)
def GearTable.shift (g : GearTable) (i : Nat) : Nat := g.shifts.getD i 0
def GearTable.ratio (g : GearTable) (i : Nat) : Int := g.ratios.getD i 0

/-- A table that waits goes live when the channel is not GEARED (R341). -/
def settleGear (x : Door) : Door :=
  match x.waiting with
  | some g => if x.state = .geared then x else { x with live := some g, waiting := none }
  | none => x

/-- The hoist channel's first STOP entry is at a landing of this door side. -/
def sideServes (s : State) (k : DoorCfg) : Bool :=
  match firstStop (hstOf s (k.ch / 2)).queue with
  | some e => k.landings.contains e.landing
  | none => false

/-- The engage conditions of R339. -/
def engages (s : State) (k : DoorCfg) (x : Door) : Bool :=
  let c := k.ch / 2
  let h := hstOf s c
  x.armed && decide (x.state = .rest) && decide (h.state = .flight ∨ h.state = .arrive) && sideServes s k
    && (match firstStop h.queue with
      | some e => decide ((e.target - fusedPos s c).natAbs ≤ k.adoDist * 100)
      | none => false)
    && decide ((fusedSpeed s c).natAbs ≤ k.adoVmax * 1000) && adoPermit .a s c && adoPermit .b s c

/-- GEARED entered: Q_E, P_E and the direction of counts that move the car towards the target. -/
def engage (s : State) (k : DoorCfg) (x : Door) : Door :=
  let c := k.ch / 2
  match fbkCfg s c, firstStop (hstOf s c).queue with
  | some f, some e =>
    let q := rawCount s f
    let up : Int := if fusedPos s c ≤ e.target then 1 else -1
    { newMove x with
      state := .geared, armed := false, qe := q, lastCount := q, gearDir := if f.quadDir then -up else up, n := 0
      pe := x.p2, seg := 0, segFrom := 0, segBase := 0, away := false, plan := [] }
  | _, _ => x

/-- One shift point passed, if the count has reached it (R340, R341). -/
def shiftStep (k : DoorCfg) (x : Door) : Door :=
  let g := liveGear k x
  if x.seg < 3 ∧ g.shift x.seg ≤ x.n then
    let stop := Nat.max (g.shift x.seg) x.segFrom
    let x := { x with segBase := x.segBase + g.ratio x.seg * ((stop - x.segFrom : Nat) : Int), segFrom := stop, seg := x.seg + 1 }
    match x.waiting with
    | some w => { x with live := some w, waiting := none }
    | none => x
  else x

/-- The geared set-point at the present count (R340): counts away from the target hold the door, with event source 1283 + 4d. -/
def gearStep (s : State) (k : DoorCfg) (x : Door) : Bool × Door :=
  match fbkCfg s (k.ch / 2) with
  | none => (false, x)
  | some f =>
    let q := rawCount s f
    let step := x.gearDir * countDiff q x.lastCount
    let told := decide (step < 0) && !x.away
    let x := { x with
      lastCount := q, away := if step = 0 then x.away else decide (step < 0)
      n := Nat.max x.n (x.gearDir * countDiff q x.qe).toNat }
    let x := shiftStep k (shiftStep k (shiftStep k x))
    let p := x.pe + (x.segBase + (liveGear k x).ratio x.seg * ((x.n - x.segFrom : Nat) : Int)) * 305175781250
    let top := targetOpen k x * unit2
    if top ≤ p then (told, { x with p2 := top, v9 := 0, state := .rest })
    else (told, { x with p2 := p, v9 := (p - x.p2) / 100000 })

/-- An update in GEARED: what ends gearing (R342), else the geared step. -/
def gearedUpdate (k : DoorCfg) (s : State) : State :=
  let d := k.ch
  let c := d / 2
  let x := dorOf s d
  let h := hstOf s c
  if h.state = .rest ∧ x.hoistArrive = true then putDor s d (planStep k (startMove k true false x))
  else if !(adoPermit .a s c) || !(adoPermit .b s c) || !(decide (h.state = .flight ∨ h.state = .arrive))
      || decide (k.adoVmax * 1000 < (fusedSpeed s c).natAbs) then putDor s d (planStep k (stopMove k false x))
  else
    let (told, x) := gearStep s k x
    raiseIf told (1283 + 4 * d) [] (putDor s d x)

/-! ## Default opening (R343) -/

/-- The car rests at a landing that this side serves. -/
def restsServed (s : State) (k : DoorCfg) : Bool :=
  let c := k.ch / 2
  match carCfg s c with
  | some car => decide ((hstOf s c).state = .rest)
      && k.landings.any (fun l => decide ((landSill s c l - fusedPos s c).natAbs ≤ car.levelTol))
  | none => false

/-- The door opens once under SOURCE_LOST, if it is not open, with event source 1283 + 4d. -/
def defaultOpening (k : DoorCfg) (s : State) : State :=
  let d := k.ch
  let x := dorOf s d
  if !(doorSourceLost s) then putDor s d { x with dfltDone := false }
  else if x.dfltDone ∨ x.state ≠ .rest ∨ restsServed s k = false then s
  else
    let s := putDor s d { x with dfltDone := true }
    if isOpened k x then s
    else raise (1283 + 4 * d) [] (putDor s d { startMove k true true x with dfltDone := true })

/-! ## Frames (R322 to R325, R328 to R330) -/

/-- ADDR of a position set-point (R324). -/
def doorAddr (k : DoorCfg) (pos : Int) : Nat := (((k.elecOff : Int) + Int.fdiv (10 * pos * 1024) k.ecPitch) % 1024).toNat

/-- The shorter way from one address to another. -/
def addrStep (a b : Nat) : Int :=
  let d := (b + 1024 - a) % 1024
  if d ≤ 512 then (d : Int) else (d : Int) - 1024

/-- The way passes a multiple of 256: a current zero of one phase (R329). -/
def passesZero (a b : Nat) : Bool :=
  let d := addrStep a b
  if 0 < d then decide (Int.fdiv ((a : Int) + d) 256 ≠ Int.fdiv (a : Int) 256)
  else if d < 0 then decide (Int.fdiv ((a : Int) + d - 1) 256 ≠ Int.fdiv ((a : Int) - 1) 256)
  else false

/-- The mode that the speed calls for (R328). -/
def wantedStrong (k : DoorCfg) (x : Door) : Bool :=
  if k.isHeavy then
    let v := x.v9.natAbs
    if k.vqs * mms ≤ v then true else if v < (k.vqs - k.vhys) * mms then false else x.strong != x.switchDue
  else k.fixStrong

/-- AMP of a frame (R330). -/
def doorAmp (k : DoorCfg) (x : Door) : Nat :=
  let m := if x.strong then k.ampS else k.ampQ
  match x.state with
  | .rest => k.ampHold
  | .tripped => k.ampHold
  | .closing => Nat.min m (ampFmax k)
  | _ => m

/-- The words of a frame's payload (R323). -/
def doorPayload (s : State) (k : DoorCfg) (x : Door) (addr amp : Nat) : List Word :=
  let hold := decide (x.state = .rest ∨ x.state = .tripped)
  let o := offsetsNow k x
  let ma (v : Int) : Nat := twos 16 (roundDiv v (2 ^ 20))
  let at0 := devTime s / 50000 * 50000 + k.dlead * 50000
  [regOf [(31, 24, doorCode x.state), (20, 20, b2n x.nudge), (19, 19, b2n hold), (18, 18, b2n x.strong), (15, 0, x.seq)],
   regOf [(31, 16, amp), (15, 0, addr)], regOf [(31, 16, ma o.b), (15, 0, ma o.a)],
   regOf [(31, 16, k.ch), (15, 0, if x.strong then k.bandS else k.bandQ)], loWord at0, hiWord at0]

/-- The frame gate (R325): forces of KIND 2 first, then both permit bits. -/
def doorGate (s : State) (k : DoorCfg) (ws : List Word) : List Word :=
  let forced := (numbered ws).map (fun p => forcedWord s 2 (stationIndex k.station p.1) p.2)
  let permits := regOf [(17, 17, b2n (doorPermit .b s k.ch)), (16, 16, b2n (doorPermit .a s k.ch))]
  match forced with
  | w :: t => mergeMask (maskOf 17 16) w permits :: t
  | [] => []

/-- The frame of an update: the mode switches at a current zero, and the frame joins those that telemetry answers. -/
def buildFrame (k : DoorCfg) (s : State) : State :=
  let x := dorOf s k.ch
  let pos := doorPosSet x
  let addr := doorAddr k pos
  let due := decide (wantedStrong k x ≠ x.strong)
  let sends := due && (passesZero x.addr addr || !k.isHeavy)
  let x := { x with strong := if sends then !x.strong else x.strong, switchDue := due && !sends }
  let amp := doorAmp k x
  let mid2 := (((2 * x.addr : Nat) : Int) + addrStep x.addr addr) % 2048
  let f : SentFrame := { seq := x.seq, pos := pos, acc := doorAccSet x, amp := amp, mid2 := mid2.toNat,
                         validAt := devTime s / 50000 * 50000 + k.dlead * 50000, strong := x.strong }
  let ws := doorGate s k (doorPayload s k x addr amp)
  putDor s k.ch { x with addr := addr, seq := (x.seq + 1) % 65536, sent := (f :: x.sent).take 64, frame := some ws, words := ws }

/-! ## The update (R322) -/

/-- A geared channel whose advanced-opening permit goes, as a car trip takes it with the door permits: it stops by R342 at this update
(R345), and an absent door permit trips it from STOPPING (DEDUCED, log entry 157). -/
def gearedStops (s : State) (x : Door) (d : Nat) : Bool :=
  decide (x.state = .geared) && decide ((hstOf s (d / 2)).state ≠ .rest) && (!(adoPermit .a s (d / 2)) || !(adoPermit .b s (d / 2)))

/-- What trips a channel in any state but OFF (R334): 1 PERMIT_A, 2 PERMIT_B, 3 BRIDGE_FAULT, 4 TELEM; 0 nothing. -/
def doorTripCause (s : State) (x : Door) (d : Nat) : Nat :=
  if x.state = .tripped then 0
  else if !(doorPermit .a s d) && !(gearedStops s x d) then 1 else if !(doorPermit .b s d) && !(gearedStops s x d) then 2
  else if bridgeBit x 1 then 3 else if 3 ≤ x.missed then 4 else 0

/-- STOPPING at rest goes on to OPENING after a reversal, else to REST (R334). -/
def stoppingEnds (k : DoorCfg) (x : Door) : Door :=
  if x.state = .stopping ∧ x.v9 = 0 then
    if x.rev then startMove k true false { x with rev := false } else { x with state := .rest, plan := [] }
  else x

/-- A speed write acts from the next frame, unless the deceleration has begun (R333). -/
def takeProfile (k : DoorCfg) (x : Door) : Door :=
  if x.replan then
    match x.plan with
    | e :: _ => if e.phase = .accel ∨ e.phase = .cruise then planMove k x else { x with replan := false }
    | [] => { x with replan := false }
  else x

/-- The set-points of an update. -/
def doorMotion (k : DoorCfg) (held : Bool) (s : State) : State :=
  let d := k.ch
  let x := dorOf s d
  match x.state with
  | .opening => putDor s d (planStep k (takeProfile k x))
  | .closing => putDor s d (planStep k (takeProfile k x))
  | .stopping => if held then s else putDor s d (planStep k x)
  | .geared => gearedUpdate k s
  | .tripped => putDor s d { x with p2 := measuredPos x * unit2, v9 := 0 }
  | _ => putDor s d { x with v9 := 0, plan := [] }

/-- DOOR_UPDATE: one channel at one update. -/
def doorUpdate (d : Nat) (s : State) : State :=
  match doorCfg s d with
  | none => s
  | some k =>
    if running s .io = false ∨ (dorOf s d).state = .off then s
    else
      let (served, x) := takeReturn s k (dorOf s d)
      let x := if (dorOf s d).arrived then offsetUpdate k x else x
      let cause := doorTripCause s x d
      let s := if cause = 0 then putDor s d (stoppingEnds k x) else doorTrip d cause (putDor s d x)
      let (held, s) := doorObstruct k served s
      let x := dorOf s d
      let s := if engages s k x then putDor s d (engage s k x) else s
      let s := doorMotion k held (defaultOpening k s)
      let x := settleGear (dorOf s d)
      let s := putDor s d { x with hoistArrive := decide ((hstOf s (d / 2)).state = .arrive), openAsked := false }
      acqSample (272 + d) (wordI (measuredPos x)) false (some 50000) (buildFrame k s)

/-- A return frame arrives (R326, R334, R346): the first with ENC_OK brings a channel out of OFF, and OVERTEMP is told. -/
def doorReturn (d : Nat) (r : DoorReturn) (s : State) : State :=
  if (doorCfg s d).isNone then s
  else
    let x := { dorOf s d with ret := some r, arrived := true }
    let hot := r.status.testBit 2
    let s := raiseIf (hot && !x.hotBridge) (1283 + 4 * d) [] s
    let x := { x with hotBridge := hot }
    putDor s d (if x.state = .off ∧ r.status.testBit 3 = true then
      { x with state := .rest, p2 := r.pos * unit2, v9 := 0, plan := [], missed := 0, taken := none } else x)

/-! ## Commands (R334) -/

/-- A command is done. -/
def doorDone (d : Nat) (x : Door) (s : State) : State := putDor s d { x with lastOk := true }

/-- OPEN, CLOSE and NUDGE judged in order: 0 for accepted. -/
def moveRefusal (s : State) (k : DoorCfg) (x : Door) (opens : Bool) : Nat :=
  if x.state ≠ .rest then 1
  else if (if opens then isOpened k x else isClosed k x) then 1
  else if !(doorPermit .a s k.ch) || !(doorPermit .b s k.ch) then 2 else 0

/-- OPEN: a move from REST, or the reversal of a closing door at the next update; both permits are asked for either. -/
def doorOpen (k : DoorCfg) (s : State) : State :=
  let x := dorOf s k.ch
  if x.state = .closing then
    if !(doorPermit .a s k.ch) || !(doorPermit .b s k.ch) then doorRefuse k.ch 2 s else putDor s k.ch { x with openAsked := true }
  else
    let r := moveRefusal s k x true
    if r ≠ 0 then doorRefuse k.ch r s else doorDone k.ch (startMove k true false x) s

/-- CLOSE and NUDGE. -/
def doorClose (k : DoorCfg) (nudge : Bool) (s : State) : State :=
  let x := dorOf s k.ch
  let r := moveRefusal s k x false
  if r ≠ 0 then doorRefuse k.ch r s else doorDone k.ch (startMove k false false { x with nudge := nudge }) s

/-- STOP. -/
def doorStop (k : DoorCfg) (s : State) : State :=
  let x := dorOf s k.ch
  if x.state = .opening ∨ x.state = .closing ∨ x.state = .geared then doorDone k.ch (settleGear (stopMove k false x)) s
  else doorRefuse k.ch 1 s

/-- RESET: STATE, PERMIT, then STATE again. -/
def doorReset (k : DoorCfg) (s : State) : State :=
  let x := dorOf s k.ch
  if x.state ≠ .tripped then doorRefuse k.ch 1 s
  else if !(doorPermit .a s k.ch) || !(doorPermit .b s k.ch) then doorRefuse k.ch 2 s
  else if !(bridgeBit x 0) || bridgeBit x 1 || !(bridgeBit x 3) then doorRefuse k.ch 1 s
  else doorDone k.ch { x with state := .rest, missed := 0 } s

/-- ARM_ADO and DISARM_ADO. -/
def doorArm (k : DoorCfg) (s : State) : State :=
  let x := dorOf s k.ch
  if x.state = .rest ∧ k.adoDist ≠ 0 then doorDone k.ch { x with armed := true } s else doorRefuse k.ch 1 s
def doorDisarm (k : DoorCfg) (s : State) : State :=
  let x := dorOf s k.ch
  if x.state = .off then doorRefuse k.ch 1 s else doorDone k.ch { x with armed := false } s

/-- A command, profile write or commit of an enabled channel, refused with SOURCE while a compute die is lost (R343). -/
def onDoor (d : Nat) (f : DoorCfg → State → State) (s : State) : State :=
  match doorCfg s d with
  | none => s
  | some k => if running s .io = false then s else if doorSourceLost s then doorRefuse d 3 s else f k s

/-- A write of DOR_CMD. -/
def doorCommand (d cmd : Nat) (s : State) : State :=
  match cmd with
  | 1 => onDoor d doorOpen s
  | 2 => onDoor d (fun k => doorClose k false) s
  | 3 => onDoor d (fun k => doorClose k true) s
  | 4 => onDoor d doorStop s
  | 5 => onDoor d doorReset s
  | 6 => onDoor d doorArm s
  | 7 => onDoor d doorDisarm s
  | _ => s

/-- Profile writes (R333): DOR_PROF and DOR_ACC act from the next frame or phase, DOR_TARGET on the next open move. -/
def profWrite (d : Nat) (v : Word) (s : State) : State :=
  onDoor d (fun _ s => doorDone d { dorOf s d with vopen := some (fld v 31 16), vclose := some (fld v 15 0), replan := true } s) s
def accWrite (d : Nat) (v : Word) (s : State) : State :=
  onDoor d (fun _ s => doorDone d { dorOf s d with acc := some (fld v 31 16), replan := true } s) s
def targetWrite (d : Nat) (v : Word) (s : State) : State :=
  onDoor d (fun _ s => doorDone d { dorOf s d with target := some v.toInt } s) s

/-- The check of COMMIT (R341). -/
def gearOk (s : State) (k : DoorCfg) (x : Door) : Bool :=
  let g := stagingGear k x
  let scale := match fbkCfg s (k.ch / 2) with | some f => fbkScale s f | none => 0
  (List.range 4).all (fun i => decide (0 ≤ g.ratio i)
      && decide ((g.ratio i).toNat * k.adoVmax * 256 / Nat.max 1 scale ≤ vopenActs k x))
    && decide (g.shift 0 < g.shift 1) && decide (g.shift 1 < g.shift 2)

/-- GEAR_COMMIT: refused with GEAR, live at once, or at the next shift point while GEARED. -/
def gearCommit (d : Nat) (s : State) : State :=
  onDoor d (fun k s =>
    let x := dorOf s d
    if gearOk s k x then
      let g := stagingGear k x
      doorDone d (if x.state = .geared then { x with waiting := some g } else { x with live := some g }) s
    else doorRefuse d 4 s) s

/-- A mode switch that has waited 100 ms for a current zero is sent at once, with event source 1283 + 4d (R329). -/
def modeTimeout (d : Nat) (s : State) : State :=
  let x := dorOf s d
  if x.switchDue then raise (1283 + 4 * d) [] (putDor s d { x with strong := !x.strong, switchDue := false }) else s

/-! ## Release (R334, R344) -/

/-- What a channel keeps through a reset of the island: its error counts and its frame count. -/
def doorKept (x : Door) : Door :=
  { ({} : Door) with telem := x.telem, stalls := x.stalls, reversals := x.reversals, seq := x.seq }

/-- A channel at the release of the I/O island: OFF, at a warm start with its offsets, profile registers and gear table. -/
def doorRelease (warm : Bool) (saved : Tab Door) (s : State) : State :=
  let kept := (s.dor.map (fun e => (e.1, doorKept e.2))).filter (fun e => decide (e.2 ≠ {}))
  let s : State := { s with dor := kept }
  if warm then
    s.img.doors.foldl (fun s k =>
      let o := tget ({} : Door) saved k.ch
      putDor s k.ch { dorOf s k.ch with
        vopen := o.vopen, vclose := o.vclose, acc := o.acc, target := o.target, quiet := o.quiet, strongOff := o.strongOff
        staging := o.staging, live := o.live }) s
  else s

/-! ## Registers -/

/-- DOR_STATE. -/
def doorStateReg (s : State) (k : DoorCfg) (x : Door) : Word :=
  regOf [(31, 29, doorCode x.state), (28, 28, b2n (x.ret.isSome && isClosed k x)), (27, 27, b2n (x.ret.isSome && isOpened k x)),
    (26, 26, b2n x.strong), (25, 25, b2n x.nudge), (24, 24, b2n x.armed), (23, 23, b2n x.rev),
    (22, 22, b2n (doorSourceLost s)), (21, 19, x.revCause), (18, 16, x.tripCause), (15, 12, x.refuse), (7, 0, x.revCount)]

/-- A word of a gear table at 8 × k + 4 × (ratio). -/
def gearWord (g : GearTable) (o : Nat) : Word := if o % 8 = 0 then wordN (g.shift (o / 8)) else wordI (g.ratio (o / 8))

/-- A register of window `d`. -/
def doorReg (s : State) (d off : Nat) : Option Word :=
  let x := dorOf s d
  let v : Option (DoorCfg → Word) :=
    match off with
    | 0x000 => some (fun k => doorStateReg s k x)
    | 0x004 => some (fun _ => 0)
    | 0x008 => some (fun k => regOf [(31, 16, x.vopen.getD k.vopen), (15, 0, x.vclose.getD k.vclose)])
    | 0x00C => some (fun k => regOf [(31, 16, x.acc.getD k.acc), (15, 8, k.creepV), (7, 0, k.creepD)])
    | 0x010 => some (fun k => wordI (x.target.getD ((k.stroke * 100 : Nat) : Int)))
    | 0x014 => some (fun k => regOf [(31, 24, k.ekLim), (23, 16, k.ekNudge), (15, 8, k.forceLim), (7, 0, k.obstN)])
    | 0x018 => some (fun k => regOf [(31, 16, k.mass), (15, 8, k.kf), (7, 0, k.friction)])
    | 0x01C => some (fun k => regOf [(31, 16, ampFmax k), (15, 0, k.ampHold)])
    | 0x020 => some (fun k => regOf [(31, 31, b2n k.isHeavy), (30, 30, b2n k.fixStrong), (29, 20, k.vqs), (19, 12, k.vhys)])
    | 0x024 => some (fun k => regOf [(31, 16, k.adoDist), (15, 0, k.adoVmax)])
    | 0x028 => some (fun _ => wordI (doorPosSet x))
    | 0x02C => some (fun _ => wordI (measuredPos x))
    | 0x030 => some (fun _ => wordI (doorVelSet x))
    | 0x034 => some (fun _ => regOf [(31, 16, twos 16 x.force), (15, 0, twos 16 (x.peak.getD 0))])
    | 0x038 => some (fun k =>
        let o := offsetsNow k x
        regOf [(31, 16, twos 16 (roundDiv o.a (2 ^ 20))), (15, 0, twos 16 (roundDiv o.b (2 ^ 20)))])
    | 0x03C => some (fun _ => regOf [(23, 16, x.telem), (15, 8, x.stalls), (7, 0, x.reversals)])
    | 0x040 => some (fun _ => regOf [(30, 30, b2n x.waiting.isSome), (29, 28, if x.state = .geared then x.seg else 0),
        (23, 0, Nat.min x.n 0xFFFFFF)])
    | o =>
      if 0x100 ≤ o ∧ o < 0x120 ∧ o % 4 = 0 then some (fun k => gearWord (stagingGear k x) (o - 0x100))
      else if 0x180 ≤ o ∧ o < 0x1A0 ∧ o % 4 = 0 then some (fun k => gearWord (liveGear k x) (o - 0x180))
      else none
  match v, doorCfg s d with
  | none, _ => none
  | some _, none => some 0
  | some f, some k => some (f k)

/-- A write to a register of window `d`. -/
def doorWrite (d off : Nat) (v : Word) (s : State) : State :=
  match doorCfg s d with
  | none => s
  | some k =>
    let x := dorOf s d
    match off with
    | 0x004 => doorCommand d (fld v 3 0) s
    | 0x008 => profWrite d v s
    | 0x00C => accWrite d v s
    | 0x010 => targetWrite d v s
    | 0x03C => if bitAt v 31 then putDor s d { x with telem := 0, stalls := 0, reversals := 0 } else s
    | 0x040 => if bitAt v 31 then gearCommit d s else s
    | o =>
      if 0x100 ≤ o ∧ o < 0x120 ∧ o % 4 = 0 then
        let g := stagingGear k x
        let i := (o - 0x100) / 8
        onDoor d (fun _ s => doorDone d { x with staging := some (if o % 8 = 0 then { g with shifts := g.shifts.set i v.toNat }
          else { g with ratios := g.ratios.set i v.toInt }) } s) s
      else s

end Sys2Proof.Machine
end

