-- ==== Sys2Proof/Machine/DspOps.lean ====
section
/-! DEFINITION. The DSP unit and the planner program: the call port, plans and their cost, the candidate search, queue operations
and the unit's registers (R347 to R373). -/
namespace Sys2Proof.Machine

def grpOf (s : State) (g : Nat) : Grp := tget ({} : Grp) s.dsp.groups g
def putGrp (s : State) (g : Nat) (x : Grp) : State :=
  { s with dsp := { s.dsp with groups := tset ({} : Grp) s.dsp.groups g x } }
def groupCfg (s : State) (g : Nat) : Option GroupCfg := s.img.groups.find? (fun k => decide (k.no = g))
def groupOf (s : State) (c : Nat) : Option GroupCfg := s.img.groups.find? (fun k => k.cars.contains c)
def groupCars (s : State) (g : Nat) : List Nat := ((groupCfg s g).map (·.cars)).getD []

/-- A held call and its fields (R350). -/
def callOf (x : Grp) (t : Nat) : Option Call := tget none x.calls t
def Call.kind (c : Call) : Nat := fld c.w0 31 28
def Call.persons (c : Call) : Nat := fld c.w0 27 24
def Call.origin (c : Call) : Nat := fld c.w0 23 16
def Call.dest (c : Call) : Nat := fld c.w0 15 8
def Call.deckAsk (c : Call) : Nat := fld c.w0 7 6
def Call.cls (c : Call) : Nat := fld c.w0 5 4
def Call.carIndex (c : Call) : Nat := fld c.w0 3 0
def Call.profile (c : Call) : Nat := fld c.w1 31 24
def Call.ref (c : Call) : Nat := fld c.w1 15 0
def Call.isHall (c : Call) : Bool := decide (c.kind = 1 ∨ c.kind = 2)
def putCall (x : Grp) (t : Nat) (c : Option Call) : Grp := { x with calls := tset none x.calls t c }

def planOf (x : Grp) (c : Nat) : List Stop := tget ([] : List Stop) x.plans c
def putPlan (x : Grp) (c : Nat) (p : List Stop) : Grp := { x with plans := tset ([] : List Stop) x.plans c p }
def slotOf (x : Grp) (k : Nat) : Option StopSlot := tget none x.slots k
def putSlot' (x : Grp) (k : Nat) (v : Option StopSlot) : Grp := { x with slots := tset none x.slots k v }

/-- The TAG of a slot (R354). -/
def tagOf (g k : Nat) (v : StopSlot) : Word := regOf [(26, 24, g), (23, 8, v.gen), (7, 0, k)]

/-- Event sources of a group (R373). -/
def dspRaise (g k : Nat) (data : List Word) (s : State) : State := raise (2048 + 16 * g + k) data s

/-- The DSP unit and a group's planner CEs run, in full service (R28). -/
def plannersRun (s : State) (g : Nat) : Bool :=
  running s .comp0 && decide (serviceSet s.dies = 3) && (match plannersOf s.img g with
    | n :: _ => running s (if n < 64 then .comp0 else .comp1)
    | [] => false)

/-! ## Cars, decks and landings (R357, R363, R366) -/

/-- A car is in service (R363). -/
def inService (s : State) (g c : Nat) : Bool :=
  let h := hstOf s c
  let f := fbkOf s c
  (grpOf s g).avail.testBit ((groupCars s g).findIdx (fun x => decide (x = c))) && decide (h.state ≠ .tripped) && !h.parked
    && !h.sourceLost && !f.degraded && !f.tripReq

/-- A deck as a candidate tries it: its number (0 for a car with one deck), the LANDING of the entry, and the boarding landing. -/
structure Boarding where
  deck : Nat
  entry : Nat
  board : Nat
deriving DecidableEq, Repr, Inhabited

/-- The entry landing at which a deck serves a landing. -/
def deckStop (k : CarCfg) (deck l : Nat) : Option Nat :=
  if k.pairs = [] then (if k.served.contains l then some l else none)
  else (k.pairs.find? (fun p => decide ((if deck = 2 then p.upper else p.lower) = l))).map (·.lower)

/-- How a car can board a call (R366): the deck that serves its landing, and both decks at a lobby pair. -/
def boardings (k : CarCfg) (ask l : Nat) : List Boarding :=
  if k.pairs = [] then (if ask ≤ 1 ∧ k.served.contains l = true then [{ deck := 0, entry := l, board := l }] else [])
  else [1, 2].filterMap (fun d =>
    if ask = 0 ∨ ask = d then
      match k.pairs.find? (fun p => decide ((if d = 2 then p.upper else p.lower) = l)
          || (p.lobby && decide (p.lower = l ∨ p.upper = l))) with
      | some p => some { deck := d, entry := p.lower, board := if d = 2 then p.upper else p.lower }
      | none => none
    else none)

/-- A door side of the car opens at an entry landing. -/
def sideAt (s : State) (c l : Nat) : Bool := s.img.doors.any (fun k => decide (k.ch / 2 = c) && k.landings.contains l)

/-- How a call can board and where it is dropped, by deck: (deck, boarding, drop entry). A call already aboard and a car call have no
boarding. -/
structure Route where
  deck : Nat
  pick : Option Boarding
  drop : Option Nat
deriving DecidableEq, Repr, Inhabited

def routes (k : CarCfg) (c : Call) : List Route :=
  if c.kind = 4 then
    (if k.pairs = [] then [0] else [1, 2]).filterMap (fun d =>
      if k.pairs = [] ∨ c.deckAsk = 0 ∨ c.deckAsk = d then
        (deckStop k d c.dest).map (fun e => { deck := d, pick := none, drop := some e }) else none)
  else if c.state = .boarded then
    ((deckStop k c.deck c.dest).map (fun e => [{ deck := c.deck, pick := none, drop := some e }])).getD []
  else (boardings k c.deckAsk c.origin).filterMap (fun b =>
    if c.kind = 3 then (deckStop k b.deck c.dest).map (fun e => { deck := b.deck, pick := some b, drop := some e })
    else some { deck := b.deck, pick := some b, drop := none })

/-! ## Flight times (R349) -/

/-- A duration in ns as whole ms, rounded up. -/
def upMs (ns : Nat) : Nat := (ns + 999999) / 1000000

/-- The planned time of R256 over a distance in 10 µm, from rest to rest. -/
def flightMs (k : CarCfg) (d : Nat) : Nat :=
  if d = 0 then 0
  else upMs (duration (planFromRest (limitsOf k) (k.vstart * giga)
    [{ d := (d : Int) * count6, cap := k.vmax * giga, vend := Nat.min k.vstop k.vmax * giga }]).2)

/-- The landing positions of a group: FBK_LANDk of its lowest car that serves the landing. -/
def groupLands (s : State) (g : Nat) : Tab Int :=
  let cars := groupCars s g
  s.img.landings.foldl (fun t l =>
    match cars.find? (fun c => match carCfg s c with | some k => k.served.contains l.no | none => false) with
    | some c => tset 0 t l.no (landSill s c l.no)
    | none => t) []

/-- The table entry for a pair of landings. -/
def tableMs (x : Grp) (k : CarCfg) (a b : Nat) : Nat :=
  if a = b then 0 else flightMs k (tget 0 x.lands a - tget 0 x.lands b).natAbs

/-! ## Time, cost and energy of a plan (R357, R359, R369) -/

/-- A stretch of time at which a car occupies a span of its shaft. -/
structure Span where
  t0 : Nat
  t1 : Nat
  lo : Int
  hi : Int
deriving DecidableEq, Repr

/-- What evaluating a plan adds up. -/
structure Chain where
  ok : Bool := true
  t : Nat := 0
  pos : Int
  land : Option Nat
  dir : Int
  /-- Riders aboard: token and persons, and the load in kg. -/
  aboard : List (Nat × Nat)
  load : Int
  pickAt : List (Nat × Nat) := []
  leftAt : List (Nat × Nat) := []
  dropAt : List (Nat × Nat) := []
  spans : List Span := []
  /-- Motoring and regenerated energy in 10^-6 Wh; legs as (departure in ms, regenerated energy); and for each stop whether its move
  carries no riders and no pick stop. -/
  motor : Nat := 0
  regen : List (Nat × Nat) := []
  empty : List Bool := []
deriving Repr

/-- Weights and the time model in ms (R359). -/
structure Weights where
  wait : Nat
  ride : Nat
  stop : Nat
  long : Nat
  longWait : Nat
  gain : Nat
  lock : Nat
  energy : Nat
  base : Nat
  pp : Nat
  tstart : Nat
  est : Nat

def weightsOf (x : Grp) : Weights := {
  wait := fld x.weight0 31 24, ride := fld x.weight0 23 16, stop := fld x.weight0 15 8, long := fld x.weight0 7 0
  longWait := fld x.weight1 31 24 * 1000, gain := fld x.weight1 23 16 * 1000, lock := fld x.weight1 15 8 * 1000
  energy := fld x.weight1 7 0, base := fld x.dwell 31 24 * 100, pp := fld x.dwell 23 16 * 100, tstart := fld x.dwell 15 8 * 10
  est := Nat.max 1 (fld x.dwell 7 4) }

/-- Persons of a call. -/
def personsOf (w : Weights) (c : Call) : Nat :=
  if c.kind = 4 then 0 else if c.kind = 3 ∧ c.persons ≠ 0 then c.persons else w.est

def sgn (i : Int) : Int := if i < 0 then -1 else if 0 < i then 1 else 0

/-- The head of a plan is the committed stop of a car under way. -/
def committedHead (s : State) (g c : Nat) (p : List Stop) : Bool :=
  let h := hstOf s c
  let x := grpOf s g
  (moving h || decide (h.state = .arrive) || decide (h.state = .start)) && (match p, firstStop h.queue with
    | st :: _, some e => (match st.slot with
      | some k => (match slotOf x k with | some v => decide (tagOf g k v = e.w3) | none => false)
      | none => false)
    | _, _ => false)

/-- The time in ms from the set-point state of a car under way to the head of its plan at `sill` (R256): what is left of its flight where
the head is its committed stop; the flight joined anew towards another head (R271); a stopping car starts again from its halt, and a
flight that the queue does not guide from its own end. -/
def firstLegMs (s : State) (w : Weights) (k : CarCfg) (h : Hoist) (committed : Bool) (sill : Int) : Nat :=
  if h.state = .arrive then 0
  else
    let t := upMs (duration h.pieces)
    if h.state = .stopping then t + w.tstart + flightMs k (sill - movingStop k h).natAbs
    else if h.noEntry then t + w.tstart + flightMs k (sill - h.target).natAbs
    else if committed then t
    else
      let base := baseCap s k h
      upMs (duration (planLegs (limitsOf k) 1 true (speedOf h.motion) h.motion.a
        [{ d := h.dir * (sill - h.origin) * count6 - h.motion.s6, cap := base * giga, vend := Nat.min k.vstop base * giga }]))

/-- The energy of a leg (R369) in 10^-6 Wh, signed: 9.81 Δh (m − BALANCE × RATED_LOAD / 100) / 3,600. -/
def legEnergy (k : CarCfg) (dh load : Int) : Int :=
  Int.fdiv (981 * dh * (100 * load - ((k.balance * k.ratedLoad : Nat) : Int))) 3600000

/-- Persons boarding and alighting at a stop: the longer of the two decks counts. -/
def stopPersons (w : Weights) (call : Nat → Option Call) (st : Stop) : Nat :=
  let sum (d : Nat) : Nat := (st.picks ++ st.drops).foldl (fun n t => match call t with
    | some c => if c.deck = d ∨ (d = 1 ∧ c.deck = 0) then n + personsOf w c else n
    | none => n) 0
  Nat.max (sum 1) (sum 2)

/-- One stop of a plan added to the chain. -/
def chainStop (s : State) (x : Grp) (w : Weights) (k : CarCfg) (h : Hoist) (call : Nat → Option Call) (dropLand : Nat → Option Nat)
    (committed : Bool) (i : Nat) (st : Stop) (a : Chain) : Chain :=
  let c := k.no
  let sill := landSill s c st.landing
  let first := decide (i = 0) && (moving h || (committed && decide (h.state = .arrive)))
  let moves := !first && decide (a.land ≠ some st.landing)
  let rest := if moves then w.tstart else 0
  let fly := if first then firstLegMs s w k h committed sill
    else if moves then (match a.land with
      | some l => tableMs x k l st.landing
      | none => flightMs k (sill - a.pos).natAbs)
    else 0
  let d := sgn (sill - a.pos)
  let reverses := decide (d ≠ 0) && decide (a.dir ≠ 0) && decide (d ≠ a.dir)
    && a.aboard.any (fun r => match dropLand r.1 with
      | some l => decide (0 < (landSill s c l - a.pos) * a.dir)
      | none => false)
  let e := legEnergy k (sill - a.pos) a.load
  let t1 := a.t + rest
  let t2 := t1 + fly
  let origin := if first then h.origin else a.pos
  let spans := a.spans ++ (if rest = 0 then [] else [{ t0 := a.t, t1 := t1, lo := a.pos, hi := a.pos }])
    ++ [{ t0 := t1, t1 := t2, lo := min origin sill, hi := max origin sill }]
  let emptyMove := decide (a.aboard = []) && decide (st.picks = [])
  let outN : Nat := (a.aboard.filter (fun r => st.drops.contains r.1)).foldl (fun n r => n + r.2) 0
  let left := a.aboard.filter (fun r => !(st.drops.contains r.1))
  let come := st.picks.filterMap (fun t => (call t).map (fun c => (t, personsOf w c)))
  let inN : Nat := come.foldl (fun n r => n + r.2) 0
  let aboard := left ++ come
  let full := decide (k.capacity < aboard.foldl (fun n r => n + r.2) 0)
  let t3 := t2 + w.base + w.pp * stopPersons w call st
  { a with
    ok := a.ok && sideAt s c st.landing && !reverses && !full
    t := t3, pos := sill, land := some st.landing, dir := if d = 0 then a.dir else d, aboard := aboard
    load := a.load + 75 * ((inN : Int) - outN)
    pickAt := a.pickAt ++ st.picks.map (fun t => (t, t2)), leftAt := a.leftAt ++ st.picks.map (fun t => (t, t3))
    dropAt := a.dropAt ++ st.drops.map (fun t => (t, t2))
    spans := spans ++ [{ t0 := t2, t1 := t3, lo := sill, hi := sill }]
    motor := a.motor + (if 0 < e then e.toNat * 100 / Nat.max 1 k.motorEff else 0)
    regen := if first then a.regen else a.regen ++ [(a.t, (-e).toNat * k.regenEff / 100)]
    empty := a.empty ++ [emptyMove] }

/-- The landing at which a car stands. -/
def carLanding (s : State) (k : CarCfg) : Option Nat :=
  k.served.find? (fun l => decide ((landSill s k.no l - fusedPos s k.no).natAbs ≤ k.levelTol))

/-- A plan of a car laid out in time, with `call` giving the held calls. -/
def layOut (s : State) (g : Nat) (k : CarCfg) (call : Nat → Option Call) (p : List Stop) : Chain :=
  let x := grpOf s g
  let w := weightsOf x
  let c := k.no
  let h := hstOf s c
  let pos := fusedPos s c
  let dropLand (t : Nat) : Option Nat := (p.find? (fun st => st.drops.contains t)).map (·.landing)
  let picked := p.flatMap (·.picks)
  let aboard := (p.flatMap (·.drops)).filterMap (fun t =>
    if picked.contains t then none else (call t).map (fun c => (t, personsOf w c)))
  let dir := if moving h then h.dir
    else match p.find? (fun st => st.drops.any (fun t => aboard.any (fun r => decide (r.1 = t)))) with
      | some st => sgn (landSill s c st.landing - pos)
      | none => 0
  let i := (groupCars s g).findIdx (fun n => decide (n = c))
  let start : Chain := { pos := pos, land := carLanding s k, dir := dir, aboard := aboard, load := (tget 0 x.loads i : Nat) }
  (numbered p).foldl (fun a e => chainStop s x w k h call dropLand (committedHead s g c p) e.1 e.2 a) start

/-- A number as 64-bit arithmetic holds it (R360). DESIGN CHOICE, log entry 158: two's complement, wrapping. -/
def w64 (i : Int) : Int := (BitVec.ofInt 64 i).toInt

/-- What a call adds to the cost of a plan (R359, R360). -/
def callCost (w : Weights) (now : Nat) (a : Chain) (t : Nat) (c : Call) : Int :=
  let at? (l : List (Nat × Nat)) : Option Nat := (l.find? (fun e => decide (e.1 = t))).map (·.2)
  let wr : Nat × Nat := match at? a.pickAt, at? a.dropAt with
    | some p, d => ((now - c.accepted) / 1000000 + p, match d, at? a.leftAt with | some d, some l => d - l | _, _ => 0)
    | none, some d => (0, d)
    | none, none => (0, 0)
  let r := if c.isHall then 0 else wr.2
  let beyond := wr.1 - w.longWait
  let m : Int := match c.cls with | 0 => 1 | 1 => 2 | _ => 4
  w64 (m * w64 (w64 (w.wait * wr.1 : Nat) + w64 (w.ride * r : Nat) + Int.tdiv (w64 (w.long * beyond * beyond : Nat)) 1000))

/-- The cost of a plan in weighted ms (R359, R360). -/
def planCost (s : State) (g : Nat) (call : Nat → Option Call) (p : List Stop) (a : Chain) : Int :=
  let w := weightsOf (grpOf s g)
  let toks := ((p.flatMap (·.picks)) ++ (p.flatMap (·.drops)).filter (fun t => !((p.flatMap (·.picks)).contains t)))
  w64 (toks.foldl (fun n t => match call t with | some c => w64 (n + callCost w (devTime s) a t c) | none => n) 0
    + w64 (w.stop * 1000 * p.length : Nat) + w64 (w.energy * s.cmb.level * (a.motor / 1000000) : Nat))

/-! ## Shared shafts (R367, R368) -/

/-- Spans of a plan up to an instant far enough, the last position held; a car in flight without a plan occupies its flight's span. -/
def heldSpans (s : State) (k : CarCfg) (a : Chain) : List Span :=
  let h := hstOf s k.no
  let stay (t : Nat) (x : Int) : Span := { t0 := t, t1 := t + (1000000000 : Nat), lo := x, hi := x }
  if a.spans ≠ [] then a.spans ++ [stay a.t a.pos]
  else if moving h then
    let t := upMs (duration h.pieces)
    [{ t0 := 0, t1 := t, lo := min h.origin h.target, hi := max h.origin h.target }, stay t h.target]
  else [stay 0 (fusedPos s k.no)]

/-- At some instant the lower car's top and SEP_GAP exceed the upper car's bottom. -/
def spansClash (gap : Int) (lower upper : List Span) : Bool :=
  lower.any (fun l => upper.any (fun u => decide (l.t0 ≤ u.t1 ∧ u.t0 ≤ l.t1) && decide (u.lo < l.hi + gap)))

/-- A plan of a paired car clashes with a plan of its partner. -/
def clashes (s : State) (k kp : CarCfg) (a ap : Chain) : Bool :=
  let mine := heldSpans s k a
  let other := heldSpans s kp ap
  if k.upper then spansClash k.sepGap other mine else spansClash k.sepGap mine other

/-- The group and plan of the partner of a paired car. -/
def partnerOf (s : State) (k : CarCfg) : Option (GroupCfg × CarCfg) :=
  if k.paired then
    match groupOf s k.partner, carCfg s k.partner with
    | some gp, some kp => some (gp, kp)
    | _, _ => none
  else none

/-- The plan that a car holds its shaft with: a tripped car stays where it is (R372). -/
def planStands (s : State) (x : Grp) (c : Nat) : List Stop := if (hstOf s c).state = .tripped then [] else planOf x c

/-- The nearest landing outside a plan's span that an idle partner can be sent to. -/
def yieldLanding (s : State) (k kp : CarCfg) (a : Chain) : Option Nat :=
  let mine := heldSpans s k a
  let lo := mine.foldl (fun m x => min m x.lo) (fusedPos s k.no)
  let hi := mine.foldl (fun m x => max m x.hi) (fusedPos s k.no)
  let free := kp.served.filter (fun l =>
    let y := landSill s kp.no l
    if k.upper then decide (y + k.sepGap ≤ lo) else decide (hi + k.sepGap ≤ y))
  minBy (fun l => ((landSill s kp.no l - fusedPos s kp.no).natAbs : Int)) free

/-- The shared-shaft check of a plan: `some none` passes, `some (some l)` passes with a yield stop of the partner, which is in service, at
landing l. -/
def shaftCheck (s : State) (k : CarCfg) (a : Chain) : Option (Option Nat) :=
  match partnerOf s k with
  | none => some none
  | some (gp, kp) =>
    let xp := grpOf s gp.no
    let pp := planStands s xp k.partner
    let ap := layOut s gp.no kp (callOf xp) pp
    if !(clashes s k kp a ap) then some none
    else if pp = [] ∧ (hstOf s k.partner).state = .rest ∧ inService s gp.no k.partner = true then
      match yieldLanding s k kp a with
      | some l =>
        let st : Stop := { slot := none, landing := l, picks := [], drops := [] }
        if clashes s k kp a (layOut s gp.no kp (callOf xp) [st]) then none else some (some l)
      | none => none
    else none

/-! ## Candidates (R357, R358, R360, R361) -/

/-- Where a stop of a candidate goes: an index of the plan as it will be, and whether the stop is new there. -/
abbrev Spot := Nat × Bool

/-- All pairs of positions for a route in a plan (R358): indices in the plan with the pick in place. -/
def spots (p : List Stop) (r : Route) : List (Option Spot × Option Spot) :=
  let n := p.length
  let same (i l : Nat) : Bool := match p[i]? with | some st => decide (st.landing = l) | none => false
  match r.pick, r.drop with
  | none, none => []
  | none, some e => (List.range (n + 1)).map (fun h => (none, some (h, true)))
      ++ ((List.range n).filter (fun i => same i e)).map (fun i => (none, some (i, false)))
  | some b, none => (List.range (n + 1)).map (fun i => (some (i, true), none))
      ++ ((List.range n).filter (fun i => same i b.entry)).map (fun i => (some (i, false), none))
  | some b, some e =>
    (List.range (n + 1)).flatMap (fun i =>
      ((List.range (n + 1)).filter (fun h => decide (i ≤ h))).map (fun h => (some (i, true), some (h + 1, true)))
        ++ ((List.range n).filter (fun h => decide (i ≤ h) && same h e)).map (fun h => (some (i, true), some (h + 1, false))))
    ++ ((List.range n).filter (fun i => same i b.entry)).flatMap (fun i =>
      ((List.range (n + 1)).filter (fun h => decide (i < h))).map (fun h => (some (i, false), some (h, true)))
        ++ ((List.range n).filter (fun h => decide (i < h) && same h e)).map (fun h => (some (i, false), some (h, false))))

/-- A spot taken in a plan. -/
def takeSpot (p : List Stop) (sp : Spot) (landing : Nat) (f : Stop → Stop) : List Stop :=
  if sp.2 then p.take sp.1 ++ f { slot := none, landing := landing, picks := [], drops := [] } :: p.drop sp.1
  else (numbered p).map (fun e => if e.1 = sp.1 then f e.2 else e.2)

/-- The plan of a candidate. -/
def buildPlan (p : List Stop) (t : Nat) (r : Route) (sp : Option Spot × Option Spot) : List Stop :=
  let p := match sp.1, r.pick with
    | some i, some b => takeSpot p i b.entry (fun st => { st with picks := st.picks ++ [t] })
    | _, _ => p
  match sp.2, r.drop with
  | some i, some e => takeSpot p i e (fun st => { st with drops := st.drops ++ [t] })
  | _, _ => p

/-- A feasible candidate. -/
structure Choice where
  car : Nat
  route : Route
  sp : Option Spot × Option Spot
  dcost : Int
  eta : Nat
  plan : List Stop
  yieldAt : Option Nat
deriving DecidableEq, Repr, Inhabited

/-- The entry of a stop (R361, R366, R369). -/
def stopEntry (s : State) (g : Nat) (k : CarCfg) (st : Stop) (emptyMove : Bool) (tag : Word) : QEntry :=
  let x := grpOf s g
  let ecoLevel := Nat.min 8 (fld x.eco 31 28)
  let v := if ecoLevel ≠ 0 ∧ ecoLevel ≤ s.cmb.level ∧ emptyMove = true then fld x.eco 15 0 else 0
  let off : Int := match k.pairs.find? (fun p => decide (p.lower = st.landing)) with
    | some p => landSill s k.no p.upper - landSill s k.no p.lower - ((k.deckSpacing * 100 : Nat) : Int)
    | none => 0
  { w0 := wordI (landSill s k.no st.landing), w1 := regOf [(23, 16, st.landing)], w2 := regOf [(31, 16, v), (15, 0, twos 16 off)],
    w3 := tag }

/-- The TAG of a stop of a plan. -/
def stopTag (g : Nat) (x : Grp) (st : Stop) : Option Word := st.slot.bind (fun j => (slotOf x j).map (tagOf g j))

/-- Entries of a car that serve no call and wait for their removal: the index in the queue and the TAG. -/
def removals (s : State) (g c : Nat) : List (Nat × Word) :=
  (grpOf s g).slots.filterMap (fun e => match e.2 with
    | some v => if v.car = c ∧ v.dropping = true then
        ((hstOf s c).queue.findIdx? (fun q => decide (q.w3 = tagOf g e.1 v))).map (fun i => (i, tagOf g e.1 v)) else none
    | none => none)

/-- A written entry is to be replaced by a new one (R361): it has changed. Of the move under way only the cap is raised. -/
def rewrites (h : Hoist) (under : Bool) (old new : QEntry) : Bool :=
  decide (old ≠ new) && (!under || (moving h && decide (old = { new with w2 := old.w2 }) && decide (new.moveMax = 0)))

/-- The inserts and replacements that a car's plan needs, in plan order: a stop not yet written goes behind the one before it. -/
def planOps (s : State) (g : Nat) (k : CarCfg) : List (QueueOp × Word) :=
  let x := grpOf s g
  let h := hstOf s k.no
  let p := planOf x k.no
  let a := layOut s g k (callOf x) p
  let at? (tag : Word) : Option Nat := h.queue.findIdx? (fun q => decide (q.w3 = tag))
  (numbered p).filterMap (fun e =>
    match e.2.slot.bind (slotOf x), stopTag g x e.2 with
    | some v, some tag =>
      let n := stopEntry s g k e.2 (a.empty.getD e.1 false) tag
      if !v.written then
        let place := if e.1 = 0 then 0
          else (((p[e.1 - 1]?.bind (stopTag g x)).bind at?).map (· + 1)).getD h.queue.length
        some ({ op := 1, index := place, entry := n }, tag)
      else if v.kept then none
      else match at? tag with
        | some i => match h.queue[i]? with
          | some o =>
            let under := decide (e.1 = 0) && committedHead s g k.no p && (moving h || decide (h.state = .arrive))
            if rewrites h under o n then some ({ op := 2, index := i, entry := n }, tag) else none
          | none => none
        | none => none
    | _, _ => none)

/-- Operations still pending for a car. -/
def pendingOps (s : State) (g : Nat) (k : CarCfg) : Nat := (removals s g k.no).length + (planOps s g k).length

/-- Queue entries that a plan needs: its stops, and entries that still wait for their removal (R357). -/
def entriesOf (s : State) (g c : Nat) (p : List Stop) : Nat := p.length + (removals s g c).length

/-- The stop can be reached under R270 from the set-point state at the frame of tick k0 + p + 2 (R361). -/
def reachable (s : State) (g : Nat) (k : CarCfg) (l : Nat) : Bool :=
  let h := hstOf s k.no
  let m := (advance k.jerk h.pieces ((pendingOps s g k + 2) * 250000) h.motion).1
  let at6 := h.dir * (landSill s k.no l - h.origin) * count6
  decide (m.s6 ≤ at6) && meets (limitsOf k) (m.v2 / 2000000000).toNat m.a (at6 - m.s6) (Nat.min k.vstop k.vmax * giga)

/-- The candidate is refused before its plan is laid out (R357): the load, and a new first stop that a car under way cannot reach. A flight
that the queue does not guide is no bar. -/
def spotBarred (s : State) (g : Nat) (k : CarCfg) (p : List Stop) (r : Route) (sp : Option Spot × Option Spot) : Bool :=
  let x := grpOf s g
  let h := hstOf s k.no
  let i := (groupCars s g).findIdx (fun n => decide (n = k.no))
  let heavy := decide (80 * k.ratedLoad ≤ 100 * tget 0 x.loads i)
  let nd := p.findIdx (fun st => decide (st.drops ≠ []))
  let early := match sp.1 with
    | some (j, true) => decide (j ≤ nd)
    | some (j, false) => decide (j < nd)
    | none => false
  let ahead : Option Nat := match sp.1, sp.2 with
    | some (0, true), _ => r.pick.map (·.entry)
    | _, some (0, true) => r.drop
    | _, _ => none
  let unreached := match ahead with
    | some l => !h.noEntry && (decide (h.state = .arrive) || (moving h && !(reachable s g k l)))
    | none => false
  (heavy && early) || unreached

/-- One candidate evaluated: none if it is infeasible. -/
def tryCandidate (s : State) (g : Nat) (k : CarCfg) (call : Nat → Option Call) (p : List Stop) (base : Int) (t : Nat) (r : Route)
    (sp : Option Spot × Option Spot) : Option Choice :=
  if spotBarred s g k p r sp then none
  else
    let q := buildPlan p t r sp
    let call' (u : Nat) : Option Call := if u = t then (call u).map (fun c => { c with deck := r.deck }) else call u
    let a := layOut s g k call' q
    if !a.ok || decide (16 < entriesOf s g k.no q) then none
    else match shaftCheck s k a with
      | none => none
      | some y =>
        let w := weightsOf (grpOf s g)
        let cost := planCost s g call' q a + (if y.isSome then ((w.stop * 1000 : Nat) : Int) else 0)
        let at? (l : List (Nat × Nat)) : Option Nat := (l.find? (fun e => decide (e.1 = t))).map (·.2)
        some { car := k.no, route := r, sp := sp, dcost := w64 (cost - base),
               eta := match at? a.pickAt with | some e => e | none => (at? a.dropAt).getD 0, plan := q, yieldAt := y }

/-- The order of ties (R360): ΔC, car, pick position, drop position, deck. -/
def choiceKey (c : Choice) : List Int :=
  let pos (o : Option Spot) : Int := match o with | some e => (e.1 : Int) | none => -1
  [c.dcost, c.car, pos c.sp.1, pos c.sp.2, c.route.deck]
def keyLess : List Int → List Int → Bool
  | a :: s, b :: t => if a = b then keyLess s t else decide (a < b)
  | _, _ => false

/-- Every candidate of one car. -/
def carChoices (s : State) (g : Nat) (call : Nat → Option Call) (plans : Nat → List Stop) (t : Nat) (c : Call) (minPos n : Nat) :
    List Choice :=
  match carCfg s n with
  | none => []
  | some k =>
    if inService s g n = false then []
    else
      let p := plans n
      let base := planCost s g call p (layOut s g k call p)
      (routes k c).flatMap (fun r => ((spots p r).filter (fun sp =>
        match sp.1, sp.2 with
        | some i, _ => decide (minPos ≤ i.1)
        | none, some i => decide (minPos ≤ i.1)
        | none, none => false)).filterMap (tryCandidate s g k call p base t r))

/-- The cheapest of a list, the earliest among equals. -/
def cheapest : List Choice → Option Choice
  | [] => none
  | c :: t => match cheapest t with
    | none => some c
    | some d => if keyLess (choiceKey d) (choiceKey c) then some d else some c

/-- The drop of a call that has only one car, placed where no test passed (R357): the first feasible gap after the car's next reversal, or
the one right after it. -/
def forcedDrop (s : State) (g : Nat) (call : Nat → Option Call) (p : List Stop) (t : Nat) (c : Call) (n : Nat) : Option Choice :=
  match carCfg s n with
  | none => none
  | some k =>
    match routes k c with
    | [] => none
    | r :: _ =>
      let h := hstOf s n
      let turn := (numbered p).foldl (fun (a : Option Nat × Int × Int) e =>
        let y := landSill s n e.2.landing
        let d := sgn (y - a.2.1)
        (if a.1.isSome then a.1 else if d ≠ 0 ∧ a.2.2 ≠ 0 ∧ d ≠ a.2.2 then some e.1 else none, y, if d = 0 then a.2.2 else d))
        (none, fusedPos s n, if moving h then h.dir else 0)
      let i0 := Nat.max (turn.1.getD p.length) (if committedHead s g n p then 1 else 0)
      let planAt (i : Nat) : List Stop := buildPlan p t r (none, some (i, true))
      if 16 ≤ entriesOf s g n p then none
      else
        let fits (i : Nat) : Bool :=
          let a := layOut s g k call (planAt i)
          a.ok && (match shaftCheck s k a with | some none => true | _ => false)
        let i := (((List.range (p.length + 1)).filter (fun i => decide (i0 ≤ i))).find? fits).getD i0
        let q := planAt i
        let a := layOut s g k call q
        some { car := n, route := r, sp := (none, some (i, true)), dcost := 0,
               eta := ((a.dropAt.find? (fun e => decide (e.1 = t))).map (·.2)).getD 0, plan := q, yieldAt := none }

/-- The cars that may take a call. -/
def callCars (s : State) (g : Nat) (c : Call) : List Nat :=
  if c.kind = 4 ∨ c.state = .boarded then c.car.toList else groupCars s g

/-- The best candidate of a call (R358): of a CAR call and of one aboard, on its own car alone and never none for want of a test. -/
def bestChoice (s : State) (g : Nat) (t : Nat) (c : Call) (cars : List Nat) (minPos : Nat) : Option Choice :=
  let x := grpOf s g
  match cheapest (cars.flatMap (carChoices s g (callOf x) (planOf x) t c minPos)) with
  | some b => some b
  | none => if c.kind = 4 ∨ c.state = .boarded then
      (match cars with | n :: _ => forcedDrop s g (callOf x) (planOf x n) t c n | [] => none) else none

/-! ## Results and slots (R354, R355) -/

/-- A record in the result ring. -/
def ringPut (code deck board ref t car eta : Nat) (x : Grp) : Grp :=
  { x with
    ring := tset (0, 0) x.ring (x.resWr % 64) (regOf [(31, 28, code), (27, 26, deck), (23, 16, board), (15, 0, ref)],
      regOf [(31, 24, t), (21, 16, car), (15, 0, Nat.min 65535 (eta / 100))])
    resWr := (x.resWr + 1) % 65536 }

/-- The car of a held call; of one that waits to be inserted again, the car it leaves. -/
def callCar (x : Grp) (t : Nat) (c : Call) : Nat :=
  match c.car with
  | some n => n
  | none => ((x.redo.find? (fun r => decide (r.token = t))).map (·.car)).getD 0

/-- A call's record with a code. -/
def callRecord (code t eta : Nat) (c : Call) (x : Grp) : Grp := ringPut code c.deck c.board c.ref t (c.car.getD 0) eta x

/-- The free slots, lowest first. -/
def freeSlots (x : Grp) : List Nat := (List.range 256).filter (fun k => (slotOf x k).isNone)

/-- A slot is freed. -/
def freeSlot (k : Nat) (x : Grp) : Grp := putSlot' x k none

/-- New stops of a plan are given slots, lowest first, each with the next GEN; none when the slots run out. -/
def giveSlots (car : Nat) : List Stop → Grp → Option (List Stop × Grp)
  | [], x => some ([], x)
  | st :: t, x =>
    match st.slot with
    | some _ => (giveSlots car t x).map (fun r => (st :: r.1, r.2))
    | none => match freeSlots x with
      | [] => none
      | k :: _ =>
        let x := putSlot' { x with gen := x.gen % 65535 + 1 } k
          (some { gen := x.gen, car := car, written := false, dropping := false, kept := false })
        (giveSlots car t x).map (fun r => ({ st with slot := some k } :: r.1, r.2))

/-- A stop that serves no call any more leaves its plan (R355, R372): its slot is freed at once when its entry is neither written nor on its
way to the queue, else it waits for the removal. -/
def dropStopOf (st : Stop) (x : Grp) : Grp :=
  match st.slot with
  | some k => match slotOf x k with
    | some v =>
      let onWay := match tget none x.inflight v.car with | some (_, tag) => decide (fld tag 23 0 = v.gen * 256 + k) | none => false
      if v.written || onWay then putSlot' x k (some { v with dropping := true, kept := false }) else freeSlot k x
    | none => x
  | none => x

/-- A call leaves the plan of its car. -/
def unplan (t : Nat) (x : Grp) : Grp :=
  match callOf x t with
  | none => x
  | some c => match c.car with
    | none => x
    | some n =>
      let strip (st : Stop) : Stop := { st with picks := st.picks.filter (· ≠ t), drops := st.drops.filter (· ≠ t) }
      let idle (st : Stop) : Bool := decide (strip st ≠ st) && decide ((strip st).picks = []) && decide ((strip st).drops = [])
      let p := planOf x n
      let x := (p.filter idle).foldl (fun x st => dropStopOf st x) x
      let x := putPlan x n ((p.filter (fun st => !(idle st))).map strip)
      putCall x t (some { c with
        pick := none, drop := none, car := if c.kind = 4 ∨ c.state = .boarded then c.car else none })

/-- A call to be inserted again, once. -/
def askRedo (r : Redo) (x : Grp) : Grp :=
  if x.redo.any (fun q => decide (q.token = r.token)) then x else { x with redo := x.redo ++ [r] }

/-- A call returns to FREE. -/
def freeCall (t : Nat) (x : Grp) : Grp :=
  { putCall x t none with port := x.port.filter (· ≠ t), unordered := x.unordered.filter (· ≠ t), redo := x.redo.filter (fun r => decide (r.token ≠ t)) }

/-! ## Queue operations (R361) -/

/-- The next operation a car's queue needs: a removal of an entry that serves no call, else the first that its plan needs. -/
def nextOp (s : State) (g : Nat) (k : CarCfg) : Option (QueueOp × Word) :=
  match removals s g k.no with
  | (i, tag) :: _ => some ({ op := 3, index := i, entry := {} }, tag)
  | [] => (planOps s g k).head?

/-- One operation per car: the next one is staged and written, if none is under way and the car is in service. -/
def pumpCar (g : Nat) (s : State) (c : Nat) : State :=
  match carCfg s c with
  | none => s
  | some k =>
    let x := grpOf s g
    let h := hstOf s c
    if (tget none x.inflight c).isSome ∨ h.qPending.isSome ∨ inService s g c = false then s
    else match nextOp s g k with
      | none => s
      | some (o, tag) =>
        let s := putHst s c { h with stage := o.entry, qIndex := o.index, qResult := 15, qPending := some o }
        putGrp s g { x with inflight := tset none x.inflight c (some (o.op, tag)) }

def pumpGroup (g : Nat) (s : State) : State := (groupCars s g).foldl (pumpCar g) s

/-- REACH_LO and REACH_HI of the shafts of a group's paired cars (R368). -/
def reachOf (s : State) (g : Nat) (k : CarCfg) : Int :=
  let ys := (planOf (grpOf s g) k.no).map (fun st => landSill s k.no st.landing)
  match ys with
  | [] => fusedPos s k.no
  | y :: t => t.foldl (fun m z => if k.upper then min m z else max m z) y
def writeReach (g : Nat) (s : State) : State :=
  (groupCars s g).foldl (fun s c => match carCfg s c with
    | some k => if k.paired then
        let r := reachOf s g k
        let o := tget (0, 0) s.dsp.shafts k.shaft
        { s with dsp := { s.dsp with shafts := tset (0, 0) s.dsp.shafts k.shaft (if k.upper then (o.1, r) else (r, o.2)) } }
      else s
    | none => s) s

/-! ## Lost stops and service (R363) -/

/-- Written entries of a group that stand in no queue, whose removal is not under way and that have not been released: lost stops, whose
calls are inserted again, each with its event. -/
def lostStops (g : Nat) (s : State) : State :=
  let x := grpOf s g
  let lost := x.slots.filterMap (fun e => match e.2 with
    | some v =>
      let tag := tagOf g e.1 v
      if v.written ∧ !((hstOf s v.car).queue.any (fun q => decide (q.w3 = tag))) ∧ !(s.dsp.released.contains tag)
          ∧ (match tget none x.inflight v.car with | some (_, t) => decide (t ≠ tag) | none => true) = true
      then some (e.1, v) else none
    | none => none)
  lost.foldl (fun s e =>
    let x := freeSlot e.1 (grpOf s g)
    let p := planOf x e.2.car
    let mine (st : Stop) : Bool := decide (st.slot = some e.1)
    let toks := (p.filter mine).flatMap (fun st => st.picks ++ st.drops)
    let x := putPlan x e.2.car (p.filter (fun st => !(mine st)))
    let x := toks.foldl (fun x t => askRedo { token := t, mode := .again, car := e.2.car } (unplan t x)) x
    dspRaise g 5 [] (putGrp s g x)) s

/-- The ASSIGNED calls of a car are inserted again, ahead of the calls at the port, with the event. -/
def insertAgain (g c : Nat) (s : State) : State :=
  let x := grpOf s g
  let toks := x.calls.filterMap (fun e => match e.2 with
    | some v => if v.car = some c ∧ v.state = .assigned ∧ v.kind ≠ 4 then some e.1 else none
    | none => none)
  let x := toks.foldl (fun x t => askRedo { token := t, mode := .again, car := c } (unplan t x)) x
  raiseIf (decide (toks ≠ [])) (2048 + 16 * g + 4) [] (putGrp s g x)

/-- The partner of a tripped car has a planned flight through the place where it stands (R372). -/
def tripBars (s : State) (g : Nat) (k : CarCfg) : Option (Nat × Nat) :=
  match partnerOf s k with
  | none => none
  | some (gp, kp) =>
    let a := layOut s g k (callOf (grpOf s g)) []
    let ap := layOut s gp.no kp (callOf (grpOf s gp.no)) (planOf (grpOf s gp.no) kp.no)
    if (hstOf s k.no).state = .tripped ∧ clashes s k kp a ap = true then some (gp.no, kp.no) else none

/-- A car that is out of service (R363): its ASSIGNED calls are inserted again, and those of a partner whose way a tripped car bars
(R372). -/
def leaveService (g c : Nat) (s : State) : State :=
  if inService s g c then s
  else
    let s := insertAgain g c s
    let s := match (carCfg s c).bind (tripBars s g) with
      | some (gp, n) => writeReach gp (insertAgain gp n s)
      | none => s
    writeReach g s

/-! ## Steps (R348, R358, R362, R364, R365) -/

/-- The bound of R364 in hs, and S. -/
def stepHs (s : State) (g : Nat) : Nat :=
  95000 * ceilDiv (groupCars s g).length (Nat.max 1 (plannersOf s.img g).length)

/-- The time from acceptance to result (R365). -/
def planTiming (g : Nat) (c : Call) (s : State) : State :=
  let hs := (devTime s - c.accepted) * 19 / 10
  let x := grpOf s g
  let n := Nat.min 32767 (hs / 1000)
  let isLate := decide (57000 + 17 * stepHs s g < hs)
  raiseIf isLate (2048 + 16 * g + 2) [] (putGrp s g { x with
    lastTime := n, maxTime := Nat.max x.maxTime n, late := x.late || isLate })

/-- A yield stop for a partner without calls (R367); none when the slots run out. -/
def addYield (s : State) (k : CarCfg) (l : Nat) : Option State :=
  match partnerOf s k with
  | none => none
  | some (gp, kp) =>
    let x := grpOf s gp.no
    (giveSlots kp.no (planOf x kp.no ++ [{ slot := none, landing := l, picks := [], drops := [] }]) x).map (fun r =>
      writeReach gp.no (pumpCar gp.no (putGrp s gp.no (putPlan r.2 kp.no r.1)) kp.no))

/-- A stop kept in the queue by a refused removal is one to be removed again once it has served a call (R355). -/
def joinKept (p : List Stop) (x : Grp) : Grp :=
  p.foldl (fun x st => match st.slot with
    | some k => match slotOf x k with
      | some v => if st.picks = [] ∧ st.drops = [] then x else putSlot' x k (some { v with kept := false })
      | none => x
    | none => x) x

/-- A chosen candidate becomes the plan of its car, with its yield stop; none when the slots run out. -/
def adopt (g t : Nat) (c : Call) (b : Choice) (s : State) : Option State :=
  let x := grpOf s g
  match giveSlots b.car b.plan x with
  | none => none
  | some (p, x) =>
    let slotAt (f : Stop → Bool) : Option Nat := match p.find? f with | some st => st.slot | none => none
    let board := match b.route.pick with | some y => y.board | none => if c.kind = 4 then c.dest else c.board
    let c := { c with
      car := some b.car, deck := b.route.deck, board := board, state := if c.state = .planning then .assigned else c.state
      pick := slotAt (fun st => st.picks.contains t), drop := slotAt (fun st => st.drops.contains t) }
    let s := putGrp s g (joinKept p (putCall (putPlan x b.car p) t (some c)))
    match b.yieldAt, carCfg s b.car with
    | some l, some k => addYield s k l
    | _, _ => some s

/-- Merged calls that waited are told behind the held call's first result (R372). -/
def tellMerged (g t eta : Nat) (s : State) : State :=
  let x := grpOf s g
  match callOf x t with
  | some c => putGrp s g (putCall (c.merged.foldl (fun x r => ringPut 1 c.deck c.board r t (c.car.getD 0) eta x) x) t
      (some { c with merged := [] }))
  | none => s

/-- One call inserted (R358, R361): ASSIGNED, REASSIGNED or REPLANNED with its ETA, or NO_CAR. A CAR call and one aboard are never told
NO_CAR (R357): where the queue is full or no slot is free they wait behind the calls at the port (log entry 136). -/
def placeCall (g t : Nat) (redo : Option Redo) (s : State) : State :=
  let x := grpOf s g
  match callOf x t with
  | none => s
  | some c =>
    let cars := callCars s g c
    let own := decide (c.kind = 4) || decide (c.state = .boarded)
    let best := match redo with
      | some r => (match r.mode with
        | .again => bestChoice s g t c cars 0
        | .behind i => if own then bestChoice s g t c cars i
          else match bestChoice s g t c [r.car] i with
            | some b => some b
            | none => bestChoice s g t c (cars.filter (· ≠ r.car)) 0
        | .exclude => if own then bestChoice s g t c cars 0 else bestChoice s g t c (cars.filter (· ≠ r.car)) 0)
      | none => bestChoice s g t c cars 0
    let first := decide (c.state = .planning)
    let s := match best.bind (fun b => (adopt g t c b s).map (fun s => (b, s))) with
      | some (b, s) =>
        let code := if first then 0 else if redo.any (fun r => decide (r.car = b.car)) then 4 else 3
        let x := grpOf s g
        let s := putGrp s g (match callOf x t with | some c => callRecord code t b.eta c x | none => x)
        tellMerged g t b.eta s
      | none =>
        let n := match redo with | some r => r.car | none => c.car.getD 0
        if own then putGrp s g { x with port := x.port.filter (· ≠ t) ++ [t] }
        else dspRaise g 0 [] (putGrp s g (freeCall t (callRecord 2 t 0 { c with car := some n } x)))
    if first && decide ((grpOf s g).port.contains t = false) then planTiming g c s else s

/-- The group's planners can take a step. -/
def canStep (s : State) (g : Nat) : Bool := (groupCfg s g).isSome && plannersRun s g && (grpOf s g).ready

/-- After a step: the changed entries are written, and REACH with them. -/
def stepEnds (g : Nat) (s : State) : State := writeReach g (pumpGroup g s)

/-- The boundary after a step: the step's ends, and at or after Th of a code handover the group's planner CEs switch (R371). -/
def stepBoundary (g : Nat) (s : State) : State :=
  (plannersOf s.img g).foldl (fun s n => if mustSwitch s n then switchCe n s else s) (stepEnds g s)

/-- INSERTION_STEP: a call to be inserted again goes ahead of the calls at the port. -/
def insertionStep (g : Nat) (s : State) : State :=
  if !(canStep s g) then s
  else
    let s := lostStops g s
    let x := grpOf s g
    match x.redo, x.port with
    | r :: rest, _ => stepBoundary g (placeCall g r.token (some r) (putGrp s g { x with redo := rest }))
    | [], t :: rest => stepBoundary g (placeCall g t none (putGrp s g { x with port := rest }))
    | [], [] => stepBoundary g s

/-- A hall call that the sweep may take: ASSIGNED, its ETA at or above LOCK_TIME, its car not yet slowing to it. -/
def sweepable (s : State) (g : Nat) (t : Nat) (c : Call) : Bool :=
  match c.car with
  | none => false
  | some n => match carCfg s n with
    | none => false
    | some k =>
      let x := grpOf s g
      let p := planOf x n
      let a := layOut s g k (callOf x) p
      let eta := ((a.pickAt.find? (fun e => decide (e.1 = t))).map (·.2)).getD 0
      let slowing := committedHead s g n p && (match p with | st :: _ => st.picks.contains t | [] => false)
        && (decide ((hstOf s n).motion.a < 0) || decide ((hstOf s n).state = .arrive))
      c.isHall && decide (c.state = .assigned) && decide ((weightsOf x).lock ≤ eta) && !slowing && inService s g n

/-- Two plans make the same stops for the same calls. -/
def samePlan (p q : List Stop) : Bool :=
  decide (p.map (fun st => { st with slot := none }) = q.map (fun st => { st with slot := none }))

/-- A sweepable call taken out of its plan and evaluated anew on every car (R362, R358): it moves when the cost falls by the gain, to
another car or to another place of its own car's plan, which is told REPLANNED (DESIGN CHOICE, log entry 76). -/
def sweepCall (g t : Nat) (c : Call) (s : State) : State :=
  let n := c.car.getD 0
  match carCfg s n with
  | none => s
  | some k =>
    let x := grpOf s g
    let p := planOf x n
    let before := planCost s g (callOf x) p (layOut s g k (callOf x) p)
    let x' := unplan t x
    let s' := putGrp s g x'
    let q := planOf x' n
    let after := planCost s' g (callOf x') q (layOut s' g k (callOf x') q)
    match cheapest ((groupCars s g).flatMap (carChoices s' g (callOf x') (planOf x') t c 0)) with
    | none => s
    | some b =>
      if w64 (before - after - b.dcost) < ((weightsOf x).gain : Int) ∨ (b.car = n ∧ samePlan b.plan p = true) then s
      else match adopt g t c b s' with
        | some s =>
          let x := grpOf s g
          putGrp s g (match callOf x t with | some c => callRecord (if b.car = n then 4 else 3) t b.eta c x | none => x)
        | none => s

/-- SWEEP_SLICE (R362): the next such call in ascending token order is evaluated anew. -/
def sweepSlice (g : Nat) (s : State) : State :=
  if !(canStep s g) ∨ (grpOf s g).port ≠ [] ∨ (grpOf s g).redo ≠ [] then s
  else
    let s := lostStops g s
    let x := grpOf s g
    let held := x.calls.filterMap (fun e => match e.2 with
      | some c => if sweepable s g e.1 c then some (e.1, c) else none
      | none => none)
    let pick := match held.find? (fun e => decide (x.cursor ≤ e.1)) with
      | some e => some e
      | none => held.head?
    stepBoundary g (match pick with
      | none => s
      | some (t, c) => sweepCall g t c (putGrp s g { x with cursor := t + 1 }))

/-- A refused removal (R355): the stop stays in the plan as an empty stop where its entry stands in the queue, until its release. -/
def keepStop (g c k : Nat) (tag : Word) (s : State) : State :=
  let x := grpOf s g
  let h := hstOf s c
  match slotOf x k, h.queue.findIdx? (fun q => decide (q.w3 = tag)) with
  | some v, some i =>
    let ahead := (h.queue.take i).map (·.w3)
    let p := planOf x c
    let at0 := (numbered p).foldl (fun n e => match stopTag g x e.2 with
      | some u => if ahead.contains u then e.1 + 1 else n
      | none => n) 0
    let st : Stop := { slot := some k, landing := ((h.queue[i]?).map QEntry.landing).getD 0, picks := [], drops := [] }
    putGrp s g (putPlan (putSlot' x k (some { v with dropping := false, kept := true })) c (p.take at0 ++ st :: p.drop at0))
  | _, _ => s

/-- QUEUE_RESULT (R361): the hoist channel's answer to the operation under way at a car. -/
def queueAnswer (g c : Nat) (s : State) : State :=
  let x := grpOf s g
  match tget none x.inflight c with
  | none => s
  | some (op, tag) =>
    let h := hstOf s c
    if h.qPending.isSome then s
    else
      let x := { x with inflight := tset none x.inflight c none }
      let k := fld tag 7 0
      let same := match slotOf x k with | some v => decide (tagOf g k v = tag) | none => false
      let upd (f : StopSlot → StopSlot) (x : Grp) : Grp := if same then putSlot' x k ((slotOf x k).map f) else x
      if h.qResult = 0 then
        stepEnds g (putGrp s g (if op = 3 then (if same then freeSlot k x else x) else upd (fun v => { v with written := true }) x))
      else
        let s := dspRaise g 6 [wordN h.qResult] s
        let s := putGrp s g x
        if op = 3 then stepEnds g (if same then keepStop g c k tag s else s)
        else
          let p := planOf x c
          let mine (st : Stop) : Bool := decide (st.slot = some k)
          let i := p.findIdx mine
          let toks := (p.filter mine).flatMap (fun st => st.picks ++ st.drops)
          let x := if op = 2 then upd (fun v => { v with kept := true }) x
            else if same then freeSlot k (putPlan x c (p.filter (fun st => !(mine st)))) else x
          let mode : RedoMode := if h.qResult = 6 then .behind (i + 1) else .exclude
          let x := toks.foldl (fun x t => askRedo { token := t, mode := mode, car := c } (unplan t x)) x
          stepEnds g (putGrp s g x)

/-- TAG_RELEASE (R354, R355): the oldest release frees its slot, boards the DEST calls picked up there, and completes the others;
a release whose GEN does not match is discarded with its event. -/
def tagRelease (s : State) : State :=
  match s.dsp.released with
  | [] => s
  | tag :: rest =>
    let s : State := { s with dsp := { s.dsp with released := rest } }
    if fld tag 31 27 ≠ 0 ∨ (groupCfg s (fld tag 26 24)).isNone then s
    else
      let g := fld tag 26 24
      let k := fld tag 7 0
      let x := grpOf s g
      match slotOf x k with
      | none => dspRaise g 5 [] s
      | some v =>
        if v.gen ≠ fld tag 23 8 then dspRaise g 5 [] s
        else
          let p := planOf x v.car
          let mine (st : Stop) : Bool := decide (st.slot = some k)
          let picks := (p.filter mine).flatMap (·.picks)
          let drops := (p.filter mine).flatMap (·.drops)
          let x := putPlan (freeSlot k x) v.car (p.filter (fun st => !(mine st)))
          let x := picks.foldl (fun x t => match callOf x t with
            | some c => if c.kind = 3 then callRecord 5 t 0 c (putCall x t (some { c with state := .boarded, pick := none }))
              else freeCall t (callRecord 6 t 0 c x)
            | none => x) x
          let x := drops.foldl (fun x t => match callOf x t with
            | some c => freeCall t (callRecord 6 t 0 c x)
            | none => x) x
          writeReach g (putGrp s g x)

/-! ## The call port (R350 to R353, R355) -/

/-- DSP_RIGHTSp_w as it stands. -/
def rightsWord (s : State) (p w : Nat) : Word :=
  (tget none s.dsp.rights (8 * p + w)).getD
    (((s.img.rights.find? (fun r => decide (r.1 = p ∧ r.2.1 = w))).map (fun r => r.2.2)).getD 0)

/-- Check 3 of R351: fields valid, landings served, a deck that joins ORIGIN and DEST. -/
def callInRange (s : State) (g : Nat) (c : Call) : Bool :=
  let cars := (groupCars s g).filterMap (carCfg s)
  decide (1 ≤ c.kind) && decide (c.kind ≤ 4) && decide (c.deckAsk ≠ 3) && decide (c.cls ≠ 3)
    && (if c.kind = 4 then (match (groupCars s g)[c.carIndex]? with
          | some n => (match carCfg s n with | some k => k.served.contains c.dest | none => false)
          | none => false)
        else if c.kind = 3 then decide (c.origin ≠ c.dest) && cars.any (fun k => decide (routes k c ≠ []))
        else cars.any (fun k => k.served.contains c.origin))

/-- A call that the port has accepted (R480): the holder sends its call-order record; at the standby it waits for its order. -/
def callAccepted (g t : Nat) (c : Call) (s : State) : State :=
  let x := grpOf s g
  if isStandby s then
    if x.orders.contains (c.w0, c.w1) then putGrp s g { x with port := x.port ++ [t], orders := x.orders.erase (c.w0, c.w1) }
    else putGrp s g { x with unordered := x.unordered ++ [t] }
  else
    let s := putGrp s g { x with port := x.port ++ [t] }
    if exchanges s then { s with net := { s.net with ordered := some (g, c.w0, c.w1) } } else s

/-- A call-order record at the standby (R480): the first such call that waits goes to the planners; else the order waits for it. -/
def callOrdered (g : Nat) (w0 w1 : Word) (s : State) : State :=
  let x := grpOf s g
  if isStandby s = false ∨ exchanges s = false ∨ running s .comp0 = false ∨ (groupCfg s g).isNone then s
  else match x.unordered.find? (fun t => decide ((callOf x t).map (fun c => (c.w0, c.w1)) = some (w0, w1))) with
    | some t => putGrp s g { x with unordered := x.unordered.erase t, port := x.port ++ [t] }
    | none => putGrp s g { x with orders := x.orders ++ [(w0, w1)] }

/-- A call that the holder has not ordered within 10 ms is cancelled, with event source 2848 (R480). -/
def callUnordered (g t : Nat) (s : State) : State :=
  let x := grpOf s g
  match callOf x t with
  | some c =>
    if x.unordered.contains t then
      raise 2848 [] (putGrp s g (callRecord 7 t 0 c (freeCall t { x with unordered := x.unordered.erase t })))
    else s
  | none => s

/-- REGISTER decided on a record (R351, R352): RESULT, with the first failed check, and TOKEN. -/
def callRegister (g : Nat) (w0 w1 : Word) (s : State) : State :=
  if running s .comp0 = false ∨ (groupCfg s g).isNone then s
  else
    let x := grpOf s g
    let answer (r : Nat) (s : State) : State := putGrp s g { grpOf s g with result := r }
    let c : Call := { w0 := w0, w1 := w1 &&& 0xFF00FFFF, state := .planning, car := none, deck := 0,
                      board := 0, accepted := devTime s, pick := none, drop := none, told := false, merged := [] }
    let c := if c.kind = 4 then { c with car := (groupCars s g)[c.carIndex]?, board := c.dest } else { c with board := c.origin }
    let cap := ((groupCfg s g).map (·.calls)).getD 0
    if !(computeRuns s) ∨ s.kpr.smoke = .frozen then answer 5 s
    else if 16 ≤ x.port.length + x.unordered.length then answer 1 s
    else if !(callInRange s g c) then answer 3 s
    else if 3 ≤ c.kind ∧ bitAt (rightsWord s c.profile (c.dest / 32)) (c.dest % 32) = false then
      answer 4 (raiseIf (!x.rightsTold) (2048 + 16 * g + 1) [] (putGrp s g { x with rightsTold := true }))
    else
      let held := if c.isHall then firstSome (fun e : Nat × Option Call => match e.2 with
          | some o => if o.kind = c.kind ∧ o.origin = c.origin ∧ o.cls = c.cls ∧ o.state ≠ .boarded then some (e.1, o) else none
          | none => none) x.calls
        else none
      match held with
      | some (t, o) =>
        let x := { x with token := t, result := 0, rightsTold := false, tokensTold := false }
        putGrp s g (if o.state = .planning then putCall x t (some { o with merged := o.merged ++ [c.ref] })
          else ringPut 1 o.deck o.board c.ref t (callCar x t o) 0 x)
      | none =>
        match (List.range (Nat.min 256 cap)).find? (fun t => (callOf x t).isNone) with
        | none => answer 2 (raiseIf (!x.tokensTold) (2048 + 16 * g + 3) [] (putGrp s g { x with tokensTold := true }))
        | some t => callAccepted g t c (putGrp s g (putCall { x with
            token := t, result := 0, rightsTold := false, tokensTold := false } t (some c)))

/-- CANCEL (R355, R372): releases of the same tick first; NOT_HELD for a call that is free or boarded; else its stops that serve no other
call go. -/
def callCancel (g t : Nat) (s : State) : State :=
  if running s .comp0 = false ∨ (groupCfg s g).isNone then s
  else
    let s := s.dsp.released.foldl (fun s _ => tagRelease s) s
    let x := { grpOf s g with token := t }
    match callOf x t with
    | some c =>
      if c.state = .boarded then putGrp s g { x with result := 6 }
      else stepEnds g (putGrp s g { callRecord 7 t 0 c (freeCall t (unplan t x)) with result := 0 })
    | none => putGrp s g { x with result := 6 }

/-- A command of DSP_CALL_OP is applied: a REGISTER takes the staging registers and is pending, a CANCEL acts at once (R351, R548). -/
def callApply (g op t : Nat) (s : State) : State :=
  if running s .comp0 = false ∨ (groupCfg s g).isNone then s
  else
    let x := grpOf s g
    match op with
    | 1 => putGrp s g { x with token := t, result := 15, calling := some (x.stage0, x.stage1) }
    | 2 => callCancel g t s
    | _ => putGrp s g { x with token := t }

/-- A command of DSP_CALL_OP (R351, R548): while a REGISTER is pending the first is held, and a further one is discarded and counted in
EVT_BADACC where its requester is known. -/
def callCommand (g op t : Nat) (req : Option Requester) (s : State) : State :=
  let x := grpOf s g
  if x.calling.isNone ∨ (op ≠ 1 ∧ op ≠ 2) then callApply g op t s
  else if x.heldOp.isNone then putGrp s g { x with heldOp := some (op, t, req) }
  else match req with
    | some req => badAccess req 3 (wordN (0x0D000004 + g * 0x1000)) s
    | none => s

/-- A pending REGISTER is decided, and the command held behind it is applied. -/
def callDecide (g : Nat) (s : State) : State :=
  match (grpOf s g).calling with
  | none => s
  | some (w0, w1) =>
    let s := callRegister g w0 w1 (putGrp s g { grpOf s g with calling := none })
    match (grpOf s g).heldOp with
    | some (op, t, _) => callApply g op t (putGrp s g { grpOf s g with heldOp := none })
    | none => s

/-- Every pending REGISTER is decided, while compute die 0 runs. -/
def callDecideAll (s : State) : State :=
  if running s .comp0 then (s.dsp.groups.map (·.1)).foldl (fun s g => callDecide g s) s else s

/-- CALL_REGISTER (R351): the REGISTER that is pending, or else one of the record that is staged, is decided. -/
def callRegisterNow (g : Nat) (s : State) : State :=
  if running s .comp0 = false then s
  else callDecide g (if (grpOf s g).calling.isSome then s else callApply g 1 (grpOf s g).token s)

/-! ## Tables, regeneration, long waits (R349, R370, R373) -/

/-- TABLE_REBUILD: the new table is in use, and READY reads 1. -/
def tableRebuilt (g : Nat) (s : State) : State :=
  if (groupCfg s g).isNone ∨ plannersRun s g = false then s
  else dspRaise g 8 [] (putGrp s g { grpOf s g with ready := true, rebuild := false, lands := groupLands s g })

/-- DSP_REGEN0 to 11 in Wh: the regenerated energy of every leg of every plan, by planned departure. -/
def regenSlices (s : State) : List Nat :=
  let legs := s.img.groups.flatMap (fun gc => gc.cars.flatMap (fun c => match carCfg s c with
    | some k => (layOut s gc.no k (callOf (grpOf s gc.no)) (planOf (grpOf s gc.no) c)).regen
    | none => []))
  (List.range 12).map (fun k => (legs.filter (fun e => decide (e.1 / 5000 = k))).foldl (fun n e => n + e.2) 0 / 1000000)

/-- REGEN_FORECAST: the slices, and their total in kWh in the forecast point. -/
def regenForecast (s : State) : State :=
  if running s .comp0 = false then s
  else
    let r := regenSlices s
    let s : State := { s with dsp := { s.dsp with regen := r } }
    let wh : Nat := r.foldl (· + ·) 0
    let p := pointOf s s.img.energy.regen
    let v := if p.typ = 0 then fdiv (fOfInt wh) (fOfInt 1000) 0 else wordN (wh / 1000)
    (combAccess .unit 0 s.img.energy.regen (.write 0 v 0) none .clean s).2

/-- LONG_WAIT_EXPIRY: a held call has waited LONG_WAIT without boarding. -/
def longWait (g t : Nat) (s : State) : State :=
  let x := grpOf s g
  match callOf x t with
  | some c => if c.state ≠ .boarded ∧ c.kind ≠ 4 ∧ c.told = false then
      dspRaise g 7 [] (putGrp s g (putCall x t (some { c with told := true }))) else s
  | none => s

/-! ## Start-up (R371) -/

/-- The DSP unit after a reset of compute die 0: NV rights and counts stay, at a warm start with the saved state; tables are built
again. -/
def dspRelease (saved : Option Dsp) (s : State) : State :=
  let counts := s.dsp
  let base : Dsp := match saved with
    | some d => { d with rights := counts.rights }
    | none => { ({} : Dsp) with rights := counts.rights }
  let s : State := { s with dsp := base }
  s.img.groups.foldl (fun s g =>
    let old := grpOf s g.no
    let kept := tget ({} : Grp) counts.groups g.no
    putGrp s g.no { old with
      calling := none, heldOp := none, result := if old.result = 15 then 0 else old.result, ready := false, rebuild := true, inflight := [], late := kept.late, maxTime := kept.maxTime }) s

/-! ## Registers -/

/-- DSP_GSTATE. -/
def gstateReg (s : State) (g : Nat) (x : Grp) : Word :=
  regOf [(31, 31, b2n x.ready), (30, 30, b2n x.rebuild), (29, 29, b2n (!(computeRuns s))),
    (28, 22, (plannersOf s.img g).length), (21, 17, (groupCars s g).length), (16, 8, x.calls.length),
    (4, 0, x.port.length + x.unordered.length)]

/-- A word of the call table. -/
def callWord (x : Grp) (t w : Nat) : Word :=
  match callOf x t with
  | none => 0
  | some c =>
    let st := match c.state with | .planning => 1 | .assigned => 2 | .boarded => 3
    match w with
    | 0 => c.w0
    | 1 => c.w1
    | 2 => regOf [(31, 29, st), (28, 27, c.deck), (25, 20, callCar x t c), (15, 8, c.pick.getD 0), (7, 0, c.drop.getD 0)]
    | _ => wordN (c.accepted / 1000000)

/-- A register of a group's window. -/
def grpReg (s : State) (g off : Nat) : Option Word :=
  let x := grpOf s g
  let cars := groupCars s g
  let v : Option Word := match off with
    | 0x000 => some (gstateReg s g x)
    | 0x004 => some (regOf [(27, 24, x.result), (7, 0, x.token)])
    | 0x008 => some x.stage0
    | 0x00C => some x.stage1
    | 0x010 => some (regOf [(31, 16, (numbered cars).foldl (fun n e => if inService s g e.2 then n + 2 ^ e.1 else n) 0), (15, 0, x.avail)])
    | 0x014 => some x.weight0
    | 0x018 => some x.weight1
    | 0x01C => some (x.dwell &&& 0xFFFFFFF0)
    | 0x020 => some (regOf [(31, 31, b2n x.late), (30, 16, x.maxTime), (14, 0, x.lastTime)])
    | 0x024 => some (wordN x.resWr)
    | 0x028 => some (regOf [(31, 23, ((groupCfg s g).map (·.calls)).getD 0)])
    | 0x02C => some (x.eco &&& 0xF000FFFF)
    | o =>
      if 0x040 ≤ o ∧ o < 0x080 ∧ o % 4 = 0 then some (wordN (tget 0 x.loads ((o - 0x040) / 4)))
      else if 0x800 ≤ o ∧ o < 0xA00 ∧ o % 4 = 0 then
        let e := tget (0, 0) x.ring ((o - 0x800) / 8)
        some (if o % 8 = 0 then e.1 else e.2)
      else none
  match v with
  | none => none
  | some w => some (if (groupCfg s g).isSome then w else 0)

/-- A register of the DSP block by its offset. -/
def dspReg (s : State) (off : Nat) : Option Word :=
  if off < 0x8000 then grpReg s (off / 0x1000) (off % 0x1000)
  else if off < 0xA000 then
    if off % 4 = 0 then some (rightsWord s ((off - 0x8000) / 32) ((off - 0x8000) % 32 / 4)) else none
  else if off < 0xA200 then
    if off % 4 = 0 then
      let e := tget (0, 0) s.dsp.shafts ((off - 0xA000) / 8)
      some (wordI (if off % 8 = 0 then e.1 else e.2))
    else none
  else if 0xB000 ≤ off ∧ off < 0xB030 ∧ off % 4 = 0 then some (wordN (s.dsp.regen.getD ((off - 0xB000) / 4) 0))
  else if off = 0xC000 then
    some (regOf [(31, 31, b2n (!(computeRuns s))),
      (7, 0, s.img.groups.foldl (fun n g => if (grpOf s g.no).ready then putBit n g.no true else n) 0)])
  else if 0x10000 ≤ off ∧ off < 0x18000 ∧ off % 4 = 0 then
    some (callWord (grpOf s ((off - 0x10000) / 0x1000)) (off % 0x1000 / 16) (off % 16 / 4))
  else none

/-- A write to a register of the DSP block. -/
def dspWrite (req : Requester) (off : Nat) (v : Word) (s : State) : State :=
  if off < 0x8000 then
    let g := off / 0x1000
    let x := grpOf s g
    if (groupCfg s g).isNone then s
    else match off % 0x1000 with
      | 0x004 => callCommand g (fld v 31 28) (fld v 7 0) (some req) s
      | 0x008 => putGrp s g { x with stage0 := v }
      | 0x00C => putGrp s g { x with stage1 := v &&& 0xFF00FFFF }
      | 0x010 => putGrp s g { x with avail := fld v 15 0 }
      | 0x014 => putGrp s g { x with weight0 := v }
      | 0x018 => putGrp s g { x with weight1 := v }
      | 0x01C => putGrp s g { x with dwell := v &&& 0xFFFFFFF0 }
      | 0x020 => putGrp s g { x with late := x.late && !(bitAt v 31) }
      | 0x02C => putGrp s g { x with eco := v &&& 0xF000FFFF }
      | o => if 0x040 ≤ o ∧ o < 0x080 ∧ o % 4 = 0 then putGrp s g { x with loads := tset 0 x.loads ((o - 0x040) / 4) (fld v 15 0) } else s
  else if off < 0xA000 ∧ off % 4 = 0 then
    { s with dsp := { s.dsp with rights := tset none s.dsp.rights ((off - 0x8000) / 4) (some v) } }
  else s

end Sys2Proof.Machine
end

