-- ==== Sys2Proof/Machine/TaskIo.lean ====
section
/-! DEFINITION. Where the words of an input image come from, and where output words go (R186, R188, R190, R191, R420, R434). -/
namespace Sys2Proof.Machine

/-- A word of an input image. -/
def inputWord (s : State) : InSource → Word
  | .stationStatus n => stationStatusWord s n
  | .stationWord n w => stationInWord s n w
  | .field k => fieldImageWord s k
  | .adc a => adcImageWord s a
  | .zero => 0

/-- An output word delivered by CE `n` (R188): to a station, to HST_CMD, HST_CTRL or the virtual limits of a hoist channel, to
DOR_CMD or a profile register of a door channel (R317), to a field output or coil channel, or to a point. -/
def deliverWord (n : Nat) (d : OutDest) (w : Word) (s : State) : State :=
  match d with
  | .stationWord k i => stationOut k i w s
  | .hoist c off =>
    if running s .io && [0x004, 0x020, 0x024, 0x03C].contains off then
      hoistWrite (.ce (Fin.ofNat 128 n)) (wordN (0x0A000000 + 0x1000 * c + off)) c off w s
    else s
  | .door c off => if running s .io && [0x004, 0x008, 0x00C, 0x010].contains off then doorWrite c off w s else s
  | .field ch => fieldCommand ch w s
  | .point id => (combAccess (.ce (Fin.ofNat 128 n)) 0 id (.write 0 w 0) none .clean s).2
  | .none => s

end Sys2Proof.Machine
end

