-- ==== Sys2Proof/Machine/CycOps.lean ====
section
/-! DEFINITION. The cyclic schedulers: ticks, starts, overruns, cycle ends, the code handover and the block's registers
(R187 to R208). -/
namespace Sys2Proof.Machine

/-! ## Starts -/

/-- Bytes laid into a CE's data SRAM. -/
def sramWrite (n a : Nat) (bs : List Byte) (s : State) : State :=
  let c := ceOf s n
  putCe s n { c with sram := writeBytes c.sram a bs }

/-- The 32-byte header of an input area (R190). -/
def headerBytes (c : TaskCfg) (t : Task) (r : Option ErrRec) (flags : Nat) : List Byte :=
  leBytes 8 t.due ++ leBytes 4 t.cycles ++ leBytes 2 (Nat.min 65535 t.skippedNow) ++ leBytes 1 flags ++ leBytes 1 t.ovrSeq
    ++ leBytes 1 ((r.map (·.cause)).getD 0) ++ leBytes 1 ((r.map (·.task)).getD 0)
    ++ leBytes 2 ((r.map (·.station)).getD 0xFFFF) ++ leBytes 4 (if c.cls = 4 then t.lost else 0)
    ++ leBytes 8 ((r.map (·.time)).getD 0)

/-- The edge words of a start (R192): RISE, FALL and PREV from the words marked; no edges in the first cycle after a cold
start. -/
def edgeBytes (first : Bool) (curs prevs : List Word) : List Byte :=
  let ps := if first then curs else prevs
  let z := curs.zip ps
  wordBytes (z.map (fun p => p.1 &&& ~~~p.2)) ++ wordBytes (z.map (fun p => p.2 &&& ~~~p.1)) ++ wordBytes curs

/-- The addresses of the PREV words that a start reads, EDGE_WORDS of them; none in the first cycle after a cold start (R192). -/
def prevReads (c : TaskCfg) (flags : Nat) : List Nat :=
  let ne := Nat.min 64 c.edgeWords
  if flags.testBit 0 then [] else (List.range ne).map (fun k => c.inBase + 32 + 8 * ne + 4 * k)

/-- The input area of a task's next cycle, copied into data SRAM (R190 to R192). A PREV word with a double-bit error is a free value. -/
def copyInputs (c : TaskCfg) (t : Task) (r : Option ErrRec) (flags : Nat) (s : State) : State :=
  let ne := Nat.min 64 c.edgeWords
  let image := (c.image.take ((c.inSize - 32 - 12 * ne) / 4)).map (inputWord s)
  let curs := (List.range ne).map (fun k => image.getD (c.edges.getD k image.length) 0)
  let prevs := (prevReads c flags).map (fun a =>
    if Config.sramCheck s.free c.ce a = .double then loWord (Config.freeWord (s.free + a)).toNat
    else wordN (leNat (readBytes (ceOf s c.ce).sram a 4)))
  sramWrite c.ce c.inBase
    (headerBytes c t r flags ++ edgeBytes (flags.testBit 0) curs prevs ++ wordBytes image) s

/-- What the error check finds as a start reads PREV words (R178): single-bit errors are counted, and a double-bit one raises ECC with SUB 1
and its address, the start's interrupt waiting behind it. DESIGN CHOICE, log entry 142: what the check finds at a start is free. -/
def prevChecked (n : Nat) (reads : List Nat) (raised : State → State) (s : State) : State :=
  if reads = [] then raised s
  else
    let found (a : Nat) : Ecc := Config.sramCheck s.free n a
    let hits := (reads.filter (fun a => decide (found a = .corrected))).length
    let old := ceOf s n
    let s' := if hits = 0 then s else errReport n old (putCe s n { old with sramCe := satAdd 255 old.sramCe hits })
    let s' : State := { s' with free := s.free + 0x80000 }
    match reads.find? (fun a => decide (found a = .double)) with
    | some a =>
      let s' := takeException n causeEcc 1 (some (wordN a)) 0 s'
      let c := ceOf s' n
      if c.st = .idle then putCe s' n { c with st := .run } else s'
    | none => raised s'

/-- The task start is raised as INTERRUPT with SUB 1: taken at once by a CE that is IDLE, and at the next point of R175 by one that runs
(R183, R188). While XACT is 1 it is masked and stays pending (R174). -/
def raiseStart (c : TaskCfg) (s : State) : State :=
  let e := ceOf s c.ce
  if e.st = .idle ∧ xact e = false then
    let s := putTask s c.task { taskOf s c.task with begun := true }
    putCe s c.ce { enterException causeInterrupt 1 (wordN c.task) 0 e with st := .run }
  else s

/-- The address of a task's first instruction: a tenant's tasks start in the half of its module region that executes, at the same offset
as ENTRY names in half A (R185, R232). -/
def entryOf (s : State) (c : TaskCfg) : Word :=
  match s.img.sandbox.find? (fun x => decide (x.ce = c.ce)) with
  | some x =>
    (match tenantCfg s x.tenant with
    | some t => if (tget ({} : TenantModule) s.cmb.modules x.tenant).half then c.entry + wordN t.codeMax else c.entry
    | none => c.entry)
  | none => c.entry

/-- TASK_START and ERROR_TASK_START (R188, R190, R198): the input image is copied, the task goes on top of the stack, the one that ran
becomes pre-empted, and the interrupt is raised, after the check of the PREV words. OVRSEQ returns to 0 at a start taken at its own tick.
START of an error task, which no tick makes due, is the tick reached when its cycle starts. -/
def startTask (c : TaskCfg) (s : State) : State :=
  let t := taskOf s c.task
  let stack := stackOf s c.ce
  let r := if c.cls = 4 then t.queue.head? else none
  let tick := devTime s / 250000 * 250000
  let onTime := decide (t.due = tick)
  let t := { t with due := if c.cls = 4 then tick else t.due, entry := entryOf s c, cycles := (t.cycles + 1) % 4294967296, ovrSeq := if onTime then 0 else t.ovrSeq }
  let flags := putBit t.flags 4 (decide (s.cyc.forces ≠ []))
  let s := copyInputs c t r flags s
  let reads := prevReads c flags
  let s := match stack with
    | o :: _ => let x := taskOf s o; if x.state = .running then putTask s o { x with state := .preempted } else s
    | [] => s
  let s := putTask s c.task { t with
    state := .running, skippedNow := 0, flags := 0, begun := false, queue := if c.cls = 4 then t.queue.drop 1 else t.queue }
  prevChecked c.ce reads (raiseStart c) (putStack s c.ce (c.task :: stack))

/-- Below SET 3 there is no building automation (R28). DESIGN CHOICE, log entry 152: no BA or sandbox task starts then, and no count
changes. -/
def noAutomation (s : State) (c : TaskCfg) : Bool := decide (serviceSet s.dies < 3) && [1, 2, 3].contains c.cls

/-- PRIO of a task: error tasks run at 15 (R198). -/
def prioOf (c : TaskCfg) : Nat := if c.cls = 4 then 15 else c.prio

/-- The highest pending task of a CE, the lowest number among equals (R188). -/
def highestPending (s : State) (n : Nat) : Option TaskCfg :=
  minBy (fun c => (((15 - prioOf c) * 256 + c.task : Nat) : Int))
    ((tasksOn s n).filter (fun c => decide ((taskOf s c.task).state = .pending) && !(noAutomation s c)))

/-- A CE's data map is still to run (R204, R205). -/
def mapRuns (s : State) (n : Nat) : Bool :=
  match s.cyc.handover with
  | some h => h.mapping.contains n
  | none => false

/-- A CE still has to switch at a handover (R204). -/
def mustLeave (s : State) (n : Nat) : Bool :=
  match s.cyc.handover with
  | some h => h.switching && h.left.contains n
  | none => false

/-- The entry of a task in the table that a CE runs. -/
def taskOn (s : State) (n t : Nat) : Option TaskCfg := (tasksOn s n).find? (fun c => decide (c.task = t))

/-- Step 2 of R188: the highest pending task starts on an IDLE CE, or pre-empts one of lower PRIO. -/
def startHighest (n : Nat) (s : State) : State :=
  if mapRuns s n || mustLeave s n then s
  else match highestPending s n with
    | none => s
    | some c =>
      let e := ceOf s n
      if e.st = .idle ∧ stackOf s n = [] then startTask c s
      else if e.st = .idle ∨ e.st = .run then
        match (stackOf s n).head?.bind (taskOn s n) with
        | some o => if prioOf o < prioOf c ∧ (stackOf s n).length < 8 then startTask c s else s
        | none => s
      else s

/-! ## What falls due -/

/-- A start skipped and counted (R195, R196), with event source 513 + 2t at the first after a start that was taken. -/
def skipStart (c : TaskCfg) (flag : Nat) (s : State) : State :=
  let t := taskOf s c.task
  raiseIf (decide (t.skippedNow = 0)) (513 + 2 * c.task) [] (putTask s c.task { t with
    skipped := satAdd 65535 t.skipped 1, skippedNow := satAdd 65535 t.skippedNow 1, flags := t.flags ||| flag })

/-- TASK_OVERRUN and TASK_OVR_LIMIT (R193, R194): event source 513 + 2t at the first overrun after a cycle that ended on time. -/
def overrun (c : TaskCfg) (s : State) : State :=
  let t := taskOf s c.task
  let seq := satAdd 15 t.ovrSeq 1
  let s := raiseIf (!t.noted) (513 + 2 * c.task) [] (putTask s c.task { t with
    overruns := satAdd 65535 t.overruns 1, ovrSeq := seq, err := 1, late := true, noted := true })
  if c.ovrLimit ≤ seq then stopTask c 2 (taskError c 2 0xFFFF s) else s

/-- One start that falls due (R28, R187, R193, R195, R196, R204, R205). -/
def fallDue (c : TaskCfg) (s : State) : State :=
  let t := taskOf s c.task
  match t.state with
  | .absent => s
  | .stopped => s
  | st =>
    if noAutomation s c then s
    else if (ceOf s c.ce).st = .halt ∨ s.kpr.smoke = .frozen then skipStart c 8 s
    else if shedding s ∧ c.cls = 2 then skipStart c 0 s
    else if mustLeave s c.ce then overrun c s
    else if st = .waiting then putTask s c.task { t with state := .pending, due := devTime s / 250000 * 250000 }
    else if mapRuns s c.ce then s
    else overrun c s

/-- The tick at one CE (R188). -/
def ceTick (k : Nat) (s : State) (n : Nat) : State :=
  let due := (tasksOn s n).filter (fun c => decide (c.cls ≠ 4 ∧ c.period ≠ 0 ∧ k % Nat.max 1 c.period = c.phase))
  startHighest n (due.foldl (fun s c => fallDue c s) s)

/-- SANDBOX_BUDGET_REFILL (R230). -/
def refill (s : State) : State :=
  s.img.sandbox.foldl (fun s x =>
    let c := ceOf s x.ce
    if c.st = .off then s else putCe s x.ce { c with budget := Nat.max 256 (Nat.min 16384 x.rate), waited := false }) s

/-- CEs of the compute dies that run. -/
def liveCes (s : State) : List Nat :=
  (if running s .comp0 then List.range 64 else []) ++ (if running s .comp1 then (List.range 64).map (· + 64) else [])

/-- The starts of tick `k` (R187, R188): no task falls due before READY has risen. -/
def runTick (k : Nat) (s : State) : State := if s.rst.phase = 9 then (liveCes s).foldl (ceTick k) s else s

/-- The standby waits for the holder's selection record (R479). -/
def awaitsRecord (s : State) : Bool :=
  isStandby s && s.net.lualasOk && s.net.synced && (match s.net.partner with | some w => w.holder | none => false)

/-- The KIND 1 words of a station, with their forces (R209, R460). -/
def stationOutWords (s : State) (k : StationCfg) : List Word :=
  (List.range k.outWords).map (fun w => forcedWord s 2 (stationIndex k.no w) (tget 0 (stnOf s k.no).out w))

/-- OUT_DIGEST over the payloads as they stand: the payload SEQ and the permit bits are left out (R481). -/
def digestNow (s : State) : BitVec 64 :=
  let strip (ws : List Word) : List Word := match ws with | w :: t => (w &&& ~~~(maskOf 17 0)) :: t | [] => []
  Config.outDigest (s.img.stations.map (fun k => (k.no, stationOutWords s k))
    ++ s.img.cars.map (fun k => (0x10000 + k.no, strip (hstOf s k.no).frame))
    ++ s.img.doors.map (fun k => (0x20000 + k.ch, strip (dorOf s k.ch).words)))

/-- The frames that the input images of a tick use: the newest of each station, of which the holder's record tells the standby (R191,
R479). -/
def chooseFrames (s : State) : State :=
  let s := s.img.stations.foldl (fun s k => let x := stnOf s k.no
    putStn s k.no (match x.frames with
      | f :: _ => { x with chosen := some f, fresh := true }
      | [] => { x with fresh := false })) s
  { s with net := { s.net with selection := s.img.stations.filterMap (fun k =>
      (stnOf s k.no).frames.head?.map (fun f => { station := Fin.ofNat 2048 k.no, seq := f.seq })) } }

/-- The tick at both schedulers (R187, R188). At a standby in step its starts wait for the holder's record (R479). -/
def schedulerTick (s : State) : State :=
  let s := refill s
  let s := if running s .io then { s with net := { s.net with outDigest := digestNow s, compared := false } } else s
  let k := devTime s / 250000
  if awaitsRecord s then { s with net := { s.net with tickDue := some k } } else runTick k (chooseFrames s)

/-! ## The end of a cycle -/

/-- The output area handed to its destinations (R188). -/
def copyOutputs (c : TaskCfg) (s : State) : State :=
  let bs := readBytes (ceOf s c.ce).sram c.outBase c.outSize
  (numbered (c.outs.take (c.outSize / 4))).foldl (fun s p =>
    deliverWord c.ce p.2 (wordN (leNat ((bs.drop (4 * p.1)).take 4))) s) s

/-- A persistent region, and its newer copy (R202). -/
def persistOf (s : State) (n : Nat) : Persist := tget ({} : Persist) s.cyc.persist n
def newerCopy (p : Persist) : List Byte := if p.seq0 < p.seq1 then p.copy1 else p.copy0

/-- The variables that the newer copy holds. -/
def newerVars (p : Persist) : List PersistVar := if p.seq0 < p.seq1 then p.vars1 else p.vars0

/-- Persistent data as they are to be flushed (R202): the blocks that a task has written, over what the newer copy holds, or is to hold
once a running flush completes; all of them where those hold other variables. -/
def flushBytes (x : PersistCfg) (p : Persist) (blocks : List Nat) (bs : List Byte) : List Byte :=
  let last := (p.flush.map (·.1)).getD (newerCopy p)
  if (p.flush.map (·.2)).getD (newerVars p) = x.vars ∧ last.length = bs.length then
    (List.range (ceilDiv bs.length 4096)).flatMap (fun k => ((if blocks.contains k then bs else last).drop (4096 * k)).take 4096)
  else bs

/-- At WAIT of a task that has written persistent data, what has changed is flushed to the older copy (R202); a flush still running is
replaced. -/
def flushPersistent (n t : Nat) (s : State) : State :=
  match persistCfg s n with
  | none => s
  | some x =>
    let p := persistOf s n
    let blocks := (taskOf s t).wrote
    if blocks = [] then s
    else
      let bs := flushBytes x p blocks (readBytes (ceOf s n).sram x.base x.len)
      let s := putTask s t { taskOf s t with wrote := [] }
      if bs = (p.flush.map (·.1)).getD (newerCopy p) then s
      else { s with cyc := { s.cyc with persist := tset ({} : Persist) s.cyc.persist n { p with flush := some (bs, x.vars) } } }

/-- The flush is complete: the older copy takes it, and then the higher sequence number. -/
def flushDone (n : Nat) (s : State) : State :=
  let p := persistOf s n
  match p.flush with
  | none => s
  | some (bs, vs) =>
    let q : Persist := if p.seq0 < p.seq1 then { p with copy0 := bs, vars0 := vs, seq0 := p.seq1 + 1, flush := none }
      else { p with copy1 := bs, vars1 := vs, seq1 := p.seq0 + 1, flush := none }
    { s with cyc := { s.cyc with persist := tset ({} : Persist) s.cyc.persist n q } }

/-- A task's cycle has ended (R193): on time where no start fell due in it. -/
def cycleEnds (t : Task) : Task := { t with begun := false, late := false, noted := t.noted && t.late }

/-- A task's state after its cycle: stopped, pending for the records that wait, or waiting. -/
def afterCycle (c : TaskCfg) (s : State) : State :=
  let t := taskOf s c.task
  let s := putTask s c.task (cycleEnds t)
  if t.state = .stopped then s
  else if t.stopping then stopTask c 0 s
  else if c.cls = 4 ∧ t.queue ≠ [] then putTask s c.task { cycleEnds t with state := .pending }
  else putTask s c.task { cycleEnds t with state := .waiting }

/-- WAIT ends the cycle of the task on top of the stack (R188): outputs, persistent data, the task's state. -/
def endCycle (n : Nat) (s : State) : State :=
  match stackOf s n with
  | [] => s
  | t :: rest =>
    let s := match taskOn s n t with
      | some c => afterCycle c (flushPersistent n t (copyOutputs c s))
      | none => s
    putStack s n rest

/-- After WAIT: the next task on the stack resumes, its start still being raised if it was never taken; else the CE is IDLE,
switches if a handover waits for it, and starts the highest pending task (R188, R204). -/
def afterWait (n : Nat) (s : State) : State :=
  match stackOf s n with
  | t :: _ =>
    let x := taskOf s t
    let s := if x.state = .preempted then putTask s t { x with state := .running } else s
    if x.begun then s
    else match taskOn s n t with
      | some c => raiseStart c (putCe s n { ceOf s n with st := .idle })
      | none => s
  | [] =>
    let s := putCe s n { ceOf s n with st := .idle }
    let s := if mustSwitch s n then switchCe n s else s
    startHighest n s

/-! ## The code handover (R204 to R208) -/

/-- CEs that carry tasks in the old table or in the new one. -/
def taskCes (s : State) : List Nat :=
  (List.range 128).filter (fun n => (s.img.tasks ++ ((s.cyc.next.map (·.tasks)).getD [])).any (fun c => decide (c.ce = n)))

/-- The group whose planner a CE is, if it is one. -/
def plannerGroup (s : State) (n : Nat) : Option Nat := (s.img.groups.find? (fun g => (plannersOf s.img g.no).contains n)).map (·.no)

/-- The CEs that a handover switches: those that carry tasks, and the planner CEs (R371). -/
def switchingCes (s : State) : List Nat :=
  (List.range 128).filter (fun n => (taskCes s).contains n || (plannerGroup s n).isSome)

/-- ACTIVATE or REVERT of a code load begins the handover: Th is the first tick at least 1 ms on. -/
def startHandover (revert : Bool) (s : State) : State :=
  let new := contentOf (bankBytes s.frm (!s.frm.activeSet))
  let s : State := { s with cyc := { s.cyc with next := some new, switched := [] } }
  let h : Handover := { th := ceilDiv (devTime s + 1000000) 250000 * 250000, left := switchingCes s, revert := revert }
  { s with cyc := { s.cyc with handover := some h } }

/-- The last CE has switched (R131, R140, R143): the log takes its entry, with the digest that was active before and the port of the order,
ACTIVE_SET flips, the new contents are the active ones, and event source 68 is raised, with 69 for a revert. -/
def finishHandover (s : State) : State :=
  match s.cyc.handover, s.cyc.next with
  | some h, some c =>
    if h.switching && decide (h.left = []) && decide (h.mapping = []) && decide (s.rst.brace ≠ .committed) then
      let set := !s.frm.activeSet
      let m := bankBytes s.frm set
      let s := logAppend s.frm.handoverSrc (if h.revert then 5 else 6) 0 (some m) s
      let s : State := { s with
        img := c
        frm := { s.frm with activeSet := set, setState := .previous, handover := false, digest := frameDigest m,
                            release := manifestRelease m }
        cyc := { s.cyc with handover := none, next := none, switched := [] }
        ces := s.ces.map (fun e => (e.1, { e.2 with set := set })) }
      raiseIf h.revert 69 [] (raise 68 [] s)
    else s
  | _, _ => s

/-- The cycles on a CE's stack are abandoned (R197, R204, R232): CAUSE 5 and event source 512 + 2t for each, the stack emptied, and the CE
at its reset registers, IDLE, or in HALT and IDLE after it. -/
def abandonCycles (n : Nat) (s : State) : State :=
  let s := (stackOf s n).foldl (fun s t => match taskOn s n t with
    | some c => raise (512 + 2 * t) [5] (taskError c 5 0xFFFF s)
    | none => s) s
  let c := ceOf s n
  let s := clearStack true n s
  match c.st with
  | .run => putCe s n { ceRegsReset c with st := .idle, haltReq := c.haltReq }
  | .halt => putCe s n { ceRegsReset c with prev := .idle, hsrc := c.hsrc, haltReq := c.haltReq }
  | _ => s

/-- A CE that is not running switches at once. DEDUCED, log entry 126: a cycle that a halt has left on its stack is one that the handover
forces off. -/
def switchHalted (n : Nat) (s : State) : State :=
  switchCe n (if stackOf s n ≠ [] ∧ (ceOf s n).st = .halt then abandonCycles n s else s)

/-- A planner CE that switches at Th itself: its group takes no steps. One whose group does switches at the boundary of the next step
(R371). -/
def plannerSwitches (s : State) (n : Nat) : Bool :=
  match plannerGroup s n with
  | some g => !(canStep s g)
  | none => false

/-- Th (R204, R371). -/
def handoverTick (s : State) : State :=
  match s.cyc.handover with
  | some h =>
    if h.switching ∨ devTime s < h.th then s
    else
      let s : State := { s with cyc := { s.cyc with handover := some { h with switching := true } } }
      finishHandover (h.left.foldl (fun s n =>
        if switchesNow s n then switchHalted n s else if plannerSwitches s n then switchCe n s else s) s)
  | none => s

/-- The handover timeout of a CE in ns (R204): the larger of TIMEOUT_MS, 0 acting as 1, and twice the longest PERIOD on it. -/
def handoverLimit (s : State) (n : Nat) : Nat :=
  Nat.max (Nat.max 1 s.cyc.timeout * 1000000) (2 * (((tasksOn s n).map (·.period)).foldl Nat.max 0) * 250000)

/-- A CE not switched within its timeout after Th is switched by force (R204): its cycles are abandoned with CAUSE 5, and event source 993
is raised. -/
def handoverTimeout (n : Nat) (s : State) : State :=
  match s.cyc.handover with
  | some h =>
    if h.switching && h.left.contains n && decide (h.th + handoverLimit s n ≤ devTime s) then
      raise 993 [] (switchCe n (abandonCycles n s))
    else s
  | none => s

/-- A data map applied to data SRAM (R204): variables kept move from the old addresses at once. -/
def applyMoves (old : Tab Byte) : List MapMove → Tab Byte → Tab Byte
  | [], m => m
  | .keep src dst len :: t, m => applyMoves old t (writeBytes m dst (readBytes old src len))
  | .init dst bs :: t, m => applyMoves old t (writeBytes m dst bs)

/-- A data map reads an address of data SRAM. -/
def mapReads (moves : List MapMove) (a : Nat) : Bool :=
  moves.any (fun m => match m with
    | .keep src _ len => decide (src ≤ a ∧ a < src + len)
    | .init _ _ => false)

/-- DATA_MAP_COMPLETE (R178, R205, R213): not while the CE is halted, and not after a commit (R208). Starts that came due meanwhile are
taken. Of the words read that hold an error, a double-bit one raises ECC and leaves the map to run, and single-bit ones are counted. -/
def dataMapDone (n : Nat) (errs : List (Fin 131072 × Ecc)) (s : State) : State :=
  match s.cyc.handover with
  | some h =>
    let c := ceOf s n
    if h.mapping.contains n && decide (c.st ≠ .halt) && decide (s.rst.brace ≠ .committed) then
      let moves := (((imageOf s n).maps.filter (fun m => decide (m.ce = n))).flatMap (·.moves))
      let found := errs.filter (fun e => (List.range 4).any (fun k => mapReads moves (4 * e.1.val + k)))
      let hits := (found.filter (fun e => decide (e.2 = .corrected))).length
      let c := if hits = 0 then c else { c with sramCe := satAdd 255 c.sramCe hits }
      let s := errReport n (ceOf s n) (putCe s n c)
      match found.find? (fun e => decide (e.2 = .double)) with
      | some e =>
        let s := takeException n causeEcc 1 (some (wordN (4 * e.1.val))) 0 s
        if (ceOf s n).st = .idle then putCe s n { ceOf s n with st := .run } else s
      | none =>
      let s := putCe s n { c with sram := applyMoves c.sram moves c.sram }
      let h : Handover := { h with mapping := h.mapping.filter (fun k => decide (k ≠ n)) }
      let s : State := { s with cyc := { s.cyc with handover := some h } }
      finishHandover (startHighest n s)
    else s
  | none => s

/-- A task with nothing but its counts. -/
def countsOnly (por : Bool) (t : Task) : Task := if por then {} else { ({} : Task) with overruns := t.overruns, skipped := t.skipped }

/-- The tasks, stacks and pending starts of CEs whose compute die is reset; counts are kept unless by power-on. -/
def dropTasks (por : Bool) (mine : Nat → Bool) (s : State) : State :=
  let gone (t : Nat) : Bool := match taskCfg s t with | some c => mine c.ce | none => true
  let ts := s.cyc.tasks.map (fun e => if gone e.1 then (e.1, countsOnly por e.2) else e)
  { s with cyc := { s.cyc with
      tasks := ts.filter (fun e => decide (e.2 ≠ {})), ceStacks := s.cyc.ceStacks.filter (fun e => !(mine e.1)) } }

/-- The tasks of the loaded table on CEs that are released (R203); FLAGS bit 0 or 1 marks their first cycles. -/
def loadTasks (mine : Nat → Bool) (warm : Bool) (s : State) : State :=
  let s := dropTasks false mine s
  (s.img.tasks.filter (fun c => mine c.ce)).foldl (fun s c => putTask s c.task { taskOf s c.task with
    state := .waiting, set := runSet s.frm, flags := if warm then 2 else 1 }) s

/-! ## Tenant modules (R231, R232) -/

/-- The checks of R231 on a module's bytes. -/
def moduleOk (t : TenantCfg) (bs : List Byte) : Bool :=
  let at2 (off n : Nat) : Nat := leNat ((bs.drop off).take n)
  decide (bs.take 4 = [0x54, 0x4D, 0x44, 0x1A]) && decide (at2 4 2 = t.no) && decide (at2 6 2 = 1)
    && decide (at2 8 4 = bs.length) && decide (bs.length ≤ t.codeMax) && decide (208 ≤ bs.length)
    && ((bs.drop 16).take 48).all (fun b => decide (b = 0))
    && decide ((bs.drop 64).take 48 = sha384 (bs.drop 208))
    && ecdsaP384 t.key (bs.take 112) ((bs.drop 112).take 96)

/-- The tasks of a tenant's sandbox CEs. -/
def tenantTasks (s : State) (t : Nat) : List TaskCfg :=
  ((s.img.sandbox.filter (fun x => decide (x.tenant = t))).map (·.ce)).flatMap (tasksOn s)

/-- A tenant's task runs or is pre-empted. -/
def tenantRuns (s : State) (t : Nat) : Bool := (tenantTasks s t).any (fun c => (stackOf s c.ce).contains c.task)

/-- How long ago a tenant's waiting module was checked, in ns, at the tick last reached and now; none without one. -/
def moduleAge (s : State) (t : Nat) : Option (Nat × Nat) :=
  (tget ({} : TenantModule) s.cmb.modules t).waiting.map
    (fun w => (devTime s / 250000 * 250000 - w.2, devTime s - w.2))

/-- A module's switch (R232): the other half executes, first cycles carry FLAGS bit 2, event source 101. -/
def moduleSwitch (t : Nat) (s : State) : State :=
  let m := tget ({} : TenantModule) s.cmb.modules t
  match m.waiting with
  | none => s
  | some (v, _) =>
    let s : State := { s with cmb := { s.cmb with
      modules := tset ({} : TenantModule) s.cmb.modules t { half := !m.half, version := v, waiting := none } } }
    let s := (tenantTasks s t).foldl (fun s c =>
      putTask s c.task { taskOf s c.task with flags := (taskOf s c.task).flags ||| 4 }) s
    raise 101 [wordN t, v] s

/-- The running cycles of a tenant abandoned with CAUSE 5; a CE that a handover waits for then switches (R204). -/
def abandonTenant (t : Nat) (s : State) : State :=
  ((s.img.sandbox.filter (fun x => decide (x.tenant = t))).map (·.ce)).foldl (fun s n => settleSwitch n (abandonCycles n s)) s

/-! ## Registers -/

/-- CYC_TASKt_STAT. -/
def taskStat (s : State) (t : Nat) : Word :=
  let x := taskOf s t
  let code := match x.state with
    | .absent => 0 | .waiting => 1 | .running => 2 | .preempted => 3 | .pending => 4 | .stopped => 5
  match taskCfg s t with
  | some c => regOf [(31, 29, code), (28, 28, b2n x.set), (27, 25, c.cls), (23, 20, c.prio), (18, 12, c.ce), (11, 8, x.ovrSeq),
      (3, 0, x.err)]
  | none => regOf [(31, 29, code), (28, 28, b2n x.set), (11, 8, x.ovrSeq), (3, 0, x.err)]

/-- CYC_HANDOVER. -/
def handoverReg (s : State) : Word :=
  let h := s.cyc.handover
  regOf [(31, 30, match h with | some x => if x.switching then 2 else 1 | none => 0),
    (23, 16, match h with | some x => x.left.length | none => 0), (15, 0, s.cyc.timeout)]

/-- A register of the CYC block by its offset; none where there is no register. -/
def cycReg (s : State) (off : Nat) : Option Word :=
  match off with
  | 0x000 => some (regOf [(31, 31, b2n (decide (s.cyc.forces ≠ []))), (30, 30, b2n (shedding s)),
      (23, 16, (tableInForce s).length), (10, 0, s.cyc.forces.length)])
  | 0x004 => some (handoverReg s)
  | 0x008 => some 0
  | 0x010 => some s.cyc.cmdTarget
  | 0x014 => some s.cyc.cmdMask
  | 0x018 => some s.cyc.cmdValue
  | 0x01C => some (regOf [(27, 25, s.cyc.result), (23, 14, s.cyc.tenant), (10, 0, s.cyc.minutes)])
  | o =>
    if 0x1000 ≤ o ∧ o < 0x1780 then
      let t := (o - 0x1000) / 8
      if o % 8 = 0 then some (taskStat s t)
      else if o % 8 = 4 then some (regOf [(31, 16, (taskOf s t).overruns), (15, 0, (taskOf s t).skipped)])
      else none
    else none

/-- CYC_TASK_CMD 1: a STOPPED task waits for its next tick, an error task with records queued is pending for them (R198), and one whose last
cycle still stands on a stack goes on with it. -/
def taskStartCmd (t : Nat) (s : State) : State :=
  let x := taskOf s t
  if t < 240 ∧ x.state = .stopped then
    match (tableInForce s).find? (fun c => decide (c.task = t) && (stackOf s c.ce).contains t) with
    | some c => putTask s t { x with state := if (stackOf s c.ce).head? = some t then .running else .preempted, stopping := false }
    | none =>
      let records := decide (x.queue ≠ []) && (match taskCfg s t with | some c => decide (c.cls = 4) | none => false)
      putTask s t { x with state := if records then .pending else .waiting, stopping := false }
  else s

/-- CYC_TASK_CMD 2: a task stops after its running cycle, or at once when none runs. -/
def taskStopCmd (t : Nat) (s : State) : State :=
  let x := taskOf s t
  match taskCfg s t with
  | none => s
  | some c =>
    if 240 ≤ t then s
    else match x.state with
      | .running => putTask s t { x with stopping := true }
      | .preempted => putTask s t { x with stopping := true }
      | .waiting => stopTask c 0 s
      | .pending => stopTask c 0 s
      | _ => s

/-- A write to a register of the CYC block. -/
def cycWrite (off : Nat) (v : Word) (s : State) : State :=
  match off with
  | 0x004 => { s with cyc := { s.cyc with timeout := fld v 15 0 } }
  | 0x008 => match fld v 11 8 with
    | 1 => taskStartCmd (fld v 7 0) s
    | 2 => taskStopCmd (fld v 7 0) s
    | _ => s
  | 0x010 => { s with cyc := { s.cyc with cmdTarget := v } }
  | 0x014 => { s with cyc := { s.cyc with cmdMask := v } }
  | 0x018 => { s with cyc := { s.cyc with cmdValue := v } }
  | 0x01C => forceCommand (fld v 31 28) (fld v 23 14) (fld v 10 0) s
  | _ => s

end Sys2Proof.Machine
end

