-- ==== Sys2Proof/Machine/TrussOps.lean ====
section
/-! DEFINITION. The truss as shared operations: ports and routers, the virtual channels of a link, their reset and release, abandoned
transfers and the arbitration at a router's output (R76, R77, R99 to R108). -/
namespace Sys2Proof.Machine

/-! ## Ports and routers -/

/-- The die that owns a truss endpoint port (R18). -/
def dieOfPort (p : Nat) : Die :=
  if p < 32 then .comp0 else if p < 64 then .comp1 else if p < 92 then .io else if p < 100 then .field
  else if p < 104 then .safA else if p < 108 then .safB else if p < 112 then .keeper
  else if p < 116 then .mem0 else if p < 120 then .mem1 else if p < 124 then .mem2 else .mem3

/-- The ports in the order in which the wavefront releases their routers (R76): MRAM, Keeper, I/O with field and safety taps, compute. -/
def wavefrontOrder : List Nat :=
  (List.range 16).map (· + 112) ++ (List.range 4).map (· + 108) ++ (List.range 44).map (· + 64) ++ List.range 64

/-- The ports of some dies, in wavefront order. -/
def portsOf (ds : List Die) : List Nat := wavefrontOrder.filter (fun p => ds.contains (dieOfPort p))

/-- The router of a port is out of reset. -/
def routerUp (s : State) (p : Nat) : Bool := s.trs.routers.contains p

/-- The endpoint port behind a link, whose router receives what travels on it. -/
def linkPort (n : Nat) : Nat := Config.linkPort n % 128

/-- The endpoint port at the router that sends on a link. -/
def linkSource (n : Nat) : Nat := Config.linkSource n % 128

/-! ## Links -/

def linkOf (s : State) (n : Nat) : Link := tget ({} : Link) s.trs.links n
def putLink (s : State) (n : Nat) (l : Link) : State := { s with trs := { s.trs with links := tset ({} : Link) s.trs.links n l } }

/-- Virtual channel `v` of a link. -/
def vcOf (l : Link) : Nat → VcLane
  | 0 => l.vc0 | 1 => l.vc1 | 2 => l.vc2 | _ => l.vc3
def putVc (l : Link) (v : Nat) (x : VcLane) : Link :=
  match v with
  | 0 => { l with vc0 := x } | 1 => { l with vc1 := x } | 2 => { l with vc2 := x } | _ => { l with vc3 := x }

/-- Every virtual channel of a link changed. -/
def mapVcs (f : VcLane → VcLane) (l : Link) : Link :=
  { l with vc0 := f l.vc0, vc1 := f l.vc1, vc2 := f l.vc2, vc3 := f l.vc3 }

/-- Every link of some ports changed. -/
def mapLinks (here : Nat → Bool) (f : Link → Link) (s : State) : State :=
  { s with trs := { s.trs with links := s.trs.links.map (fun e => if here e.1 then (e.1, f e.2) else e) } }

/-- A pair stands in the replay buffer with two credits taken for it: it has been sent and not yet accepted. -/
def laneSent (x : VcLane) : Bool :=
  match x.replay with
  | some (_, n) => decide (0 < n) || x.retryAsked
  | none => false

/-- The credit book of a virtual channel balances (R104, R109): credits at the sender, and two for each pair that has been sent and
not yet left the receiver's buffer, make 16. -/
def laneBalanced (x : VcLane) : Bool := decide (x.credits + 2 * b2n (laneSent x) + 2 * x.buffer.length = 16)
def linkBalanced (l : Link) : Bool := laneBalanced l.vc0 && laneBalanced l.vc1 && laneBalanced l.vc2 && laneBalanced l.vc3

/-- Every flit has left the buffers of a link. -/
def laneEmpty (x : VcLane) : Bool := x.replay.isNone && decide (x.buffer = [])
def linkEmpty (l : Link) : Bool := laneEmpty l.vc0 && laneEmpty l.vc1 && laneEmpty l.vc2 && laneEmpty l.vc3

/-! ## Speed monitors (R94) -/

/-- The router of the tile whose reset domain a CE's speed monitor sits in (R18, R94). -/
def monitorPort (n : Nat) : Nat := 2 * (n / 4)

/-- The speed monitors of some CEs calibrated (R94): each is VALID from its next report on. -/
def calibrate (ns : List Nat) (s : State) : State :=
  { s with trs := { s.trs with
      mons := tupdAll ({} : Monitor) ns (fun _ m => { m with cal := true, valid := false, low := 0 }) s.trs.mons } }

/-! ## Reset and release (R76, R77, R108) -/

/-- The router behind a link goes into reset: it drops the flits it holds, and the sender outside the reset holds the pair it has not had
acknowledged (R77). -/
def laneReset (x : VcLane) : VcLane :=
  { x with buffer := [], retryAsked := false, replay := x.replay.map (fun r => (r.1, 0)) }
/-- A link whose router goes into reset. Its marking as failed or unreachable goes with the router's state, which the manual does not say
(DESIGN CHOICE, log entry 109): after the release its own lane is tried again. -/
def linkReset (l : Link) : Link :=
  mapVcs laneReset { l with failed := false, unreachable := false, resync := false }

/-- The router that sends on a link goes into reset: it drops the pair it holds (R108). -/
def laneSourceReset (x : VcLane) : VcLane := { x with retryAsked := false, replay := none }

/-- The router at release sets 16 credits, and its neighbours their counts towards it (R77, R108). -/
def laneRelease (x : VcLane) : VcLane :=
  { x with credits := 16, lastSeq := none, buffer := [], retryAsked := false, replay := x.replay.map (fun r => (r.1, 0)) }
def linkRelease (l : Link) : Link := mapVcs laneRelease { l with resync := false }

/-- The router at release sets 16 credits on a link it sends on (R77): what a receiver outside the reset held has long left its buffer. -/
def sourceRelease (l : Link) : Link :=
  let last (v : Nat) (o : Option (Nat × FlitPair)) : Option (Nat × FlitPair) :=
    match (vcOf l v).buffer.getLast? with
    | some p => some (v, p)
    | none => o
  mapVcs (fun x => { x with credits := 16, buffer := [] }) { l with lastOut := last 0 (last 1 (last 2 (last 3 l.lastOut))) }

/-- The routers of some ports go into reset. -/
def resetRouters (ps : List Nat) (s : State) : State :=
  mapLinks (fun n => ps.contains (linkPort n)) linkReset
    (mapLinks (fun n => ps.contains (linkSource n)) (mapVcs laneSourceReset)
      { s with trs := { s.trs with routers := s.trs.routers.filter (fun p => !(ps.contains p)) } })

/-- One router leaves reset. -/
def releaseRouter (s : State) (p : Nat) : State :=
  if routerUp s p then s
  else mapLinks (fun n => decide (linkPort n = p)) linkRelease
    (mapLinks (fun n => decide (linkSource n = p)) sourceRelease { s with trs := { s.trs with routers := s.trs.routers ++ [p] } })

/-- The wavefront over some ports, in its order (R76); the routers of a die that is unpowered or failed stay in reset. Once start-up has
closed the VCORE loop, a tile's monitors are calibrated when they leave reset with its router: R94 names phase 4 alone (DESIGN CHOICE,
log entry 147). -/
def wavefront (ps : List Nat) (s : State) : State :=
  let up := wavefrontOrder.filter (fun p => ps.contains p && !(routerUp s p) && decide (s.dies.get (dieOfPort p) ≠ .unpowered)
    && decide (s.dies.get (dieOfPort p) ≠ .failed))
  let s := up.foldl releaseRouter s
  if s.rst.vready then calibrate ((List.range 128).filter (fun n => up.contains (monitorPort n))) s else s

/-! ## Abandoned transfers (R72, R108) -/

/-- Transfers in flight on a virtual channel: sent and not acknowledged, or in the receiver's buffer. -/
def laneFlight (x : VcLane) : List FlitPair :=
  (match x.replay with | some (p, _) => if laneSent x then [p] else [] | none => []) ++ x.buffer
def linkFlight (l : Link) : List FlitPair := laneFlight l.vc0 ++ laneFlight l.vc1 ++ laneFlight l.vc2 ++ laneFlight l.vc3

/-- The transfers in flight on a link abandoned: their credits return. -/
def linkAbandon (l : Link) : Link :=
  mapVcs (fun x => { x with credits := 16, replay := none, retryAsked := false, buffer := [] })
    { l with abandoned := l.abandoned + (linkFlight l).length }

/-- The requester of a transfer receives an abandoned completion, and no data; event source 37 (R108, R115). -/
def abandonedCompletion (s : State) (p : FlitPair) : State :=
  raise 37 [] { s with trs := { s.trs with abandonedTo := tupd 0 s.trs.abandonedTo (Config.requesterPort p % 128) (· + 1) } }

/-- Every transfer in flight on some links abandoned. -/
def abandonLinks (here : Nat → Bool) (s : State) : State :=
  ((s.trs.links.filter (fun e => here e.1)).flatMap (fun e => linkFlight e.2)).foldl abandonedCompletion (mapLinks here linkAbandon s)

/-! ## Arbitration at a router's output (R85, R99, R100, R102, R103) -/

/-- The budget of a port (TRS_VCBUDp). -/
def portBudget (t : Trs) (p : Nat) : Word := tget 0x00420800 t.budgets p

/-- The output by which a pair leaves the router behind a link: its endpoint port, or, from 128 on, the link it goes on by. -/
def outputOf (n : Nat) (p : FlitPair) : Nat :=
  match Config.nextLink n p with
  | some m => 128 + m % 1024
  | none => linkPort n

/-- The endpoint port behind an output, whose budget the output keeps. -/
def outputPort (o : Nat) : Nat := if o < 128 then o else linkPort (o - 128)

/-- An output has room for a pair of a virtual channel: the credits for both flits on the link it leads to, whose replay buffer is free and
whose router is out of reset (R77, R103). An endpoint takes what comes to it. -/
def outputRoom (s : State) (o v : Nat) : Bool :=
  if o < 128 then true
  else
    let l := linkOf s (o - 128)
    let x := vcOf l v
    x.replay.isNone && decide (2 ≤ x.credits) && routerUp s (linkPort (o - 128)) && !l.unreachable

/-- The links whose oldest pair on a virtual channel waits for an output. -/
def waitingLinks (s : State) (o v : Nat) : List Nat :=
  (s.trs.links.filter (fun e => routerUp s (linkPort e.1) && (match (vcOf e.2 v).buffer with
    | p :: _ => decide (outputOf e.1 p = o)
    | [] => false))).map (·.1)

/-- A pair sent on the link of an output (R103, R105): two credits taken, a copy in the replay buffer, and a sequence bit of its own. -/
def sendOn (s : State) (m v : Nat) (p : FlitPair) : State :=
  let l := linkOf s m
  let x := vcOf l v
  let seq := match x.lastSeq with | some b => !b | none => false
  putLink s m (putVc l v { x with credits := x.credits - 2, replay := some ({ p with seq := seq }, 1) })

/-- The oldest pair that waits on a virtual channel leaves by an output, and its two credits return (R104). Among links that compete on
one channel the lowest number goes first, which the manual leaves open (DESIGN CHOICE, log entry 110). -/
def outputForward (s : State) (o v : Nat) : State :=
  match waitingLinks s o v with
  | n :: _ =>
    let l := linkOf s n
    let x := vcOf l v
    match x.buffer with
    | p :: rest =>
      let s := putLink s n { putVc l v { x with buffer := rest, credits := Nat.min 16 (x.credits + 2) } with lastOut := some (v, p) }
      if o < 128 then s else sendOn s (o - 128) v p
    | [] => s
  | [] => s

/-- A virtual channel has a pair that can leave by an output; VC3 of an MRAM port waits for the save in brace (R85). -/
def outputReady (s : State) (o v : Nat) : Bool :=
  decide (waitingLinks s o v ≠ []) && outputRoom s o v && !(decide (v = 3) && inBrace s && decide (112 ≤ outputPort o))

/-- The virtual channel that goes next of 1, 2 and 3: VC1 while its share of the output's last 64 pairs is below VC1_CAP, else the one
furthest below its weighted share; VC1 then weighs as VC2. How a weighted share is reckoned the manual leaves open: DESIGN CHOICE, log
entry 110. -/
def nextVc (s : State) (o : Nat) : Option Nat :=
  let w := portBudget s.trs (outputPort o)
  let served := tget [] s.trs.served o
  let w2 := Nat.max 1 (fld w 17 12)
  let w3 := Nat.max 1 (fld w 11 6)
  let n (v : Nat) : Nat := (served.filter (fun x => decide (x = v))).length
  if outputReady s o 1 && decide (n 1 < fld w 23 18) then some 1
  else minBy (fun v => (((if v = 3 then w2 else w3) * n v : Nat) : Int)) ([1, 2, 3].filter (outputReady s o))

/-- What leaves by an output in one turn: a pair of VC0, which has a lane of its own, and one pair of the others (R99, R100). -/
def outputTurn (s : State) (o : Nat) : State :=
  let s := if outputReady s o 0 then outputForward s o 0 else s
  match nextVc s o with
  | some v => outputForward { s with trs := { s.trs with served := tset [] s.trs.served o ((v :: tget [] s.trs.served o).take 64) } } o v
  | none => s

/-- The outputs that pairs in the buffers wait for. -/
def outputsWanted (s : State) : List Nat :=
  (s.trs.links.flatMap (fun e => [0, 1, 2, 3].filterMap (fun v => ((vcOf e.2 v).buffer.head?).map (outputOf e.1)))).eraseDups

/-- A turn of every output of a router out of reset. -/
def trussTurn (s : State) : State := (outputsWanted s).foldl outputTurn s

end Sys2Proof.Machine
end

