-- ==== Sys2Proof/Machine/History.lean ====
section
/-! DEFINITION. Meanings of the timebase, acquisition and history-store commands (R487 to R514). -/
namespace Sys2Proof.Machine

/-- One count of REFCLK at 1 GHz (R56): every link of the truss has a turn (log entry 110), and the device clock, where it runs, gains one
ns and its rate adjustment of ADJ × 10^-7 ns (R487, R489). -/
def clockCount (s : State) : State :=
  let s := trussTurn s
  let t := s.tmb
  if t.running then
    let f := t.frac + 10000000 + t.adj
    { s with now := s.now + 1, tmb := { t with time := t.time + (f / 10000000).toNat, frac := f % 10000000 } }
  else { s with now := s.now + 1 }

/-- LOCKED takes a value; event source 3705 at a change (R490, R514). -/
def setLocked (b : Bool) (s : State) : State :=
  raiseIf (decide (s.tmb.locked ≠ b)) 3705 [] { s with tmb := { s.tmb with locked := b } }

/-- A new source offset (R489): before READY device time steps by it; after READY the timebase slews towards it at a rate of
its own choosing of at most 200 ppm, a free value, and an offset above 1 ms raises event source 3706. One above 100 ns ends LOCKED
(R490). -/
def sourceOffset (off : Int) (s : State) : State :=
  let t := s.tmb
  let isNear := decide (-100 ≤ off ∧ off ≤ 100)
  let near := if isNear then some (t.nearSince.getD s.now) else none
  if t.running = false then s
  else if s.pins.ready = false then
    (if isNear then id else setLocked false)
      { s with tmb := { t with time := ((t.time : Int) + off).toNat, offset := off, nearSince := near } }
  else
    let rate : Int := ((freeNat s % 2000 + 1 : Nat) : Int)
    let adj : Int := if off = 0 then t.adj else if 0 < off then rate else -rate
    (if isNear then id else setLocked false) <| raiseIf (decide (1000000 < off.natAbs)) 3706 []
      (drawn { s with tmb := { t with offset := off, adj := adj, nearSince := near } })

/-- The nearest whole second to a time in ns. -/
def nearestSecond (t : Nat) : Nat := (t + 500000000) / 1000000000

/-- A PPS_IN rising edge (R57, R488): a whole second of device time under SOURCE 2 and 3, with the seconds of IEEE 802.1AS
or of the calendar before READY; after READY the second nearest to the source's time as last known (R530). Also an interval source
(R496). A restored PPS_IN raises event source 3707. -/
def execPpsEdge (s : State) : Result :=
  let t := s.tmb
  let s := offerInterval 96 none t.time s
  if t.source = 2 ∨ t.source = 3 then
    let sec := if s.pins.ready then nearestSecond ((t.time : Int) + t.offset).toNat
      else if t.source = 2 then
        (match t.gpBase with | some b => nearestSecond (b + (s.now : Int)).toNat | none => nearestSecond t.time)
      else s.kpr.calSec
    let off : Int := ((sec * 1000000000 : Nat) : Int) - (t.time : Int)
    done (sourceOffset off (raiseIf (!t.ppsOk) 3707 [] { s with tmb := { s.tmb with ppsOk := true } }))
  else done { s with tmb := { s.tmb with ppsOk := true } }

/-- A new offset of the selected source (R489): SOURCE 0 gives none, nor does a module that is the grandmaster itself (R488). -/
def execTimebaseAdjust (offset : Int) (s : State) : Result :=
  done (if s.tmb.source = 0 ∨ (s.tmb.source = 1 ∧ s.tmb.gm = true) then s else sourceOffset offset s)

/-- No PPS_IN edge for 1.5 s (R490, R513): the last rate adjustment is kept, LOCKED clears, event source 3707. -/
def execPpsLost (s : State) : Result :=
  let lost := s.tmb.ppsOk
  let s : State := { s with tmb := { s.tmb with
    ppsOk := false, nearSince := if s.tmb.source = 2 ∨ s.tmb.source = 3 then none else s.tmb.nearSince } }
  if s.tmb.source = 2 ∨ s.tmb.source = 3 then done (raiseIf lost 3707 [] (setLocked false s)) else done s

/-- The offset has stayed within 100 ns for 10 s (R490). -/
def execTimebaseLocked (s : State) : Result :=
  match s.tmb.nearSince with
  | some n => done (if s.tmb.running && decide (n + 10000000000 ≤ s.now) then setLocked true s else s)
  | none => done s

/-- The IEEE 802.1AS source is lost (R490): the rate is kept and LOCKED clears. -/
def execGptpSourceLost (s : State) : Result :=
  if s.tmb.source = 1 ∧ s.tmb.gm = false then done (setLocked false { s with tmb := { s.tmb with gpBase := none, nearSince := none } })
  else done { s with tmb := { s.tmb with gpBase := none } }

/-- The event of least stamp among those held: of one stamp a start before a stop (R496), but the stop first while a start is open
(R513). -/
def firstHeld (isOpen : Bool) (l : List (Nat × Bool)) : Option (Nat × Bool) :=
  minBy (fun e => ((2 * e.1 + b2n (e.2 != isOpen) : Nat) : Int)) l

/-- One copy of an element removed. -/
def removeOne (x : Nat × Bool) : List (Nat × Bool) → List (Nat × Bool)
  | [] => []
  | y :: t => if y = x then t else y :: removeOne x t

/-- An interval unit takes its next held event in stamp order, 250 ns after its stamp (R496, R513); a stop stamped before the open start
finds no start of its own and is discarded. -/
def execIntervalEvent (i : Fin 8) (s : State) : Result :=
  let u := tget ({} : IntervalUnit) s.acq.ints i.val
  let put (v : IntervalUnit) (s : State) : State :=
    { s with acq := { s.acq with ints := tset ({} : IntervalUnit) s.acq.ints i.val v } }
  match firstHeld u.openAt.isSome u.heldEv with
  | none => done s
  | some (t, isStop) =>
    if devTime s < t + 250 then done s
    else
    let u := { u with heldEv := removeOne (t, isStop) u.heldEv }
    match isStop, u.openAt with
    | false, none => done (put { u with openAt := some t } s)
    | false, some _ => done (put { u with discarded := satAdd 4294967295 u.discarded 1 } s)
    | true, none =>
      done (raiseIf (!u.order) (3344 + i.val) []
        (put { u with order := true, discarded := satAdd 4294967295 u.discarded 1 } s))
    | true, some a =>
      if t < a then
        done (raiseIf (!u.order) (3344 + i.val) []
          (put { u with order := true, discarded := satAdd 4294967295 u.discarded 1 } s))
      else
      let d := t - a
      let v := wordN (Nat.min 4294967295 d)
      let co := decide (d = 0)
      let flags := b2n co + 2 * b2n (decide (4294967295 < d))
      done (placeMark u.units 3 flags i.val v a (put { u with openAt := none, coinc := co, last := v } s))

/-- A page closes when full or 100 ms after its first record (R494). -/
def execPageClose (stream : Fin 19) (s : State) : Result := done (closePage stream.val s)

/-- A root port's drive. -/
def portOf (s : State) (n : Nat) : Port := if n = 0 then s.sto.port0 else s.sto.port1
def putPort (s : State) (n : Nat) (p : Port) : State :=
  if n = 0 then { s with sto := { s.sto with port0 := p } } else { s with sto := { s.sto with port1 := p } }

/-- A drive completes the Write command of a stream's oldest outstanding page (R501): the page counts as written when every
drive it goes to has completed it. A command that fails is counted and stays outstanding. -/
def execNvmeWriteComplete (drive : Fin 2) (stream : Fin 19) (ok : Bool) (s : State) : Result :=
  let r := ringOf s stream.val
  let p := portOf s drive.val
  let waits (w : PageWrite) : Bool := if drive.val = 0 then w.at0 else w.at1
  match r.writing.find? waits with
  | none => done s
  | some w =>
    if ok = false then done (putPort s drive.val { p with errors := satAdd 65535 p.errors 1 })
    else
      let w' := if drive.val = 0 then { w with at0 := false } else { w with at1 := false }
      if w'.at0 = false ∧ w'.at1 = false then done (pageWritten stream.val w s)
      else
        let ws : List PageWrite := r.writing.map (fun x => if x.page.seq = w.page.seq then w' else x)
        done (putRing s stream.val { r with writing := ws })

/-- Flush every 1 s and at the start of brace (R501). -/
def execNvmePeriodicFlush (s : State) : Result := done (if s.sto.state = 2 ∧ s.sto.halted = false then flushDrives s else s)

/-- CAUSE of a drive that R500 refuses, 0 where it is accepted. -/
def driveCause (d : DriveIdent) : Nat :=
  if d.lba4k = false then 1 else if d.powerLoss = false then 2 else if 2 ^ 40 < d.blocks then 3 else 0

/-- The writes outstanding at drive `n` alone: in a mirror whose drive `n` leaves, their pages are written at the other one already. -/
def writtenWithout (n : Nat) (s : State) (st : Nat) : List PageWrite :=
  (ringOf s st).writing.filter (fun w => if n = 0 then w.at0 && !w.at1 else w.at1 && !w.at0)

/-- A drive leaves: a mirror waits no longer for writes there and goes on degraded with event source 3458; a span or the last drive
stops the store, and the writes outstanding there are never completed (R501, R503). -/
def driveGone (n : Nat) (s : State) : State :=
  let other := decide ((portOf s (1 - n)).drive = 1)
  let s := if s.sto.mirror && other then
      let clear (w : PageWrite) : PageWrite := if n = 0 then { w with at0 := false } else { w with at1 := false }
      let s := (List.range 19).foldl (fun s st => (writtenWithout n s st).foldl (fun s w => pageWritten st w s) s) s
      { s with sto := { s.sto with rings := s.sto.rings.map (fun e => (e.1, { e.2 with writing := e.2.writing.map clear })) } }
    else s
  let s := raise (3456 + n) [] s
  if s.sto.state = 2 then
    if s.sto.mirror && other && !s.sto.rebuild then
      raiseIf (!s.sto.degraded) 3458 [] { s with sto := { s.sto with degraded := true, rebuildPort := n } }
    else if s.sto.mirror && other && decide (s.sto.rebuildPort = n) then
      { s with sto := { s.sto with rebuild := false } }
    else { s with sto := { s.sto with state := 3, rebuild := false } }
  else s

/-- A root port loses its link, with LINK 0 where it is down and 3 where nothing is present: a drive that was identified is gone (R500). -/
def linkLost (n code : Nat) (s : State) : State :=
  let p := portOf s n
  let s := putPort s n { p with link := code, gen := 0, width := 0, drive := 0, cause := 0 }
  if p.drive = 1 then driveGone n s else raiseIf (decide (p.drive ≠ 0)) (3456 + n) [] s

/-- A root port trains or drops (R500): the drive is identified and taken or refused, or is gone. A drive that comes to a degraded mirror
in the place of the one that left is rebuilt, and refused for its size where it is smaller (R503). -/
def execPcieLinkChange (port : Fin 2) (link : LinkState) (drive : DriveIdent) (s : State) : Result :=
  if isIB s ∨ running s .io = false then done s
  else
    let p := portOf s port.val
    match link with
    | .down => done (linkLost port.val 0 s)
    | .notPresent => done (linkLost port.val 3 s)
    | .training => done (putPort s port.val { p with link := 1 })
    | .up g w =>
      let joins := decide (s.sto.state = 2) && s.sto.mirror && s.sto.degraded && decide (s.sto.rebuildPort = port.val)
      let c := if driveCause drive = 0 ∧ joins = true ∧ drive.blocks < p.blocks then 3 else driveCause drive
      let s := raise (3456 + port.val) [] (putPort s port.val { p with
        link := 2, gen := g, width := w, drive := if c = 0 then 1 else 2, cause := c,
        blocks := drive.blocks })
      done (if c = 0 ∧ s.sto.state = 0 then storeStarts s else if c = 0 ∧ joins = true then startRebuild s else s)

/-- A drive fails (R503): a command timeout or a media error. -/
def execDriveFailure (port : Fin 2) (timeout : Bool) (s : State) : Result :=
  let p := portOf s port.val
  if p.drive = 1 then
    done (driveGone port.val (putPort s port.val { p with drive := 3, cause := if timeout then 4 else 5 }))
  else done s

/-- A drive returns, or one of at least the same size takes its place, and a rebuild copy starts (R503). -/
def execDriveReturn (port : Fin 2) (blocks : Nat) (isNew : Bool) (s : State) : Result :=
  let p := portOf s port.val
  if s.sto.mirror ∧ s.sto.degraded ∧ p.drive ≠ 1 ∧ (isNew = false ∨ p.blocks ≤ blocks) then
    done (startRebuild (raise (3456 + port.val) []
      (putPort s port.val { p with drive := 1, cause := 0, link := 2, blocks := if isNew then blocks else p.blocks })))
  else done s

/-- The rebuild copy ends (R503). -/
def execRebuildComplete (s : State) : Result :=
  if s.sto.rebuild then
    done (raise 3459 [] { s with sto := { s.sto with rebuild := false, degraded := false } })
  else done s

/-- STO_CMD FORMAT (R504). -/
def execStoFormat (s : State) : Result := done (atBlock 16 0 (fun s => if isIB s then s else stoFormat s) s)

/-- STO_CMD REBUILD (R1, R503). -/
def execStoRebuild (s : State) : Result := done (atBlock 16 0 (fun s => if isIB s then s else stoRebuild s) s)

/-- STO_CMD FLUSH (R1, R501). -/
def execStoFlush (s : State) : Result := done (atBlock 16 0 (fun s => if isIB s then s else stoFlush s) s)

/-- Every 1 s the ring heads and the cursors go into the journal, which waits in brace (R505, R506, R511). -/
def execHeadJournal (s : State) : Result :=
  if inBrace s ∨ s.sto.state ≠ 2 then done s
  else
    let s : State := { s with sto := { s.sto with
      rings := s.sto.rings.map (fun e => (e.1, { e.2 with journal := e.2.head })),
      cons := s.sto.cons.map (fun e => (e.1, { e.2 with journal := e.2.cursor })) } }
    done s

/-- A consumer's acknowledgement (R506 to R508): every page of the stream up to SEQ. One above the newest page sent to it, or
below its cursor, is ignored. A DOWN consumer goes to BACKFILL, and one that has caught up goes LIVE. -/
def execConsumerAck (k : Fin 16) (stream : BitVec 8) (seq : DWord) (s : State) : Result :=
  let st := stream.toNat
  match consumerCfg s k.val with
  | none => done s
  | some cc =>
    let c := consumer s k.val
    let cur := tget 0 c.cursor st
    if cc.streams.contains st = false ∨ tget 0 c.sent st ≤ seq.toNat ∨ seq.toNat < cur then done s
    else
      let s := putConsumer s k.val { c with cursor := tset 0 c.cursor st (seq.toNat + 1) }
      let s := if c.state = .down then
          let d := consumer s k.val
          consumerState k.val .backfill (putConsumer s k.val { d with fill := d.cursor })
        else s
      done (if (consumer s k.val).state = .backfill && caughtUp s cc then consumerState k.val .live s else s)

/-- No acknowledgement for TMO (R508): a LIVE consumer goes DOWN; the table lets one in BACKFILL leave only when it has caught up. -/
def execConsumerTimeout (k : Fin 16) (s : State) : Result :=
  let c := consumer s k.val
  done (if c.state = .live then consumerState k.val .down s else s)

/-- Once per second a DOWN consumer is sent the page at its oldest cursor (R508): of the streams it takes, the one whose page
is the oldest. -/
def execConsumerDownResend (k : Fin 16) (s : State) : Result :=
  let c := consumer s k.val
  match consumerCfg s k.val with
  | none => done s
  | some cc =>
    if c.state = .down then
      let cand := cc.streams.filterMap (fun st =>
        match tget (none : Option Page) (ringOf s st).pages (tget 0 c.cursor st) with
        | some p => some p
        | none => none)
      match minBy (fun (p : Page) => (p.firstTime : Int)) cand with
      | some p => done (sendPage k.val p false s)
      | none => done s
    else done s

/-- A back-fill page is sent (R508): the next of the stream from the cursor upwards, with BACKFILL set. -/
def execBackfillSend (k : Fin 16) (stream : Fin 19) (s : State) : Result :=
  let c := consumer s k.val
  let st := stream.val
  match consumerCfg s k.val with
  | none => done s
  | some cc =>
    let n := Nat.max (tget 0 c.fill st) (tget 0 c.cursor st)
    match tget (none : Option Page) (ringOf s st).pages n with
    | some p =>
      if c.state = .backfill && cc.streams.contains st then
        done (sendPage k.val p true (putConsumer s k.val { c with fill := tset 0 c.fill st (n + 1) }))
      else done s
    | none => done s

end Sys2Proof.Machine
end

