-- ==== Sys2Proof/Machine/SafCarOps.lean ====
section
/-! DEFINITION. The car functions of one safety channel: positions from raw records, trips, permits, brakes and contactor, brake test,
separation (R377, R388 to R402, R562). -/
namespace Sys2Proof.Machine

def dieOf : Channel → Die
  | .a => .safA | .b => .safB
def safOf (s : State) : Channel → SafDie
  | .a => s.safA | .b => s.safB
def putSaf (s : State) (ch : Channel) (d : SafDie) : State := match ch with | .a => { s with safA := d } | .b => { s with safB := d }
def otherCh : Channel → Channel
  | .a => .b | .b => .a
def safCar (d : SafDie) (c : Nat) : SafCar := tget ({} : SafCar) d.cars c
def putSafCar (d : SafDie) (c : Nat) (x : SafCar) : SafDie := { d with cars := tset ({} : SafCar) d.cars c x }
def safInput (d : SafDie) (k : Nat) : SafInput := tget ({} : SafInput) d.inputs k
def safStn (d : SafDie) (n : Nat) : SafStation := tget ({} : SafStation) d.stations n

/-- TRIP_CAUSE codes (SAF_CARc). -/
def tOverspeed : Nat := 1
def tUcm : Nat := 2
def tDoor : Nat := 3
def tLimit : Nat := 4
def tFeedback : Nat := 5
def tSeparation : Nat := 6
def tBrake : Nat := 7
def tBrakeDue : Nat := 8
def tContactor : Nat := 9
def tFieldSupply : Nat := 10
def tInput : Nat := 11
def tSmoke : Nat := 12
def tChain : Nat := 13

/-- A mask from causes and whether each holds. -/
def causeMask (l : List (Nat × Bool)) : Nat := (l.filter (·.2)).foldl (fun m e => putBit m e.1 true) 0

/-- Both masks together, and one without the bits of another. -/
def orMask (a b : Nat) : Nat := a ||| b
def lessMask (a b : Nat) : Nat := a - (a &&& b)

/-- The first held cause in the order of R389; 0 for none. -/
def firstCause (m : Nat) : Nat := ((List.range 14).find? (fun k => m.testBit k)).getD 0

/-- Manual trips (R389): STOP_CHAIN is one where a contact of class manual has opened. -/
def manualMask (x : SafCar) : Nat :=
  causeMask [(1, true), (2, true), (4, true), (6, true), (7, true), (9, true), (13, x.chainManual)]

/-! ## Inputs (R377 to R379, R562) -/

/-- A safety input as a die's paths show it now: energised or not. -/
def inputNow (s : State) (d : SafDie) (r : InputRef) : Bool :=
  match r with
  | .field k => running s .field && (safInput d k).valid && (safInput d k).level
  | .station n w b => (safStn d n).live && bitAt ((safStn d n).words.getD w 0) b

/-- The door sides that a car has (R561). -/
def doorSides (k : SafCarCfg) : List SafSide := k.sides.filter (fun e => k.has.contains e.side)

/-- Every input that a car's functions use. -/
def carInputs (k : SafCarCfg) : List InputRef :=
  (doorSides k).flatMap (fun x => (x.carDoor :: x.landings.map (·.2)).flatMap (fun p => p.lock.toList ++ p.contact.toList))
    ++ k.brake1.toList ++ k.brake2.toList ++ k.mirror.toList ++ k.chain.map (·.input)

/-- Every input of a configuration (R403). -/
def mappedInputs (c : SafCfg) : List InputRef :=
  [c.rescueOn, c.up, c.down, c.safeReset, c.presence].flatMap (·.toList) ++ c.selects.map (·.2) ++ c.cars.flatMap carInputs

/-- The inputs latched in stage 0 (R377). -/
def latchInputs (s : State) (d : SafDie) : SafDie := { d with seen := (mappedInputs d.cfg).filter (inputNow s d) }

/-- A safety input as a die has latched it. -/
def safLevel (d : SafDie) (r : InputRef) : Bool := d.seen.contains r
def safInputOf (d : SafDie) (r : Option InputRef) : Bool := match r with | some i => safLevel d i | none => false

def pairClosed (d : SafDie) (p : LockPair) : Bool := safInputOf d p.lock && safInputOf d p.contact
def sideClosed (d : SafDie) (x : SafSide) : Bool := pairClosed d x.carDoor && x.landings.all (fun e => pairClosed d e.2)
def brakesApplied (d : SafDie) (k : SafCarCfg) : Bool := safInputOf d k.brake1 && safInputOf d k.brake2
def contactorOpen (d : SafDie) (k : SafCarCfg) : Bool := safInputOf d k.mirror
def brakeContact (d : SafDie) (k : SafCarCfg) (i : Nat) : Bool := safInputOf d (if i = 1 then k.brake1 else k.brake2)

/-- The taps latched for a car (R377): OFF while the I/O die does not run (R392). -/
def latchTap (s : State) (k : SafCarCfg) : CarTap :=
  let reach := if running s .comp0 then tget (0, 0) s.dsp.shafts k.shaft else (0, 0)
  if running s .io then
    let h := hstOf s k.car
    { hoist := h.state, landing := h.landing, relevel := h.noEntry && !h.rescueFlight
      doorF := (tget ({} : Door) s.dor (2 * k.car)).state, doorR := (tget ({} : Door) s.dor (2 * k.car + 1)).state
      tripReq := (fbkOf s k.car).tripReq, reach := reach }
  else { reach := reach }

/-! ## Position and speed -/

/-- The sample period in ns of a car's sources: a local quadrature source reports with the absolute one. -/
def sourcePeriod (s : State) (c : Nat) (quad : Bool) : Nat :=
  let ofStation (n : Nat) : Nat := ((stationCfg s n).map (fun k => stationCycle k.cycle)).getD 250000
  match fbkCfg s c with
  | none => 250000
  | some k =>
    if quad ∧ k.quadStn = true then ofStation k.quadNum
    else if k.absStn then ofStation k.absNum
    else match ssiCfg s k.absNum with
      | some g => (match g.period with | 0 => 50000 | 1 => 100000 | _ => 250000)
      | none => 250000

/-- Samples of the last 1 ms, with a new one in front. -/
def pushSample (t : Nat) (p : Int) (h : List (Nat × Int)) : List (Nat × Int) :=
  (t, p) :: h.filter (fun e => decide (t ≤ e.1 + 1000000))

/-- The speed in mm/s that the samples show, rounded to the nearest. -/
def histSpeed (h : List (Nat × Int)) : Int :=
  match h.head?, h.getLast? with
  | some a, some b => if b.1 < a.1 then roundDiv ((a.2 - b.2) * 10000000) (a.1 - b.1) else 0
  | _, _ => 0

/-- Good samples in a row of a source after a latch: `verdict` is that of a new record, and `bad` a plausibility failure. -/
def goodCount (bad : Bool) (verdict : Option Nat) (n : Nat) : Nat :=
  if bad then 0 else match verdict with | none => n | some 0 => Nat.min 1000 (n + 1) | some _ => 0

/-- A sample carried on to an instant with a speed in mm/s. -/
def carried (v : Int) (t : Nat) (e : Nat × Int) : Int := e.2 + roundDiv (v * ((t : Int) - (e.1 : Int))) 10000000

/-- The newest records of both sources taken in (R377, R389): positions with the configuration's own datum, directions and scale, the
speed, and the plausibility run. A failure anchors the count afresh, so that the samples after it are compared anew (DEDUCED, log entry
164). The newest samples of the two sources are compared at the later of their latch instants, the other carried on with its own speed
(DEDUCED, log entry 84). -/
def takeRecords (d : SafDie) (k : SafCarCfg) (x : SafCar) : SafCar :=
  let newer (kind last : Nat) : Option RawRecord := match tget none d.raws (2 * k.car + kind) with
    | some r => if last < r.latch then some r else none
    | none => none
  let a := newer 0 x.absLast
  let q := newer 1 x.quadLast
  let good (r : Option RawRecord) : Option RawRecord := match r with | some r => if r.verdict = 0 then some r else none | none => none
  let pa := (good a).map (fun r => (r.latch, if k.absDir then k.datum - r.value else r.value - k.datum))
  let absHist := match pa with | some (t, p) => pushSample t p x.absHist | none => x.absHist
  let va := histSpeed absHist
  let anchor := match x.anchor, absHist.head?, good q with
    | none, some e, some r => some (carried va r.latch e, r.value)
    | o, _, _ => o
  let pq := match good q, anchor with
    | some r, some (p, c) =>
      let dq := roundDiv (countDiff r.value c * k.scale) (2 ^ 24)
      some (r.latch, p + if k.quadDir then -dq else dq)
    | _, _ => none
  let quadHist := match pq with | some (t, p) => pushSample t p x.quadHist | none => x.quadHist
  let vq := histSpeed quadHist
  let both := match absHist.head?, quadHist.head? with
    | some e, some f => if pa.isSome ∨ pq.isSome then
        some ((carried va (Nat.max e.1 f.1) e - carried vq (Nat.max e.1 f.1) f).natAbs) else none
    | _, _ => none
  let bad := match both with | some e => decide (k.plaus * 100 < e) | none => false
  let run : Nat := match both with | some _ => if bad then Nat.min 2 (x.plausRun + 1) else 0 | none => x.plausRun
  let failed := decide (2 ≤ run)
  { x with
    absLast := match a with | some r => r.latch | none => x.absLast
    quadLast := match q with | some r => r.latch | none => x.quadLast
    absSeen := if a.isSome then d.clock else x.absSeen
    quadSeen := if q.isSome then d.clock else x.quadSeen
    absHist := absHist, quadHist := if failed then [] else quadHist, anchor := if failed then none else anchor
    pos := match pa, pq with | some (_, p), _ => some p | none, some (_, p) => some p | none, none => x.pos
    speed := if va.natAbs < vq.natAbs then vq else va
    plausRun := if failed then 0 else run, plausFail := x.plausFail || failed
    goodAbs := goodCount bad (a.map (·.verdict)) x.goodAbs, goodQuad := goodCount bad (q.map (·.verdict)) x.goodQuad }

/-- The position of a sill (R403). -/
def safSill (k : SafCarCfg) (raw : Int) : Int := if k.absDir then k.datum - raw else raw - k.datum

/-- Within a distance in mm of a sill among landings of a kind. -/
def nearSill (k : SafCarCfg) (x : SafCar) (mm : Nat) (ok : Nat → Bool) : Bool :=
  match x.pos with
  | some p => k.sills.any (fun e => ok e.1 && decide ((p - safSill k e.2).natAbs ≤ mm * 100))
  | none => false

def shaftCfg (d : SafDie) (n : Nat) : Option SafShaftCfg := d.cfg.shafts.find? (fun h => decide (h.shaft = n))

/-! ## Separation (R396, R397) -/

/-- The stopping reach of a car towards its partner, `dir` 1 upwards. -/
def stopReach (h : SafShaftCfg) (x : SafCar) (dir : Int) : Option Int :=
  x.pos.map (fun p =>
    let v := dir * x.speed
    if v < 10 then p else p + dir * (v * h.tReact / 10 + v * v * 100 / (2 * h.adec)))

/-- The margin of a paired shaft in 10 µm: the upper car's reach less the lower car's, less SEP_REST. -/
def shaftMargin (d : SafDie) (h : SafShaftCfg) : Option Int :=
  match h.pair with
  | none => none
  | some (lo, up) => match stopReach h (safCar d lo) 1, stopReach h (safCar d up) (-1) with
    | some a, some b => some (b - a - h.sepRest)
    | _, _ => none

/-- The margin of a car's shaft is below 0. -/
def separationLost (d : SafDie) (k : SafCarCfg) : Bool :=
  match shaftCfg d k.shaft with
  | some h => (match h.pair with
    | some (a, b) => (decide (a = k.car) || decide (b = k.car)) && (match shaftMargin d h with | some m => decide (m < 0) | none => false)
    | none => false)
  | none => false

/-- The planner's reach of a paired car stays SEP_REST away from its partner (R397). -/
def reachClear (d : SafDie) (k : SafCarCfg) : Bool :=
  match shaftCfg d k.shaft with
  | some h => (match h.pair with
    | some (lo, up) =>
      let r := (safCar d k.car).tap.reach
      if lo = k.car then (match (safCar d up).pos with | some p => decide ((h.sepRest : Int) ≤ p - r.1) | none => true)
      else if up = k.car then (match (safCar d lo).pos with | some p => decide ((h.sepRest : Int) ≤ r.2 - p) | none => true)
      else true
    | none => true)
  | none => true

/-! ## Rescue (R399) -/

/-- The rescue selection a die makes: the car whose select input alone is high; while the car selected before moves, it stays. -/
def rescuePick (d : SafDie) : Option Nat :=
  if safInputOf d d.cfg.rescueOn then
    match d.cfg.selects.filter (fun e => safLevel d e.2) with
    | [e] => (match d.rescueCar with
      | some c => if 10 < (safCar d c).speed.natAbs then some c else some e.1
      | none => some e.1)
    | _ => none
  else none

/-- The car to which rescue lets RUN be granted. -/
def rescueGrant (d : SafDie) : Option Nat :=
  if safInputOf d d.cfg.up = safInputOf d d.cfg.down then none else rescuePick d

/-! ## Trips (R389) -/

/-- A field supply group that carries BRK1, BRK2 or MAIN of the car is not good (R402). -/
def supplyLost (s : State) (k : SafCarCfg) : Bool :=
  [k.outBrake1, k.outBrake2, k.outMain].any (fun o => match o with
    | .output n => !(groupGood s (outGroup n))
    | .coil n => !(groupGood s (coilGroup n))
    | .station _ _ _ => false)

/-- A station input that the car uses reads de-energised through its watchdog. -/
def stationGone (d : SafDie) (k : SafCarCfg) : Bool :=
  (carInputs k).any (fun r => match r with | .station n _ _ => !(safStn d n).live | .field _ => false)

/-- Position beyond a limit, or too fast for the distance to the limit ahead. -/
def limitBroken (d : SafDie) (k : SafCarCfg) (x : SafCar) : Bool :=
  match x.pos with
  | none => false
  | some p =>
    let adec := ((shaftCfg d k.shaft).map (·.adec)).getD 0
    let beyond (dist : Int) : Bool := decide (2 * (adec : Int) * dist < x.speed * x.speed * 100)
    decide (k.ulim < p) || decide (p < k.llim) || (decide (0 < x.speed) && beyond (k.ulim - p))
      || (decide (x.speed < 0) && beyond (p - k.llim))

/-- A source has given no raw record for 3 of its sample periods by the die's own clock. -/
def sourceSilent (s : State) (d : SafDie) (k : SafCarCfg) (x : SafCar) : Bool :=
  decide (x.absSeen + 3 * sourcePeriod s k.car false < d.clock) || decide (x.quadSeen + 3 * sourcePeriod s k.car true < d.clock)

/-- A source is silent, or TRIP_REQ stands. -/
def feedbackGone (s : State) (d : SafDie) (k : SafCarCfg) (x : SafCar) : Bool :=
  x.tap.tripReq || sourceSilent s d k x

def atRest (x : SafCar) : Bool := decide (x.speed.natAbs < 10)

/-- The causes present at a latch. BRAKE and CONTACTOR stand as the contacts show them (R393). -/
def presentCauses (s : State) (d : SafDie) (k : SafCarCfg) (x : SafCar) : Nat :=
  let v := x.speed.natAbs
  let zone := nearSill k x k.zone (fun _ => true)
  let slow := safInputOf d d.cfg.rescueOn || d.bench
  let near := if x.ado then nearSill k x k.adoZone (fun _ => true) else zone
  let lim := if x.ado then k.adoV else k.relevelV
  let moved := match x.openAt, x.pos with | some a, some p => decide (k.ucmDist * 100 < (p - a).natAbs) | _, _ => false
  causeMask [
    (tOverspeed, decide (k.osSpeed < v) || (slow && decide (d.cfg.rescueV + 50 < v))),
    (tUcm, !x.locked && zone && moved),
    (tDoor, !x.locked && (!near || decide (lim < v))),
    (tLimit, limitBroken d k x),
    (tFeedback, feedbackGone s d k x || x.plausFail),
    (tSeparation, separationLost d k),
    (tBrake, !(brakesApplied d k)),
    (tContactor, !(contactorOpen d k)),
    (tFieldSupply, supplyLost s k),
    (tInput, stationGone d k),
    (tSmoke, d.freeze && (match x.tap.hoist with | .off => true | .rest => true | .held => true | .tripped => true | _ => false)),
    (tChain, k.chain.any (fun e => !(safLevel d e.input)))]

/-- Trips that clear by themselves (R389), given the causes present. -/
def clearedTrips (d : SafDie) (x : SafCar) : Nat :=
  let gone (k : Nat) : Bool := !(x.present.testBit k)
  causeMask [
    (tDoor, atRest x && x.locked),
    (tFeedback, atRest x && decide (1000 ≤ x.goodAbs ∧ 1000 ≤ x.goodQuad)),
    (tFieldSupply, gone tFieldSupply),
    (tInput, gone tInput),
    (tSmoke, !d.freeze),
    (tChain, !x.chainManual && gone tChain)]

/-- Trips taken at a latch and those that clear. A FEEDBACK trip clears only with its records and TRIP_REQ in order. -/
def takeTrips (s : State) (d : SafDie) (k : SafCarCfg) (x : SafCar) : SafCar :=
  let x := if sourceSilent s d k x then { x with goodAbs := 0, goodQuad := 0 } else x
  let x := { x with present := presentCauses s d k x }
  let x := { x with chainManual := x.chainManual || k.chain.any (fun e => e.manual && !(safLevel d e.input)) }
  let latching := lessMask x.present (causeMask [(tBrake, true), (tContactor, true)])
  let x := { x with trips := orMask x.trips latching }
  let clear := clearedTrips d x
  let clear := if feedbackGone s d k x then lessMask clear (causeMask [(tFeedback, true)]) else clear
  let fb := clear.testBit tFeedback && x.trips.testBit tFeedback
  let x := { x with trips := lessMask x.trips clear }
  if fb then { x with plausFail := false, plausRun := 0 } else x

/-- The test is under way. -/
def testing : BrakePhase → Bool
  | .testLift _ => true | .testHold _ _ => true | .testDrop _ => true | _ => false

/-- Every output of the car off (R389, R393, R395): a running test is aborted. -/
def allOff (x : SafCar) : SafCar :=
  if x.phase = .idle ∨ x.phase = .off then x
  else { x with phase := .off, btResult := if testing x.phase then 0 else x.btResult }

/-- A trip taken outside the latch: the sequence ends with every output of the car off. -/
def tripCar (cause : Nat) (x : SafCar) : SafCar := allOff { x with trips := putBit x.trips cause true, ado := false }

/-! ## Permits (R390, R561) -/

/-- ADO: in FLIGHT or ARRIVE towards a landing served on a door side, within ADO_ZONE of its sill, at ADO_V at most. -/
def grantsAdo (k : SafCarCfg) (x : SafCar) : Bool :=
  (match x.tap.hoist with | .flight => true | .arrive => true | _ => false)
    && decide (x.speed.natAbs ≤ k.adoV) && (doorSides k).any (fun e => e.landings.any (fun l => decide (l.1 = x.tap.landing)))
    && nearSill k x k.adoZone (fun l => decide (l = x.tap.landing))

/-- RUN by R390, R399 and ADO. -/
def grantsRun (d : SafDie) (k : SafCarCfg) (x : SafCar) : Bool :=
  let relevel := x.tap.relevel && (match x.tap.hoist with | .start => true | .flight => true | _ => false)
  (x.locked || x.ado || (x.inZone && decide (x.speed.natAbs ≤ k.relevelV) && relevel))
    && (!(safInputOf d d.cfg.rescueOn) || decide (rescueGrant d = some k.car))

/-- DOOR_F or DOOR_R of a side that the car has. ADO grants the sides on which the car serves the landing ahead (R390: "that door side";
DEDUCED, log entry 140). -/
def grantsDoor (d : SafDie) (k : SafCarCfg) (x : SafCar) (side : Nat) : Bool :=
  (doorSides k).any (fun e => decide (e.side = side) && (sideClosed d e
    || (x.ado && e.landings.any (fun l => decide (l.1 = x.tap.landing)))
    || (atRest x && nearSill k x k.zone (fun l => e.landings.any (fun y => decide (y.1 = l))))))

/-! ## Brakes and contactor (R391, R392), brake test (R395) -/

/-- A step of the sequence at a latch: the phase after it, and a trip that it takes. -/
def brakeStep (d : SafDie) (k : SafCarCfg) (x : SafCar) (run : Bool) : SafCar :=
  let tap := x.tap.hoist
  let ask := run && decide (tap = .start)
  let hold := !run || (match tap with | .off => true | .rest => true | .held => true | .tripped => true | _ => false)
  let applied := brakesApplied d k
  let opened := contactorOpen d k
  let lifted1 := !(brakeContact d k 1)
  let lifted2 := !(brakeContact d k 2)
  match x.phase with
  | .idle => if ask = false then x
    else if applied ∧ opened = true then { x with phase := .main }
    else
      let x := if applied then x else tripCar tBrake x
      if opened then x else tripCar tContactor x
  | .main => if hold then { x with phase := .mainDrop }
    else if opened = false ∧ reachClear d k = true then { x with phase := .lifting } else x
  | .lifting => if hold then { x with phase := .dropping } else if lifted1 ∧ lifted2 = true then { x with phase := .lifted } else x
  | .lifted => if hold then { x with phase := .dropping } else x
  | .dropping => if applied then { x with phase := .mainDrop } else x
  | .mainDrop => if ask then { x with phase := .main } else x
  | .off => if applied ∧ opened = true then { x with phase := .idle } else x
  | .testLift i => if decide (tap = .start) ∨ d.freeze = true then { x with phase := .off, btResult := 0 }
    else if !(brakeContact d k i) then { x with phase := .testHold i (x.pos.getD 0) } else x
  | .testHold _ _ => if decide (tap = .start) ∨ d.freeze = true then { x with phase := .off, btResult := 0 } else x
  | .testDrop i => if decide (tap = .start) ∨ d.freeze = true then { x with phase := .off, btResult := 0 }
    else if brakeContact d k i then
      (if i = 1 then { x with phase := .testLift 2 }
       else { x with
         phase := .idle, btResult := 1, btDue := false, btOver := false, btPass := d.clock
         trips := lessMask x.trips (causeMask [(tBrakeDue, true)]) })
    else x

/-- Bits 4 to 6 of the car byte: BRK1, BRK2, MAIN. -/
def outputBits : BrakePhase → Nat
  | .idle => 0 | .main => 64 | .lifting => 112 | .lifted => 112 | .dropping => 64 | .mainDrop => 64 | .off => 0
  | .testLift i => 16 * i | .testHold i _ => 16 * i | .testDrop _ => 0

/-- One car judged at a latch (R389 to R395): its new state and its byte. A channel outside RUN grants no RUN and holds every output off
(R387, R392). -/
def judgeCar (s : State) (d : SafDie) (k : SafCarCfg) (x : SafCar) : SafCar × Nat :=
  let locked := (doorSides k).all (sideClosed d)
  let x := { x with
    locked := locked, inZone := nearSill k x k.zone (fun _ => true)
    openAt := if locked then none else match x.openAt with | some p => some p | none => x.pos }
  let x := takeTrips s d k x
  let hard := lessMask x.trips (causeMask [(tBrakeDue, true)])
  let up := decide (d.state = .run)
  let x := if hard ≠ 0 ∨ up = false then allOff x else x
  let x := { x with ado := up && decide (x.trips = 0) && grantsAdo k x }
  let run := up && decide (x.trips = 0) && grantsRun d k x
  let x := brakeStep d k x run
  if x.trips = 0 then
    (x, b2n run + 2 * b2n (grantsDoor d k x 0) + 4 * b2n (grantsDoor d k x 1) + 8 * b2n x.ado + outputBits x.phase)
  else (x, 128 + (if testing x.phase then outputBits x.phase else 0))

end Sys2Proof.Machine
end

