-- ==== Sys2Proof/Machine/SafetyOps.lean ====
section
/-! DEFINITION. The safety channels: states, plumb frames and their comparison, release and publication, sealed requests, the change log
and the read view (R374 to R388, R403 to R414, R557, R558). -/
namespace Sys2Proof.Machine

/-- The channel runs its cycle: in INIT, RUN or SAFE. -/
def chUp (d : SafDie) : Bool := decide (d.state ≠ .off ∧ d.state ≠ .fault)

/-- Events 2176 to 2179 and the like, one number per channel. -/
def chNo : Channel → Nat
  | .a => 0 | .b => 1

/-- A channel in RUN enters SAFE with a cause, and its events (R386, R414). -/
def enterSafe (ch : Channel) (cause : Nat) (s : State) : State :=
  let d := safOf s ch
  if d.state = .run then
    let s := putSaf s ch { d with state := .safe, cause := cause }
    let s := match cause with
      | 4 => raise 2181 [] s | 5 => raise 2182 [] s | 6 => raise 2183 [] s | 7 => raise 2183 [] s | _ => s
    raise (2176 + chNo ch) [wordN cause] s
  else s

/-- Both channels have come to RUN (R414). -/
def bothRun (before : Bool) (s : State) : State :=
  raiseIf (!before && decide (s.safA.state = .run ∧ s.safB.state = .run)) 2191 [] s
def runsBoth (s : State) : Bool := decide (s.safA.state = .run ∧ s.safB.state = .run)

/-! ## The configuration (R403, R557, R561) -/

def lockMapped (p : LockPair) : Bool := p.lock.isSome && p.contact.isSome

/-- The door sides of a car and their input map (R561): each side that the car has is mapped once, with its car door and its landings; no
input is mapped to a side that the car lacks; and each landing that the car serves has its lock and contact on some side. -/
def doorsOk (k : SafCarCfg) : Bool :=
  k.has.all (fun n => decide (n ≤ 1) && decide ((k.has.filter (· = n)).length = 1)
      && decide ((k.sides.filter (fun e => decide (e.side = n))).length = 1))
    && k.sides.all (fun e => k.has.contains e.side && lockMapped e.carDoor
      && e.landings.all (fun l => lockMapped l.2 && k.sills.any (fun y => decide (y.1 = l.1))))
    && k.sills.all (fun y => k.sides.any (fun e => e.landings.any (fun l => decide (l.1 = y.1))))

/-- A car's values in range and every function it uses mapped. -/
def safCarOk (c : SafCfg) (k : SafCarCfg) : Bool :=
  let within (lo hi v : Nat) : Bool := decide (lo ≤ v ∧ v ≤ hi)
  within 20 350 k.zone && decide (105 * k.vmax ≤ 100 * k.osSpeed) && within 10 200 k.ucmDist && within 1 50 k.plaus
    && decide (k.relevelV ≤ 300) && decide (k.adoV ≤ 800) && decide (k.adoZone ≤ k.zone)
    && within 20 1000 k.brkLift && within 20 1000 k.brkDrop && within 20 1000 k.ctOn && within 20 1000 k.ctOff
    && within 20 1000 k.mainDrop && within 1 168 k.btInterval && within 1 10 k.btHold && within 1 10 k.btMove
    && decide (k.car < 64) && c.shafts.any (fun h => decide (h.shaft = k.shaft))
    && doorsOk k && k.brake1.isSome && k.brake2.isSome && k.mirror.isSome && decide (k.chain ≠ [])

/-- Field inputs that the configuration maps. -/
def mappedFields (c : SafCfg) : List Nat :=
  (mappedInputs c).filterMap (fun r => match r with | .field k => some k | .station _ _ _ => none)

/-- The rules of R403 and R561 on a configuration. -/
def safCfgOk (c : SafCfg) : Bool :=
  [c.rescueOn, c.up, c.down, c.safeReset, c.presence].all (·.isSome) && c.cars.all (safCarOk c)
    && c.shafts.all (fun h => decide (500 ≤ h.adec ∧ h.adec ≤ 5000) && decide (50 ≤ h.tReact ∧ h.tReact ≤ 1000)
      && decide (50000 ≤ h.sepRest ∧ h.sepRest ≤ 2000000))
    && c.filters.all (fun e => decide (50 ≤ e.2 ∧ e.2 ≤ 10000 ∧ e.2 % 50 = 0))
    && (mappedFields c).all (fun k => c.filters.any (fun e => decide (e.1 = k)))
    && decide (c.selects.length ≤ 8) && decide (c.rescueV ≤ 300) && decide (c.smokeWait ≤ 60000)
    && decide (2 ≤ c.wdStn ∧ c.wdStn ≤ 8) && decide (c.salt.length = 16) && decide (c.password.length = 48)

/-- An image passes R557. -/
def safImageOk (image : List Byte) : Bool := Config.safetyFormat image && safCfgOk (Config.safetyContent image)

/-- A die's active image passes its check in INIT: against its stored digest, and R557. -/
def activeOk (d : SafDie) : Bool := safImageOk d.active && decide (sha384 d.active = d.digest)

/-- The digest of the active configuration that a die reports; none while it cannot answer or its image fails (R557). -/
def safetyCfgDigest (ch : Channel) (s : State) : Option (List Byte) :=
  let d := safOf s ch
  if chUp d && activeOk d then some d.digest else none

/-- The digest of the safety image that a die runs (R134). -/
def safetyImageDigest (ch : Channel) (s : State) : Option (List Byte) :=
  if chUp (safOf s ch) then some (Config.safetyImage ch) else none

/-- Both dies report one configuration digest. -/
def cfgMatch (s : State) : Bool :=
  (safetyCfgDigest .a s).isSome && decide (safetyCfgDigest .a s = safetyCfgDigest .b s)

/-- Every filter of the mapped field inputs is valid (R378). -/
def filtersFull (s : State) (d : SafDie) : Bool := (mappedFields d.cfg).all (fun k => running s .field && (safInput d k).valid)

/-! ## Power (R378, R386, R412) -/

/-- A configuration loaded in a die: a car that it did not have begins afresh, and no separation margin stands. -/
def loadCfg (cfg : SafCfg) (d : SafDie) : SafDie :=
  { d with
    cfg := cfg, margins := []
    cars := cfg.cars.foldl (fun t k => tset ({} : SafCar) t k.car
      (if d.cfg.cars.any (fun o => decide (o.car = k.car)) then safCar d k.car
       else { ({} : SafCar) with absSeen := d.clock, quadSeen := d.clock, btPass := d.clock })) [] }

/-! ## What the I/O die keeps of the publications (R413) -/

def safStateCode : SafState → Nat
  | .off => 0 | .init => 1 | .run => 2 | .safe => 3 | .fault => 4

/-- What a channel publishes for the view. -/
def shownOf (ch : Channel) (s : State) : SafShown :=
  let d := safOf s ch
  { state := safStateCode d.state, cause := d.cause, rescue := safInputOf d d.cfg.rescueOn, bench := d.bench, lockout := d.lockout
    fails := d.fails, digest := safetyCfgDigest ch s, log := d.log, frame := (d.pub.map (·.frame)).getD 0
    cars := d.cfg.cars.foldl (fun t k =>
      let x := safCar d k.car
      tset ({} : SafCarShown) t k.car {
        trips := x.trips, manual := decide (x.trips &&& manualMask x ≠ 0), inZone := x.inZone, locked := x.locked
        speed := Nat.min 65535 x.speed.natAbs, btResult := x.btResult, btDue := x.btDue, btOver := x.btOver
        hours := Nat.min 65535 ((d.clock - x.btPass) / 3600000000000) }) []
    margins := d.margins }

/-- A publication reaches the view while the I/O die runs. -/
def publish (ch : Channel) (s : State) : State :=
  if running s .io then { s with saf := match ch with
    | .a => { s.saf with a := shownOf .a s } | .b => { s.saf with b := shownOf .b s } } else s

/-- A die with its own supply back: INIT, with the active configuration loaded and every filter, station and trip fresh. -/
def safPowerUp (ch : Channel) (s : State) : State :=
  let d := safOf s ch
  if d.state ≠ .off then s
  else
    let s := { s with dies := s.dies.put (dieOf ch) .running }
    putSaf s ch (loadCfg (Config.safetyContent d.active) { ({} : SafDie) with
      state := .init, cause := 1, active := d.active, previous := d.previous, digest := d.digest, staged := d.staged, log := d.log
      fails := d.fails, lockout := d.lockout, clock := d.clock, pub := d.pub })

/-- Switches of a die in every gate (R426). -/
def putGates (ch : Channel) (outs coils : Nat) (s : State) : State :=
  fieldRefresh { s with fio := match ch with
    | .a => { s.fio with gateA := outs, coilA := coils } | .b => { s.fio with gateB := outs, coilB := coils } }

/-- A die that drives no level (R386, R426): OFF or FAULT, which the view shows. -/
def safDown (ch : Channel) (st : SafState) (cause : Nat) (s : State) : State :=
  let d := safOf s ch
  putGates ch 0 0 (publish ch (putSaf s ch { d with
    state := st, cause := cause, cars := if st = .off then [] else d.cars, inputs := if st = .off then [] else d.inputs
    stations := if st = .off then [] else d.stations, raws := if st = .off then [] else d.raws, seen := []
    freeze := d.freeze && decide (st ≠ .off), bench := d.bench && decide (st ≠ .off), commitAsked := false
    commitDue := false, marker := false, partner := none, returned := none, pattern := none }))

def safSupplyLoss (ch : Channel) (s : State) : State :=
  safDown ch .off 0 { s with dies := s.dies.put (dieOf ch) .unpowered }
def safFault (ch : Channel) (f : DieFault) (s : State) : State :=
  if chUp (safOf s ch) then
    raise (2178 + chNo ch) [] (safDown ch .fault (match f with | .selfTest => 11 | .oscillator => 12 | .supply => 13)
      { s with dies := s.dies.put (dieOf ch) .failed })
  else s

/-! ## The plumb frame (R380) -/

/-- Bytes 0 to 79, lowest first, of a frame. -/
def carByte (f : BitVec 640) (c : Nat) : Nat := (f.toNat >>> (8 * c)) % 256
def frameFlags (f : BitVec 640) : Nat := (f.toNat >>> 512) % 65536
def frameCycle (f : BitVec 640) : Nat := (f.toNat >>> 528) % 65536

/-- Bytes 0 to 67 and 72 to 79, which are compared (R383). -/
def comparedBits : BitVec 640 := BitVec.ofNat 640 (2 ^ 544 - 1 + (2 ^ 64 - 1) * 2 ^ 576)

/-- FLAGS. -/
def flagsOf (s : State) (ch : Channel) : Nat :=
  let d := safOf s ch
  let all := d.cfg.cars.all (fun k => decide ((safCar d k.car).trips ≠ 0))
  b2n (decide (d.state = .safe)) + 2 * b2n (d.freeze && all) + 4 * b2n (safInputOf d d.cfg.rescueOn) + 8 * b2n d.bench
    + 16 * b2n (decide (d.state = .run))

/-- The state variables of a car's functions that both channels hold alike: those by a die's own clock are left out. -/
def safVars (x : SafCar) : SafCar := { x with absSeen := 0, quadSeen := 0, btPass := 0 }

/-- The frame of a cycle from the bytes judged for each car. -/
def plumbFrame (s : State) (ch : Channel) (bytes : List (Nat × Nat)) : BitVec 640 :=
  let d := safOf s ch
  let cars := if d.state = .run then bytes.foldl (fun n e => n + e.2 * 2 ^ (8 * e.1)) 0 else 0
  let body := cars + flagsOf s ch * 2 ^ 512 + d.cycle * 2 ^ 528
  let vars := d.cfg.cars.map (fun k => (k.car, safVars (safCar d k.car)))
  let verdict := match ch with | .a => d.verdict | .b => 0
  BitVec.ofNat 640 (body + verdict * 2 ^ 544 + (Config.plumbDigest d.seen d.raws vars d.rescueCar body).toNat * 2 ^ 576)

/-- The bit of the returned copy that the knock test of a cycle inverts (R385). -/
def knockBit (cycle : Nat) : Nat :=
  let k := cycle / 100 % 608
  if k < 544 then k else k + 32

/-- The comparator on die A (R383 to R385, R412), on the frames of the cycle that has ended. `works`: the comparator can report a
mismatch. In a knock cycle one bit of the returned copy reaches it inverted, and that cycle counts as one without a difference. -/
def plumbCompare (works : Bool) (s : State) : State :=
  let d := s.safA
  match d.partner, d.returned with
  | some p, some r =>
    let differ := decide ((r ^^^ p) &&& comparedBits ≠ 0)
    let knock := BitVec.ofNat 640 (2 ^ knockBit (frameCycle d.frame))
    let view (f : SafView → SafView) (s : State) : State := if running s .io then { s with saf := f s.saf } else s
    if frameCycle d.frame % 100 = 0 then
      let runs := (false :: d.compares).take 16
      if works && decide ((r ^^^ p ^^^ knock) &&& comparedBits ≠ 0) then
        view (fun v => { v with knockOk := true }) { s with safA := { d with verdict := 2, carry := differ, compares := runs } }
      else enterSafe .a 4 (view (fun v => { v with knockOk := false })
        { s with safA := { d with verdict := 1, carry := false, compares := runs } })
    else
      let diff := (works && differ) || d.carry
      let runs := (diff :: d.compares).take 16
      let fault := diff && (runs.getD 1 false || decide (4 ≤ (runs.filter (· = true)).length))
      let s : State := { s with safA := { d with
        carry := false, compares := if fault then [] else runs, verdict := b2n (!diff) + 4 * b2n diff } }
      let s := if diff then view (fun v => { v with skew := satAdd 65535 v.skew 1 }) s else s
      if fault then enterSafe .a 3 (raise 2180 [] (view (fun v => { v with faults := satAdd 255 v.faults 1 }) s)) else s
  | _, _ => s

/-! ## The cycle (R374, R377, R380) -/

/-- Seconds since manufacture by a die's own oscillator (R408). -/
def logSecs (d : SafDie) : Nat := d.clock / 1000000000

/-- The bytes of a log entry (R408). -/
def safLogBytes (e : SafLog) : List Byte :=
  let body := leBytes 8 e.time ++ leBytes 4 e.secs ++ leBytes 2 e.kind ++ leBytes 2 e.code
    ++ (e.image ++ List.replicate 8 0).take 8 ++ (e.before ++ List.replicate 4 0).take 4
  body ++ leBytes 4 (crc32c body).toNat

/-- An entry appended; none fits beyond 4,096, and event source 2189 tells of 3,840. -/
def safLogAdd (ch : Channel) (e : SafLog) (s : State) : State :=
  let d := safOf s ch
  if 4096 ≤ d.log.length then s
  else raiseIf (decide (d.log.length + 1 = 3840)) 2189 [] (putSaf s ch { d with log := d.log ++ [e] })

/-- An entry: the image concerned, if one is, and the configuration active before. -/
def safEntry (d : SafDie) (time kind code : Nat) (image : Option (List Byte)) : SafLog :=
  { time := time, secs := logSecs d, kind := kind, code := code, image := (image.map sha384).getD [], before := sha384 d.active }

/-- A request refused: its entry of KIND 3, its event with the code, its answer. -/
def safRefuse (ch : Channel) (code result kind cause time : Nat) (image : Option (List Byte)) (s : State) : State :=
  let d := safOf s ch
  let e := safEntry d time kind (result + 256 * cause) image
  let s := safLogAdd ch e s
  let d := safOf s ch
  raise 2185 [wordN result] (putSaf s ch { d with answers := d.answers ++ [(code, result, safLogBytes e)] })

/-- Every car of a channel at rest with its brakes applied. -/
def carsAtRest (d : SafDie) : Bool := d.cfg.cars.all (fun k => atRest (safCar d k.car) && brakesApplied d k)

/-- A request done, with its entry where it has one. -/
def safDone (ch : Channel) (code : Nat) (entry : Option SafLog) (s : State) : State :=
  let s := match entry with | some e => safLogAdd ch e s | none => s
  let d := safOf s ch
  putSaf s ch { d with answers := d.answers ++ [(code, 0, (entry.map safLogBytes).getD [])] }

/-- The image a die holds for a COMMIT: its staged one, or the active one that is its partner's staged one (R407). -/
def heldImage (s : State) (ch : Channel) : Option (List Byte) :=
  let d := safOf s ch
  match d.staged with
  | some i => some i
  | none => match (safOf s (otherCh ch)).staged with
    | some i => if i = d.active then some i else none
    | none => none

/-- What R406 asks of images, cars and the partner for a COMMIT at a die. -/
def commitHolds (s : State) (ch : Channel) : Bool :=
  let d := safOf s ch
  let p := safOf s (otherCh ch)
  chUp p && (heldImage s ch).isSome && decide (heldImage s ch = heldImage s (otherCh ch)) && carsAtRest d && carsAtRest p && !p.lockout

/-- A COMMIT that waits at a die for its partner is refused with STATE. -/
def commitDrop (ch : Channel) (s : State) : State :=
  let d := safOf s ch
  if d.commitAsked then safRefuse ch 2 6 3 0 d.commitTime (heldImage s ch) (putSaf s ch { d with commitAsked := false }) else s

/-- A COMMIT refused at one die, which then makes no change in either (R406, R412). -/
def commitRefuse (ch : Channel) (result time : Nat) (s : State) : State :=
  commitDrop (otherCh ch) (safRefuse ch 2 result 3 0 time (heldImage s ch) s)

/-- A die makes its COMMIT (R406): SAFE with cause COMMIT, the staged copy active, the change logged and the request answered. A die whose
active image is that one already changes nothing (R407). -/
def commitDie (ch : Channel) (s : State) : State :=
  let d := safOf s ch
  let image := (heldImage s ch).getD d.active
  let same := decide (image = d.active)
  let s := raiseIf (decide (d.state ≠ .safe)) (2176 + chNo ch) [wordN 8] (raise 2184 [] s)
  let s := safDone ch 2 (some (safEntry d d.commitTime 2 0 (some image))) s
  let d := safOf s ch
  let d : SafDie := { d with commitAsked := false, commitDue := false, state := .safe, cause := 8, staged := none }
  putSaf s ch (if same then d else
    loadCfg (Config.safetyContent image) { d with active := image, previous := d.active, digest := sha384 image })

/-- COMMIT at a die's cycle (R406, R412): made once both dies have accepted it, in the same cycle in both; it waits for the partner's while
its conditions hold, and is refused once they do not. -/
def takeCommit (ch : Channel) (s : State) : State :=
  let d := safOf s ch
  let p := safOf s (otherCh ch)
  if d.commitDue then commitDie ch s
  else if d.commitAsked = false then s
  else if commitHolds s ch = false then commitDrop (otherCh ch) (commitDrop ch s)
  else if p.commitAsked then commitDie ch (putSaf s (otherCh ch) { p with commitAsked := false, commitDue := true })
  else s

/-- Every car judged on this latch (R377): inputs and taps, records, then separation, then each car. -/
def judgeAll (ch : Channel) (s : State) : State × List (Nat × Nat) :=
  let d := latchInputs s (safOf s ch)
  let d := d.cfg.cars.foldl (fun d k => putSafCar d k.car { takeRecords d k (safCar d k.car) with tap := latchTap s k }) d
  let d := { d with
    margins := d.cfg.shafts.foldl (fun t h => match shaftMargin d h with | some m => tset 0 t h.shaft m | none => t) d.margins
    rescueCar := if safInputOf d d.cfg.rescueOn then (match rescuePick d with | some c => some c | none => d.rescueCar) else none }
  let step (a : State × List (Nat × Nat)) (k : SafCarCfg) : State × List (Nat × Nat) :=
    let d := safOf a.1 ch
    let old := safCar d k.car
    let r := judgeCar a.1 d k old
    let s := putSaf a.1 ch (putSafCar d k.car r.1)
    let passed := testing old.phase && decide (r.1.phase = .idle) && decide (r.1.btResult = 1)
    (raiseIf passed (2304 + k.car) [] s, a.2 ++ [(k.car, r.2)])
  d.cfg.cars.foldl step (putSaf s ch d, [])

/-- Channel B in RUN begins a cycle to which A has sent no marker since B's last (R16, R375): a start off the marker, and the second in a
row is a TIMING fault. DEDUCED, log entry 160. -/
def markerCheck (s : State) : State :=
  let d := s.safB
  if d.state = .run ∧ d.marker = false then
    let n := Nat.min 2 (d.startBad + 1)
    let s : State := { s with safB := { d with startBad := n } }
    if 2 ≤ n then enterSafe .b 7 s else s
  else s

/-- SAFETY_CYCLE of a channel: 100 µs of its own oscillator, which channel B trims (R374, R375). -/
def safetyCycle (ch : Channel) (works : Bool) (s : State) : State :=
  if chUp (safOf s ch) = false then s
  else
    let s := match ch with | .a => plumbCompare works s | .b => markerCheck s
    let d := safOf s ch
    let s := putSaf s ch { d with
      partner := none, returned := none, pattern := none, marker := false, cycle := wrap16 (d.cycle + 1)
      clock := d.clock + (100000 + (match ch with | .a => (0 : Int) | .b => d.trim)).toNat, sinceKnock := Nat.min 120 (d.sinceKnock + 1) }
    let s := if ch = .b ∧ 120 ≤ (safOf s .b).sinceKnock then enterSafe .b 4 s else s
    let s := if running s .field then s else enterSafe ch 10 s
    let s := takeCommit ch s
    let r := judgeAll ch s
    let s := putSaf r.1 ch { safOf r.1 ch with frame := plumbFrame r.1 ch r.2 }
    if (safOf s ch).state = .run ∨ (safOf s ch).state = .safe then
      { s with pins := match ch with
        | .a => { s.pins with safeOkA := !s.pins.safeOkA } | .b => { s.pins with safeOkB := !s.pins.safeOkB } }
    else s

/-! ## The plumb links (R375, R376, R384) -/

/-- A cycle length in ns outside 100 ± 2 µs, in two cycles in a row, is a TIMING fault. -/
def lengthCheck (ch : Channel) (length : Nat) (s : State) : State :=
  let d := safOf s ch
  let bad := decide (length < 98000 ∨ 102000 < length)
  let n := if bad then Nat.min 2 (d.lengthBad + 1) else 0
  let s := putSaf s ch { d with lengthBad := n }
  if 2 ≤ n then enterSafe ch 7 s else s

/-- CYCLE_MARKER at channel B: A's cycle length, and B's own start after the marker, in ns. B trims its cycles by at most 1 %. -/
def cycleMarker (length : Nat) (offset : Int) (s : State) : State :=
  if chUp s.safB = false ∨ chUp s.safA = false then s
  else
    let s := lengthCheck .b length s
    let d := s.safB
    let off := decide (offset < 3750 ∨ 4250 < offset)
    let n := if off ∧ d.state = .run then Nat.min 2 (d.startBad + 1) else 0
    let s : State := { s with safB := { d with startBad := n, marker := true, trim := max (-1000) (min 1000 (4000 - offset)) } }
    if 2 ≤ n then enterSafe .b 7 s else s

/-- A frame that shows SAFE takes its partner there. -/
def partnerShows (ch : Channel) (f : BitVec 640) (s : State) : State :=
  if (frameFlags f).testBit 0 then enterSafe ch 2 s else s

/-- The pattern frame of a cycle (R384): one bit set, and in odd cycles the whole inverted. -/
def patternBits (cycle : Nat) : BitVec 640 :=
  let one := BitVec.ofNat 640 (2 ^ (cycle / 2 % 640))
  if cycle % 2 = 0 then one else ~~~one

/-- PLUMB_FRAME_RECEIVE: what was sent, with the bits of `err` inverted on the way. -/
def plumbReceive (what : PlumbArrival) (err : BitVec 640) (s : State) : State :=
  match what with
  | .partnerAtA length =>
    if chUp s.safA && chUp s.safB then
      let f := s.safB.frame ^^^ err
      partnerShows .a f (lengthCheck .a length { s with safA := { s.safA with partner := some f } })
    else s
  | .partnerAtB =>
    if chUp s.safA && chUp s.safB then
      let f := s.safA.frame ^^^ err
      let knock := f.getLsbD 545
      partnerShows .b f { s with safB := { s.safB with partner := some f, sinceKnock := if knock then 0 else s.safB.sinceKnock } }
    else s
  | .returned =>
    if chUp s.safA && chUp s.safB then
      let f := s.safA.frame ^^^ err
      let s : State := { s with safA := { s.safA with returned := some f } }
      if f = s.safA.frame then s else enterSafe .a 5 s
    else s
  | .pattern =>
    if chUp s.safA && chUp s.safB then
      let f := patternBits s.safA.cycle ^^^ err
      let s : State := { s with safA := { s.safA with pattern := some f } }
      if f = patternBits s.safA.cycle then s else enterSafe .a 5 s
    else s
  | .patternAtB =>
    if chUp s.safA && chUp s.safB then { s with safB := { s.safB with pattern := some (patternBits s.safA.cycle ^^^ err) } } else s

/-- PLUMB_FRAME_DEADLINE: the end of the stage without the frame is a LINK fault in the receiver. -/
def plumbDeadline (what : PlumbArrival) (s : State) : State :=
  match what with
  | .partnerAtA _ => if s.safA.partner.isNone then enterSafe .a 6 s else s
  | .partnerAtB => if s.safB.partner.isNone then enterSafe .b 6 s else s
  | .returned => if s.safA.returned.isNone then enterSafe .a 6 s else s
  | .pattern => if s.safA.pattern.isNone then enterSafe .a 6 s else s
  | .patternAtB => if s.safB.pattern.isNone then enterSafe .b 6 s else s

/-- The frame and the pattern that came back in this cycle are right (R384). -/
def delayRight (d : SafDie) : Bool := decide (d.returned = some d.frame) && decide (d.pattern = some (patternBits d.cycle))

/-- Every frame that a channel receives in a cycle has arrived (R376). -/
def linksRight (ch : Channel) (d : SafDie) : Bool :=
  d.partner.isSome && d.pattern.isSome && (match ch with | .a => d.returned.isSome | .b => true)

/-! ## Release (R381, R387, R426) -/

/-- The bit of an applied frame that an output takes: its car's, or GEN without a mapping. -/
def outputBit (c : SafCfg) (out : SafOut) (f : BitVec 640) : Bool :=
  match c.cars.find? (fun k => decide (k.outBrake1 = out ∨ k.outBrake2 = out ∨ k.outMain = out)) with
  | some k => f.getLsbD (8 * k.car + (if k.outBrake1 = out then 4 else if k.outBrake2 = out then 5 else 6))
  | none => f.getLsbD 516
def outsOf (c : SafCfg) (f : BitVec 640) : Nat :=
  (List.range 24).foldl (fun n o => if outputBit c (.output o) f then n + 2 ^ o else n) 0
def coilsOf (c : SafCfg) (f : BitVec 640) : Nat :=
  (List.range 16).foldl (fun n k => if outputBit c (.coil k) f then n + 2 ^ k else n) 0

/-- The dies of the hold-safe set run (R29), and the I/O die is not lost (R31). -/
def holdSafe (s : State) : Bool := running s .safA && running s .safB && running s .field
def ioLost (s : State) : Bool := decide (s.dies.io = .failed ∨ s.dies.io = .unpowered)

/-- The frame bytes that a die applies: its own AND its partner's; every CAR byte and GEN 0 outside RUN. -/
def appliedFrame (s : State) (ch : Channel) : BitVec 640 :=
  let d := safOf s ch
  let both := d.frame &&& (d.partner.getD 0) &&& BitVec.ofNat 640 (2 ^ 528 - 1)
  if d.state = .run ∧ ioLost s = false then both
  else both &&& BitVec.ofNat 640 ((2 ^ 528 - 2 ^ 512) - 2 ^ 516)

/-- One die at the release: gates and publication. -/
def releaseDie (ch : Channel) (s : State) : State :=
  let d := safOf s ch
  if chUp d = false then s
  else
    let f := appliedFrame s ch
    let on := holdSafe s
    let lifted := (d.cfg.cars.filter (fun k => decide ((safCar d k.car).phase = .lifted) && f.getLsbD (8 * k.car + 4)
      && f.getLsbD (8 * k.car + 5))).map (·.car)
    let rescue := (rescuePick d).map (fun c => (c, safInputOf d d.cfg.up, safInputOf d d.cfg.down))
    putGates ch (if on then outsOf d.cfg f else 0) (if on then coilsOf d.cfg f else 0)
      (publish ch (putSaf s ch { d with pub := some { frame := f, lifted := lifted, rescue := rescue } }))

/-- The cause a car shows: the first among the trips that the car holds in either channel (R388). -/
def shownCause (s : State) (c : Nat) : Nat := firstCause (orMask (safCar s.safA c).trips (safCar s.safB c).trips)

/-- Cars of either configuration. -/
def safCars (s : State) : List Nat :=
  s.safA.cfg.cars.map (·.car) ++ (s.safB.cfg.cars.map (·.car)).filter (fun c => !((s.safA.cfg.cars.map (·.car)).contains c))

/-- Shafts of either configuration, and those with a separation trip in either channel (R396). -/
def safShafts (s : State) : List SafShaftCfg :=
  s.safA.cfg.shafts ++ s.safB.cfg.shafts.filter (fun h => !(s.safA.cfg.shafts.any (fun g => decide (g.shaft = h.shaft))))
def separated (s : State) (h : SafShaftCfg) : Bool :=
  match h.pair with
  | some (lo, up) => [lo, up].any (fun c => (safCar s.safA c).trips.testBit tSeparation || (safCar s.safB c).trips.testBit tSeparation)
  | none => false

/-- Events of a release (R414): each car newly tripped, each shaft newly separated, SMOKE_SAFE. -/
def releaseEvents (s : State) : State :=
  let s := (safCars s).foldl (fun s c =>
    let k := shownCause s c
    let told := s.saf.told.contains c
    if k ≠ 0 ∧ told = false then
      raise (2240 + c) [wordN k] s
    else s) s
  let s := (safShafts s).foldl (fun s h =>
    raiseIf (separated s h && !(s.saf.told.contains (64 + h.shaft))) (2368 + h.shaft) [] s) s
  let safe := match s.safA.pub, s.safB.pub with
    | some p, some q => p.frame.getLsbD 513 && q.frame.getLsbD 513
    | _, _ => false
  let s := raiseIf (safe && !s.saf.smokeSafe) 2187 [] s
  { s with saf := { s.saf with 
    told := (safCars s).filter (fun c => decide (shownCause s c ≠ 0)) ++ ((safShafts s).filter (separated s)).map (fun h => 64 + h.shaft)
    smokeSafe := safe } }

def safetyRelease (s : State) : State := releaseEvents (releaseDie .b (releaseDie .a s))

/-! ## INIT and SAFE_RESET (R386, R388, R412) -/

/-- Configurations that differ (R386, R407): CFG_MISMATCH, also for a partner that stands in SAFE since a COMMIT. -/
def cfgDiffers (ch : Channel) (s : State) : State :=
  let s := raise (2176 + chNo ch) [wordN 9] (putSaf s ch { safOf s ch with state := .safe, cause := 9 })
  let p := safOf s (otherCh ch)
  if p.state = .safe ∧ (p.cause = 8 ∨ p.cause = 2) then putSaf s (otherCh ch) { p with cause := 9 } else s

/-- SAFETY_INIT_COMPLETE: RUN, or SAFE when the configurations fail or differ; nothing while frames or pattern are missing, and no RUN while
filters are. -/
def initComplete (ch : Channel) (s : State) : State :=
  let d := safOf s ch
  let frames := linksRight ch d && (match ch with | .a => delayRight d | .b => true)
  if d.state ≠ .init then s
  else if activeOk d = false then
    raise (2176 + chNo ch) [wordN 9] (putSaf s ch { d with state := .safe, cause := 9 })
  else if frames = false then s
  else if cfgMatch s = false then cfgDiffers ch s
  else if filtersFull s d = false then s
  else
    let before := runsBoth s
    let p := safOf s (otherCh ch)
    let cyc := if p.state = .run ∨ p.state = .safe then (d.partner.map frameCycle).getD d.cycle else d.cycle
    bothRun before (putSaf s ch { d with state := .run, cause := 0, cycle := cyc, compares := [], carry := false, sinceKnock := 0,
                                         lengthBad := 0, startBad := 0 })

/-- The cause of a channel's SAFE is gone; PARTNER is gone with the partner's cause. -/
def ownCauseGone (s : State) (ch : Channel) : Bool :=
  let d := safOf s ch
  match d.cause with
  | 3 => d.verdict.testBit 0 || d.verdict.testBit 1
  | 4 => (match ch with | .a => d.verdict.testBit 1 || d.verdict.testBit 0 | .b => decide (d.sinceKnock < 120))
  | 5 => delayRight d
  | 6 => linksRight ch d
  | 7 => decide (d.lengthBad = 0 ∧ d.startBad = 0)
  | 8 => false
  | 9 => cfgMatch s && activeOk d
  | 10 => running s .field
  | _ => true
def causeGone (s : State) (ch : Channel) : Bool :=
  if (safOf s ch).cause = 2 then
    decide ((safOf s (otherCh ch)).state = .run) || (decide ((safOf s (otherCh ch)).cause ≠ 2) && ownCauseGone s (otherCh ch))
  else ownCauseGone s ch

/-- SAFE_RESET has been high for 100 ms at every channel in SAFE: with every cause gone and every filter full both come to RUN. -/
def safeReset (s : State) : State :=
  let inSafe := [Channel.a, Channel.b].filter (fun ch => decide ((safOf s ch).state = .safe))
  let ok (ch : Channel) : Bool :=
    let d := safOf s ch
    let p := safOf s (otherCh ch)
    safInputOf d d.cfg.safeReset && causeGone s ch && decide (p.state = .safe ∨ p.state = .run) && filtersFull s d
  if inSafe ≠ [] ∧ inSafe.all ok = true then
    let before := runsBoth s
    bothRun before (inSafe.foldl (fun s ch => putSaf s ch { safOf s ch with
      state := .run, cause := 0, compares := [], carry := false, sinceKnock := 0, lengthBad := 0, startBad := 0 }) s)
  else s

/-- Start-up has passed step 9 of R134: a channel in SAFE with cause COMMIT goes to INIT (R386, R406). -/
def safetyRestart (s : State) : State :=
  [Channel.a, Channel.b].foldl (fun s ch =>
    let d := safOf s ch
    if d.state = .safe ∧ d.cause = 8 then putSaf s ch { d with state := .init, cause := 1 } else s) s

/-! ## Timers of the car functions (R391 to R395, R400) -/

/-- A car of a channel that runs its cycle, if its configuration has it. -/
def withCar (ch : Channel) (c : Nat) (f : SafCarCfg → SafCar → SafCar) (s : State) : State :=
  let d := safOf s ch
  if chUp d = false then s
  else match d.cfg.cars.find? (fun k => decide (k.car = c)) with
    | some k => putSaf s ch (putSafCar d c (f k (safCar d c)))
    | none => s

/-- BRAKE_CONFIRM_TIMEOUT: what the car's sequence waits for has not come in its time. -/
def confirmTimeout (ch : Channel) (c : Nat) (mirror : Bool) (s : State) : State :=
  let d := safOf s ch
  let failed (x : SafCar) : Bool := match x.phase with | .testLift _ => true | .testDrop _ => true | _ => false
  let was := failed (safCar d c) && !mirror && chUp d
  let s := withCar ch c (fun k x => match x.phase with
    | .main => if mirror ∧ contactorOpen d k = true then tripCar tContactor x else x
    | .lifting => if mirror then x else tripCar tBrake x
    | .dropping => if mirror then x else tripCar tBrake x
    | .off => if mirror then (if contactorOpen d k then x else tripCar tContactor x)
        else if brakesApplied d k then x else tripCar tBrake x
    | .testLift _ => if mirror then x else { tripCar tBrake x with btResult := 2 }
    | .testDrop _ => if mirror then x else { tripCar tBrake x with btResult := 2 }
    | _ => x) s
  raiseIf was (2304 + c) [] s

/-- MAIN_DROP_EXPIRY: MAIN is cleared. -/
def mainDropEnds (ch : Channel) (c : Nat) (s : State) : State :=
  withCar ch c (fun _ x => if x.phase = .mainDrop then { x with phase := .off } else x) s

/-- BRAKE_TEST_START: a due car that has stood 30 s in REST at a landing with every lock closed, its outputs off. -/
def testStart (ch : Channel) (c : Nat) (s : State) : State :=
  let d := safOf s ch
  withCar ch c (fun k x =>
    let only := decide (lessMask x.trips (causeMask [(tBrakeDue, true)]) = 0)
    if x.btDue ∧ only = true ∧ x.phase = .idle ∧ d.state = .run ∧ x.tap.hoist = .rest ∧ x.locked = true
        ∧ nearSill k x k.zone (fun _ => true) = true ∧ d.freeze = false
    then { x with phase := .testLift 1, btResult := 3 } else x) s

/-- BRAKE_TEST_HOLD_END: less than BT_MOVE of movement passes the circuit, and its brake is applied. -/
def holdEnds (ch : Channel) (c : Nat) (s : State) : State :=
  let d := safOf s ch
  let bad (k : SafCarCfg) (x : SafCar) : Bool := match x.phase with
    | .testHold _ p => decide (k.btMove * 100 ≤ ((x.pos.getD p) - p).natAbs)
    | _ => false
  let fails := chUp d && d.cfg.cars.any (fun k => decide (k.car = c) && bad k (safCar d c))
  let s := withCar ch c (fun k x => match x.phase with
    | .testHold i _ => if bad k x then { tripCar tBrake x with btResult := 2 } else { x with phase := .testDrop i }
    | _ => x) s
  raiseIf fails (2304 + c) [] s

/-- BRAKE_TEST_DUE, and BRAKE_DUE_TRIP 24 h later, under which a running test goes on. -/
def testDue (ch : Channel) (c : Nat) (s : State) : State := withCar ch c (fun _ x => { x with btDue := true }) s
def testOverdue (ch : Channel) (c : Nat) (s : State) : State :=
  let x := safCar (safOf s ch) c
  if x.btDue ∧ x.btOver = false ∧ chUp (safOf s ch) = true then
    raise (2304 + c) [] (withCar ch c (fun _ x =>
      let x := { x with btOver := true }
      if testing x.phase then { x with trips := putBit x.trips tBrakeDue true, ado := false } else tripCar tBrakeDue x) s)
  else s

/-- SMOKE_WAIT_EXPIRY: a car that still moves trips at once; event source 2188. -/
def smokeWaitEnds (ch : Channel) (s : State) : State :=
  let d := safOf s ch
  if chUp d && d.freeze then
    d.cfg.cars.foldl (fun s k =>
      if (safCar (safOf s ch) k.car).trips ≠ 0 then s
      else raise 2188 [] (withCar ch k.car (fun _ x => tripCar tSmoke x) s)) s
  else s

/-! ## Sealed requests (R388, R404 to R408, R557, R558) -/

/-- Presence at a die (R405). -/
def safPresence (d : SafDie) : Bool := safInputOf d d.cfg.presence

/-- The password of a request (R403, R405). -/
def passwordRight (d : SafDie) (pw : List Byte) : Bool := decide (sha384 (d.cfg.salt ++ pw) = d.cfg.password)

/-- A wrong password: counted and logged, and at the fifth in a row the lockout. -/
def passwordFails (ch : Channel) (code time : Nat) (image : Option (List Byte)) (s : State) : State :=
  let d := safOf s ch
  let n := Nat.min 63 (d.fails + 1)
  let lock := decide (5 ≤ n)
  let s := putSaf s ch { d with fails := n, lockout := d.lockout || lock }
  let s := safRefuse ch code 4 4 0 time image s
  if lock ∧ d.lockout = false then
    raise 2186 [] (safLogAdd ch (safEntry (safOf s ch) time 5 5 none) s)
  else s

/-- STAGE: CHECK or RANGE, else held as staged. -/
def sealedStage (ch : Channel) (time : Nat) (image : List Byte) (s : State) : State :=
  let d := safOf s ch
  if chUp d = false then s
  else if 4096 ≤ d.log.length then safRefuse ch 1 7 3 0 time (some image) s
  else if Config.safetyFormat image = false then safRefuse ch 1 1 3 0 time (some image) s
  else if safCfgOk (Config.safetyContent image) = false then safRefuse ch 1 2 3 0 time (some image) s
  else safDone ch 1 (some (safEntry d time 1 0 (some image))) (putSaf s ch { d with staged := some image })

/-- COMMIT at one die: presence, lockout, password, the log's room and the conditions of R406; the change and the answer wait for the
partner's. -/
def sealedCommit (ch : Channel) (time : Nat) (pw : List Byte) (s : State) : State :=
  let d := safOf s ch
  let p := safOf s (otherCh ch)
  if chUp d = false then s
  else if safPresence d = false then commitRefuse ch 3 time s
  else if d.lockout then commitRefuse ch 5 time s
  else if passwordRight d pw = false then commitDrop (otherCh ch) (passwordFails ch 2 time (heldImage s ch) s)
  else
    let s := putSaf s ch { d with fails := 0 }
    let d := safOf s ch
    if 4096 ≤ d.log.length ∨ 4096 ≤ p.log.length then commitRefuse ch 7 time s
    else if commitHolds s ch = false ∨ d.commitAsked = true ∨ d.commitDue = true then commitRefuse ch 6 time s
    else putSaf s ch { d with commitAsked := true, commitTime := time }

/-- REVERT: back to the image before the last change, every car at rest. -/
def sealedRevert (ch : Channel) (time : Nat) (pw : List Byte) (s : State) : State :=
  let d := safOf s ch
  let image := if d.previous = [] then none else some d.previous
  if chUp d = false then s
  else if safPresence d = false then safRefuse ch 3 3 3 0 time image s
  else if d.lockout then safRefuse ch 3 5 3 0 time image s
  else if passwordRight d pw = false then passwordFails ch 3 time image s
  else
    let s := putSaf s ch { d with fails := 0 }
    let d := safOf s ch
    if 4096 ≤ d.log.length then safRefuse ch 3 7 3 0 time image s
    else if image = none ∨ d.cfg.cars.all (fun k => atRest (safCar d k.car)) = false then safRefuse ch 3 6 3 0 time image s
    else
      let e := safEntry d time 7 0 image
      let s := enterSafe ch 8 s
      let d := safOf s ch
      raise 2184 [] (safDone ch 3 (some e) (putSaf s ch (loadCfg (Config.safetyContent d.previous) { d with
        cause := if d.state = .safe then 8 else d.cause, active := d.previous, previous := d.active, digest := sha384 d.previous })))

/-- CAR_RESET: the car's manual trips clear, all or none. -/
def sealedCarReset (ch : Channel) (time c : Nat) (s : State) : State :=
  let d := safOf s ch
  let x := safCar d c
  let held := firstCause x.trips
  let left := firstCause (x.trips &&& x.present &&& manualMask x)
  if chUp d = false then s
  else if (d.cfg.cars.any (fun k => decide (k.car = c))) = false then safRefuse ch 4 6 3 0 time none s
  else if safPresence d = false then safRefuse ch 4 3 3 held time none s
  else if left ≠ 0 then safRefuse ch 4 8 3 left time none s
  else
    let e := safEntry d time 6 (256 * held) none
    safDone ch 4 (some e) (putSaf s ch (putSafCar d c { x with trips := lessMask x.trips (manualMask x), chainManual := false }))

/-- FREEZE, THAW and BENCH (R400, R401): without conditions, but BENCH only at a start-up. -/
def sealedFreeze (ch : Channel) (s : State) : State :=
  let d := safOf s ch
  if chUp d then safDone ch 5 none (putSaf s ch { d with freeze := true }) else s
def sealedThaw (ch : Channel) (s : State) : State :=
  let d := safOf s ch
  if chUp d then safDone ch 6 none (putSaf s ch { d with
    freeze := false
    cars := tupdAll ({} : SafCar) (d.cars.map (·.1)) (fun _ x => { x with trips := lessMask x.trips (causeMask [(tSmoke, true)]) }) d.cars })
  else s
def sealedBench (ch : Channel) (time : Nat) (s : State) : State :=
  let d := safOf s ch
  if chUp d = false then s
  else if s.rst.phase = 8 ∨ s.rst.phase = 7 then safDone ch 7 none (putSaf s ch { d with bench := true })
  else safRefuse ch 7 6 3 0 time none s

/-- LOCKOUT_EXPIRY. -/
def lockoutEnds (ch : Channel) (s : State) : State := putSaf s ch { safOf s ch with lockout := false }

/-! ## Safety stations (R379, R467) -/

/-- One bit of CRC-64 with the ECMA-182 polynomial, most significant bit first. -/
def crc64Bit (c : Nat) : Nat :=
  if c < 2 ^ 63 then 2 * c else (2 * c - 2 ^ 64) ^^^ 0x42F0E1EBA9EA3693
def crc64Byte (c : Nat) (b : Byte) : Nat :=
  crc64Bit (crc64Bit (crc64Bit (crc64Bit (crc64Bit (crc64Bit (crc64Bit (crc64Bit (c ^^^ (b.toNat * 2 ^ 56)))))))))

/-- A check code of a safety frame: over the header and payload, from the die's seed, the station and SEQ. -/
def safetyCheck (ch : Channel) (stn : Nat) (seq : Word) (bytes : List Byte) : BitVec 64 :=
  BitVec.ofNat 64 (bytes.foldl crc64Byte (Config.safetySeed ch ^^^ BitVec.ofNat 64 (stn * 2 ^ 32 + seq.toNat)).toNat)

/-- A safety in frame at one die: its own code and a newer SEQ. -/
def safetyIn (ch : Channel) (f : StationFrame) (check : BitVec 64) (s : State) : State :=
  let d := safOf s ch
  let n := f.station.toNat
  let x := safStn d n
  let fresh := match x.seq with | some q => decide (0 < (f.seq - q).toInt) | none => true
  if chUp d && fresh && decide (check = safetyCheck ch n f.seq (frameBytes f)) then
    putSaf s ch { d with stations := tset ({} : SafStation) d.stations n { words := f.payload, seq := some f.seq, live := true } }
  else s

/-- SAFETY_STATION_WATCHDOG. -/
def stationWatchdog (ch : Channel) (n : Nat) (s : State) : State :=
  let d := safOf s ch
  if chUp d then putSaf s ch { d with stations := tset ({} : SafStation) d.stations n { safStn d n with live := false } } else s

/-- A die's 16-byte part of a safety out frame: the applied bits mapped to the station's output words (R391, R467). -/
def safetyPart (d : SafDie) (n : Nat) : List Word :=
  match d.pub with
  | none => [0, 0, 0, 0]
  | some p => (List.range 4).map (fun w => wordN ((List.range 32).foldl (fun m b =>
      if d.cfg.cars.any (fun k => [k.outBrake1, k.outBrake2, k.outMain].contains (.station n w b)) && outputBit d.cfg (.station n w b) p.frame
      then m + 2 ^ b else m) 0))

/-! ## Filters (R377, R378) -/

/-- INPUT_FILTER_QUALIFIED: what the die's comparator reads at the voltage the input has had (R419) becomes the filtered level. -/
def inputQualified (ch : Channel) (k : Nat) (volts : Int) (s : State) : State :=
  let d := safOf s ch
  let x := fieldIn s k
  let level := safetyReading volts (match ch with | .a => x.rawA | .b => x.rawB)
  if running s .field = false then s
  else
    let s := putIn s k (match ch with | .a => { x with rawA := level } | .b => { x with rawB := level })
    if chUp d && d.cfg.filters.any (fun e => decide (e.1 = k)) then
      putSaf s ch { d with inputs := tset ({} : SafInput) d.inputs k { level := level, valid := true } }
    else s

/-- The field die is reset: every field input's filter restarts when it is released (R378). -/
def safFiltersRestart (s : State) : State := { s with safA := { s.safA with inputs := [] }, safB := { s.safB with inputs := [] } }

/-! ## The read view (R413) -/

/-- SAF_STATUS. -/
def safStatus (v : SafView) : Word :=
  regOf [(31, 29, v.a.state), (28, 24, v.a.cause), (23, 21, v.b.state), (20, 16, v.b.cause),
    (15, 15, b2n (v.a.frame.getLsbD 513 && v.b.frame.getLsbD 513)), (14, 14, b2n v.a.rescue), (13, 13, b2n (v.a.bench && v.b.bench)),
    (12, 12, b2n (v.a.digest.isSome && decide (v.a.digest = v.b.digest))), (11, 11, b2n (v.a.lockout || v.b.lockout))]

/-- SAF_CARc and SAF_CARc_BT: the applied byte as the newest publication of a channel that runs its cycle has it. -/
def safCarReg (v : SafView) (c : Nat) : Word :=
  let a := tget ({} : SafCarShown) v.a.cars c
  let b := tget ({} : SafCarShown) v.b.cars c
  let f := if v.a.state = 0 ∨ v.a.state = 4 then v.b.frame else v.a.frame
  regOf [(31, 24, carByte f c), (23, 19, firstCause (orMask a.trips b.trips)), (18, 18, b2n (a.manual || b.manual)), (17, 17, b2n a.inZone),
    (16, 16, b2n a.locked), (15, 0, a.speed)]
def safTestReg (v : SafView) (c : Nat) : Word :=
  let x := tget ({} : SafCarShown) v.a.cars c
  regOf [(31, 30, x.btResult), (29, 29, b2n x.btDue), (28, 28, b2n x.btOver), (15, 0, x.hours)]

/-- Words of a digest register block, in the byte order of FRM_DIGESTn. -/
def safDigestWord (d : SafShown) (n : Nat) : Word :=
  match d.digest with | some d => wordN (leNat ((d.drop (4 * n)).take 4)) | none => 0

/-- A register of the SAF block. -/
def safReg (s : State) (off : Nat) : Option Word :=
  let v := s.saf
  match off with
  | 0x000 => some (safStatus v)
  | 0x004 => some (regOf [(30, 30, b2n v.knockOk), (23, 16, v.faults), (15, 0, v.skew)])
  | 0x008 => some (regOf [(31, 19, v.a.log.length), (18, 6, v.b.log.length), (5, 0, Nat.max v.a.fails v.b.fails)])
  | 0x010 => some (v.index &&& 0x80000FFF)
  | o =>
    if o % 4 ≠ 0 then none
    else if 0x040 ≤ o ∧ o < 0x070 then some (safDigestWord v.a ((o - 0x040) / 4))
    else if 0x080 ≤ o ∧ o < 0x0B0 then some (safDigestWord v.b ((o - 0x080) / 4))
    else if 0x0C0 ≤ o ∧ o < 0x0E0 then
      let d := if bitAt v.index 31 then v.b else v.a
      some (match d.log[fld v.index 11 0]? with
        | some e => wordN (leNat (((safLogBytes e).drop (o - 0x0C0)).take 4))
        | none => 0)
    else if 0x1000 ≤ o ∧ o < 0x1200 then
      some (if o % 8 = 0 then safCarReg v ((o - 0x1000) / 8) else safTestReg v ((o - 0x1000) / 8))
    else if 0x2000 ≤ o ∧ o < 0x2100 then some (wordI (tget 0 v.a.margins ((o - 0x2000) / 4)))
    else none

/-- A write to the SAF block: CLEAR and the log index. -/
def safWrite (off : Nat) (v : Word) (s : State) : State :=
  match off with
  | 0x004 => if bitAt v 31 then { s with saf := { s.saf with faults := 0, skew := 0 } } else s
  | 0x010 => { s with saf := { s.saf with index := v &&& 0x80000FFF } }
  | _ => s

end Sys2Proof.Machine
end

