-- ==== Sys2Proof/Machine/NetOps.lean ====
section
/-! DEFINITION. The network block: ports and queues, PRP, station exchanges, waggles, the holder duty, resynchronisation and health
(R455 to R486). -/
namespace Sys2Proof.Machine

/-! ## Ports (R455 to R457) -/

/-- PORT_STATE_CHANGE (R457, R486): held frames leave in order when the port comes UP. -/
def portChange (p : Nat) (st : PortState) (s : State) : State :=
  match portCfg s p with
  | none => s
  | some c =>
    let old := (netPort s p).state
    if running s .io = false ∨ old = st then s
    else
      let s := raise (2816 + p) [] (putNetPort s p { netPort s p with state := st })
      let s := raiseIf (c.paired && decide (old = .up ∨ st = .up)) (2832 + p) [] s
      drainPort p s

/-- The first entry of a queue that waits for a port, without that port. -/
def dropFirst (p : Nat) : List NetQueued → List NetQueued
  | [] => []
  | e :: t => if e.ports.contains p then (if (unqueue p e).ports = [] then t else unqueue p e :: t) else e :: dropFirst p t

/-- HELD_FRAME_TIMEOUT (R457): the frame held longest for the port is dropped and counted. -/
def heldTimeout (p : Nat) (s : State) : State :=
  if portUp s p = false ∧ s.net.queue.any (fun e => e.ports.contains p) = true then
    let x := netPort s p
    let s : State := { s with net := { s.net with queue := dropFirst p s.net.queue } }
    raiseIf (!x.dropping) (2824 + p) [] (putNetPort s p { x with held := satAdd 65535 x.held 1, dropping := true })
  else s

/-- A frame of a size that a port takes, untagged or of a VLAN of the port (R455; log entry 134: another is discarded uncounted). -/
def frameTaken (s : State) (p bytes : Nat) (vlan : Option (BitVec 12)) : Bool :=
  decide (64 ≤ bytes ∧ bytes ≤ 9216) && (match vlan, portCfg s p with
    | none, _ => true
    | some v, some c => (c.vlans.take 64).contains v
    | some _, none => false)

/-- PRP_FRAME_RECEIVE (R455, R456): a frame with a bad FCS, a duplicate that the node table knows, or one passed on. -/
def prpReceive (p bytes : Nat) (vlan : Option (BitVec 12)) (src : BitVec 48) (seq : BitVec 16) (trailer fcsGood : Bool)
    (s : State) : State :=
  if portUp s p = false ∨ frameTaken s p bytes vlan = false then s
  else
    let x := netPort s p
    if fcsGood = false then putNetPort s p { x with badFcs := satAdd 4294967295 x.badFcs 1 }
    else if trailer = false ∨ (portCfg s p).any (·.paired) = false then s
    else
      let live := s.net.nodes.filter (fun e => decide (s.now - e.time ≤ 400000000))
      if live.any (fun e => decide (e.pair = p / 2 ∧ e.src = src ∧ e.seq = seq)) then
        putNetPort { s with net := { s.net with nodes := live } } p { x with dups := satAdd 4294967295 x.dups 1 }
      else
        let mine := (live.filter (fun e => decide (e.pair = p / 2))).take 4095
        let rest := live.filter (fun e => decide (e.pair ≠ p / 2))
        { s with net := { s.net with nodes := { pair := p / 2, src := src, seq := seq, time := s.now } :: mine ++ rest } }

/-- PRP_SUPERVISION (R456). -/
def prpSupervision (k : Nat) (s : State) : State :=
  if running s .io = false ∨ s.net.gone = true ∨ lanPorts s k = [] then s
  else
    let n := tget 0 s.net.superSeq k
    let s : State := { s with net := { s.net with superSeq := tset 0 s.net.superSeq k ((n + 1) % 65536) } }
    (pairSend k (.supervision k n) s).1

/-- Who is grandmaster of a port's network; the module is the grandmaster while it is that of every network it knows of (log entry 168). -/
def putLanGm (p : Nat) (own : Bool) (s : State) : State :=
  let l := tset none s.tmb.lanGm p (some own)
  { s with tmb := { s.tmb with lanGm := l, gm := l.all (fun e => decide (e.2 ≠ some false)) } }

/-- The time that a message tells, whose seconds are `sec` and which is `off` ns ahead of device time, less `now`. -/
def toldBase (sec : Nat) (off : Int) (s : State) : Int :=
  ((sec * 1000000000 : Nat) : Int) + ((s.tmb.time : Int) + off) % 1000000000 - (s.now : Int)

/-- GPTP_MESSAGE (R458, R488): an announce decides who is grandmaster of the port's network by priority1, equal ones by what the manual
does not give; a time from a grandmaster gives the seconds and, where it is the source, an offset. -/
def gptpMessage (p : Nat) (m : GptpMsg) (s : State) : State :=
  if portUp s p = false then s
  else match m with
    | .announce d prio =>
      if d ≠ 0 then s
      else if prio.toNat = ownPriority s then putLanGm p (freeBool s) (drawn s)
      else putLanGm p (decide (ownPriority s < prio.toNat)) s
    | .time d sec off =>
      if d ≠ 0 ∨ tget none s.tmb.lanGm p = some true then s
      else
        let s : State := { s with tmb := { s.tmb with gpBase := some (toldBase sec off s) } }
        if s.tmb.source = 1 then sourceOffset off s else s

/-! ## Stations (R460 to R467) -/

/-- FLAGS of a station frame. -/
def stationFlags (retry : Bool) (s : State) : BitVec 8 :=
  BitVec.ofNat 8 (b2n s.pins.forced + 2 * b2n s.frm.bench + 4 * b2n retry + 8 * b2n s.pins.pairSel + 16 * b2n s.net.holder)

/-- The check codes of a safety out frame (R467): each over the header and its die's part. -/
def outChecks (f : StationFrame) : List DWord :=
  let head := (frameBytes f).take 24
  [safetyCheck .a f.station.toNat f.seq (head ++ wordBytes (f.payload.take 4)),
   safetyCheck .b f.station.toNat f.seq (head ++ wordBytes (f.payload.drop 4))]

/-- Words in runs of at most 360 (R460); `n` bounds the number of runs. -/
def wordRuns : Nat → List Word → List (List Word)
  | 0, _ => []
  | n + 1, ws => if ws = [] then [] else ws.take 360 :: wordRuns n (ws.drop 360)

/-- The output frames of a station's cycle (R460, R463): outputs, 360 words to a frame, drive, door and safety; one of KIND 1 without words
where there is none. -/
def stationFrames (s : State) (k : StationCfg) (seq : Word) (cycleAt : Nat) : List (StationFrame × List DWord) :=
  let make (kind : Nat) (ws : List Word) : StationFrame := {
    station := BitVec.ofNat 16 k.no, kind := BitVec.ofNat 8 kind, flags := stationFlags false s, seq := seq,
    cycleAt := BitVec.ofNat 64 cycleAt, tag := frameTag s, payload := ws }
  let words := stationOutWords s k
  let outs := (wordRuns words.length words).map (make 1)
  let drives := ((s.img.cars.filter (fun c => decide (c.drive = k.no))).filter (fun c => decide ((hstOf s c.no).frame ≠ []))).map
    (fun c => make 3 (hstOf s c.no).frame)
  let doors := (s.img.doors.filter (fun d => decide (d.station = k.no))).filterMap (fun d => (dorOf s d.ch).frame.map (make 5))
  let safe := if k.safety then [make 8 (safetyPart s.safA k.no ++ safetyPart s.safB k.no)] else []
  let all := outs ++ drives ++ doors ++ safe
  (if all = [] then [make 1 []] else all).map (fun f => (f, if f.kind = 8 then outChecks f else []))

/-- The door frames that a station's cycle takes leave their places in the door frame queue (R464). -/
def takeDoorFrames (n : Nat) (s : State) : State :=
  (s.img.doors.filter (fun d => decide (d.station = n))).foldl (fun s d => putDor s d.ch { dorOf s d.ch with frame := none }) s

/-- The CRC-32C of a station frame: over header, payload and check codes (R460). -/
def frameCrc (f : StationFrame) (checks : List DWord) : Word := crc32c (frameBytes f ++ checks.flatMap (fun c => leBytes 8 c.toNat))

/-- Frames of one sending go to the pair's queue; the answer tells whether one was refused. -/
def sendFrames (k : StationCfg) (fs : List (StationFrame × List DWord)) (s : State) : State × Bool :=
  fs.foldl (fun a f => let r := pairSend k.pair (.station f.1 f.2 (frameCrc f.1 f.2)) a.1; (r.1, a.2 || r.2)) (s, false)

/-- A station is declared lost (R199, R222, R304, R465): its last valid frame is held, and its images take a frame that comes later. -/
def stationLost (n : Nat) (s : State) : State :=
  let x := stnOf s n
  let s := putStn s n { x with
    state := .lost, losses := satAdd 255 x.losses 1, chosen := x.frames.head?.or x.chosen, frames := [], fresh := false }
  stationError n 3 (sourceLost 1 n (fbkStationLost n (raise 2840 [wordN n] s)))

/-- STATION_BUDGET_END (R465): a missed cycle is counted, and at WD in a row the station is declared lost. -/
def budgetEnd (n : Nat) (s : State) : State :=
  match stationCfg s n, (stnOf s n).exch with
  | some k, some e =>
    let x := { stnOf s n with exch := none }
    if e.answered && !e.refused then putStn s n x
    else
      let x := { x with missed := satAdd 15 x.missed 1 }
      let s := putStn s n x
      if k.wd ≤ x.missed ∧ x.state ≠ .lost then stationLost n s else s
  | _, _ => s

/-- STATION_CYCLE_SEND (R463): the first sending of a station's cycle, where this module sends; a budget still open ends. -/
def cycleSend (n : Nat) (s : State) : State :=
  match stationCfg s n with
  | none => s
  | some k =>
    if running s .io = false then s
    else
      let s := budgetEnd n s
      let len := stationCycle k.cycle
      let seq := wordN (devTime s / len)
      let at0 := devTime s / len * len
      let fs := stationFrames s k seq at0
      let go := sending s
      let (s, refused) := if go then sendFrames k fs (takeDoorFrames n s) else (s, false)
      putStn s n { stnOf s n with exch := some {
        seq := seq, cycleAt := at0, sendings := if go then 1 else 0, frames := fs, answered := false, refused := refused } }

/-- STATION_RETRY (R463): at most 2 retries, sent with RETRY set. -/
def stationRetry (n : Nat) (s : State) : State :=
  match stationCfg s n, (stnOf s n).exch with
  | some k, some e =>
    if e.answered ∨ e.sendings = 0 ∨ 3 ≤ e.sendings ∨ sending s = false then s
    else
      let fs := e.frames.map (fun f => ({ f.1 with flags := f.1.flags ||| 4 }, f.2))
      let (s, refused) := sendFrames k (fs.map (fun f => (f.1, if f.1.kind = 8 then outChecks f.1 else []))) s
      let x := stnOf s n
      putStn s n { x with
        retries := satAdd 255 x.retries 1, exch := some { e with sendings := e.sendings + 1, refused := e.refused || refused } }
  | _, _ => s

/-- A KIND 2 frame joins the frames of its station, the newest 8 by SEQ. -/
def addFrame (f : StationFrame) (fs : List InFrame) : List InFrame :=
  let e : InFrame := { seq := f.seq, cycleAt := f.cycleAt.toNat, words := f.payload }
  if fs.any (fun g => decide (g.seq = e.seq)) then fs
  else ((fs.filter (fun g => decide (0 < (g.seq - e.seq).toInt))) ++ e :: fs.filter (fun g => decide ((g.seq - e.seq).toInt < 0))).take 8

/-- An input frame of a KIND that R460 lists, of a station of the image. -/
def inputFrameOk (s : State) (f : StationFrame) : Bool :=
  [2, 4, 6, 7, 9].contains f.kind.toNat && (stationCfg s f.station.toNat).isSome && decide (f.payload.length ≤ 360)

/-- A station frame as it arrives is whole (R460): LENGTH is its payload's, KIND 9 alone carries two check codes, and its CRC-32C is that
of everything before it. -/
def frameWhole (f : StationFrame) (length : BitVec 16) (checks : List DWord) (crc : Word) : Bool :=
  decide (length.toNat = 4 * f.payload.length) && decide (checks.length = if f.kind = 9 then 2 else 0)
    && decide (crc = frameCrc f checks)

/-- STATION_INPUT_FRAME (R463 to R466, R199, R222, R479): it ends the exchange of its SEQ, brings a lost station back (one that comes when
its cycle's budget has ended leaves the count of missed cycles as it is, R465), is forwarded to the
partner, and its words reach the images and the slots that they feed. -/
def inputFrame (f : StationFrame) (s : State) : State :=
  let n := f.station.toNat
  match stationCfg s n with
  | none => s
  | some k =>
    if running s .io = false ∨ inputFrameOk s f = false then s
    else
      let x := stnOf s n
      let fresh := match x.newest with | some q => decide (0 < (f.seq - q).toInt) | none => true
      let ends := match x.exch with | some e => decide (e.seq = f.seq) | none => false
      if !fresh && !ends && decide (x.newest ≠ some f.seq) then s
      else
        let back := decide (x.state = .lost)
        let inTime := match x.exch with | some e => decide (e.seq = f.seq) && !e.refused | none => false
        let isIn := decide (f.kind = 2)
        let y := { x with
          exch := x.exch.map (fun e => if e.seq = f.seq then { e with answered := true } else e)
          state := StationState.running
          missed := if back || inTime then 0 else x.missed
          newest := if fresh then some f.seq else x.newest
          frames := if isIn then addFrame f x.frames else x.frames }
        let s := putStn s n y
        let s : State := if s.net.lualasOk ∧ s.net.mixed = false then { s with net := { s.net with forwarded := some f } } else s
        let s := if isIn ∧ (fresh = true ∨ x.frames = []) then
            sourceWrite (.station (Fin.ofNat 2048 n)) k.tenant 1 n f.payload (devTime s) s
          else s
        if back then stationError n 4 (raise 2841 [] s) else s

/-- MIRRORED_STATION_FRAME (R479). -/
def mirroredFrame (f : StationFrame) (s : State) : State :=
  if running s .io ∧ s.net.lualasOk ∧ s.net.mixed = false ∧ inputFrameOk s f ∧ f.kind = 2 then
    let x := stnOf s f.station.toNat
    putStn s f.station.toNat { x with frames := addFrame f x.frames }
  else s

/-! ## The pair (R468 to R483) -/

/-- WAGGLE_SEND (R476, R478): over the Lualas link, and as KIND 10 on both LANs of pair 0. -/
def waggleSend (s : State) : State :=
  if running s .io = false ∨ s.net.gone = true then s
  else
    let w := waggleNow s
    (pairSend 0 (.waggle w (waggleCrc w)) { s with net := { s.net with sent := some w, count := s.net.count + 1 } }).1

/-- DIV_RUN (R481). -/
def divRun (s : State) : Nat := s.img.network.divRun

/-- A mismatch, or an agreement, of OUT_DIGEST at the standby (R481): at DIV_RUN in a row it stops sending and is resynchronised. -/
def divergence (bad : Bool) (s : State) : State :=
  if bad then
    let s : State := { s with net := { s.net with diverge := satAdd 255 s.net.diverge 1 } }
    if s.net.diverge = divRun s then
      raise 2845 [] { s with net := { s.net with synced := false, resyncing := true } }
    else s
  else { s with net := { s.net with diverge := 0 } }

/-- The path a waggle came by is up (R477); missing ones over the Lualas link are counted. -/
def pathUp (w : Waggle) (lualas : Bool) (s : State) : State :=
  let n := s.net
  if lualas then
    let gap := match n.lastCount with
      | some c => let d := (w.count - c).toNat; if 1 ≤ d ∧ d < 2 ^ 31 then d - 1 else 0
      | none => 0
    raiseIf (n.lastCount.isSome && !n.lualasOk) 2844 [] { s with net := { n with
      lualasOk := true, lastCount := some w.count, miss := satAdd 65535 n.miss gap, lanes := if n.lanes = 0 then 15 else n.lanes } }
  else { s with net := { n with netOk := true, netAt := s.now } }

/-- A module clash begins (R472). -/
def clashBegins (s : State) : State :=
  if s.net.clash then s
  else
    let s : State := { s with
      net := { s.net with clash := true, clashHeld := s.net.holder, release := none, take := none }
      pins := { s.pins with faultKeeper := true } }
    raise 2851 [] (suppressAll (if s.net.clashHeld then s else clearQueue false s))

/-- Both modules release at one time and neither is fit: module 0 takes the duty (R485; the waggle period, log entry 102). -/
def bothRelease (w : Waggle) (s : State) : Bool :=
  w.release && w.holder && !s.pins.pairSel && !(fit s)
    && decide (s.net.releaseAt ≤ w.sentAt.toNat + 100000 ∧ w.sentAt.toNat ≤ s.net.releaseAt + 100000)

/-- What a waggle tells of the holder duty: the partner releases it, keeps it, has taken it or has gone (R470, R474, R478, R485). -/
def dutyNews (w : Waggle) (s : State) : State :=
  let n := s.net
  if n.holder then
    if n.release.isSome ∧ w.holder = true then
      let byHand := decide (n.release = some .handover)
      let s := dutyChange false (if byHand then 4 else 2) s
      pairDecided 0 { s with net := { s.net with synced := byHand && s.net.lualasOk } }
    else if w.sending then { s with net := { n with stale := false } }
    else s
  else if w.gone then { s with net := { n with take := some 5 } }
  else if w.release && w.holder then
    if n.resyncing then { s with net := { n with resyncing := false, stale := true } }
    else if n.stale then s
    else if fit s then { s with net := { n with take := some (if w.fit then 4 else 2) } }
    else if bothRelease w s then { s with net := { n with take := some 2 } }
    else s
  else if w.holder ∧ (n.take = some 2 ∨ n.take = some 4) then { s with net := { n with take := none } }
  else s

/-- A resynchronisation starts when a standby joins a holder with an equal digest (R482). -/
def resyncNews (w : Waggle) (joined : Bool) (s : State) : State :=
  let n := s.net
  let standby := !n.holder && w.holder && n.lualasOk && !n.synced && !n.stale
  let holder := n.holder && !w.holder && joined && n.lualasOk
  if !n.mixed && !n.resyncing && (standby || holder) then { s with net := { n with resyncing := true } } else s

/-- WAGGLE_RECEIVE (R470 to R483). -/
def waggleIn (w : Waggle) (lualas : Bool) (s : State) : State :=
  if running s .io = false then s
  else
    let joined := !(hasPartner s)
    let s := pathUp w lualas s
    let s : State := { s with net := { s.net with partner := some w, silent := false } }
    if w.modul = s.pins.pairSel then fieldRefresh (clashBegins s)
    else if s.net.clash then s
    else
      let mixed := decide (w.digest ≠ BitVec.ofNat 64 (leNat (s.frm.digest.take 8)))
      let s := raiseIf (s.net.mixed != mixed) 2850 [] { s with net := { s.net with mixed := mixed, synced := s.net.synced && !mixed } }
      let s := resyncNews w joined (dutyNews w s)
      let sameTick := decide (w.sentAt.toNat / 250000 = devTime s / 250000)
      let s := if !s.net.holder && w.holder && s.net.synced && !s.net.compared && sameTick then
          divergence (decide (w.outDigest ≠ s.net.outDigest)) { s with net := { s.net with compared := true } }
        else s
      fieldRefresh (reassess s)

/-- A pair start (R471): no holder on any path, and this module is fit; module 0 takes the duty when both are. -/
def startTake (s : State) : Bool :=
  fit s && (s.net.silent || (match s.net.partner with
    | some w => hasPartner s && !w.holder && (!w.fit || !s.pins.pairSel)
    | none => false))

/-- The standby's held tick runs without its record. -/
def runHeldTick (s : State) : State :=
  match s.net.tickDue with
  | some k => runTick k (chooseFrames { s with net := { s.net with tickDue := none } })
  | none => s

/-- Calls that waited for the holder's order go to the planners when this module becomes the holder (R480). -/
def releaseCalls (s : State) : State :=
  s.img.groups.foldl (fun s g =>
    let x := grpOf s g.no
    putGrp s g.no { x with port := x.port ++ x.unordered, unordered := [], orders := [] }) s

/-- HOLDER_TAKE (R470, R471, R477): at a tick, the module takes the holder duty if it is to; in bench mode never while a partner runs out of
bench mode (R139). -/
def holderTake (s : State) : State :=
  let n := s.net
  if n.holder ∨ n.gone = true ∨ n.clash = true ∨ running s .io = false then s
  else
    let go (c : Nat) : State :=
      let s := dutyChange true c { s with net := { n with resyncing := false, stale := false, synced := true } }
      fieldRefresh (reassess (runHeldTick (releaseCalls s)))
    match n.take with
    | some c =>
      if fit s then go c
      else if c = 2 ∧ partnerHas s (fun w => bothRelease w s) = true ∧ (s.frm.bench && partnerHas s (fun w => !w.bench)) = false then go 2
      else s
    | none => if startTake s then go 1 else s

/-- PARTNER_SILENT (R472, R477). -/
def partnerSilent (s : State) : State :=
  let n := s.net
  if n.silent ∨ running s .io = false then s
  else
    let held := match n.partner with | some w => w.holder | none => false
    let lost := n.lualasOk
    let s : State := { s with net := { n with
      silent := true, lualasOk := false, netOk := false, take := if !n.holder && !n.clash && held then some 3 else n.take } }
    let s := raiseIf lost 2844 [] (raiseIf n.partner.isSome 2843 [] s)
    fieldRefresh (reassess (runHeldTick s))

/-- LUALAS_LOST (R477). -/
def lualasLost (s : State) : State :=
  if s.net.lualasOk then
    fieldRefresh (reassess (runHeldTick (raise 2844 [] { s with net := { s.net with lualasOk := false } })))
  else s

/-- LANE_DROPPED (R475). -/
def laneDropped (k : Nat) (s : State) : State :=
  if s.net.lanes.testBit k then raise 2844 [] { s with net := { s.net with lanes := putBit s.net.lanes k false } } else s

/-- HANDOVER and RESYNC, which reach NET_PAIR_CMD through the Keeper (R474, R482, R548): one command is held while another is pending. -/
def pairCommand (req : Requester) (cmd : Nat) (s : State) : State :=
  if running s .io = false then s
  else if s.net.result = 15 then
    if s.net.heldCmd.isSome then badAccess req 3 0x11000204 s else { s with net := { s.net with heldCmd := some (cmd, req) } }
  else pairStart cmd s

/-- The holder's state taken at the standby (R482). -/
def takeCopy (c : PairCopy) (s : State) : State :=
  let s := c.slots.foldl (fun s e =>
    let p := pointOf s e.1
    if p.alloc then putPoint s e.1 (refresh { p with words := e.2.words, base := e.2.base, arr := e.2.arr, dirty := true }) else s) s
  let s := c.srams.foldl (fun s e => putCe s e.1 { ceOf s e.1 with sram := e.2 }) s
  let s : State := { s with dsp := { c.dsp with rights := s.dsp.rights }, hst := c.hoists, dor := c.doors, fbk := c.feedback }
  putForces c.forces s

/-- RESYNC_COMPLETE (R482). -/
def resyncDone (c : PairCopy) (s : State) : State :=
  if s.net.resyncing then
    let s := if s.net.holder then s else takeCopy c s
    reassess (raise 2846 [] { s with net := { s.net with resyncing := false, stale := false, diverge := 0, synced := true } })
  else s

/-- SELECTION_RECORD (R479, R485): the standby's tick runs on the frames that the record names; one later than 50 µs counts as a
mismatch. -/
def selectionRecord (k : Nat) (sels : List Selection) (s : State) : State :=
  if s.net.tickDue = some k then
    let s := sels.foldl (fun s e =>
      let x := stnOf s e.station.val
      match x.frames.find? (fun f => decide (f.seq = e.seq)) with
      | some f => putStn s e.station.val { x with chosen := some f, fresh := true }
      | none => s) s
    let late := decide (k * 250000 + 50000 < devTime s)
    let s := runTick k { s with net := { s.net with tickDue := none } }
    if late then divergence true { s with net := { s.net with compared := true } } else s
  else s

/-- SLOT_MIRROR_RECEIVE (R480). -/
def slotMirror (id : Nat) (m : SlotImage) (s : State) : State :=
  let p := pointOf s id
  if isStandby s && exchanges s && p.alloc && running s (homeDie s id) then
    putPoint s id (refresh { p with words := m.words, base := m.base, arr := m.arr, dirty := true })
  else s

/-! ## Health (R478, R484) -/

/-- STANDBY_SELF_TEST (R484): its latest outcome. The gate test runs only at a module without the holder duty. -/
def selfTest (t : Nat) (ok : Bool) (s : State) : State :=
  if running s .keeper = false ∨ (t = 0 ∧ s.net.holder = true) then s
  else { s with net := { s.net with failing := putBit s.net.failing t (!ok) } }

/-- HEALTH_VERDICT (R478, R484, R52): a failed test fails it, the gate test only at a module without the holder duty; the first that passes
lets FAULT_N rise, two failures in a row silence the module. -/
def healthVerdict (s : State) : State :=
  if running s .keeper = false then s
  else
    let failing := if s.net.holder then putBit s.net.failing 0 false else s.net.failing
    let bad := decide (failing ≠ 0)
    let s : State := { s with net := { s.net with
      verdict := if bad then 2 else 1, failed := failing, verdictAt := s.now, failRun := if bad then s.net.failRun + 1 else 0 } }
    let s := raiseIf bad 2847 [] s
    let keepLow := s.net.gone || s.net.clash || s.frm.bench || decide (s.rst.phase = 15) || s.kpr.noFirmware
    let s : State := if !bad && !keepLow then { s with pins := { s.pins with faultKeeper := false } } else s
    let s := if 2 ≤ s.net.failRun then goSilent s else s
    fieldRefresh (reassess s)

/-! ## Reset (R455, R471, R478) -/

/-- The block after a reset of the I/O die: the counts of R10's RWS class are kept through all but the power-on reset, and a silent module
stays silent until its next start-up; a module clash lasts (R472). -/
def resetNet (por : Bool) (s : State) : State :=
  if por then { s with net := {} }
  else
    let keepPort (x : NetPort) : NetPort := { ({} : NetPort) with held := x.held, badFcs := x.badFcs, dups := x.dups }
    let keepStn (x : Station) : Station := { ({} : Station) with retries := x.retries, losses := x.losses }
    let n := s.net
    { s with net := { ({} : Net) with
        ports := tupdAll ({} : NetPort) (n.ports.map (·.1)) (fun _ x => keepPort x) n.ports
        stations := tupdAll ({} : Station) (n.stations.map (·.1)) (fun _ x => keepStn x) n.stations
        handovers := n.handovers, miss := n.miss, gone := n.gone, lastSet := n.lastSet, clash := n.clash
        verdict := n.verdict, failed := n.failed, verdictAt := n.verdictAt, failing := n.failing, failRun := n.failRun } }

/-! ## Registers -/

def portCode : PortState → Nat
  | .down => 0 | .training => 1 | .up => 2
def stationCode : StationState → Nat
  | .waiting => 1 | .running => 2 | .lost => 3

/-- NET_PORTp. -/
def portReg (s : State) (p : Nat) : Word :=
  let x := netPort s p
  match portCfg s p with
  | none => regOf [(31, 30, if running s .io ∧ s.img.network.ports ≠ [] then 3 else 0), (23, 16, 50), (15, 0, x.held)]
  | some c => regOf [(31, 30, portCode x.state), (29, 29, b2n c.fast), (28, 28, b2n c.fec), (23, 16, c.startTmo), (15, 0, x.held)]

/-- NET_STNs. -/
def stnReg (s : State) (n : Nat) : Word :=
  let x := stnOf s n
  match stationCfg s n with
  | none => regOf [(15, 8, x.retries), (7, 0, x.losses)]
  | some k => regOf [(31, 30, stationCode x.state), (29, 26, k.wd), (25, 22, k.cycle), (19, 16, x.missed), (15, 8, x.retries),
      (7, 0, x.losses)]

/-- NET_PAIR_STATUS. -/
def pairReg (s : State) : Word :=
  let n := s.net
  let w := n.partner
  regOf [(31, 31, b2n n.holder), (30, 30, b2n (w.any (·.holder))), (29, 29, b2n s.pins.pairSel), (28, 28, b2n (hasPartner s)),
    (27, 27, b2n (sending s)), (26, 26, b2n (fit s)), (25, 25, b2n (w.any (·.fit))), (24, 24, b2n n.mixed), (23, 23, b2n n.lualasOk),
    (22, 22, b2n (netFresh s)), (21, 21, b2n n.clash), (18, 16, n.cause), (15, 12, (w.map (·.set.toNat)).getD 0),
    (11, 10, (w.map (·.therm.toNat)).getD 0), (7, 0, n.handovers)]

/-- A register of the NET block. -/
def netReg (s : State) (off : Nat) : Option Word :=
  let n := s.net
  match off with
  | 0x200 => some (pairReg s)
  | 0x204 => some (regOf [(27, 24, n.result)])
  | 0x208 => some (regOf [(31, 30, n.verdict), (23, 16, n.failed),
      (15, 0, if n.verdict = 0 then 0 else Nat.min 65535 ((s.now - n.verdictAt) / 1000000))])
  | 0x20C => some (regOf [(31, 28, n.lanes), (23, 16, n.diverge), (15, 0, n.miss)])
  | o =>
    if o < 0x80 then
      match o % 16 with
      | 0 => some (portReg s (o / 16))
      | 4 => some (wordN (netPort s (o / 16)).badFcs)
      | 8 => some (wordN (netPort s (o / 16)).dups)
      | _ => none
    else if 0x10000 ≤ o ∧ o < 0x12000 ∧ o % 4 = 0 then some (stnReg s ((o - 0x10000) / 4))
    else none

/-- A write to the NET block: NET_PAIR_CMD, through the Keeper alone. -/
def netWrite (req : Requester) (off : Nat) (v : Word) (s : State) : State :=
  match off, req with
  | 0x204, .ce _ => s
  | 0x204, _ => if fld v 31 28 = 1 ∨ fld v 31 28 = 2 then pairCommand req (fld v 31 28) s else s
  | _, _ => s

end Sys2Proof.Machine
end

