-- ==== Sys2Proof/Machine/Resets.lean ====
section
/-! DEFINITION. Resets and releases of the blocks: what each keeps and what it loses (R67, R73, R183, R309, R452, R512). `por` marks the
power-on reset, through which only NV fields are kept; every other reset keeps the RWS fields too. -/
namespace Sys2Proof.Machine

/-! ## The Keeper die -/

/-- The Keeper's own units: firmware slots, fan limits, the calendar and the key store are NV; the calendar is lost with VKEEP (R531). -/
def kprAfter (por : Bool) (k : Kpr) : Kpr :=
  let cal : Kpr := if por then {} else { ({} : Kpr) with
    calSec := k.calSec, calValid := k.calValid, calEnd := k.calEnd, stageDate := k.stageDate, stageTime := k.stageTime
    vkeepLost := k.vkeepLost }
  { cal with
    selected := k.selected, slotState := k.slotState, minSvn := k.minSvn, slotA := k.slotA, slotB := k.slotB, fwLen := k.fwLen
    fwGot := k.fwGot, fanMin := k.fanMin, taiUtc := k.taiUtc, scKeys := k.scKeys, smokePin := k.smokePin
    dbgChallenge := k.dbgChallenge }

/-- The truss block: its registers on the Keeper die; routers and links have resets of their own. -/
def trsAfter (por : Bool) (t : Trs) : Trs :=
  let own : Trs := { ({} : Trs) with routers := t.routers, links := t.links, mons := t.mons }
  if por then own else { own with failed := t.failed, retries := t.retries, bookFault := t.bookFault }

/-- The inactive bank set emptied. -/
def emptyInactive (f : Frm) : Frm :=
  if f.activeSet then { f with setA := [], lenA := 0 } else { f with setB := [], lenB := 0 }

/-- A staging in progress ends, and the set is empty (R131). -/
def endStaging (f : Frm) : Frm := if f.setState = .staging then { emptyInactive f with setState := .empty } else f

/-- The frame-image block; power lost ends a staging (R131). -/
def frmAfter (por : Bool) (f : Frm) : Frm :=
  let f := if por then endStaging f else f
  { f with bench := false, presence := false, loopOk := false, busy := false, logIndex := 0, handover := false, handoverSrc := .keeper
           heldPhase6 := false, lfsr := 0x7FFF, sealWrong := 0, sealRight := 0 }

/-- The event unit and the recorder: routings, records, NEWEST and DROPPED are NV (R537); events on their way are lost, and the queue in
Keeper SRAM with VKEEP alone. -/
def evtAfter (por : Bool) (e : Evt) : Evt :=
  { ({} : Evt) with
    routes := e.routes, counts := if por then [] else e.counts
    pend := if por then [] else (e.pend.map (fun q => (q.1, { q.2 with queue := [] }))).filter (fun q => decide (q.2 ≠ {}))
    badCount := if por then 0 else e.badCount }
def evrAfter (por : Bool) (e : Evr) : Evr :=
  { e with index := 0, queue := if por then [] else e.queue, openSlot := none, lossOpen := e.lossOpen && !por
           lost := if por then 0 else e.lost }

def resetKeeper (por : Bool) (s : State) : State :=
  { s with kpr := kprAfter por s.kpr, trs := trsAfter por s.trs, frm := frmAfter por s.frm, evt := evtAfter por s.evt
           evr := evrAfter por s.evr }

/-! ## The compute dies -/

/-- The CEs of compute die 0 and of compute die 1 (R14). -/
def cesOf (d0 d1 : Bool) : List Nat :=
  (if d0 then List.range 64 else []) ++ (if d1 then (List.range 64).map (· + 64) else [])
def ceIn (d0 d1 : Bool) (n : Nat) : Bool := if n < 64 then d0 else d1

/-- A slot whose home slice lies on one of the dies (R216). -/
def slotIn (d0 d1 : Bool) (s : State) (id : Nat) : Bool :=
  match homeDie s id with | .comp0 => d0 | _ => d1

/-- The comb block on compute die 0; the session unit is the I/O die's: LIMIT is NV, the denial, loss and repair counts RWS; mirror and
module store lie in MRAM. -/
def cmbAfter (por : Bool) (c : Cmb) : Cmb :=
  { ({} : Cmb) with
    points := c.points, mirA := c.mirA, mirB := c.mirB, mirDigest := c.mirDigest, limit := c.limit
    conns := c.conns, subs := c.subs, bacOut := c.bacOut, notified := c.notified, modbusOut := c.modbusOut
    modules := c.modules.map (fun e => (e.1, { e.2 with waiting := none }))
    denyCount := if por then 0 else c.denyCount, lost := if por then 0 else c.lost, repaired := if por then 0 else c.repaired }

/-- The registers of the schedulers, with die 0; the persistent copies lie in MRAM. -/
def cycAfter (c : Cyc) : Cyc := { ({} : Cyc) with tasks := c.tasks, ceStacks := c.ceStacks, persist := c.persist.map (fun e => (e.1, { e.2 with flush := none })) }

/-- The DSP unit on compute die 0: rights are NV, LATE and MAX RWS. -/
def dspAfter (por : Bool) (d : Dsp) : Dsp :=
  { ({} : Dsp) with
    rights := d.rights
    groups := if por then [] else
      (d.groups.map (fun e => (e.1, { ({} : Grp) with late := e.2.late, maxTime := e.2.maxTime }))).filter (fun e => decide (e.2 ≠ {})) }

/-- Reset of the compute dies: CEs go OFF, their speed monitors with them, home slots, tasks and stacks are lost, and with die 0 the comb,
CYC and DSP blocks. A handover under way ends without a flip (R208). -/
def resetComp (por d0 d1 : Bool) (s : State) : State :=
  let s := (cesOf d0 d1).foldl (fun s n => ceReset por n s) s
  let s := dropTasks por (ceIn d0 d1) s
  let s : State := { s with trs := { s.trs with mons := s.trs.mons.filter (fun e => !(ceIn d0 d1 e.1)) } }
  let s := if d0 || d1 then clearForces { s with
      frm := { s.frm with handover := false }, cyc := { s.cyc with handover := none, next := none, switched := [] } } else s
  let s : State := { s with cmb := { s.cmb with points := s.cmb.points.filter (fun e => !(slotIn d0 d1 s e.1)) } }
  if d0 then { s with cmb := cmbAfter por s.cmb, cyc := cycAfter s.cyc, dsp := dspAfter por s.dsp } else s

/-- A CE's persistent data at a cold start (R201, R202): each variable that the newer copy holds under the same name and type is carried to
its place in the loaded image; any other keeps its initial value. -/
def loadPersistent (s : State) (n : Nat) : State :=
  match s.img.persist.find? (fun x => decide (x.ce = n)) with
  | none => s
  | some x =>
    let p := persistOf s n
    x.vars.foldl (fun s v =>
      match (newerVars p).find? (fun o => decide (o.name = v.name ∧ o.typ = v.typ)) with
      | some o => sramWrite n (x.base + v.off) (((newerCopy p).drop o.off).take v.len) s
      | none => s) s

/-- Compute dies released cold (R67, R75, R79): CEs IDLE, home slots loaded, tasks waiting, the DSP unit empty, and the energy unit's
points showing its LEVEL (R244). -/
def releaseCold (d0 d1 : Bool) (unA unB : List Nat) (saved : Tab SlotImage) (s : State) : State :=
  let s := (cesOf d0 d1).foldl (fun s n => loadPersistent (ceCold n s) n) s
  let s := combLoad (slotIn d0 d1 s) unA unB saved s
  let s := loadTasks (ceIn d0 d1) false s
  if d0 then showLevel (dspRelease none s) else s
def releaseComp (d0 d1 : Bool) (s : State) : State := releaseCold d0 d1 [] [] [] s

/-! ## The I/O die -/

def doorAfter (por : Bool) (t : Tab Door) : Tab Door :=
  if por then [] else (t.map (fun e => (e.1, doorKept e.2))).filter (fun e => decide (e.2 ≠ {}))

/-- The feedback block: learned values are NV, error counts and hits RWS. -/
def fbkAfter (por : Bool) (f : FbkBlock) : FbkBlock :=
  let car (x : Fbk) : Fbk :=
    let y : Fbk := { ({} : Fbk) with scale := x.scale, datum := x.datum, lands := x.lands }
    if por then y else { y with plausErr := x.plausErr, quadErr := x.quadErr, absErr := x.absErr }
  let qe (x : Qe) : Qe :=
    let y : Qe := { ({} : Qe) with a := x.a, b := x.b }
    if por then y else { y with idxErr := x.idxErr, illegal := x.illegal }
  { cars := (f.cars.map (fun e => (e.1, car e.2))).filter (fun e => decide (e.2 ≠ {}))
    ssi := []
    qe := (f.qe.map (fun e => (e.1, qe e.2))).filter (fun e => decide (e.2 ≠ {}))
    cmp := if por then [] else (f.cmp.map (fun e => (e.1, { ({} : Compare) with hits := e.2.hits }))).filter (fun e => decide (e.2 ≠ {})) }

/-- The I/O die's view of the safety island: FAULTS and SKEW are RWS. What the safety dies' events have told stands with those dies. -/
def safViewAfter (por : Bool) (v : SafView) : SafView :=
  let v' : SafView := { ({} : SafView) with smokeSafe := v.smokeSafe, told := v.told }
  if por then v' else { v' with faults := v.faults, skew := v.skew }

/-- Acquisition (R512): registers at reset values, staged records lost; DROPPED and DISCARDED are RWS, and page numbers go on (R494). -/
def resetAcq (por : Bool) (s : State) : State :=
  let keep (t : Tab AcqUnit) : Tab AcqUnit := (t.map (fun e => (e.1, { ({} : AcqUnit) with dropped := e.2.dropped }))).filter (fun e => decide (e.2 ≠ {}))
  let ints (t : Tab IntervalUnit) : Tab IntervalUnit :=
    (t.map (fun e => (e.1, { ({} : IntervalUnit) with discarded := e.2.discarded }))).filter (fun e => decide (e.2 ≠ {}))
  { s with
    acq := if por then {} else { ({} : Acq) with units := keep s.acq.units, ints := ints s.acq.ints }
    sto := { s.sto with stages := (s.sto.stages.map (fun e => (e.1, if e.1 < 3 then e.2 else
      { ({} : Stage) with nextSeq := e.2.nextSeq, restart := e.2.restart }))).filter (fun e => decide (e.2 ≠ {})) } }

/-- The history store (R505, R506, R512): commands in flight and staged pages are lost. The drives keep their pages and layout, the
journal its heads and cursors; the scan from a journalled head finds at most 4,096 pages. -/
def resetSto (por : Bool) (s : State) : State :=
  let o := s.sto
  let con (c : Consumer) : Consumer := { ({} : Consumer) with
    lost := if por then 0 else c.lost, cursor := c.journal, sent := c.journal, fill := c.journal, journal := c.journal }
  let port (p : Port) : Port := { ({} : Port) with errors := if por then 0 else p.errors }
  { s with sto := { ({} : Sto) with
      stages := (o.stages.map (fun e => (e.1, { ({} : Stage) with nextSeq := e.2.nextSeq }))).filter (fun e => decide (e.2 ≠ {}))
      port0 := port o.port0, port1 := port o.port1, formatted := o.formatted, formatTag := o.formatTag
      blocks := o.blocks, shares := o.shares
      rings := o.rings.map (fun e => (e.1, recoverRing e.2)), cons := (o.cons.map (fun e => (e.1, con e.2))).filter (fun e => decide (e.2 ≠ {})) } }

/-- Reset of the I/O die: duties are given up, and the motion units, sessions, CAN, network, acquisition, store and timebase return to their
reset values; FORCED is low (R52). -/
def resetIo (por : Bool) (s : State) : State :=
  let s := if !por && s.net.holder then dutyChange false s.net.cause s else s
  resetSto por (resetAcq por (resetNet por (resetCan por { s with
    hst := [], dor := doorAfter por s.dor, fbk := fbkAfter por s.fbk, saf := safViewAfter por s.saf, tmb := {}
    cmb := { s.cmb with conns := [], subs := [], bacOut := .none, notified := [], modbusOut := .none }
    pins := { s.pins with forced := false } })))

/-- The memory island holds no registers, and MRAM keeps its contents. -/
def resetMem (s : State) : State := s

/-- The blocks that can be reset alone (R73); the UARTs have no register of their own. -/
def resetUnitBlock (u : ResetUnit) (s : State) : State :=
  match u with
  | .can => resetCan false s
  | .acq => resetAcq false s
  | .sto => resetSto false s
  | _ => s

/-- Device time takes its first value from the calendar (R489, R531); at a start-up an invalid calendar raises event source 3590, the
module's silence ends (R478), the field die takes its table (R415), and no CAN channel is enabled before the image is taken (R450). FORCED
is high while a force is active (R52). -/
def releaseIo (start : Bool) (s : State) : State :=
  let s : State := { s with
    tmb := { ({} : Tmb) with time := s.kpr.calSec * 1000000000, running := true }
    pins := { s.pins with forced := decide (s.cyc.forces ≠ []) } }
  if start then
    let s := raiseIf s.kpr.vkeepLost 3590 [] { s with kpr := { s.kpr with vkeepLost := false } }
    let s : State := { s with
      net := { s.net with gone := false }
      img := { s.img with field := (contentOf (bankBytes s.frm s.frm.activeSet)).field, can := [] } }
    if running s .field then loadFieldTable s else s
  else s

/-- The I/O die's blocks take the loaded image: the timebase source (R488), the feedback references, the hoist and door channels, CAN and
the history store. -/
def loadBlocks (s : State) : State :=
  let src := s.img.network.tmbSource
  let s := raiseIf (decide (s.tmb.source ≠ src)) 3704 [] { s with tmb := { s.tmb with source := src } }
  let s := s.img.feedback.foldl (fun s k => putFbk s k.car { fbkOf s k.car with actScale := fbkScale s k, actDatum := fbkDatum s k }) s
  let s := s.img.cars.foldl (fun s k => hoistRelease false [] k s) s
  storeStarts (canLoad (doorRelease false [] s))

/-- Blocks leave a block reset (R71, R452, R512). -/
def releaseBlocks (us : List ResetUnit) (s : State) : State :=
  let s := if us.contains .can then canLoad s else s
  if us.contains .sto then storeStarts s else s

end Sys2Proof.Machine
end

