-- ==== Sys2Proof/Machine/Blocks.lean ====
section
/-! DEFINITION. What the power, frame-image and Keeper commands ask of the other blocks: idle requests, the save and the warm start, brace,
changes of dies, the sealed path and Smoke (R71, R79 to R90, R527, R538). -/
namespace Sys2Proof.Machine

/-- An idle request to compute dies (R71): their CEs halt at the next instruction boundary. -/
def idleCes (d0 d1 : Bool) (s : State) : State := (cesOf d0 d1).foldl (fun s n => requestHalt 0 n s) s

/-- Every hoist channel is at rest (R132). -/
def carsParked (s : State) : Bool := s.img.cars.all (fun k => decide ((hstOf s k.no).state = .rest))

/-- Both safety channels report healthy, and the field input filters are full (R78 phase 8). -/
def safetyHealthy (s : State) : Bool := runsBoth s
def fieldFilled (s : State) : Bool := running s .field && s.fio.filled

/-! ## The sealed path (R527) -/

/-- A request frame of the sealed lines. -/
def sealedOf (code : Nat) (payload : List Byte) : SealedFrame :=
  { code := code, payload := payload, crc := crc32c (leBytes 1 code ++ leBytes 3 payload.length ++ payload) }

/-- A request put on the lines of the dies it names, and its relay opened. -/
def sealedRelay (session : Option Nat) (tag : Word) (a b : Bool) (code : Nat) (payload : List Byte) (s : State) : State :=
  let f := sealedOf code payload
  { s with kpr := { s.kpr with
      relays := s.kpr.relays ++ [{ session := session, tag := tag, toA := a, toB := b, answers := [] }]
      sealedA := if a then s.kpr.sealedA ++ [f] else s.kpr.sealedA
      sealedB := if b then s.kpr.sealedB ++ [f] else s.kpr.sealedB } }

/-- The Keeper's own FREEZE, THAW and BENCH, to both dies. -/
def sealedOriginate (code : Nat) (payload : List Byte) (s : State) : State := sealedRelay none 0 true true code payload s

/-! ## Smoke (R538, R539) -/

/-- A change of the Smoke state, with event source 135. -/
def smokeTo (x : SmokeState) (s : State) : State := raise 135 [] { s with kpr := { s.kpr with smoke := x } }

/-- FREEZE_N is filtered low: Smoke is requested once the module is ready, out of brace, and in RUN (R90, R538). -/
def smokeCheck (s : State) : State :=
  if s.pins.freezeLow && decide (s.rst.phase = 9) && !s.rst.asserted && decide (s.rst.brace = .idle) && decide (s.kpr.smoke = .run)
      && running s .keeper then
    reassess (smokeTo .requested s)
  else s

/-- Every CE, in the order of its number. -/
def allCes : List Nat := List.range 128

/-! ## The save and the warm start (R79, R83 to R89) -/

/-- The save class of a CE (R83). -/
def saveClass (s : State) (n : Nat) : SaveClass := match roleEntry s n with | some r => r.cls | none => .scratch

/-- What the save holds when its closing record is written: CEs of the classes live and held that are not in reset, dirty comb lines, the
hoist and door channels and the DSP unit. -/
def saveContent (s : State) : SaveContent :=
  { ces := s.ces.filter (fun e => decide (saveClass s e.1 ≠ .scratch) && decide (e.2.st ≠ .off))
    slots := (s.cmb.points.filter (fun e => e.2.alloc && (e.2.dirty || e.2.flightA.isSome || e.2.flightB.isSome))).map
      (fun e => (e.1, slotImage e.2))
    hst := s.hst, dor := s.dor, dsp := s.dsp }

/-- The CEs that carry tasks. -/
def carriesTasks (s : State) (n : Nat) : Bool := s.img.tasks.any (fun t => decide (t.ce = n))

/-- A CE restored from the save (R183): HALT with its registers and SRAM; the scheduler then restarts one that carries tasks (R203). -/
def ceRestore (saved : Tab Ce) (s : State) (n : Nat) : State :=
  match saved.find? (fun e => decide (e.1 = n)) with
  | some (_, c) =>
    let cold := ceOf s n
    let s := putCe s n { c with
      st := .halt, haltReq := 0, lines := cold.lines, badLine := none, set := cold.set, psRefuse := cold.psRefuse, icPar := cold.icPar
      sramCe := cold.sramCe }
    if carriesTasks s n then ceRestart n s else s
  | none => s

/-- Phase 7 (R79, R203, R219): the compute dies that run start cold, or warm from a save area. -/
def startCompute (saved : Option SaveContent) (unA unB : List Nat) (s : State) : State :=
  let warm := saved.isSome
  let x := saved.getD {}
  let d0 := running s .comp0
  let d1 := running s .comp1
  let s := clearForces s
  let s := releaseCold d0 d1 unA unB x.slots s
  let s := x.ces.foldl (fun s e => if ceIn d0 d1 e.1 then ceRestore x.ces s e.1 else s) s
  let s := loadTasks (ceIn d0 d1) warm s
  if warm then
    let s := if d0 then dspRelease (some x.dsp) s else s
    let s := s.img.cars.foldl (fun s k => hoistRelease true x.hst k s) s
    doorRelease true x.dor s
  else s

/-! ## Brace (R82 to R87, R208) -/

/-- Brace begins: held CEs are halted, and the store flushes (R83, R501). -/
def braceBegins (s : State) : State :=
  let s := allCes.foldl (fun s n => if saveClass s n = .held then requestHalt 1 n s else s) s
  if s.sto.state = 2 then flushDrives s else s

/-- Brace ends by recovery: held CEs resume, and those that a handover waits for switch (R86, R208). -/
def braceResumes (s : State) : State :=
  let s := allCes.foldl (fun s n =>
    if mustLeave s n && decide ((ceOf s n).st = .halt) && (ceOf s n).hsrc.testBit 1 then switchHalted n s else s) s
  let s := allCes.foldl (fun s n => withdrawHalt 1 n s) s
  finishHandover (allCes.foldl (fun s n =>
    if mustSwitch s n && decide ((ceOf s n).st ≠ .run) && decide ((ceOf s n).st ≠ .halt) then switchCe n s else s) s)

/-- Brace ends by commit: every CE is halted, the module goes silent, and the store issues no new command (R87, R478, R511). -/
def braceCommits (s : State) : State :=
  let s := allCes.foldl (fun s n => requestHalt 2 n s) s
  fieldRefresh (goSilent { s with sto := { s.sto with halted := true } })

/-! ## Dies and thermal state -/

/-- A safety die changes state by its supply or its checks (R386). -/
def safDieEffect (ch : Channel) (old new : DieState) (s : State) : State :=
  if old = new then s
  else match new with
    | .running => { safPowerUp ch s with dies := s.dies }
    | .failed => { safFault ch .selfTest s with dies := s.dies }
    | _ => { safSupplyLoss ch s with dies := s.dies }

/-- The field die is released, or loses power or is reset or fails (R421, R435). Released once start-up has passed phase 5, it loads the
field table at once; before, phase 5 brings it (R415). -/
def fieldDieEffect (old new : DieState) (s : State) : State :=
  if old = new then s
  else if new = .running then (if 6 ≤ s.rst.phase ∧ s.rst.phase ≠ 10 then loadFieldTable (fieldFault s) else fieldFault s)
  else fieldRefresh (safFiltersRestart (resetFieldDie s))

/-- Compute or I/O dies lose their state when they stop running, and start cold when they run again on a started module. -/
def computeDieEffect (first : Bool) (old new : DieState) (s : State) : State :=
  if old = new then s
  else if old = .running then resetComp false first (!first) s
  else if new = .running ∧ 8 ≤ s.rst.phase ∧ s.rst.phase ≤ 9 then releaseComp first (!first) s
  else s
def ioDieEffect (old new : DieState) (s : State) : State :=
  if old = new then s
  else if old = .running then resetIo false s
  else if new = .running ∧ 7 ≤ s.rst.phase ∧ s.rst.phase ≤ 9 then loadBlocks (releaseIo false s)
  else s

/-- Every die. -/
def allDies : List Die := [.comp0, .comp1, .io, .safA, .safB, .field, .mem0, .mem1, .mem2, .mem3, .keeper]

/-- The routers of dies that stop running go into reset; those of dies that run again are released once phase 4 has released the truss. -/
def routerEffects (old : Dies) (s : State) : State :=
  let gone := allDies.filter (fun x => decide (old.get x = .running) && !(running s x))
  let back := allDies.filter (fun x => decide (old.get x ≠ .running) && running s x)
  let up := decide (5 ≤ s.rst.phase ∧ s.rst.phase ≠ 10) && !s.rst.stopped && !s.rst.asserted
  wavefront (if up then portsOf back else []) (resetRouters (portsOf gone) s)

/-- What a change of the dies means for the blocks on them. -/
def dieEffects (old : Dies) (s : State) : State :=
  let new := s.dies
  let s := routerEffects old s
  let s := safDieEffect .a old.safA new.safA s
  let s := safDieEffect .b old.safB new.safB s
  let s := fieldDieEffect old.field new.field s
  let s := ioDieEffect old.io new.io s
  sourceFlags (computeDieEffect false old.comp1 new.comp1 (computeDieEffect true old.comp0 new.comp0 s))

/-- The thermal state has changed from `old`: shedding begins or ends (R196). -/
def thermalEffects (old : Nat) (s : State) : State := shedChange old s

/-- SET, READY, fitness and the outputs that hang on them are settled after a change of the dies (R31, R81, R425). -/
def settle (s : State) : State := fieldRefresh (reassess s)

end Sys2Proof.Machine
end

