-- ==== Sys2Proof/Machine/FrameOps.lean ====
section
/-! DEFINITION. The checks of R134, the class of a load (R130), presence, refusals and the commands of the load state
machine (R131, R132). -/
namespace Sys2Proof.Machine

/-- The outcome of the checks of R134: a refusal code with its section and index, or the contents. -/
inductive ImageCheck where
  | refused (code sec idx : Nat)
  | passed (content : ImageContent)
deriving DecidableEq, Repr

/-- The first failing check of an ordered list of (passes, code). -/
def firstFailing : List (Bool × Nat) → Option Nat
  | [] => none
  | (ok, c) :: t => if ok then firstFailing t else some c

/-- The checks of R134 on a bank set, in order. `code`: a code load, which skips steps 6 and 8; `bench`: R138, which skips
steps 4, 5, 6 and 8. -/
def checkImage (s : State) (set code bench : Bool) : ImageCheck :=
  let m := bankBytes s.frm set
  let steps : List (Bool × Nat) := [
    (containerOk m (bankLen s.frm set), 1),
    (decide (leAt m 16 4 = 0x1FC0) && !(isIB s && (leAt m 20 4).testBit 0), 2),
    (vendorOk s m, 3),
    (bench || installOk s.frm m, 4),
    (bench || digestsOk m, 5),
    (bench || code || decide (manifestBytes m 8 48 = s.kpr.fwDigest), 6),
    (decide (safetyImageDigest .a s = some (manifestBytes m 56 48))
      && decide (safetyImageDigest .b s = some (manifestBytes m 104 48)), 7),
    (bench || code || decide (((findSection m 13).map (fun e => sha384 (sectionBytes m e)))
      = some (manifestBytes m 152 48)), 8)]
  let ref9 := (findSection m 12).map (sectionBytes m)
  match firstFailing steps with
  | some c => .refused c 0 0
  | none =>
    if !(ref9.isSome && decide (safetyCfgDigest .a s = ref9) && decide (safetyCfgDigest .b s = ref9)) then .refused 9 12 0
    else
      let c := contentOf m
      match firstBroken (isIB s) c with
      | some (sec, i) => .refused 10 sec i
      | none => if 16384 ≤ s.frm.log.length then .refused 15 0 0 else .passed c

/-- The class of a staged image against the active one (R130): 1 code, 2 firmware, 3 structural. Bytes 8 to 199 of a manifest are the four
firmware digests of its release set. -/
def imageClass (old new : Tab Byte) : Nat :=
  let differs (k : Nat) : Bool := decide (digestSlot old k ≠ digestSlot new k)
  if sectionStructural.any differs then 3
  else if differs 13 || decide (manifestBytes old 8 192 ≠ manifestBytes new 8 192) then 2
  else 1

/-- A command refused with a code: REFUSE and the detail are set and event source 66 is raised (R131, R143). -/
def frmRefuse (code sec idx : Nat) (s : State) : State :=
  raise 66 [wordN code] { s with frm := { s.frm with refuse := code, refSection := sec, refIndex := idx } }

/-- A log entry's words as FRM_LOG_DATAn shows them (R140). -/
def logWords (e : LogEntry) : List Byte :=
  let body := leBytes 8 e.time ++ leBytes 4 e.seq ++ leBytes 2 e.kind ++ leBytes 2 e.code ++ leBytes 4 e.release
    ++ leBytes 2 e.rep ++ leBytes 2 e.flags ++ e.digest ++ e.active ++ leBytes 4 e.refuse.toNat
  body ++ leBytes 4 (crc32c body).toNat

/-- Presence ends: a VERIFIED_STRUCT set falls back to STAGED, and event source 71 is raised (R127, R131). -/
def presenceEnds (s : State) : State :=
  if s.frm.presence then
    raise 71 [] { s with frm := { s.frm with
      presence := false, heldPhase6 := false,
      setState := if s.frm.setState = .verifiedStruct then .staged else s.frm.setState } }
  else s

/-- Presence begins when PRESENCE_N has been low for 100 ms and the loop is intact (R127): event source 70. -/
def presenceBegins (s : State) : State :=
  if s.pins.presenceLow && s.frm.loopOk && !s.frm.presence then
    raise 70 [] { s with frm := { s.frm with presence := true } }
  else s

/-! ## The seal loop (R124, R126) -/

/-- The LFSR one bit on, with x^15 + x^14 + 1: each bit is the sum of those 14 and 15 places before it. -/
def lfsrNext (l : BitVec 15) : BitVec 15 := (l <<< 1) ||| BitVec.ofNat 15 (b2n (l.getLsbD 14 != l.getLsbD 13))

/-- The level of SEAL_A: the bit being sent while the Keeper island is out of reset, else low (R52, R124). -/
def sealA (s : State) : Bool := running s .keeper && s.frm.lfsr.getLsbD 14

/-- Three wrong samples in a row (R126, R127): TAMPER latches, BREAKS counts, a log entry is written, event source 72 is raised and presence
ends. DESIGN CHOICE, log entry 123: a break found while the loop is not intact does the same again. -/
def sealBroken (s : State) : State :=
  presenceEnds (raise 72 [] (logAppend .keeper 9 0 none
    { s with frm := { s.frm with tamper := true, breaks := satAdd 65535 s.frm.breaks 1, loopOk := false } }))

/-- One bit of the seal loop: SEAL_B sampled against the bit sent (R124). The third wrong sample in a row is a break, and the 1,024th right
one in a row makes the loop intact; then the next bit is sent. -/
def sealSample (s : State) (level : Bool) : State :=
  let f := s.frm
  let ok := decide (level = sealA s)
  let wrong := if ok then 0 else satAdd 3 f.sealWrong 1
  let right := if ok then satAdd 1024 f.sealRight 1 else 0
  let s : State := { s with frm := { f with lfsr := lfsrNext f.lfsr, sealWrong := wrong, sealRight := right } }
  if wrong = 3 ∧ f.sealWrong = 2 then sealBroken s
  else if right = 1024 then presenceBegins { s with frm := { s.frm with loopOk := true } }
  else s

/-- SEAL_B sampled at `k` bits that follow one another, every one right or every one wrong, while the Keeper island is out of reset. -/
def sealSamples (right : Bool) : Nat → State → State
  | 0, s => s
  | k + 1, s => sealSamples right k (if running s .keeper then sealSample s (sealA s == right) else s)

/-- The samples up to the next break (R124): the wrong ones still missing to three in a row; after a break, a right one and three wrong
ones. -/
def sealBreaks (s : State) : State :=
  if s.frm.sealWrong < 3 then sealSamples false (3 - s.frm.sealWrong) s else sealSamples false 3 (sealSamples true 1 s)

/-- While the Keeper island is out of reset, the next bit of SEAL_A is sent every 8 µs (R124). -/
def sealTurn (s : State) : State :=
  if running s .keeper ∧ s.now % 8000 = 0 then { s with frm := { s.frm with lfsr := lfsrNext s.frm.lfsr } } else s

/-! ## Commands -/

/-- ACTIVE_SET flips; the set that was active becomes PREVIOUS, its class kept (R131). -/
def flipSets (f : Frm) : Frm := { f with activeSet := !f.activeSet, setState := .previous }

/-- R132: an image that takes effect through a cold start is refused to the holder, and to a module with no partner while
a car is not parked. -/
def holderBars (s : State) : Bool := isHolder s || (!(hasPartner s) && !(carsParked s))

/-- The log is full (R141). -/
def logFull (s : State) : Bool := decide (16384 ≤ s.frm.log.length)

/-- Chiplet 3 is lost, and with it new loads, activations and reverts (R31): their MRAM bank 24 holds the log and the state of the sets.
The chapter gives the refusal no code; DESIGN CHOICE, log entry 124: BUSY. Key requests, BENCH_ARM, firmware commands and log entries, of
which R31 does not speak, stay available. -/
def frmServiceLost (s : State) : Bool := !(running s .mem3)

/-- The refusal that bars a command, if any, from an ordered list of (barred, code). -/
def barredBy : List (Bool × Nat) → Option Nat
  | [] => none
  | (b, c) :: t => if b then some c else barredBy t

/-- A command carried out unless something bars it, in which case it is refused with that code. -/
def unlessBarred (bars : List (Bool × Nat)) (act : State → State) (s : State) : State :=
  match barredBy bars with
  | some c => frmRefuse c 0 0 s
  | none => act s

/-- A CE of a running compute die fetches from a bank set (R179). -/
def setFetched (s : State) (set : Bool) : Bool := s.ces.any (fun e => decide (e.2.st ≠ .off) && decide (e.2.set = set))

/-- STAGE_BEGIN (R131); a pending activation counts both bank sets as executing (R117), and so does a set that a CE fetches from
(R179, R181). -/
def stageBegin (s : State) : State :=
  unlessBarred [
    (decide (s.frm.setState = .staging) || s.frm.pending || inBrace s || s.frm.handover || s.frm.busy
      || setFetched s (!s.frm.activeSet), 14),
    (s.frm.tamper, 12), (logFull s, 15)]
    (fun s => { s with frm := { emptyInactive s.frm with setState := .staging, cls := 0, stageLen := 0, stageGot := 0 } }) s

/-- VERIFY (R130, R134). -/
def verify (src : LogSource) (s : State) : State :=
  unlessBarred [(decide (s.frm.setState ≠ .staged) || s.frm.busy || frmServiceLost s, 14), (s.frm.tamper, 12)]
    (fun s =>
      let set := !s.frm.activeSet
      let new := bankBytes s.frm set
      let k := imageClass (bankBytes s.frm s.frm.activeSet) new
      match checkImage s set (decide (k = 1)) false with
      | .refused c sec i => logAppend src 2 c (some new) (frmRefuse c sec i s)
      | .passed _ =>
        if k ≠ 1 ∧ s.frm.presence = false then logAppend src 2 11 (some new) (frmRefuse 11 0 0 s)
        else raise 65 [wordN k] (logAppend src 1 0 (some new)
          { s with frm := { s.frm with
              cls := k, setState := if k = 1 then .verifiedCode else .verifiedStruct } })) s

/-- ACTIVATE (R131, R132). -/
def activate (src : LogSource) (s : State) : State :=
  let st := s.frm.setState
  unlessBarred [
    (decide (st ≠ .verifiedCode ∧ st ≠ .verifiedStruct) || s.frm.busy || s.frm.handover || frmServiceLost s, 14),
    (s.frm.tamper, 12), (logFull s, 15),
    (decide (st = .verifiedStruct) && !s.frm.presence, 11), (decide (st = .verifiedStruct) && holderBars s, 13)]
    (fun s =>
      if st = .verifiedCode then startHandover false { s with frm := { s.frm with handover := true, handoverSrc := src } }
      else raise 67 [] (logAppend src 4 0 (some (bankBytes s.frm (!s.frm.activeSet)))
        { s with frm := { flipSets s.frm with pending := true } })) s

/-- REVERT (R131, R132, R136): a refused module flips back with presence, for its next start-up. -/
def revert (src : LogSource) (s : State) : State :=
  let refusedMod := decide (s.rst.phase = 15)
  let code := decide (s.frm.cls = 1) && !refusedMod && !s.frm.pending
  unlessBarred [
    (decide (s.frm.setState ≠ .previous), 16), (s.frm.busy || s.frm.handover || frmServiceLost s, 14),
    (s.frm.tamper, 12), (logFull s, 15), (!code && !s.frm.presence, 11),
    (!code && !s.frm.pending && !refusedMod && holderBars s, 13)]
    (fun s =>
      if code then startHandover true { s with frm := { s.frm with handover := true, handoverSrc := src } }
      else raise 69 [] (logAppend src 5 0 (some (bankBytes s.frm (!s.frm.activeSet)))
        { s with frm := { flipSets s.frm with pending := !s.frm.pending } })) s

/-- ABORT (R131). In a handover that no CE has yet taken part in, the handover ends with it; once a CE fetches from the set, the set
executes (R179), and the command is refused. -/
def abortLoad (src : LogSource) (s : State) : State :=
  let st := s.frm.setState
  unlessBarred [(decide (st = .empty ∨ st = .previous) || s.frm.busy || setFetched s (!s.frm.activeSet), 14)]
    (fun s => logAppend src 13 0 (some (bankBytes s.frm (!s.frm.activeSet)))
      { s with
        frm := { emptyInactive s.frm with setState := .empty, cls := 0, handover := false }
        cyc := { s.cyc with handover := none, next := none, switched := [] } }) s

/-- BENCH_ARM and BENCH_DISARM (R137). -/
def benchArm (src : LogSource) (s : State) : State :=
  unlessBarred [(s.frm.busy, 14), (s.frm.tamper, 12), (logFull s, 15), (!s.frm.presence, 11)]
    (fun s => logAppend src 7 0 none { s with frm := { s.frm with benchArmed := true } }) s
def benchDisarm (s : State) : State := { s with frm := { s.frm with benchArmed := false } }

/-- A write of CMD to FRM_LOAD_CMD; other values are ignored. -/
def loadCommand (src : LogSource) (cmd : Nat) (s : State) : State :=
  match cmd with
  | 1 => stageBegin s | 2 => verify src s | 3 => activate src s | 4 => revert src s
  | 5 => abortLoad src s | 6 => benchArm src s | 7 => benchDisarm s
  | _ => s

/-- TAMPER cleared while presence holds, with a log entry (R128). -/
def tamperClear (src : LogSource) (s : State) : State :=
  if s.frm.presence && s.frm.tamper then logAppend src 10 0 none { s with frm := { s.frm with tamper := false } } else s

/-- The key slot of a number. -/
def keySlot (f : Frm) (i : Nat) : Option (List Byte) := if i = 0 then f.key0 else f.key1
def putKey (f : Frm) (i : Nat) (k : Option (List Byte)) : Frm := if i = 0 then { f with key0 := k } else { f with key1 := k }

/-- A key request is signed by a key that is enrolled at the time (R123). -/
def keySigned (f : Frm) (enrol : Bool) (slot : Nat) (key signature : List Byte) : Bool :=
  (enrolledKeys f).any (fun k => ecdsaP384 k (Config.keyRequest enrol slot key) signature)

/-- Enrolment (R123): into slot 0 with presence alone while both slots are empty, else with a signed request. -/
def keyEnrol (src : LogSource) (slot : Nat) (key signature : List Byte) (s : State) : State :=
  let none0 := decide (enrolledKeys s.frm = [])
  unlessBarred [(s.frm.tamper, 12), (logFull s, 15), (!s.frm.presence, 11),
    (if none0 then decide (slot ≠ 0) else !(keySigned s.frm true slot key signature), 4)]
    (fun s => raise 74 [] (logAppend src 11 0 none { s with frm := putKey s.frm slot (some key) })) s

/-- Removal (R123): with presence and a signed request, and never of the only enrolled key. -/
def keyRemove (src : LogSource) (slot : Nat) (signature : List Byte) (s : State) : State :=
  unlessBarred [(s.frm.tamper, 12), (logFull s, 15), (!s.frm.presence, 11),
    (!(keySigned s.frm false slot [] signature), 4),
    ((keySlot s.frm slot).isNone || decide ((enrolledKeys s.frm).length ≤ 1), 14)]
    (fun s => raise 74 [] (logAppend src 12 0 none { s with frm := putKey s.frm slot none })) s

end Sys2Proof.Machine
end

