-- ==== Sys2Proof/Machine/KeeperOps.lean ====
section
/-! DEFINITION. Keeper firmware slots and secure boot (R515 to R520). -/
namespace Sys2Proof.Machine

/-- Firmware slot A (false) or B (true) of bank 24. -/
def fwSlot (k : Kpr) (b : Bool) : Tab Byte := if b then k.slotB else k.slotA

/-- The image of a slot passes R517: 0 passes, 1 SIGNATURE, 2 ROLLBACK. -/
def slotCheck (k : Kpr) (b : Bool) : Nat :=
  let m := fwSlot k b
  let len := leAt m 4 4
  let key := readBytes m 16 97
  if decide (readBytes m 0 4 = [0x4B, 0x50, 0x52, 0x1A]) && decide (len ≤ 15728640) && decide (512 ≤ len)
      && decide (sha384 key = Config.releaseKeyDigest)
      && ecdsaP384 key (readBytes m 0 176) (readBytes m 176 96)
      && decide (sha384 (readBytes m 512 (len - 512)) = readBytes m 128 48) then
    if k.minSvn ≤ leAt m 8 4 then 0 else 2
  else 1

/-- The boot ROM starts a slot: its SVN and the digest that a manifest names (R516). -/
def bootSlot (b fallback : Bool) (k : Kpr) : Kpr :=
  let m := fwSlot k b
  { k with running := b, fallback := fallback, noFirmware := false, svn := leAt m 8 4 % 64,
           fwDigest := sha384 (readBytes m 0 (leAt m 4 4)), strobe := true }

/-- BOOT_VERIFY (R517): the selected slot, else the other with FALLBACK and event source 129, else no firmware. -/
def bootVerify (s : State) : State :=
  let k := s.kpr
  if slotCheck k k.selected = 0 then { s with kpr := bootSlot k.selected false k }
  else if slotCheck k (!k.selected) = 0 then raise 129 [] { s with kpr := bootSlot (!k.selected) true k }
  else { s with kpr := { k with noFirmware := true } }

/-- The slot that does not boot (R519). -/
def inactiveSlot (k : Kpr) : Bool := !k.running

/-- A slot's bytes replaced. -/
def putSlot (k : Kpr) (b : Bool) (m : Tab Byte) : Kpr := if b then { k with slotB := m } else { k with slotA := m }

/-- KPR_FW RESULT set; event source 128 where something came of the command (R543). -/
def fwResult (r : Nat) (s : State) : State := { s with kpr := { s.kpr with fwResult := r } }

/-- KPR_FW STAGE_BEGIN: the inactive slot is emptied (R519). -/
def fwStageBegin (s : State) : State :=
  fwResult 0 { s with kpr := { putSlot s.kpr (inactiveSlot s.kpr) [] with slotState := .staging, fwLen := 0, fwGot := 0 } }

/-- Enough bytes of the image's own LENGTH are staged (R516, R519). -/
def fwStaged (s : State) : State :=
  let len := leAt (fwSlot s.kpr (inactiveSlot s.kpr)) 4 4
  if s.kpr.slotState = .staging ∧ 0 < len ∧ len ≤ s.kpr.fwGot then
    raise 128 [] { s with kpr := { s.kpr with slotState := .staged, fwLen := len } }
  else s

/-- KPR_FW VERIFY (R519): the checks of R517 on the inactive slot. -/
def fwVerify (s : State) : State :=
  if s.kpr.slotState = .staged then
    match slotCheck s.kpr (inactiveSlot s.kpr) with
    | 0 => raise 128 [] (fwResult 0 { s with kpr := { s.kpr with slotState := .verified } })
    | c => fwResult c s
  else fwResult 5 s

/-- KPR_FW SELECT (R519): needs presence, and the conditions of R132. -/
def fwSelect (s : State) : State :=
  if s.kpr.slotState ≠ .verified then fwResult 5 s
  else if s.frm.presence = false then fwResult 3 s
  else if holderBars s then fwResult 4 s
  else raise 128 [] (fwResult 0 { s with kpr := { s.kpr with selected := inactiveSlot s.kpr } })

/-- KPR_FW ABORT: the staged image is abandoned. -/
def fwAbort (s : State) : State :=
  if s.kpr.slotState = .empty then fwResult 5 s
  else fwResult 0 { s with kpr := { putSlot s.kpr (inactiveSlot s.kpr) [] with slotState := .empty } }

/-- KPR_FW RAISE_SVN (R520): with presence, not while FALLBACK is 1. -/
def raiseSvn (s : State) : State :=
  if s.kpr.fallback then fwResult 5 s
  else if s.frm.presence = false then fwResult 3 s
  else raise 128 [] (fwResult 0 { s with kpr := { s.kpr with minSvn := Nat.max s.kpr.minSvn s.kpr.svn } })

/-- A write of CMD to KPR_FW; other values are ignored. -/
def fwCommand (cmd : Nat) (s : State) : State :=
  match cmd with
  | 1 => fwStageBegin s | 2 => fwVerify s | 3 => fwSelect s | 4 => fwAbort s | 5 => raiseSvn s
  | _ => s

/-! ## The calendar (R528 to R531) -/

/-- A leap year: divisible by 4, except by 100 and not by 400 (R528). -/
def leapYear (y : Nat) : Bool := decide (y % 4 = 0) && (decide (y % 100 ≠ 0) || decide (y % 400 = 0))

/-- Days of a month of a year. -/
def monthDays (y m : Nat) : Nat :=
  if m = 2 then (if leapYear y then 29 else 28) else if m = 4 ∨ m = 6 ∨ m = 9 ∨ m = 11 then 30 else 31

/-- Days from 2000-01-01 to the first of January of year 2000 + `n`. -/
def yearDays : Nat → Nat
  | 0 => 0
  | n + 1 => yearDays n + (if leapYear (2000 + n) then 366 else 365)

/-- Days of the year before a month. -/
def daysBefore (y m : Nat) : Nat := ((List.range (m - 1)).map (fun i => monthDays y (i + 1))).foldl (· + ·) 0

/-- Seconds since 2000-01-01 00:00:00 of a date and time. -/
def calSeconds (yr mo dy h mi sc : Nat) : Nat :=
  (yearDays yr + daysBefore (2000 + yr) mo + (dy - 1)) * 86400 + h * 3600 + mi * 60 + sc

/-- The year (since 2000) of a day number, and the day in it; the calendar has 400 years. -/
def yearOfDay : Nat → Nat → Nat → Nat × Nat
  | 0, y, d => (y, d)
  | k + 1, y, d =>
    let n := if leapYear (2000 + y) then 366 else 365
    if d < n then (y, d) else yearOfDay k (y + 1) (d - n)

/-- The month and day of a day of the year. -/
def monthOfDay (y : Nat) : Nat → Nat → Nat → Nat × Nat
  | 0, m, d => (m, d + 1)
  | k + 1, m, d => if d < monthDays y m then (m, d + 1) else monthOfDay y k (m + 1) (d - monthDays y m)

/-- TMB_CAL_DATE of a count of seconds: WDAY 1 Monday to 7 Sunday, 2000-01-01 being a Saturday. -/
def calDateReg (sec : Nat) : Word :=
  let d := sec / 86400
  let (y, r) := yearOfDay 400 0 d
  let (m, dy) := monthOfDay (2000 + y) 11 1 r
  regOf [(31, 29, (d + 5) % 7 + 1), (24, 16, y), (11, 8, m), (4, 0, dy)]

/-- TMB_CAL_TIME. -/
def calTimeReg (k : Kpr) : Word :=
  let t := k.calSec % 86400
  regOf [(31, 31, b2n k.calValid), (30, 30, b2n k.calEnd), (20, 16, t / 3600), (13, 8, t / 60 % 60), (5, 0, t % 60)]

/-- The staged date and time are rejected (R529). -/
def calRejects (date time : Word) : Bool :=
  let y := fld date 24 16
  let m := fld date 11 8
  let d := fld date 4 0
  decide (399 < y) || decide (m < 1) || decide (12 < m) || decide (d < 1) || decide (monthDays (2000 + y) m < d)
    || decide (23 < fld time 20 16) || decide (59 < fld time 13 8) || decide (59 < fld time 5 0)

/-- The last second the calendar counts: 2399-12-31 23:59:59. -/
def calLast : Nat := yearDays 400 * 86400 - 1

/-- TMB_CAL_SET SET (R529, R530): refused while a source 1 or 2 is locked, else pending until the next second of the RTC,
which takes or rejects what is staged. -/
def calendarAsk (s : State) : State :=
  if (s.tmb.source = 1 ∨ s.tmb.source = 2) ∧ s.tmb.locked then { s with kpr := { s.kpr with calResult := 2 } }
  else { s with kpr := { s.kpr with calResult := 15 } }

/-- A write of SET: one is held behind a pending one, and a further one is discarded and counted (R548). -/
def calendarSet (req : Requester) (s : State) : State :=
  if s.kpr.calResult = 15 then
    if s.kpr.calHeld.isSome then badAccess req 3 0x15000028 s else { s with kpr := { s.kpr with calHeld := some req } }
  else calendarAsk s

/-- The pending SET has been decided, and the held one is applied (R548). -/
def calendarNext (s : State) : State :=
  if s.kpr.calHeld.isSome then calendarAsk { s with kpr := { s.kpr with calHeld := none } } else s

/-- The calendar comes to a second (R531): at 2399-12-31 23:59:59 it holds, sets END and raises event source 3591. -/
def calTo (sec : Nat) (s : State) : State :=
  let last := decide (calLast ≤ sec)
  raiseIf (last && !s.kpr.calEnd) 3591 [] { s with kpr := { s.kpr with calSec := Nat.min calLast sec, calEnd := last } }

/-- The seconds of the staged date and time. -/
def stagedSeconds (k : Kpr) : Nat :=
  calSeconds (fld k.stageDate 24 16) (fld k.stageDate 11 8) (fld k.stageDate 4 0)
    (fld k.stageTime 20 16) (fld k.stageTime 13 8) (fld k.stageTime 5 0)

/-- The offset of the calendar to device time at its second boundary, in ns. -/
def calOffset (s : State) : Int := ((s.kpr.calSec * 1000000000 : Nat) : Int) - (devTime s : Int)

/-- Under SOURCE 0 the slew towards a calendar that was set goes on from second to second, and ends where the offset is 0 or has turned
(R530; DESIGN CHOICE, log entry 138). -/
def calSlew (s : State) : State :=
  let t := s.tmb
  let off := calOffset s
  if t.source ≠ 0 ∨ t.running = false ∨ t.offset = 0 then s
  else if 0 < t.offset * off then sourceOffset off s
  else { s with tmb := { t with offset := 0, adj := 0, nearSince := none } }

/-- The next RTC second (R529 to R531): a pending SET is taken or rejected whole; else the calendar counts, or is realigned
to a locked timebase. Under SOURCE 0 or 3 the timebase follows a SET that is taken. -/
def rtcSecond (s : State) : State :=
  let k := s.kpr
  if k.calResult = 15 ∧ calRejects k.stageDate k.stageTime = false then
    let s := calTo (stagedSeconds k) (raise 3588 [] { s with kpr := { k with calResult := 0, calValid := true } })
    calendarNext (if s.tmb.source = 0 ∨ s.tmb.source = 3 then sourceOffset (calOffset s) s else s)
  else
    let s := if s.tmb.locked ∧ s.tmb.running then calTo (devTime s / 1000000000) { s with kpr := { k with calValid := true } }
      else calSlew (calTo (k.calSec + 1) s)
    if k.calResult = 15 then calendarNext (raise 3589 [] { s with kpr := { s.kpr with calResult := 1 } }) else s

/-- ms spent in WAIT_SAFE, saturating (KPR_SMOKE WAITED). -/
def smokeWaited (s : State) : Nat :=
  if s.kpr.smoke = .waitSafe then Nat.min 65535 ((s.now - s.kpr.smokeSince) / 1000000) else s.kpr.smokeWaited

end Sys2Proof.Machine
end

