-- ==== Sys2Proof/Machine/PowerOps.lean ====
section
/-! DEFINITION. Resets, releases, start-up phases, brace and the save as shared operations (R59 to R91). -/
namespace Sys2Proof.Machine

/-! ## Service levels of the supplies (R61) -/

/-- The warning level of a supply in mV, VCORE set to `set`. -/
def warnLevel (set : Nat) : Supply → Nat
  | .vcore => set - 30 | .vmem => 1060 | .vio18 => 1730 | .vio33 => 3170 | .vserdes085 => 830 | .vserdes12 => 1170

/-- The reset level of a supply in mV. -/
def resetLevel (set : Nat) : Supply → Nat
  | .vcore => set - 60 | .vmem => 1020 | .vio18 => 1670 | .vio33 => 3050 | .vserdes085 => 800 | .vserdes12 => 1130

/-- READY falls when SET is below 3 or an island is being reset, and rises again with SET at 3 once start-up is complete; at a rise both
save areas are consumed (R78, R80, R81). -/
def readyUpdate (s : State) : State :=
  let full := decide (serviceSet s.dies = 3) && decide (s.rst.phase = 9) && !s.rst.asserted && s.rst.island.isNone
    && decide (s.rst.brace = .idle ∨ s.rst.brace = .brace false ∨ s.rst.brace = .brace true)
  if full && !s.pins.ready then
    { s with pins := { s.pins with ready := true },
             rst := { s.rst with saveA := { s.rst.saveA with consumed := true },
                                 saveB := { s.rst.saveB with consumed := true } } }
  else if !full && s.pins.ready then { s with pins := { s.pins with ready := false } }
  else s

/-! ## Dies held and released -/

/-- A die that has power and is not failed is put in reset; the reset of a failed one is tried as well. -/
def holdDie (d : Dies) (x : Die) : Dies := if d.get x = .unpowered then d else d.put x .inReset

/-- Dies held in reset. -/
def holdDies (xs : List Die) (s : State) : State := { s with dies := xs.foldl holdDie s.dies }

/-- Dies that stand in reset run; one that is unpowered or failed does not. -/
def runDie (d : Dies) (x : Die) : Dies := if d.get x = .inReset then d.put x .running else d
def runDies (xs : List Die) (d : Dies) : Dies := xs.foldl runDie d

/-- The dies of the memory island, and those of the compute, I/O and memory islands (R15). -/
def memDies : List Die := [.mem0, .mem1, .mem2, .mem3]
def islandDies : List Die := [.comp0, .comp1, .io] ++ memDies

/-- Phase 2 finds the supplies good (R78): dies that had no power stand in reset, and the field die is released from its own reset. -/
def suppliesGood (s : State) : State :=
  let power (d : Dies) (x : Die) : Dies := if d.get x = .unpowered then d.put x .inReset else d
  let s : State := { s with dies := islandDies.foldl power s.dies, pins := { s.pins with vio18 := true } }
  if s.dies.field = .unpowered ∨ s.dies.field = .inReset then
    fieldDieEffect s.dies.field .running { s with dies := s.dies.put .field .running }
  else s

/-- The field die goes into reset with VIO33 (R59, R67): its driver of FAULT_N pulls low (R53). -/
def fieldDieReset (s : State) : State :=
  let old := s.dies.field
  let s := holdDies [.field] (resetRouters (portsOf [.field]) s)
  fieldDieEffect old s.dies.field s

/-! ## Module resets -/

/-- RST_CAUSE bit of a reset source. -/
def causeBit : ResetKind → Nat
  | .powerOn => 1 | .supply => 2 | .pin => 3 | .kwdog => 4 | .braceRestart => 9

/-- A bit of RST_CAUSE set; bits accumulate until cleared. -/
def setCause (i : Nat) (s : State) : State :=
  { s with rst := { s.rst with cause := s.rst.cause ||| BitVec.ofNat 32 (2 ^ i) } }

/-- A module reset that reaches the Keeper island (R67). -/
def reachesKeeper (k : ResetKind) : Bool := decide (k = .powerOn ∨ k = .pin ∨ k = .kwdog)

/-- The VCORE loop stopped until start-up reaches the truss phase again: the set value is the start value, or, after a PMBus fault, the
last value written (R63, R66). -/
def parkVcore (r : Rst) : Rst :=
  { r with vready := false, vloop := false, vset := if r.pmbFault then r.vset else 800, fastSteps := 0, sinceLower := 0, atCeil := false }

/-- The RST block after a module reset: what is kept (RWS and NV) and what is not (R67). A supply reset does not reach the Keeper island,
and START stays. Runs of R71 that were under way end in the module's reset, which the manual does not say (DESIGN CHOICE, log entry
111); so does a reset that waits in brace for a save that a supply reset leaves incomplete, with its cause bit (log entry 114). -/
def rstAfter (k : ResetKind) (r : Rst) : Rst :=
  let keeper := reachesKeeper k
  { ({} : Rst) with
    cause := if k = .powerOn then 2 else r.cause ||| BitVec.ofNat 32 (2 ^ causeBit k)
    kind := k, area := r.area, lastFlush := r.lastFlush, ceil := r.ceil, saveA := r.saveA, saveB := r.saveB
    causes := if k = .powerOn then [k] else (if r.asserted then r.causes else []) ++ [k]
    needPair := r.needPair || decide (k = .powerOn)
    startKind := if keeper then 0 else r.startKind
    pmbFault := if k = .powerOn then false else r.pmbFault
    vset := if keeper then 800 else (parkVcore r).vset
    idleIsland := if keeper then 1900 else r.idleIsland
    idleBlock := if keeper then 95 else r.idleBlock
    floorLost := if keeper then false else r.floorLost }

/-- Bench mode lasts until the next reset (R139), so both safety channels leave it then, though the spec names no request for it
(DEDUCED, log entry 140). -/
def benchEnds (s : State) : State := { s with safA := { s.safA with bench := false }, safB := { s.safB with bench := false } }

/-- The frame-image block when the module's power goes (R131, R139): a staging ends, and bench mode ends. -/
def frmPowerLost (f : Frm) : Frm := { endStaging f with bench := false }

/-- A module reset is asserted: registers go to their reset values, the islands it reaches are held with their routers, RSTOUT_N goes low
and READY falls (R67, R70, R75, R81); a Keeper watchdog reset silences the module first (R478). -/
def assertModule (k : ResetKind) (s : State) : State :=
  let keeper := reachesKeeper k
  let por := decide (k = .powerOn)
  let ds := islandDies ++ (if keeper then [.keeper] else [])
  let s := if k = .kwdog then goSilent s else s
  let s := benchEnds s
  let s := resetMem (resetIo por (resetComp por true true s))
  let s := if keeper then resetKeeper por s else s
  let s := resetRouters (if por then wavefrontOrder else portsOf ds) s
  let s := holdDies ds { s with
    rst := rstAfter k s.rst, trs := { s.trs with budgets := [] }
    frm := if k = .supply then frmPowerLost s.frm else s.frm }
  settle { s with pins := { s.pins with rstoutLow := true, ready := false,
                                        faultKeeper := if keeper then true else s.pins.faultKeeper } }

/-- The compute, I/O and memory islands held in reset without a module reset: at a stopped start-up and after a save (R87, R90). Runs of
R71 end in it (log entry 111), those that a save meets having completed (R90), and a staging ends (R131). -/
def holdIslands (s : State) : State :=
  let s := resetRouters (portsOf islandDies) (resetMem (resetIo false (resetComp false true true s)))
  settle (holdDies islandDies { s with
    rst := parkVcore { s.rst with island := none, block := none }
    trs := { s.trs with budgets := [] }
    frm := endStaging s.frm
    pins := { s.pins with rstoutLow := true, ready := false } })

/-! ## Island and block resets (R71 to R77) -/

/-- The dies of an island reset request. -/
def unitDies : ResetUnit → List Die
  | .comp0 => [.comp0] | .comp1 => [.comp1] | .io => [.io] | .mem => memDies | _ => []

/-- Registers of an island or block return to their reset values (R67). -/
def resetOfUnit (u : ResetUnit) (s : State) : State :=
  match u with
  | .comp0 => resetComp false true false s
  | .comp1 => resetComp false false true s
  | .io => resetIo false s
  | .mem => resetMem s
  | u => resetUnitBlock u s

/-- Reset asserted on the units of an island request (R71, R74): dies and their routers in reset, RSTOUT_N low, READY low. -/
def assertIsland (us : List ResetUnit) (s : State) : State :=
  let s := us.foldl (fun s u => holdDies (unitDies u) (resetOfUnit u s)) s
  let s := resetRouters (portsOf (us.flatMap unitDies)) s
  let s := setCause 5 { s with rst := { s.rst with island := s.rst.island.map (fun r => { r with asserted := true }) } }
  settle (readyUpdate { s with pins := { s.pins with rstoutLow := true, ready := false } })

/-- Reset asserted on the blocks of a block request (R71, R73); RSTOUT_N is not driven. -/
def assertBlock (us : List ResetUnit) (s : State) : State :=
  let s := us.foldl (fun s u => resetOfUnit u s) s
  setCause 6 { s with rst := { s.rst with block := s.rst.block.map (fun r => { r with asserted := true }) } }

/-- A unit of a run no longer waits. -/
def answered (u : ResetUnit) (r : ResetRun) : ResetRun := { r with waiting := r.waiting.filter (fun v => decide (v ≠ u)) }

/-- A unit has answered idle, or its timeout has passed: when no unit of its request waits any more, reset is asserted
(R71, R72). -/
def unitIdle (u : ResetUnit) (s : State) : State :=
  let s := { s with rst := { s.rst with island := s.rst.island.map (answered u), block := s.rst.block.map (answered u) } }
  let s := match s.rst.island with
    | some r => if r.waiting = [] ∧ r.asserted = false then assertIsland r.units s else s
    | none => s
  match s.rst.block with
  | some r => if r.waiting = [] ∧ r.asserted = false then assertBlock r.units s else s
  | none => s

/-- A unit is asked for and has not answered. -/
def unitWaits (u : ResetUnit) (s : State) : Bool :=
  (match s.rst.island with | some r => r.waiting.contains u | none => false)
    || (match s.rst.block with | some r => r.waiting.contains u | none => false)

/-- The links whose transfers a unit has in flight: those that its dies' routers receive or send on, or those that serve the block. -/
def unitLinks (u : ResetUnit) (n : Nat) : Bool :=
  (unitDies u).contains (dieOfPort (linkPort n)) || (unitDies u).contains (dieOfPort (linkSource n)) || decide (unitDies u = [] ∧ Config.linkBlock n = some u)

/-- A unit's idle timeout (R72, R108): IDLE_TIMEOUT is set, event source 4 is raised, its transfers in flight are abandoned, and it no
longer holds back the reset. -/
def unitTimeout (u : ResetUnit) (s : State) : State :=
  unitIdle u (abandonLinks (unitLinks u) (raise 4 [] (setCause 7 s)))

/-- The units of a mask that a run does not already name. -/
def newUnits (order : List ResetUnit) (mask : Nat) (run : Option ResetRun) : List ResetUnit :=
  let us := ((numbered order).filter (fun e => mask.testBit e.1)).map (·.2)
  match run with
  | none => us
  | some r => us.filter (fun u => !(r.units.contains u) && !(r.later.contains u))

/-- Units of a further request (R71). The manual speaks of several bits in one write alone. DESIGN CHOICE, log entry 112: a second write
before the first run is asserted joins that run, and both go through it together; one that comes later starts a run of its own once the
first is released, and so does a unit already in reset that is asked for again. -/
def joinRun (order : List ResetUnit) (mask : Nat) (run : Option ResetRun) : Option ResetRun :=
  let us := newUnits order mask run
  match run with
  | none => if us = [] then none else some { units := us, waiting := us, asserted := false }
  | some r =>
    if r.asserted then
      some { r with later := r.later ++ (((numbered order).filter (fun e => mask.testBit e.1)).map (·.2)).filter (fun u => !(r.later.contains u)) }
    else some { r with units := r.units ++ us, waiting := r.waiting ++ us }

/-- The bits of RST_ISLAND_REQ and RST_BLOCK_REQ, lowest first. -/
def islandOrder : List ResetUnit := [.comp0, .comp1, .io, .mem]
def blockOrder : List ResetUnit := [.can, .uart, .acq, .sto]

/-- An idle request reaches the units of an island run (R71): CEs halt at the next instruction boundary. -/
def askIdle (us : List ResetUnit) (s : State) : State := idleCes (us.contains .comp0) (us.contains .comp1) s

/-- A write to RST_ISLAND_REQ (R71, R90); READY falls with the start of the reset, its idle request (R81). A request during start-up
phases 1 to 8 is taken too, which the manual does not say (DESIGN CHOICE, log entry 113): the run goes its way, and its dies are
released by it or by their phase, whichever comes later. -/
def islandRequest (mask : Nat) (s : State) : State :=
  if inBrace s then raiseIf (decide (mask % 16 ≠ 0)) 15 [] s
  else
    let old := s.rst.island
    let us := match old with
      | some r => if r.asserted then [] else newUnits islandOrder mask old
      | none => newUnits islandOrder mask old
    askIdle us (readyUpdate { s with rst := { s.rst with island := joinRun islandOrder mask old } })

/-- A write to RST_BLOCK_REQ (R71, R73, R90). -/
def blockRequest (mask : Nat) (s : State) : State :=
  if inBrace s then raiseIf (decide (mask % 16 ≠ 0)) 15 [] s
  else { s with rst := { s.rst with block := joinRun blockOrder mask s.rst.block } }

/-- The run that follows a released one. -/
def nextRun (r : ResetRun) : Option ResetRun :=
  if r.later = [] then none else some { units := r.later, waiting := r.later, asserted := false }

/-- The phase of start-up that releases a die has passed, and nothing else holds the die (R78, R87, R90). -/
def dieDue (s : State) (x : Die) : Bool :=
  !s.rst.asserted && !s.rst.stopped && (match x with
    | .comp0 | .comp1 => decide (s.rst.phase = 8 ∨ s.rst.phase = 9)
    | .io => decide (6 ≤ s.rst.phase ∧ s.rst.phase ≠ 10)
    | _ => decide (4 ≤ s.rst.phase ∧ s.rst.phase ≠ 10))

/-- Start-up has released every island: RSTOUT_N is high but for an island reset (R70). -/
def startupDone (s : State) : Bool := !s.rst.asserted && !s.rst.stopped && decide (s.rst.phase = 8 ∨ s.rst.phase = 9)

/-- The units of an island run leave reset together (R75 to R77): the wavefront runs over their ports, CEs of a compute die start cold
(R67), event source 3 is raised, and a request that came meanwhile begins. -/
def releaseIsland (r : ResetRun) (s : State) : State :=
  let ds := (r.units.flatMap unitDies).filter (dieDue s)
  let s : State := { s with dies := runDies ds s.dies, rst := { s.rst with island := nextRun r } }
  let s := if decide (5 ≤ s.rst.phase) && !s.rst.stopped && !s.rst.asserted then wavefront (portsOf (r.units.flatMap unitDies)) s else s
  let up (x : Die) : Bool := ds.contains x && running s x
  let s := if up .io then loadBlocks (releaseIo false s) else s
  let s := releaseComp (up .comp0) (up .comp1) s
  let s := { s with pins := { s.pins with rstoutLow := s.pins.rstoutLow && !(startupDone s) } }
  askIdle r.later (raise 3 [] (settle (readyUpdate s)))

/-- The blocks of a run leave reset. -/
def releaseBlock (r : ResetRun) (s : State) : State :=
  releaseBlocks r.units { s with rst := { s.rst with block := nextRun r } }

/-- The event of a module reset's start-up (R91). -/
def startEvent (k : ResetKind) (s : State) : State :=
  match k with
  | .powerOn => raise 0 [] s | .pin => raise 1 [] s | .kwdog => raise 2 [] s | _ => s

/-- The stretch of a module reset ends: the Keeper leaves reset and start-up begins with phase 1 (R70, R75, R78). -/
def releaseModule (s : State) : State :=
  if s.rst.asserted then
    s.rst.causes.foldl (fun s k => startEvent k s) { s with
      dies := s.dies.put .keeper .running, rst := { s.rst with asserted := false, phase := 1, causes := [] } }
  else s

/-! ## Start-up (R78 to R81, R90) -/

/-- A save area can feed a warm start of the loaded image (R79, R80). -/
def usable (m : SaveMark) (dig : List Byte) : Bool := m.complete && !m.consumed && decide (m.digest = dig)

/-- The area a start-up restores from: the newest complete save, else the other (R79, R89). -/
def warmArea (s : State) : Option Bool :=
  let get (b : Bool) : SaveMark := if b then s.rst.saveB else s.rst.saveA
  if usable (get s.rst.area) s.frm.digest then some s.rst.area
  else if usable (get (!s.rst.area)) s.frm.digest then some (!s.rst.area)
  else none

/-- A save was started and left unfinished: HOLDUP and event source 8 (RST_CAUSE, R89). -/
def holdupCheck (s : State) : State :=
  let left (m : SaveMark) : Bool := m.started && !m.complete
  if left s.rst.saveA || left s.rst.saveB then
    raise 8 [] (setCause 8 { s with rst := { s.rst with
      saveA := { s.rst.saveA with started := s.rst.saveA.started && s.rst.saveA.complete },
      saveB := { s.rst.saveB with started := s.rst.saveB.started && s.rst.saveB.complete } } })
  else s

/-- A refusal in phase 6: the module is refused and stays out of service until the next reset, with FAULT_N low (R78, R136). DESIGN CHOICE,
log entry 26: the activation it came from is no longer pending. -/
def refuseStart (c sec idx : Nat) (s : State) : State :=
  let m := bankBytes s.frm s.frm.activeSet
  raise 14 [] (logAppend .keeper 3 c (some m) (frmRefuse c sec idx
    { s with rst := { s.rst with phase := 15 }, pins := { s.pins with faultKeeper := true },
             frm := { s.frm with benchArmed := false, pending := false } }))

/-- MANIFEST_CHECK (R134, R137 to R139): the active image passes and its contents are loaded, or the module is refused. LOG_FULL does not
bar a start-up of the active image (R141). A bench start writes its log entry, holds FAULT_N low, and is stated to both safety channels over
the sealed path (R139). -/
def manifestCheck (s : State) : State :=
  let set := s.frm.activeSet
  let m := bankBytes s.frm set
  let bench := s.frm.benchArmed && s.frm.presence && s.frm.heldPhase6 && !s.frm.tamper
  let pass (c : ImageContent) : State :=
    let s := if bench then raise 73 [] (logAppend .keeper 8 0 (some m) { s with
        frm := { s.frm with bench := true }, pins := { s.pins with faultKeeper := true } }) else s
    let s := { s with
      img := c, trs := { s.trs with budgets := numbered (c.budgets.map (fun w => w &&& maskOf 23 6)) },
      frm := { s.frm with release := manifestRelease m, digest := frameDigest m, bench := bench, benchArmed := false,
                          pending := false },
      rst := { s.rst with phase := 7 } }
    let s := loadBlocks (safetyRestart s)
    if bench then sealedOriginate 7 [] s else s
  match checkImage s set false bench with
  | .passed c => pass c
  | .refused c sec i =>
    if c = 15 then pass (contentOf m) else refuseStart c sec i s

/-- Phase 7 clears INT in every routing whose TARGET lies in the sandbox pool of the loaded image (R552). -/
def clearSandboxInts (s : State) : State :=
  { s with evt := { s.evt with
      routes := s.evt.routes.map (fun e => (e.1, e.2.map (fun w =>
        if bitAt w 23 && decide (roleOf s.img (fld w 22 16) = some .sandbox) then w &&& ~~~(maskOf 23 23) else w))) } }

/-- PAIR_SEL sampled once after a power-on reset (R55), in whichever phase start-up comes through first. -/
def samplePair (pairSel : Bool) (s : State) : State :=
  if s.rst.needPair then { s with rst := { s.rst with needPair := false }, pins := { s.pins with pairSel := pairSel } } else s

/-- An island run has its reset asserted: the phases that release dies wait for it (log entry 113). -/
def islandAsserted (s : State) : Bool :=
  match s.rst.island with
  | some r => r.asserted
  | none => false

/-- Phase 3 (R31, R78): the memory island is released, and the Keeper's firmware verified and started, which takes chiplet 3; after a brace
restart the Keeper still runs (R88). The liveness strobe is back with the firmware (R53). -/
def memoryPhase (s : State) : State :=
  let s : State := { s with dies := runDies memDies s.dies }
  let s := if s.rst.kind = .braceRestart then s
    else if running s .mem3 then bootVerify s
    else { s with kpr := { s.kpr with noFirmware := true } }
  if s.kpr.noFirmware then { s with pins := { s.pins with faultKeeper := true } }
  else keeperStrobe false { s with rst := { s.rst with phase := 4 } }

/-- Phase 7 (R79): the compute dies are released, warm from a usable save area or cold. -/
def computePhase (unA unB : List Nat) (s : State) : State :=
  let s := holdupCheck { s with dies := runDies [.comp0, .comp1] s.dies }
  let w := warmArea s
  let s := clearSandboxInts (startCompute (w.map (fun b => if b then s.areaB else s.areaA)) unA unB s)
  raise (if w.isSome then 12 else 13) [] { s with
    rst := { s.rst with phase := 8, startKind := if w.isSome then 2 else 1 },
    pins := { s.pins with rstoutLow := false } }

/-- Phase 8 (R78): both safety channels healthy and the field filters full; then READY rises, and FREEZE_N takes effect. -/
def safetyPhase (s : State) : State :=
  if safetyHealthy s && fieldFilled s then
    let s := if s.pins.freezeLow then s else sealedOriginate 6 [] s
    smokeCheck (readyUpdate { s with rst := { s.rst with phase := 9 } })
  else s

/-- The phases of R78, each completed in turn. A stopped start-up and a phase whose condition is unmet wait. -/
def phaseComplete (pairSel : Bool) (unA unB : List Nat) (s : State) : State :=
  if s.rst.stopped || s.rst.asserted || islandAsserted s then s else
  let s := samplePair pairSel s
  match s.rst.phase with
  | 1 => { s with rst := { s.rst with phase := 2 } }
  | 2 => suppliesGood { s with rst := { s.rst with phase := 3 } }
  | 3 => memoryPhase s
  | 4 => wavefront wavefrontOrder { s with rst := { s.rst with
      phase := 5, vready := true, vloop := !s.rst.pmbFault, fastSteps := 0, sinceLower := 0 } }
  | 5 =>
    let s : State := { s with dies := runDies [.io] s.dies, rst := { s.rst with phase := 6 }, frm := { s.frm with heldPhase6 := s.frm.presence } }
    if running s .io then releaseIo true s else s
  | 6 => manifestCheck s
  | 7 => computePhase unA unB s
  | 8 => safetyPhase s
  | _ => s

/-- A supply fails in phases 1 to 8 (R90): start-up stops, and the compute, I/O and memory islands are held in reset without a save. -/
def stopStartup (s : State) : State :=
  if 1 ≤ s.rst.phase ∧ s.rst.phase ≤ 8 ∧ s.rst.asserted = false then
    holdIslands { s with rst := { s.rst with stopped := true } }
  else s

/-- A stopped start-up resumes at phase 3 with its supplies good (R90): what phase 2 does once they are is done. -/
def resumeStartup (s : State) : State :=
  if s.rst.stopped then suppliesGood { s with rst := { s.rst with stopped := false, phase := 3 } } else s

/-! ## Adaptive VCORE (R63, R66) -/

/-- The set value raised or lowered as one step of the loop (R63, R111); 100 ms lie between the first and the last of 501 steps. -/
def vcoreStep (s : State) : State :=
  let r := s.rst
  if r.vloop then
    match slowestMon s.trs with
    | none => s
    | some (_, v) =>
      let thr := if s.trs.therm = 0 then 2000 else 2050
      let c := ceilActs r
      let fast := if 2100 < v then r.fastSteps + 1 else 0
      let r := { r with fastSteps := fast, sinceLower := r.sinceLower + 1 }
      let r := if v < thr ∧ r.vset < c then { r with vset := Nat.min (r.vset + 5) c }
        else if 501 ≤ fast ∧ s.trs.therm = 0 ∧ 50 ≤ r.sinceLower ∧ 600 < r.vset then
          { r with vset := r.vset - 5, sinceLower := 0 }
        else r
      let low := decide (c ≤ r.vset) && decide (v < 2000)
      raiseIf (low && !s.rst.atCeil) 9 [] { s with rst := { r with atCeil := low } }
  else s

/-- PMBus fault (R66): event source 10, the last value held and the loop stopped. -/
def pmbusFault (s : State) : State := raise 10 [] { s with rst := { s.rst with pmbFault := true, vloop := false } }

/-- PMB_FAULT cleared: the loop restarts (R66), where start-up has reached the truss phase. Cleared before it, the set value stays the one
held and does not return to the start value, which the manual does not say (DESIGN CHOICE, log entry 145). -/
def pmbClear (s : State) : State :=
  if s.rst.pmbFault then { s with rst := { s.rst with pmbFault := false, vloop := s.rst.vready } } else s

/-- Leaving T0 raises the set value by 10 mV at once, up to CEIL (R111), where the loop steers VCORE: not before the truss phase (R63),
and not after a PMBus fault, which holds the last value (R66). -/
def vcoreWarm (r : Rst) : Rst :=
  if r.vready ∧ r.pmbFault = false then { r with vset := Nat.max r.vset (Nat.min (r.vset + 10) (ceilActs r)) } else r

/-! ## Brace and the save (R82 to R90) -/

/-- The area that a save writes to: the one that does not hold the newest complete save (R84). -/
def saveTarget (r : Rst) : Bool :=
  let get (b : Bool) : SaveMark := if b then r.saveB else r.saveA
  if (get r.area).complete then !r.area else r.area

/-- A save area's mark, and the mark replaced. -/
def getMark (r : Rst) (b : Bool) : SaveMark := if b then r.saveB else r.saveA
def putMark (r : Rst) (b : Bool) (m : SaveMark) : Rst := if b then { r with saveB := m } else { r with saveA := m }

/-- A save area's contents, and the contents replaced. -/
def getArea (s : State) (b : Bool) : SaveContent := if b then s.areaB else s.areaA
def putArea (s : State) (b : Bool) (c : SaveContent) : State := if b then { s with areaB := c } else { s with areaA := c }

/-- Brace begins (R82, R85, R131), also in a module that its start-up refused: event source 5, the first pass starts, held CEs halt, a
staging ends. In start-up phases 1 to 8 start-up stops instead (R90). -/
def braceBegin (s : State) : State :=
  if s.rst.brace = .idle ∧ (s.rst.phase = 9 ∨ s.rst.phase = 15) ∧ s.rst.asserted = false then
    raise 5 [] (braceBegins { s with
      rst := { putMark s.rst (saveTarget s.rst) { started := true } with brace := .brace false },
      frm := endStaging s.frm })
  else stopStartup s

/-- The first pass has copied the held CEs, the fixed-function state, the dirty comb lines and the live CEs (R85). -/
def firstPassDone (s : State) : State :=
  if s.rst.brace = .brace false then
    let t := saveTarget s.rst
    putArea { s with rst := { putMark s.rst t { getMark s.rst t with copied := true } with brace := .brace true } } t (saveContent s)
  else s

/-- What an area holds at the closing record (R85, R87): what the first pass copied, with the live CEs as they stand now; all of it as it
stands now where the first pass had not ended before the commit. -/
def savedNow (t : Bool) (s : State) : SaveContent :=
  let now := saveContent s
  if (getMark s.rst t).copied then
    let a := getArea s t
    let live (e : Nat × Ce) : Bool := decide (saveClass s e.1 = .live)
    { a with ces := (now.ces.filter live).foldl (fun u e => tinsert e.1 e.2 u) (a.ces.filter (fun e => !(live e))) }
  else now

/-- A pin or Keeper watchdog reset takes effect, or waits for the save in brace (R69, R90). The table of R90 names brace before commit
alone. DESIGN CHOICE, log entry 114: after the commit it waits for the save as well, until the save is complete. -/
def keeperReset (k : ResetKind) (h : HeldReset) (s : State) : State :=
  match s.rst.brace with
  | .brace _ | .committed =>
    { s with rst := { s.rst with held := if s.rst.held.contains h then s.rst.held else s.rst.held ++ [h] } }
  | _ => assertModule k s

/-- The resets that waited take effect, each with its cause (R90). -/
def heldTakesEffect (s : State) : State :=
  s.rst.held.foldl (fun s h => match h with
    | .pin => assertModule .pin s
    | .kwdog => assertModule .kwdog s) s

/-- Brace ends by recovery (R86): the area written is left incomplete, held CEs resume. -/
def braceRecover (s : State) : State :=
  match s.rst.brace with
  | .brace _ =>
    let r := putMark s.rst (saveTarget s.rst) {}
    heldTakesEffect (smokeCheck (raise 6 [] (braceResumes
      { s with rst := { r with brace := .idle }, pins := { s.pins with pfwLow := false } })))
  | _ => s

/-- Brace ends by commit (R87): every CE halts and READY falls. A code handover that has not flipped makes the save not usable (R208). -/
def braceCommit (s : State) : State :=
  match s.rst.brace with
  | .brace _ =>
    let t := saveTarget s.rst
    let r := putMark s.rst t { getMark s.rst t with consumed := s.frm.handover }
    raise 7 [] (braceCommits (readyUpdate { s with rst := { r with brace := .committed } }))
  | _ => s

/-- Island and block resets that a save meets complete (R90): the reset of a unit still asked idle is taken as made with the islands'
own, and event source 3 tells of an island reset. -/
def completeRuns (s : State) : State :=
  let s := match s.rst.island with
    | some r => raise 3 [] (if r.asserted && decide (r.later = []) then s else setCause 5 s)
    | none => s
  match s.rst.block with
  | some r => if r.asserted && decide (r.later = []) then s else setCause 6 s
  | none => s

/-- The save completes (R87, R90): the closing record is written, the islands are parked, and a reset that waited takes
effect. The mark of a save that is not usable stays (R208). -/
def saveComplete (us : Nat) (s : State) : State :=
  match s.rst.brace with
  | .committed =>
    let t := saveTarget s.rst
    let c := savedNow t s
    let s := completeRuns s
    heldTakesEffect (holdIslands (putArea { s with
      rst := { putMark s.rst t { started := true, copied := true, complete := true, consumed := (getMark s.rst t).consumed, digest := s.frm.digest } with
        area := t, lastFlush := us, brace := .parked, phase := 10 } } t c))
  | _ => s

/-- Supplies good for 10 ms after a commit (R88): start-up from phase 3 with the Keeper running; bench mode ends (R139). -/
def braceRestart (s : State) : State :=
  match s.rst.brace with
  | .parked =>
    let s := benchEnds s
    setCause 9 { s with
      rst := { s.rst with brace := .idle, phase := 3, kind := .braceRestart, stopped := false }
      frm := { s.frm with bench := false }
      pins := { s.pins with pfwLow := false } }
  | _ => s

end Sys2Proof.Machine
end

