-- ==== Sys2Proof/Machine/KeeperRegs.lean ====
section
/-! DEFINITION. Registers of the blocks that the Keeper die answers (R544, R550): KPR, RST, TRS, FRM, EVR, EVT, and TMB with its part on
the I/O die. -/
namespace Sys2Proof.Machine

/-- The source that the structural log names for an order of a requester (R140). -/
def orderSource (s : State) : Requester → LogSource
  | .session n => (match (tget ({} : Session) s.kpr.sessions n.val).port with | .mg0 => .mg0 | .mg1 => .mg1)
  | .debug => .debug
  | _ => .keeper

/-- Word `n` of a run of bytes, little-endian (R6). -/
def byteWord (bs : List Byte) (n : Nat) : Word := wordN (leNat ((bs.drop (4 * n)).take 4))

/-! ## KPR -/

def kprReg (s : State) (off : Nat) : Option Word :=
  match off with
  | 0x004 => some (regOf [(27, 24, s.ordering), (23, 16, 0xA1), (15, 0, 0x1FC0)])
  | 0x010 => some (islandState s.dies)
  | 0x020 => some (fwReg s.kpr)
  | 0x030 => some (regOf [(31, 29, smokeCode s.kpr.smoke), (28, 28, b2n s.kpr.smokePin), (15, 0, smokeWaited s)])
  | o =>
    if o % 4 ≠ 0 then none
    else if 0x100 ≤ o ∧ o < 0x140 then some (regOf [(15, 0, tget 0 s.kpr.vsense ((o - 0x100) / 4))])
    else if 0x140 ≤ o ∧ o < 0x150 then
      let n := (o - 0x140) / 4
      some (regOf [(31, 16, tget 0 s.kpr.fanMin n), (15, 0, tget 0 s.kpr.fanSpeed n)])
    else if 0x180 ≤ o ∧ o < 0x200 then some (regOf [(7, 0, twos 8 (tget 0 s.kpr.temps ((o - 0x180) / 4)))])
    else none

def kprWrite (off : Nat) (v : Word) (s : State) : State :=
  if off = 0x020 then fwCommand (fld v 31 28) s
  else if 0x140 ≤ off ∧ off < 0x150 then
    { s with kpr := { s.kpr with fanMin := tset 0 s.kpr.fanMin ((off - 0x140) / 4) (fld v 31 16) } }
  else s

def kprWritable (off : Nat) : Bool := decide (off = 0x020) || decide (0x140 ≤ off ∧ off < 0x150)

/-! ## RST -/

def rstReg (s : State) (off : Nat) : Option Word :=
  match off with
  | 0x000 => some s.rst.cause
  | 0x004 => some (regOf [(9, 8, s.rst.startKind), (3, 0, s.rst.phase)])
  | 0x008 => some (wordN (runMask islandOrder s.rst.island))
  | 0x00C => some (wordN (runMask blockOrder s.rst.block))
  | 0x014 => some (regOf [(31, 16, s.rst.idleIsland), (15, 0, s.rst.idleBlock)])
  | 0x020 => some (braceReg s.rst)
  | 0x030 => some (vcoreReg s.rst)
  | _ => none

def rstWrite (off : Nat) (v : Word) (s : State) : State :=
  match off with
  | 0x000 => { s with rst := { s.rst with cause := s.rst.cause &&& ~~~(v &&& maskOf 9 1) } }
  | 0x008 => islandRequest (fld v 3 0) s
  | 0x00C => blockRequest (fld v 3 0) s
  | 0x014 => { s with rst := { s.rst with idleIsland := fld v 31 16, idleBlock := fld v 15 0 } }
  | 0x030 =>
    let s : State := { s with rst := { s.rst with ceil := fld v 25 16 } }
    if bitAt v 30 then pmbClear s else s
  | _ => s

def rstWritable (off : Nat) : Bool := [0x000, 0x008, 0x00C, 0x014, 0x030].contains off

/-! ## TRS -/

def trsReg (s : State) (off : Nat) : Option Word :=
  match off with
  | 0x000 => some (speedReg s.trs)
  | 0x010 => some (thermReg s.trs)
  | 0x020 => some (regOf [(12, 8, s.trs.bookFault), (4, 0, s.trs.bookOpen)])
  | 0x030 => some (regOf [(23, 16, s.trs.failed), (15, 0, s.trs.retries)])
  | o =>
    if o % 4 ≠ 0 then none
    else if 0x400 ≤ o ∧ o < 0x600 then
      let m := tget ({} : Monitor) s.trs.mons ((o - 0x400) / 4)
      some (regOf [(31, 31, b2n m.valid), (15, 0, m.rate)])
    else if 0x800 ≤ o ∧ o < 0xA00 then some (portBudget s.trs ((o - 0x800) / 4))
    else none

def trsWrite (off : Nat) (v : Word) (s : State) : State :=
  match off with
  | 0x020 => { s with trs := { s.trs with
      bookFault := (BitVec.ofNat 5 s.trs.bookFault &&& ~~~(BitVec.ofNat 5 (fld v 12 8))).toNat } }
  | 0x030 => if bitAt v 31 then { s with trs := { s.trs with failed := 0, retries := 0 } } else s
  | _ => s

def trsWritable (off : Nat) : Bool := [0x020, 0x030].contains off

/-! ## FRM -/

def frmReg (s : State) (off : Nat) : Option Word :=
  match off with
  | 0x000 => some (frmStatus s.frm)
  | 0x004 => some (regOf [(31, 24, s.frm.refSection), (23, 0, s.frm.refIndex)])
  | 0x008 => some 0
  | 0x00C => some (frmSeal s.frm)
  | 0x010 => some (frmInfo s.frm)
  | 0x014 => some s.frm.release
  | 0x080 => some (regOf [(13, 0, s.frm.logIndex)])
  | o =>
    if o % 4 ≠ 0 then none
    else if 0x040 ≤ o ∧ o < 0x070 then some (byteWord s.frm.digest ((o - 0x040) / 4))
    else if 0x0C0 ≤ o ∧ o < 0x100 then
      some (match s.frm.log[s.frm.logIndex]? with | some e => byteWord (logWords e) ((o - 0x0C0) / 4) | none => 0)
    else none

/-- A CE is the requester. -/
def isCe : Requester → Bool
  | .ce _ => true
  | _ => false

/-- An online change that the program requests (R142): ACTIVATE written by a CE, which is refused with BUSY unless the set is VERIFIED_CODE.
Any other command of a CE is a write that FRM_LOAD_CMD does not take (R549): its writes come through the Keeper's register access. DEDUCED,
log entry 122. -/
def onlineChange (req : Requester) (cmd : Nat) (s : State) : State :=
  if cmd ≠ 3 then badAccess req 4 0x03000008 s
  else if s.frm.setState = .verifiedCode then activate .keeper s
  else frmRefuse 14 0 0 s

def frmWrite (req : Requester) (off : Nat) (v : Word) (s : State) : State :=
  match off with
  | 0x008 => if isCe req then onlineChange req (fld v 3 0) s else loadCommand (orderSource s req) (fld v 3 0) s
  | 0x00C => if bitAt v 31 then tamperClear (orderSource s req) s else s
  | 0x080 => { s with frm := { s.frm with logIndex := fld v 13 0 } }
  | _ => s

/-- Registers of FRM with a field that can be written. -/
def frmWritable (off : Nat) : Bool := [0x008, 0x00C, 0x080].contains off

/-! ## EVR -/

def evrReg (s : State) (off : Nat) : Option Word :=
  match off with
  | 0x000 => some (evrStatus s.evr)
  | 0x004 => some (regOf [(15, 0, s.evr.index)])
  | 0x008 => some (regOf [(15, 0, s.evr.repeatWin)])
  | o =>
    if o % 4 ≠ 0 then none
    else if 0x100 ≤ o ∧ o < 0x200 then
      some (match tget none s.evr.slots s.evr.index with | some r => (recordWords r).getD ((o - 0x100) / 4) 0 | none => 0)
    else if 0x200 ≤ o ∧ o < 0x400 then
      some (match tget none s.evr.pool s.evr.index with | some x => (snapWords x).getD ((o - 0x200) / 4) 0 | none => 0)
    else if 0x1040 ≤ o ∧ o < 0x1400 then some (tget 0 s.evr.sets ((o - 0x1000) / 4))
    else none

def evrWrite (off : Nat) (v : Word) (s : State) : State :=
  match off with
  | 0x004 => { s with evr := { s.evr with index := fld v 15 0 } }
  | 0x008 => { s with evr := { s.evr with repeatWin := fld v 15 0 } }
  | o => if 0x1040 ≤ o ∧ o < 0x1400 then { s with evr := { s.evr with sets := tset 0 s.evr.sets ((o - 0x1000) / 4) v } } else s

def evrWritable (off : Nat) : Bool := [0x004, 0x008].contains off || decide (0x1040 ≤ off ∧ off < 0x1400)

/-! ## TMB -/

def tmbReg (s : State) (off : Nat) : Option Word :=
  match off with
  | 0x000 => some (tmbStatus s.tmb)
  | 0x008 => some (loWord s.tmb.time)
  | 0x00C => some s.tmb.timeHi
  | 0x020 => some (calDateReg s.kpr.calSec)
  | 0x024 => some (calTimeReg s.kpr)
  | 0x028 => some (regOf [(27, 24, s.kpr.calResult)])
  | 0x02C => some (regOf [(7, 0, s.kpr.taiUtc)])
  | _ => none

/-- A read of TMB_TIME_LO latches the matching high word. -/
def tmbRead (off : Nat) (s : State) : State :=
  if off = 0x008 then { s with tmb := { s.tmb with timeHi := hiWord s.tmb.time } } else s

def tmbWrite (req : Requester) (off : Nat) (v : Word) (s : State) : State :=
  match off with
  | 0x020 => { s with kpr := { s.kpr with stageDate := v &&& (maskOf 24 16 ||| maskOf 11 8 ||| maskOf 4 0) } }
  | 0x024 => { s with kpr := { s.kpr with stageTime := v &&& (maskOf 20 16 ||| maskOf 13 8 ||| maskOf 5 0) } }
  | 0x028 => if fld v 31 28 = 1 then calendarSet req s else s
  | 0x02C => { s with kpr := { s.kpr with taiUtc := fld v 7 0 } }
  | _ => s

def tmbWritable (off : Nat) : Bool := [0x020, 0x024, 0x028, 0x02C].contains off

/-! ## EVT -/

def evtReg (req : Requester) (s : State) (off : Nat) : Option Word :=
  let r := reqNumber req
  if off % 4 ≠ 0 then none
  else if off < 0x4000 then some (routeReg s (off / 4))
  else if off = 0x4000 then some (badReg s.evt)
  else if off = 0x4004 then some s.evt.badAddr
  else if 0x4100 ≤ off ∧ off < 0x4140 then some (tget 0 (softOf s r).data ((off - 0x4100) / 4))
  else if off = 0x4140 then some (softReg s r)
  else if 0x5000 ≤ off ∧ off < 0x5200 then some (pendReg s ((off - 0x5000) / 4))
  else none

def evtWrite (req : Requester) (off : Nat) (v : Word) (s : State) : State :=
  let r := reqNumber req
  if off < 0x4000 then routeWrite (off / 4) v s
  else if off = 0x4000 then (if bitAt v 31 then { s with evt := { s.evt with badCount := 0 } } else s)
  else if 0x4100 ≤ off ∧ off < 0x4140 then
    putSoft s r { softOf s r with data := tset 0 (softOf s r).data ((off - 0x4100) / 4) v }
  else if off = 0x4140 then softWrite r v s
  else if 0x5000 ≤ off ∧ off < 0x5200 then
    let c := (off - 0x5000) / 4
    if bitAt v 31 then putPend s c { pendOf s c with lost := 0 } else s
  else s

def evtWritable (off : Nat) : Bool :=
  if off < 0x4000 then (sourceSeverity (off / 4)).isSome
  else decide (off = 0x4000) || decide (0x4100 ≤ off ∧ off < 0x4144) || decide (0x5000 ≤ off ∧ off < 0x5200)

end Sys2Proof.Machine
end

