-- ==== Sys2Proof/Machine/ControlSpace.lean ====
section
/-! DEFINITION. The control space (R544 to R550): which die answers a window, which registers exist, what each reads and
what a write of each does. -/
namespace Sys2Proof.Machine

/-- How an access to the control space ends: done, refused and counted (R12, R13, R548), or held: at the truss (R546), or behind a held
command of the same requester (R548). -/
inductive Access where
  | ok | noRegister | width | held | overflow
deriving DecidableEq, Repr

/-- The register at an offset of a window; none where the index of R550 lists none. -/
def regAt (req : Requester) (w off : Nat) (s : State) : Option Word :=
  match w with
  | 0 => kprReg s off
  | 1 => rstReg s off
  | 2 => trsReg s off
  | 3 => frmReg s off
  | 4 => if off < 0x800000 then ceReg s (off / 0x10000) (off % 0x10000) else none
  | 5 => cycReg s off
  | 6 => cmbReg s off
  | 7 => if off < 0x40000 then hoistReg s (off / 0x1000) (off % 0x1000) else none
  | 8 => if off < 0x80000 then doorReg s (off / 0x1000) (off % 0x1000) else none
  | 9 => fbkReg s off
  | 10 => dspReg s off
  | 11 => safReg s off
  | 12 => fioReg s off
  | 13 => canReg s (off / 0x100000) (off % 0x100000)
  | 14 => netReg s off
  | 15 => acqReg s off
  | 16 => stoReg s off
  | 17 => evrReg s off
  | 18 => tmbReg s off
  | 19 => evtReg req s off
  | _ => none

/-- What a read changes: TMB_TIME_LO latches, ACQ_UNITu_STAT ends its GAP, and a view of no defined meaning draws a free value. -/
def afterRead (w off : Nat) (s : State) : State :=
  match w with
  | 4 => if viewFree (ceOf s (off / 0x10000)) (off % 0x10000) then drawn s else s
  | 15 => acqRead off s
  | 18 => tmbRead off s
  | _ => s

/-- The requester is a planner CE. -/
def isPlanner (s : State) : Requester → Bool
  | .ce n => s.img.roles.any (fun r => decide (r.ce = n.val) && (match r.role with | .planner _ => true | _ => false))
  | _ => false

/-- The registers of a hoist channel that a requester may write (R248): HST_CMD the Keeper, the limits and VCAP CEs and the Keeper, and the
queue operations planner CEs. -/
def hoistWritable (s : State) (req : Requester) (off : Nat) : Bool :=
  match off with
  | 0x004 => !isCe req
  | 0x020 => true
  | 0x024 => true
  | 0x03C => true
  | o => isPlanner s req && decide (0x050 ≤ o ∧ o < 0x064 ∧ o % 4 = 0)

/-- The register has a field that the requester may write (R549); any other is a read view to it. The Keeper does not write the
field island (R26), and DOR_CMD takes no store of a CE (R317). -/
def writableAt (s : State) (req : Requester) (w off : Nat) : Bool :=
  let k := !isCe req
  match w with
  | 0 => kprWritable off
  | 1 => rstWritable off
  | 2 => trsWritable off
  | 3 => frmWritable off
  | 4 => ceWritable k (off % 0x10000)
  | 5 => [0x004, 0x008, 0x010, 0x014, 0x018, 0x01C].contains off
  | 6 => cmbWritable k off
  | 7 => hoistWritable s req (off % 0x1000)
  | 8 => (k && decide (off % 0x1000 = 0x004)) || [0x008, 0x00C, 0x010, 0x03C, 0x040].contains (off % 0x1000)
      || decide (0x100 ≤ off % 0x1000 ∧ off % 0x1000 < 0x120)
  | 9 => if off < 0x40000 then [0x030, 0x034].contains (off % 0x1000)
      else if off < 0x50000 then false
      else if off < 0x60000 then decide (off % 0x100 = 0x00C)
      else [0x00, 0x04, 0x08].contains (off % 0x40)
  | 10 => if off < 0x8000 then
        [0x004, 0x008, 0x00C, 0x010, 0x014, 0x018, 0x01C, 0x020, 0x02C].contains (off % 0x1000)
          || decide (0x040 ≤ off % 0x1000 ∧ off % 0x1000 < 0x080)
      else decide (off < 0xA000)
  | 11 => [0x004, 0x010].contains off
  | 12 => !k && decide (0x1000 ≤ off ∧ off < 0x1400) && [0x20, 0x2C].contains (off % 64)
  | 13 => [0x010, 0x014, 0x018, 0x024, 0x02C].contains (off % 0x100000)
      || decide (0x040 ≤ off % 0x100000 ∧ off % 0x100000 < 0x080)
  | 14 => decide (off = 0x204) && k
  | 15 => acqWritable off
  | 16 => stoWritable off
  | 17 => evrWritable off
  | 18 => tmbWritable off
  | 19 => evtWritable off
  | _ => false

/-- A write that a register takes. -/
def writeAt (req : Requester) (addr : Word) (w off : Nat) (v : Word) (s : State) : State :=
  match w with
  | 0 => kprWrite off v s
  | 1 => rstWrite off v s
  | 2 => trsWrite off v s
  | 3 => frmWrite req off v s
  | 4 => ceWrite (off / 0x10000) (off % 0x10000) v s
  | 5 => fieldRefresh (cycWrite off v s)
  | 6 => cmbWrite req off v s
  | 7 => hoistWrite req addr (off / 0x1000) (off % 0x1000) v s
  | 8 => doorWrite (off / 0x1000) (off % 0x1000) v s
  | 9 => fbkWrite off v s
  | 10 => dspWrite req off v s
  | 11 => safWrite off v s
  | 12 => fioWrite off v s
  | 13 => canWrite req (off / 0x100000) (off % 0x100000) v s
  | 14 => netWrite req off v s
  | 15 => acqWrite off v s
  | 16 => stoWrite off v s
  | 17 => evrWrite off v s
  | 18 => tmbWrite req off v s
  | 19 => evtWrite req off v s
  | _ => s

/-- A command field whose register's RESULT reads 15 and whose holding place is taken: the write is discarded (R548). HST_QOP,
DSP_CALL_OP, CAN_TXCTL, NET_PAIR_CMD and TMB_CAL_SET are the registers whose commands stay pending. -/
def overflows (w off : Nat) (v : Word) (s : State) : Bool :=
  match w with
  | 7 =>
    let h := tget ({} : Hoist) s.hst (off / 0x1000)
    decide (off % 0x1000 = 0x050) && decide (1 ≤ fld v 31 28 ∧ fld v 31 28 ≤ 4) && (carCfg s (off / 0x1000)).isSome
      && h.qPending.isSome && h.qHeld.isSome
  | 10 =>
    let x := grpOf s (off / 0x1000)
    decide (off < 0x8000) && decide (off % 0x1000 = 0x004) && decide (fld v 31 28 = 1 ∨ fld v 31 28 = 2) && x.calling.isSome
      && x.heldOp.isSome
  | 13 =>
    let x := canOf s (off / 0x100000)
    decide (off % 0x100000 = 0x010) && decide (1 ≤ fld v 31 28 ∧ fld v 31 28 ≤ 4) && x.pushing.isSome && x.held.isSome
  | 14 => decide (off = 0x204) && decide (fld v 31 28 = 1 ∨ fld v 31 28 = 2) && decide (s.net.result = 15) && s.net.heldCmd.isSome
  | 18 => decide (off = 0x028) && decide (fld v 31 28 = 1) && decide (s.kpr.calResult = 15) && s.kpr.calHeld.isSome
  | _ => false

/-- A command of the requester is held behind a pending one: its further accesses wait behind it (R547, R548). -/
def waitsBehind (s : State) (req : Requester) : Bool :=
  s.hst.any (fun e => decide (e.2.qHeld.map (fun q => q.2.2) = some req))
    || s.dsp.groups.any (fun e => decide (e.2.heldOp.bind (fun h => h.2.2) = some req))
    || s.can.any (fun e => decide (e.2.held.bind (·.by0) = some req)) || decide (s.net.heldCmd.map (·.2) = some req) || decide (s.kpr.calHeld = some req)

/-- The offset of an address in its window. -/
def winOffset (addr : Word) (w : Nat) : Nat := addr.toNat - (windows.getD w (0, 0)).1

/-- A read of a control-space word: how it ends, the value, and the state after it (R12, R13, R545, R546, R548, R549). On SH-8128-IB the STO
window reads 0 (R1). -/
def ctlRead (req : Requester) (addr : Word) (s : State) : Access × Word × State :=
  if addr.toNat % 4 ≠ 0 then (.width, 0, badAccess req 2 addr s)
  else
    match windowOf addr with
    | none => (.noRegister, 0, badAccess req 1 addr s)
    | some w =>
      let off := winOffset addr w
      if w = 16 ∧ isIB s = true then (.ok, 0, s)
      else if accessHeld s w off || waitsBehind s req then (.held, 0, s)
      else
        match regAt req w off s with
        | none => (.noRegister, 0, badAccess req 1 addr s)
        | some v => (.ok, v, afterRead w off s)

/-- A write of a control-space word (R12, R13, R545, R546, R548, R549). -/
def ctlWrite (req : Requester) (addr value : Word) (s : State) : Access × State :=
  if addr.toNat % 4 ≠ 0 then (.width, badAccess req 2 addr s)
  else
    match windowOf addr with
    | none => (.noRegister, badAccess req 1 addr s)
    | some w =>
      let off := winOffset addr w
      if w = 16 ∧ isIB s = true then (.ok, s)
      else if accessHeld s w off || waitsBehind s req then (.held, s)
      else if (regAt req w off s).isNone then (.noRegister, badAccess req 1 addr s)
      else if !(writableAt s req w off) then (.ok, badAccess req 4 addr s)
      else (if overflows w off value s then .overflow else .ok, writeAt req addr w off value s)

/-- REGISTER_WRITE (R547): a word applied whole at its block; another width is refused and counted (R13), and a write to a block whose
die or block is in reset changes nothing while it is held (R546). -/
def execRegisterWrite (req : Requester) (addr : Word) (size : AccessSize) (value : Word) (s : State) : Result :=
  if size = .word then done (ctlWrite req addr value s).2 else done (badAccess req 2 addr s)

end Sys2Proof.Machine
end

