-- ==== Sys2Proof/Machine/Operands.lean ====
section
/-! DEFINITION. Operand forms and results of the CE instruction groups (R155): sources, integer, predicate, float and vector
operations, data addresses. -/
namespace Sys2Proof.Machine

/-- A second source (register, or immediate in two's complement). -/
def srcVal (c : Ce) : Src → Word
  | .reg r => greg c r.val
  | .imm v => v.signExtend 32

/-- A saturated 32-bit sum. -/
def satWord (i : Int) : Word := wordI (clampI 32 i)

/-- Division rounding towards zero, and its remainder; the one quotient that does not fit wraps (R155). -/
def divWord (a b : Word) : Word := wordI (Int.tdiv a.toInt b.toInt)
def remWord (a b : Word) : Word := wordI (Int.tmod a.toInt b.toInt)

/-- The integer operations (R155): wrapping, except ADDS and SUBS; none where DIV or REM divides by zero. Shift and rotate
amounts count modulo 32. -/
def aluOp (op : AluOp) (a b : Word) : Option Word :=
  let sh := b.toNat % 32
  match op with
  | .add => some (a + b) | .sub => some (a - b) | .and => some (a &&& b) | .or => some (a ||| b)
  | .xor => some (a ^^^ b) | .andn => some (a &&& ~~~b)
  | .shl => some (a <<< sh) | .shr => some (a >>> sh) | .sar => some (a.sshiftRight sh) | .rot => some (a.rotateLeft sh)
  | .mul => some (a * b)
  | .mulh => some (wordI (a.toInt * b.toInt / 4294967296))
  | .mulhu => some (wordN (a.toNat * b.toNat / 4294967296))
  | .div => if b = 0 then none else some (divWord a b)
  | .divu => if b = 0 then none else some (a / b)
  | .rem => if b = 0 then none else some (remWord a b)
  | .remu => if b = 0 then none else some (a % b)
  | .min => some (if a.toInt ≤ b.toInt then a else b)
  | .max => some (if a.toInt ≤ b.toInt then b else a)
  | .adds => some (satWord (a.toInt + b.toInt))
  | .subs => some (satWord (a.toInt - b.toInt))

/-- ABS, CLZ and POPC. -/
def unaryOp (op : UnaryOp) (a : Word) : Word :=
  match op with
  | .abs => if bitAt a 31 then 0 - a else a
  | .clz => wordN (32 - bitLen a.toNat)
  | .popc => wordN (popCount 32 a.toNat)

/-- The comparisons. -/
def cmpOp (op : CmpOp) (a b : Word) : Bool :=
  match op with
  | .eq => decide (a = b) | .ne => decide (a ≠ b) | .lt => decide (a.toInt < b.toInt) | .ltu => decide (a.toNat < b.toNat)
  | .le => decide (a.toInt ≤ b.toInt) | .leu => decide (a.toNat ≤ b.toNat)

/-- The predicate operations, on 16 bits. -/
def predOp (op : PredOp) (a b : Nat) : Nat :=
  match op with
  | .and => a &&& b | .or => a ||| b | .xor => a ^^^ b | .not => 65535 - a

/-- The float operations; `free` gives the NaN of an invalid one. -/
def floatOp (op : FloatOp) (a b free : Word) : Word :=
  match op with
  | .add => fadd a b free | .sub => fsub a b free | .mul => fmul a b free | .div => fdiv a b free
  | .min => fmin a b | .max => fmax a b
def fcmpOp (op : FCmpOp) (a b : Word) : Bool :=
  match op with
  | .eq => fEqual (floatOf a) (floatOf b) | .lt => fLess (floatOf a) (floatOf b)
  | .le => fLess (floatOf a) (floatOf b) || fEqual (floatOf a) (floatOf b)
def fcvtOp (op : FCvtOp) (a free : Word) : Word :=
  match op with
  | .fromInt => fOfInt a.toInt | .fromUInt => fOfInt a.toNat
  | .toInt => fToWord a (-2147483648) 2147483647 free | .toUInt => fToWord a 0 4294967295 free

/-- The field of `width` bits at `pos`, and a field put in its place. -/
def extField (a : Word) (pos width : Nat) : Word := wordN (a.toNat / 2 ^ pos % 2 ^ width)
def insField (old a : Word) (pos width : Nat) : Word :=
  let m := BitVec.ofNat 32 ((2 ^ width - 1) * 2 ^ pos)
  (old &&& ~~~m) ||| (BitVec.ofNat 32 (a.toNat * 2 ^ pos) &&& m)

/-- The integer group on a CE; none where it divides by zero or is ILLEGAL. A scalar compare writes all 16 bits of the predicate. DESIGN
CHOICE, log entry 150: MOVHI writes the high half and clears the low one. -/
def runInt (c : Ce) : IntInstr → Option Ce
  | .alu op rd ra b => (aluOp op (greg c ra.val) (srcVal c b)).map (putG c rd.val)
  | .unary op rd ra => some (putG c rd.val (unaryOp op (greg c ra.val)))
  | .ext rd ra pos w => some (putG c rd.val (extField (greg c ra.val) pos.val w.val))
  | .ins rd ra pos w => some (putG c rd.val (insField (greg c rd.val) (greg c ra.val) pos.val w.val))
  | .movi rd v => some (putG c rd.val (v.signExtend 32))
  | .movhi rd v => some (putG c rd.val (wordN (v.toNat * 65536)))
  | .cmp op pd ra b => some (putP c pd.val (if cmpOp op (greg c ra.val) (srcVal c b) then 65535 else 0))
  | .pred op pd pa pb => some (putP c pd.val (predOp op (preg c pa.val) (preg c pb.val)))
  | .illegal => none

/-- The float group on a CE. -/
def runFloat (c : Ce) (free : Word) : FloatInstr → Ce
  | .op2 op rd ra rb => putG c rd.val (floatOp op (greg c ra.val) (greg c rb.val) free)
  | .fma rd ra rb rc => putG c rd.val (ffma (greg c ra.val) (greg c rb.val) (greg c rc.val) free)
  | .sqrt rd ra => putG c rd.val (fsqrt (greg c ra.val) free)
  | .cmp op pd ra rb => putP c pd.val (if fcmpOp op (greg c ra.val) (greg c rb.val) then 65535 else 0)
  | .cvt op rd ra => putG c rd.val (fcvtOp op (greg c ra.val) free)

/-- Lanes of a vector register written: the active ones, all from the state before. -/
def writeLanes (c : Ce) (vd : Nat) (lanes : List Nat) (f : Nat → Word) : Ce :=
  lanes.foldl (fun c k => putLane c vd k (f k)) c

/-- The predicate after a lane-wise compare: the active lanes' bits replaced. -/
def writePredLanes (c : Ce) (pd : Nat) (lanes : List Nat) (f : Nat → Bool) : Ce :=
  putP c pd (lanes.foldl (fun m k => putBit m k (f k)) (preg c pd))

/-- The vector group on the active lanes (R152); none where a lane divides by zero. `free` gives lane k's free value. DEDUCED, log entry
125: VEXT executes where the guard bit of its lane is 1, a reduction is over the active lanes, and one without active lanes writes nothing.
DESIGN CHOICE, log entry 150: MOVHI clears the low half of its lanes, and VPERM takes its index modulo 16. -/
def runVec (c : Ce) (lanes : List Nat) (free : Nat → Word) : VecInstr → Option Ce
  | .alu op vd va vb =>
    let r (k : Nat) := aluOp op (vlane c va.val k) (vlane c vb.val k)
    if lanes.all (fun k => (r k).isSome) then some (writeLanes c vd.val lanes (fun k => (r k).getD 0)) else none
  | .unary op vd va => some (writeLanes c vd.val lanes (fun k => unaryOp op (vlane c va.val k)))
  | .float op vd va vb => some (writeLanes c vd.val lanes (fun k => floatOp op (vlane c va.val k) (vlane c vb.val k) (free k)))
  | .fma vd va vb vc =>
    some (writeLanes c vd.val lanes (fun k => ffma (vlane c va.val k) (vlane c vb.val k) (vlane c vc.val k) (free k)))
  | .sqrt vd va => some (writeLanes c vd.val lanes (fun k => fsqrt (vlane c va.val k) (free k)))
  | .cvt op vd va => some (writeLanes c vd.val lanes (fun k => fcvtOp op (vlane c va.val k) (free k)))
  | .cmp op pd va vb => some (writePredLanes c pd.val lanes (fun k => cmpOp op (vlane c va.val k) (vlane c vb.val k)))
  | .fcmp op pd va vb => some (writePredLanes c pd.val lanes (fun k => fcmpOp op (vlane c va.val k) (vlane c vb.val k)))
  | .bcast vd ra => some (writeLanes c vd.val lanes (fun _ => greg c ra.val))
  | .extLanes vd va pos w => some (writeLanes c vd.val lanes (fun k => extField (vlane c va.val k) pos.val w.val))
  | .insLanes vd va pos w =>
    some (writeLanes c vd.val lanes (fun k => insField (vlane c vd.val k) (vlane c va.val k) pos.val w.val))
  | .moviLanes vd v => some (writeLanes c vd.val lanes (fun _ => v.signExtend 32))
  | .movhiLanes vd v => some (writeLanes c vd.val lanes (fun _ => wordN (v.toNat * 65536)))
  | .ext rd va lane => some (if lanes.contains lane.val then putG c rd.val (vlane c va.val lane.val) else c)
  | .ins vd lane ra => some (if lanes.contains lane.val then putLane c vd.val lane.val (greg c ra.val) else c)
  | .perm vd va vb => some (writeLanes c vd.val lanes (fun k => vlane c va.val ((vlane c vb.val k).toNat % 16)))
  | .rsum rd va => some (if lanes = [] then c else putG c rd.val ((lanes.map (vlane c va.val)).foldl (· + ·) 0))
  | .rmin rd va => some (match minBy (fun (w : Word) => w.toInt) (lanes.map (vlane c va.val)) with
      | some w => putG c rd.val w
      | none => c)
  | .rmax rd va => some (match minBy (fun (w : Word) => -w.toInt) (lanes.map (vlane c va.val)) with
      | some w => putG c rd.val w
      | none => c)

/-- The data address of a load or store: a register and a signed offset. -/
def dataAddr (c : Ce) (ra : Nat) (imm : BitVec 12) : Word := greg c ra + imm.signExtend 32

/-- Bytes a load or a store moves. -/
def loadSize : LoadKind → Nat
  | .b => 1 | .bu => 1 | .h => 2 | .hu => 2 | .w => 4 | .v => 64
def storeSize : StoreKind → Nat
  | .b => 1 | .h => 2 | .w => 4 | .v => 64

/-- What a data address maps to (R146). -/
inductive DataRegion where
  | sram | nothing | mram (bank : Nat) | control
deriving DecidableEq, Repr

/-- The map of R146. -/
def dataRegion (a : Word) : DataRegion :=
  if a.toNat < 0x80000 then .sram else if a.toNat < 0x40000000 then .nothing
  else if a.toNat < 0x80000000 then .mram (bankOf a) else .control

/-- A register from the bytes of a scalar load. -/
def loadValue (k : LoadKind) (bs : List Byte) : Word :=
  let n := leNat bs
  match k with
  | .b => wordI (signedOf 8 n) | .h => wordI (signedOf 16 n) | _ => wordN n

/-- A CE in runtime mode may reach a control-space address: its ROLES entry grants the block (R146). An address in no
window belongs to no block. -/
def controlGranted (s : State) (n : Nat) (c : Ce) (a : Word) : Bool :=
  c.priv && (match windowOf (a - 0x80000000), roleEntry s n with
    | some w, some r => r.grants.contains w
    | _, _ => false)

end Sys2Proof.Machine
end

