-- ==== Sys2Proof/Machine/Ce.lean ====
section
/-! DEFINITION. Meanings of the CE instructions but for the comb and the task ones, and of the CE's own events: cache fills,
timeouts, halts and the writes of CE_CTRL (R144 to R184). -/
namespace Sys2Proof.Machine

/-- An integer, logic, shift, compare or predicate instruction (R145, R152, R155). DIV and REM by zero raise DIV. An illegal word raises
ILLEGAL whatever its guard (DEDUCED, log entry 21). -/
def execIntegerInstruction (n : Fin 128) (gd : Guard) (i : IntInstr) (s : State) : Result :=
  done (issue n.val (fun c s =>
    if i = .illegal then takeException n.val causeIllegal 0 none 0 s
    else if guardOn c gd then
      match runInt c i with
      | some c' => putCe s n.val (retire c')
      | none => takeException n.val causeDiv 0 none 0 s
    else putCe s n.val (retire c)) s)

/-- An IEEE binary32 instruction (R145, R155): none traps. -/
def execFloatInstruction (n : Fin 128) (gd : Guard) (i : FloatInstr) (s : State) : Result :=
  done (issue n.val (fun c s =>
    if guardOn c gd then drawn (putCe s n.val (retire (runFloat c (wordN (freeNat s)) i)))
    else putCe s n.val (retire c)) s)

/-- The free value of a lane (log entry 22). -/
def freeLane (s : State) (k : Nat) : Word := loWord (Config.freeWord (s.free + k)).toNat

/-- A lane-wise vector instruction on the lanes of its guard (R152, R155). -/
def execVectorInstruction (n : Fin 128) (gd : Guard) (i : VecInstr) (s : State) : Result :=
  done (issue n.val (fun c s =>
    match runVec c (activeLanes c gd) (freeLane s) i with
    | some c' => { putCe s n.val (retire c') with free := s.free + 16 }
    | none => takeException n.val causeDiv 0 none 0 s) s)

/-- The bytes of an MRAM bank: the bank sets, or an assigned bank (R17, R148). -/
def mramBytes (s : State) (a : Word) (n : Nat) : List Byte :=
  let off := a.toNat - 0x40000000
  if off < 0x8000000 then readBytes s.frm.setA off n
  else if off < 0x10000000 then readBytes s.frm.setB (off - 0x8000000) n
  else readBytes s.mram off n

/-- A load retires with the bytes it has read. -/
def finishLoad (n : Nat) (gd : Guard) (kind : LoadKind) (rd : Nat) (bs : List Byte) (c : Ce) (s : State) : State :=
  match kind with
  | .v => putCe s n (retire (writeLanes c (rd % 16) (activeLanes c gd) (fun k => wordN (leNat ((bs.drop (4 * k)).take 4)))))
  | k => putCe s n (retire (putG c rd (loadValue k bs)))

/-- The words that a load reads, as byte offsets from its address: the active lanes of LDV, or the one word. -/
def loadWords (c : Ce) (gd : Guard) (kind : LoadKind) : List Nat :=
  if kind = .v then (activeLanes c gd).map (4 * ·) else [0]

/-- What the error check finds in the word at a byte offset of an access: `ecc` lists it word by word. -/
def eccAt (ecc : List Ecc) (off : Nat) : Ecc := ecc.getD (off / 4) .clean

/-- The first word read with a double-bit error, and how many hold a single-bit one (R178). -/
def doubleWord (ecc : List Ecc) (offs : List Nat) : Option Nat := offs.find? (fun o => decide (eccAt ecc o = .double))
def correctedWords (ecc : List Ecc) (offs : List Nat) : Nat := (offs.filter (fun o => decide (eccAt ecc o = .corrected))).length

/-- The MRAM chiplet of a bank runs (R17); an access to one that does not is not answered, until TRUSS_ACCESS_TIMEOUT (R167). -/
def bankRuns (s : State) (bank : Nat) : Bool :=
  running s (match bank / 8 with | 0 => .mem0 | 1 => .mem1 | 2 => .mem2 | _ => .mem3)

/-- A load (R146, R148, R178): from data SRAM, with the error check of each word it reads; from MRAM, under the bank right of the mode; from
the control space, in runtime mode to granted blocks, where any width but a word is refused (R13) and a block in reset holds the access
(R546) so that the instruction does not retire. A refused control-space address raises DACCESS: DESIGN CHOICE, log entry 149, with SUB 2 in
task mode, without a grant and in no window alike. `ecc` is what the memory's error check finds in each word of the access. -/
def execLoadInstruction (n : Fin 128) (gd : Guard) (kind : LoadKind) (rd ra : Fin 32) (imm : BitVec 12) (ecc : List Ecc)
    (s : State) : Result :=
  done (issue n.val (fun c s =>
    let on := if kind = .v then decide (guardBits c gd ≠ 0) else guardOn c gd
    if on = false then putCe s n.val (retire c)
    else
      let a := dataAddr c ra.val imm
      let k := loadSize kind
      if a.toNat % k ≠ 0 then takeException n.val causeAlign 0 (some a) 0 s
      else match dataRegion a with
      | .nothing => takeException n.val causeDaccess 1 (some a) 0 s
      | .sram =>
        let hits := correctedWords ecc (loadWords c gd kind)
        let c' := if hits = 0 then c else { c with sramCe := satAdd 255 c.sramCe hits }
        (match doubleWord ecc (loadWords c gd kind) with
        | some o => takeException n.val causeEcc 1 (some (a + wordN o)) 0 (errReport n.val c (putCe s n.val c'))
        | none => errReport n.val c (finishLoad n.val gd kind rd.val (readBytes c.sram a.toNat k) c' s))
      | .mram bank =>
        if bankRight s n.val c.priv bank = .none then takeException n.val causeDaccess 2 (some a) 0 s
        else if bankRuns s bank = false then s
        else (match doubleWord ecc (loadWords c gd kind) with
          | some o => takeException n.val causeEcc 2 (some (a + wordN o)) 0 s
          | none => finishLoad n.val gd kind rd.val (mramBytes s a k) c s)
      | .control =>
        if controlGranted s n.val c a = false then takeException n.val causeDaccess 2 (some a) 0 s
        else if kind ≠ .w then
          finishLoad n.val gd kind rd.val (List.replicate k 0) c (badAccess (.ce n) 2 (a - 0x80000000) s)
        else
          let (acc, v, s') := ctlRead (.ce n) (a - 0x80000000) s
          if acc = .held then s
          else finishLoad n.val gd kind rd.val (leBytes 4 v.toNat) (ceOf s' n.val) s') s)

/-- A bank that some CE may execute from is an executable data bank (R148). -/
def executableBank (s : State) (bank : Nat) : Bool :=
  s.img.memory.grants.any (fun g => decide (g.bank = bank) && (decide (g.runtime = .readExecute) || decide (g.task = .readExecute)))

/-- The bytes a store writes. -/
def storeBytes (c : Ce) (kind : StoreKind) (r : Nat) : List Byte :=
  match kind with
  | .v => (List.range 16).flatMap (fun k => leBytes 4 (vlane c (r % 16) k).toNat)
  | k => leBytes (storeSize k) (greg c r).toNat

/-- Bytes stored under a lane mask, four to a lane. -/
def storeMasked (m : Tab Byte) (a : Nat) (bs : List Byte) (lanes : List Nat) : Tab Byte :=
  lanes.foldl (fun m k => writeBytes m (a + 4 * k) ((bs.drop (4 * k)).take 4)) m

/-- The words, or the one place, that a store writes in data SRAM. -/
def storeAddrs (c : Ce) (gd : Guard) (kind : StoreKind) (a : Nat) : List Nat :=
  if kind = .v then (activeLanes c gd).map (fun k => a + 4 * k) else [a]

/-- A store (R146, R148, R180, R182). Banks 0 to 7 refuse it with STORE_PS and count it. A refused control-space address raises DACCESS:
DESIGN CHOICE, log entry 149, with SUB 2 in task mode, without a grant and in no window alike. -/
def execStoreInstruction (n : Fin 128) (gd : Guard) (kind : StoreKind) (rs ra : Fin 32) (imm : BitVec 12) (s : State) :
    Result :=
  done (issue n.val (fun c s =>
    let on := if kind = .v then decide (guardBits c gd ≠ 0) else guardOn c gd
    if on = false then putCe s n.val (retire c)
    else
      let a := dataAddr c ra.val imm
      let k := storeSize kind
      let bs := storeBytes c kind rs.val
      let put (m : Tab Byte) (off : Nat) : Tab Byte :=
        if kind = .v then storeMasked m off bs (activeLanes c gd) else writeBytes m off bs
      if a.toNat % k ≠ 0 then takeException n.val causeAlign 0 (some a) 0 s
      else match dataRegion a with
      | .nothing => takeException n.val causeDaccess 1 (some a) 0 s
      | .sram => noteWrites n.val (storeAddrs c gd kind a.toNat) (putCe s n.val (retire { c with sram := put c.sram a.toNat }))
      | .mram bank =>
        if bank < 8 then
          let s := putCe s n.val { c with psRefuse := satAdd 255 c.psRefuse 1 }
          takeException n.val causeStorePs 0 (some a) 0 (errReport n.val c s)
        else if bankRight s n.val c.priv bank ≠ .readWrite then takeException n.val causeDaccess 2 (some a) 0 s
        else if bankRuns s bank = false then s
        else
          let s := putCe s n.val (retire c)
          let s : State := { s with mram := put s.mram (a.toNat - 0x40000000) }
          if executableBank s bank then invalidateLines a k s else s
      | .control =>
        if controlGranted s n.val c a = false then takeException n.val causeDaccess 2 (some a) 0 s
        else if kind ≠ .w then putCe (badAccess (.ce n) 2 (a - 0x80000000) s) n.val (retire c)
        else
          let (acc, s') := ctlWrite (.ce n) (a - 0x80000000) (greg c rs.val) s
          if acc = .held then s else putCe s' n.val (retire (ceOf s' n.val))) s)

/-! ## Control flow and system instructions (R154, R156 to R160) -/

/-- A unit is active while its count is not 0 (R158). -/
def loopActive (c : Ce) (u : Bool) : Bool := if u then decide (c.lc1 ≠ 0) else decide (c.lc0 ≠ 0)

/-- A control-flow instruction is ILLEGAL in a delay slot (R157), at the end of an active loop, and, for a branch, in the
place before that end (R160). -/
def flowIllegal (c : Ce) (branch : Bool) : Bool :=
  c.slot.isSome
    || (loopActive c false && (decide (c.pc = c.le0) || (branch && decide (c.pc = c.le0 - 4))))
    || (loopActive c true && (decide (c.pc = c.le1) || (branch && decide (c.pc = c.le1 - 4))))

/-- A control-flow instruction runs unless it is ILLEGAL where it stands or has a reserved field that is not zero, whatever its guard: R152
gives it no effect at guard 0, R157 and R160 speak of where it stands alone (DEDUCED, log entry 21). LOOP on an active unit starts
nothing at guard 0, and is ILLEGAL only where it executes. -/
def flow (n : Nat) (branch reserved : Bool) (run : Ce → State → State) (s : State) : State :=
  issue n (fun c s =>
    if flowIllegal c branch || reserved then takeException n causeIllegal 0 none 0 s else run c s) s

/-- B (R154, R156): the guard decides whether the branch is taken; the slot executes either way. -/
def execBranch (n : Fin 128) (f : FmtJ) (s : State) : Result :=
  done (flow n.val true false (fun c s =>
    putCe s n.val (retireBranch (if guardOn c f.guard then c.pc + (f.disp.signExtend 32) * 4 else c.pc + 8) c)) s)

/-- BL (R154): as B, and g31 := PC + 8 where it executes. -/
def execBranchLink (n : Fin 128) (f : FmtJ) (s : State) : Result :=
  done (flow n.val true false (fun c s =>
    if guardOn c f.guard then
      putCe s n.val (retireBranch (c.pc + (f.disp.signExtend 32) * 4) (putG c 31 (c.pc + 8)))
    else putCe s n.val (retireBranch (c.pc + 8) c)) s)

/-- JR (R154): target g[ra]; with rd not 0, g[rd] := PC + 8. -/
def execJumpReg (n : Fin 128) (f : FmtR) (s : State) : Result :=
  done (flow n.val true (decide (f.rb.val ≠ 0 ∨ f.fn ≠ 0)) (fun c s =>
    if guardOn c f.guard then putCe s n.val (retireBranch (greg c f.ra.val) (putG c f.rd.val (c.pc + 8)))
    else putCe s n.val (retireBranch (c.pc + 8) c)) s)

/-- The LOOP that R160 calls ILLEGAL on a unit. -/
def loopIllegal (c : Ce) (u : Bool) (ls le : Word) : Bool :=
  loopActive c u || (!u && loopActive c true)
    || (u && loopActive c false && (decide (ls.toNat < c.ls0.toNat) || decide (c.le0.toNat < le.toNat)))

/-- LOOP (R158, R160). -/
def execLoop (n : Fin 128) (f : FmtL) (s : State) : Result :=
  done (flow n.val false (decide (f.stop = 0) || (!f.i && decide (f.mid.toNat / 32 ≠ 0))) (fun c s =>
    let ls := c.pc + 4
    let le := c.pc + wordN (4 * f.stop.toNat)
    if guardOn c f.guard = false then putCe s n.val (retire c)
    else if loopIllegal c f.u ls le then takeException n.val causeIllegal 0 none 0 s
    else
      let cnt := if f.i then wordN f.mid.toNat else greg c (f.mid.toNat % 32)
      let c' := if f.u then { c with ls1 := ls, le1 := le, lc1 := cnt } else { c with ls0 := ls, le0 := le, lc0 := cnt }
      let c' := retire c'
      putCe s n.val (if cnt = 0 then { c' with pc := le + 4 } else c')) s)

/-- LCLR (R154): LC of unit FN bit 0 := 0. -/
def execLclr (n : Fin 128) (f : FmtR) (s : State) : Result :=
  done (flow n.val false (decide (f.rd.val ≠ 0 ∨ f.ra.val ≠ 0 ∨ f.rb.val ≠ 0 ∨ 2 ≤ f.fn.toNat)) (fun c s =>
    if guardOn c f.guard then
      putCe s n.val (retire (if f.fn.toNat = 1 then { c with lc1 := 0 } else { c with lc0 := 0 }))
    else putCe s n.val (retire c)) s)

/-- MFS (R154, R155): a number with no special register is ILLEGAL, whatever the guard (DEDUCED, log entry 21); in task mode only loop
registers and MODE are read. -/
def execMfs (n : Fin 128) (gd : Guard) (rd : Fin 32) (sr : Fin 32) (s : State) : Result :=
  done (issue n.val (fun c s =>
    match specialReg c sr.val with
    | none => takeException n.val causeIllegal 0 none 0 s
    | some w =>
      if guardOn c gd = false then putCe s n.val (retire c)
      else if c.priv = false ∧ taskReads sr.val = false then takeException n.val causePriv 0 none 0 s
      else putCe s n.val (retire (putG c rd.val w))) s)

/-- MTS (R154, R155, R167): runtime mode only; MTS to MODE or to a number with no special register is ILLEGAL, whatever the guard (DEDUCED,
log entry 21). -/
def execMts (n : Fin 128) (gd : Guard) (ra : Fin 32) (sr : Fin 32) (s : State) : Result :=
  done (issue n.val (fun c s =>
    if (specialReg c sr.val).isNone ∨ sr.val = 6 then takeException n.val causeIllegal 0 none 0 s
    else if guardOn c gd = false then putCe s n.val (retire c)
    else if c.priv = false then takeException n.val causePriv 0 none 0 s
    else putCe s n.val (retire (putSpecial c sr.val (greg c ra.val)))) s)

/-- SYS (R154): raises SYSCALL with IMM12 as the code, in CE_XADDR. -/
def execSys (n : Fin 128) (f : FmtI) (s : State) : Result :=
  done (flow n.val false (decide (f.rd.val ≠ 0 ∨ f.ra.val ≠ 0)) (fun c s =>
    if guardOn c f.guard then takeException n.val causeSyscall 0 (some (f.imm.signExtend 32)) 0 s
    else putCe s n.val (retire c)) s)

/-- The state that XRET returns to (R165, R172, R173): mode and loop enable restored; the delay slot again, when DS is 1;
the rest of a SETM shadow; XACT cleared. -/
def returnException (c : Ce) : Ce :=
  let x := c.xstatus
  let left := Nat.min 2 (fld x 29 28)
  let ds := bitAt x 30
  { c with
    priv := bitAt x 26, tctx := fld x 25 16, loopen := bitAt x 27
    slot := if ds then some { branch := c.epc, target := c.xtarget } else none
    pc := if ds then c.epc + 4 else c.epc
    shadow := if left = 0 then none else some { left := left, priv := bitAt x 15, tctx := fld x 14 5 }
    elem := Nat.min 16 (fld c.xinfo 4 0)
    xstatus := x &&& ~~~(maskOf 31 31) }

/-- XRET (R154, R172): runtime mode only. -/
def execXret (n : Fin 128) (f : FmtR) (s : State) : Result :=
  done (flow n.val false (decide (f.rd.val ≠ 0 ∨ f.ra.val ≠ 0 ∨ f.rb.val ≠ 0 ∨ f.fn ≠ 0)) (fun c s =>
    if guardOn c f.guard = false then putCe s n.val (retire c)
    else if c.priv = false then takeException n.val causePriv 0 none 0 s
    else putCe s n.val (returnException c)) s)

/-- SETM (R150, R151): the mode in g[ra] applies after two more instructions; ILLEGAL in the shadow of another. DESIGN CHOICE, log entry 20:
its unused fields are reserved. -/
def execSetm (n : Fin 128) (f : FmtR) (s : State) : Result :=
  done (flow n.val false (decide (f.rd.val ≠ 0 ∨ f.rb.val ≠ 0 ∨ f.fn ≠ 0)) (fun c s =>
    if c.shadow.isSome then takeException n.val causeIllegal 0 none 0 s
    else if guardOn c f.guard = false then putCe s n.val (retire c)
    else if c.priv = false then takeException n.val causePriv 0 none 0 s
    else
      let m := greg c f.ra.val
      putCe s n.val { retire c with shadow := some { left := 2, priv := bitAt m 31, tctx := fld m 9 0 } }) s)

/-- BRK (R154): raises BREAK. DESIGN CHOICE, log entry 20: its unused fields are reserved. -/
def execBrk (n : Fin 128) (f : FmtR) (s : State) : Result :=
  done (flow n.val false (decide (f.rd.val ≠ 0 ∨ f.ra.val ≠ 0 ∨ f.rb.val ≠ 0 ∨ f.fn ≠ 0)) (fun c s =>
    if guardOn c f.guard then takeException n.val causeBreak 0 none 0 s else putCe s n.val (retire c)) s)

/-! ## Events of the CE -/

/-- An access has not completed within 5,000 hs, or came back abandoned (R108, R164, R167). -/
def execTrussAccessTimeout (n : Fin 128) (acc : LateAccess) (s : State) : Result :=
  match acc with
  | .data a => done (issue n.val (fun _ s => takeException n.val causeTruss 0 (some a) 0 s) s)
  | .element lane id => done (issue n.val (fun _ s => takeException n.val causePoint 6 (some id) lane.val s) s)

/-- A line joins the cache: 256 sets of 4 ways (R144), a locked line never evicted (R177). Which line of a full set leaves
the manual does not say: a free choice among those not locked. -/
def cacheFill (s : State) (n : Nat) (line : Nat) (c : Ce) : Ce :=
  if c.lines.contains line then c
  else
    let set := c.lines.filter (fun l => decide (l % 256 = line % 256))
    let loose := set.filter (fun l => !(lockedLines s n).contains l)
    let victim := if set.length < 4 then none else loose[freeNat s % Nat.max 1 loose.length]?
    { c with lines := line :: c.lines.filter (fun l => decide (some l ≠ victim)) }

/-- A line fill completes, or a parity error on the line makes it refetch (R177): the second error in a row raises FETCH
with SUB 3. A line that a store is writing is filled after it (R182). -/
def execIcacheFill (n : Fin 128) (addr : Word) (parity : Bool) (s : State) : Result :=
  let c := ceOf s n.val
  let line := addr.toNat / 64
  if c.st = .off then done s
  else if parity = false then done (drawn (putCe s n.val { cacheFill s n.val line c with badLine := none }))
  else if c.badLine = some line ∧ c.st = .run then
    done (takeException n.val causeFetch 3 (some addr) 0 (putCe s n.val { c with badLine := none }))
  else
    done (errReport n.val c (putCe s n.val { c with icPar := satAdd 255 c.icPar 1, badLine := some line }))

/-- The next point of R175 has come for a CE with halt requests (R183): it enters HALT, PREV recording the state it left, HSRC
the sources, and RESUME_ELEM the lane of a split GATH or SCAT. A CE that Smoke halts during a handover switches at once (R213). -/
def execCeHalt (n : Fin 128) (s : State) : Result :=
  let c := ceOf s n.val
  if c.haltReq ≠ 0 ∧ (c.st = .idle ∨ (c.st = .run ∧ allowedPoint c = true)) then
    let s := putCe s n.val { c with st := .halt, prev := c.st, hsrc := c.haltReq, haltReq := 0, resumeElem := c.elem, elem := 0 }
    done (if c.haltReq.testBit 3 && mustLeave s n.val then switchHalted n.val s else s)
  else done s

/-- CE_CTRL HALT. -/
def execCeCtrlHalt (n : Fin 128) (s : State) : Result := done (atBlock 4 (0x10000 * n.val) (requestHalt 4 n.val) s)

/-- CE_CTRL RESUME. -/
def execCeCtrlResume (n : Fin 128) (s : State) : Result := done (atBlock 4 (0x10000 * n.val) (withdrawHalt 4 n.val) s)

/-- CE_CTRL RESTART. -/
def execCeCtrlRestart (n : Fin 128) (s : State) : Result := done (atBlock 4 (0x10000 * n.val) (ceRestart n.val) s)

end Sys2Proof.Machine
end

