-- ==== Sys2Proof/Machine/Cyclic.lean ====
section
/-! DEFINITION. Commands of the cyclic schedulers: ticks, WAIT and interrupts, the handover, forces, persistent data and
tenant modules (R185 to R214, R232). -/
namespace Sys2Proof.Machine

/-- SCHEDULER_TICK (R188): the tick of the device time reached. -/
def execSchedulerTick (s : State) : Result := done (schedulerTick s)

/-- The addresses of data SRAM that the copies of a task's WAIT read: its output area, and the blocks of persistent data that it has
written. -/
def waitReads (s : State) (n a : Nat) : Bool :=
  let within (base len : Nat) : Bool := decide (base ≤ a ∧ a < base + len)
  match (stackOf s n).head? with
  | none => false
  | some t =>
    (match taskOn s n t with
      | some c => within c.outBase c.outSize
      | none => false)
    || (match persistCfg s n with
      | some x => within x.base x.len && (taskOf s t).wrote.contains ((a - x.base) / 4096)
      | none => false)

/-- WAIT (R154, R178, R188): ends the task cycle. DESIGN CHOICE, log entry 20: its unused fields are reserved. `errs` are words of data
SRAM in which the error check finds something: of those that the copies read, a double-bit one raises ECC, and single-bit ones are counted.
-/
def waitStep (n : Nat) (f : FmtR) (errs : List (Fin 131072 × Ecc)) (s : State) : State :=
  let c := ceOf s n
  if c.st ≠ .run then s
  else match fetchFault s n c c.pc with
    | some sub => takeException n causeFetch sub (some c.pc) 0 s
    | none =>
      if c.slot.isSome || decide (c.lc0 ≠ 0 ∧ c.pc = c.le0) || decide (c.lc1 ≠ 0 ∧ c.pc = c.le1)
          || decide (f.rd.val ≠ 0 ∨ f.ra.val ≠ 0 ∨ f.rb.val ≠ 0 ∨ f.fn ≠ 0) then takeException n causeIllegal 0 none 0 s
      else if guardOn c f.guard = false then putCe s n (retire c)
      else
        let found := errs.filter (fun e => waitReads s n (4 * e.1.val))
        let hits := (found.filter (fun e => decide (e.2 = .corrected))).length
        let c' := if hits = 0 then c else { c with sramCe := satAdd 255 c.sramCe hits }
        match found.find? (fun e => decide (e.2 = .double)) with
        | some e => takeException n causeEcc 1 (some (wordN (4 * e.1.val))) 0 (errReport n c (putCe s n c'))
        | none => afterWait n (endCycle n (errReport n c (putCe s n (retire c'))))
def execWait (n : Fin 128) (f : WaitForm) (s : State) : Result := done (waitStep n.val f.fields f.errs s)

/-- INTERRUPT_TAKEN (R167, R174, R175, R553): at the next point in RUN and with XACT 0, the task start of the top of the stack first, then
the oldest event interrupt. A start that XACT masked on an IDLE CE is taken once XACT is 0. -/
def execInterruptTaken (n : Fin 128) (s : State) : Result :=
  let c := ceOf s n.val
  if c.st = .idle then
    match (stackOf s n.val).head?.bind (taskOn s n.val) with
    | some k => done (if (taskOf s k.task).begun then s else raiseStart k s)
    | none => done s
  else if c.st ≠ .run ∨ xact c = true ∨ allowedPoint c = false then done s
  else
    let top := (stackOf s n.val).head?
    match top with
    | some t =>
      if (taskOf s t).begun = false then
        done (takeException n.val causeInterrupt 1 (some (wordN t)) c.elem
          (putTask s t { taskOf s t with begun := true }))
      else match (pendOf s n.val).queue with
        | [] => done s
        | src :: rest => done (takeException n.val causeInterrupt 2 (some (wordN src)) c.elem
            (putPend s n.val { pendOf s n.val with queue := rest }))
    | none => match (pendOf s n.val).queue with
      | [] => done s
      | src :: rest => done (takeException n.val causeInterrupt 2 (some (wordN src)) c.elem
          (putPend s n.val { pendOf s n.val with queue := rest }))

/-- CYC_TASK_CMD 1 and 2. -/
def execTaskStartCmd (t : Fin 256) (s : State) : Result := done (atBlock 5 0 (taskStartCmd t.val) s)
def execTaskStopCmd (t : Fin 256) (s : State) : Result := done (atBlock 5 0 (taskStopCmd t.val) s)

/-- PERSISTENT_FLUSH_COMPLETE (R202). -/
def execPersistentFlushComplete (n : Fin 128) (s : State) : Result := done (flushDone n.val s)

/-- HANDOVER_SWITCH_TICK, HANDOVER_TIMEOUT and DATA_MAP_COMPLETE (R204, R205). -/
def execHandoverSwitchTick (s : State) : Result := done (handoverTick s)
def execHandoverTimeout (n : Fin 128) (s : State) : Result := done (handoverTimeout n.val s)
def execDataMapComplete (r : DataMapRun) (s : State) : Result := done (dataMapDone r.ce.val r.errs s)

/-- FORCE_SET, FORCE_CLEAR and FORCE_CLEAR_ALL (R209, R210): CYC_FORCE_CMD with its TENANT and TIMEOUT. -/
def execForceSet (tenant : Fin 1024) (minutes : BitVec 11) (s : State) : Result :=
  done (atBlock 5 0 (fun s => fieldRefresh (forceCommand 1 tenant.val minutes.toNat s)) s)
def execForceClear (tenant : Fin 1024) (minutes : BitVec 11) (s : State) : Result :=
  done (atBlock 5 0 (fun s => fieldRefresh (forceCommand 2 tenant.val minutes.toNat s)) s)
def execForceClearAll (tenant : Fin 1024) (minutes : BitVec 11) (s : State) : Result :=
  done (atBlock 5 0 (fun s => fieldRefresh (forceCommand 3 tenant.val minutes.toNat s)) s)

/-- FORCE_EXPIRY (R210): a force whose minutes have passed. -/
def execForceExpiry (kind : Fin 16) (index : BitVec 28) (s : State) : Result :=
  match forceOn s kind.val index.toNat with
  | some f => done (if f.expiry.any (fun e => decide (e ≤ devTime s)) then fieldRefresh (dropForce f s) else s)
  | none => done s

/-- TENANT_MODULE_LOAD (R231, R232): the module goes into the half that does not execute, whose lines leave every cache (R182), and is
checked; one that fails is discarded with event source 102. -/
def execTenantModuleLoad (t : Fin 1024) (bytes : List Byte) (s : State) : Result :=
  match tenantCfg s t.val with
  | none => done (raise 102 [] s)
  | some cfg =>
    if running s .keeper = false then done s
    else
      let m := tget ({} : TenantModule) s.cmb.modules t.val
      let at0 := cfg.region + (if m.half then 0 else cfg.codeMax)
      let put (w : Option (Word × Nat)) (s : State) : State := { s with cmb := { s.cmb with
        modules := tset ({} : TenantModule) s.cmb.modules t.val { m with waiting := w } } }
      if moduleOk cfg bytes then
        done (put (some (wordN (leNat ((bytes.drop 12).take 4)), devTime s))
          (invalidateLines (wordN (0x40000000 + at0)) bytes.length { s with mram := writeBytes s.mram at0 bytes }))
      else done (raise 102 [] (put none s))

/-- TENANT_MODULE_SWITCH (R232): at a tick at least 1 ms after the check at which none of the tenant's tasks runs or is pre-empted. -/
def execTenantModuleSwitch (t : Fin 1024) (s : State) : Result :=
  if tenantRuns s t.val = false ∧ (moduleAge s t.val).any (fun a => decide (1000000 ≤ a.1)) = true then done (moduleSwitch t.val s)
  else done s

/-- TENANT_SWITCH_TIMEOUT (R232): 200 ms after the check. -/
def execTenantSwitchTimeout (t : Fin 1024) (s : State) : Result :=
  if (moduleAge s t.val).any (fun a => decide (200000000 ≤ a.2)) then done (moduleSwitch t.val (abandonTenant t.val s)) else done s

end Sys2Proof.Machine
end

