-- ==== Sys2Proof/Machine/Door.lean ====
section
/-! DEFINITION. Commands of the door channels (R316 to R346). -/
namespace Sys2Proof.Machine

/-- DOOR_UPDATE (R322). -/
def execDoorUpdate (d : Fin 128) (s : State) : Result := done (doorUpdate d.val s)

/-- DOR_CMD 1 to 7 (R334), held while the I/O die takes no new work (R71). -/
def execDoorOpen (d : Fin 128) (s : State) : Result := done (atBlock 8 0 (doorCommand d.val 1) s)
def execDoorClose (d : Fin 128) (s : State) : Result := done (atBlock 8 0 (doorCommand d.val 2) s)
def execDoorNudge (d : Fin 128) (s : State) : Result := done (atBlock 8 0 (doorCommand d.val 3) s)
def execDoorStop (d : Fin 128) (s : State) : Result := done (atBlock 8 0 (doorCommand d.val 4) s)
def execDoorReset (d : Fin 128) (s : State) : Result := done (atBlock 8 0 (doorCommand d.val 5) s)
def execArmAdo (d : Fin 128) (s : State) : Result := done (atBlock 8 0 (doorCommand d.val 6) s)
def execDisarmAdo (d : Fin 128) (s : State) : Result := done (atBlock 8 0 (doorCommand d.val 7) s)

/-- DOOR_PROFILE_WRITE (R333): DOR_PROF, DOR_ACC or DOR_TARGET. -/
def execDoorProfileWrite (d : Fin 128) (reg : DoorReg) (v : Word) (s : State) : Result :=
  done (atBlock 8 0 (match reg with | .prof => profWrite d.val v | .acc => accWrite d.val v | .target => targetWrite d.val v) s)

/-- GEAR_COMMIT (R341). -/
def execGearCommit (d : Fin 128) (s : State) : Result := done (atBlock 8 0 (gearCommit d.val) s)

/-- DOOR_RETURN_FRAME (R326): SEQ_ECHO, STATUS, IA_MEAN, IB_MEAN, DOOR_POS, FAULT_CODE. -/
def execDoorReturnFrame (d : Fin 128) (echo status ia ib fault : BitVec 16) (pos : Word) (s : State) : Result :=
  done (if running s .io then doorReturn d.val {
    echo := echo.toNat, status := status.toNat, ia := ia.toInt, ib := ib.toInt, pos := pos.toInt, fault := fault.toNat } s else s)

/-- MODE_SWITCH_TIMEOUT (R329). -/
def execModeSwitchTimeout (d : Fin 128) (s : State) : Result := done (if running s .io then modeTimeout d.val s else s)

end Sys2Proof.Machine
end

