-- ==== Sys2Proof/Machine/Dsp.lean ====
section
/-! DEFINITION. Commands of the DSP unit and the planner program (R347 to R373). -/
namespace Sys2Proof.Machine

/-- What a command does in the group of a car. -/
def inGroupOf (c : Nat) (f : Nat → State → State) (s : State) : State :=
  match groupOf s c with
  | some g => f g.no s
  | none => s

/-- CALL_REGISTER (R351): the pending REGISTER, or else one of the staged record, is decided. -/
def execCallRegister (g : Fin 8) (s : State) : Result := done (atBlock 10 0 (callRegisterNow g.val) s)

/-- CALL_CANCEL (R355): OP 2 with the token; held behind a pending REGISTER (R548). -/
def execCallCancel (g : Fin 8) (token : Fin 256) (s : State) : Result := done (atBlock 10 0 (callCommand g.val 2 token.val none) s)

/-- INSERTION_STEP (R348, R358) and SWEEP_SLICE (R362). -/
def execInsertionStep (g : Fin 8) (s : State) : Result := done (insertionStep g.val s)
def execSweepSlice (g : Fin 8) (s : State) : Result := done (sweepSlice g.val s)

/-- QUEUE_RESULT (R361): what HST_QOP of the car reads. -/
def execQueueResult (c : Fin 64) (s : State) : Result :=
  done (inGroupOf c.val (fun g s => if running s .comp0 then queueAnswer g c.val s else s) s)

/-- TAG_RELEASE (R354). -/
def execTagRelease (s : State) : Result := done (if running s .comp0 then tagRelease s else s)

/-- CAR_LEAVES_SERVICE (R363). -/
def execCarLeavesService (c : Fin 64) (s : State) : Result :=
  done (inGroupOf c.val (fun g s => if running s .comp0 then leaveService g c.val (lostStops g s) else s) s)

/-- TABLE_REBUILD (R349). -/
def execTableRebuild (g : Fin 8) (s : State) : Result := done (tableRebuilt g.val s)

/-- REGEN_FORECAST (R370). -/
def execRegenForecast (s : State) : Result := done (regenForecast s)

/-- LONG_WAIT_EXPIRY (R373). -/
def execLongWaitExpiry (g : Fin 8) (token : Fin 256) (s : State) : Result :=
  done (if running s .comp0 then longWait g.val token.val s else s)

end Sys2Proof.Machine
end

