-- ==== Sys2Proof/Machine/Events.lean ====
section
/-! DEFINITION. Meanings of the event unit's and the recorder's commands (R532 to R537, R551 to R556). -/
namespace Sys2Proof.Machine

/-- The oldest event of a block reaches the event unit (R552 to R554). -/
def execEventArrival (block : EventBlock) (s : State) : Result :=
  match s.evt.inFlight.find? (fun m => decide (blockOf m.src = some block)) with
  | none => done s
  | some m => done (eventArrives m { s with evt := { s.evt with inFlight := s.evt.inFlight.erase m } })

/-- The recorder's MRAM banks can be written: chiplet 2 runs, and brace does not hold VC3 (R537). -/
def recorderWrites (s : State) : Bool := running s .mem2 && !inBrace s

/-- An open record closes and is sent to the EVENT stream once (R535). -/
def closeRecord (s : State) : State :=
  match s.evr.openSlot with
  | none => s
  | some k =>
    let s' : State := { s with evr := { s.evr with openSlot := none } }
    match tget none s.evr.slots k with
    | some r => eventRecordOut r s'
    | none => s'

/-- The slot that a new record takes (R534): one never written, the lowest; else that of the lowest SEQ among records whose
SEVERITY is at or below its own. -/
def slotFor (e : Evr) (sev : Nat) : Option Nat :=
  if e.slots.length < 65536 then
    (List.range (e.slots.length + 1)).find? (fun k => (tget none e.slots k).isNone)
  else
    let cand := e.slots.filterMap (fun x => match x.2 with
      | some r => if r.severity ≤ sev then some (x.1, r.seq) else none
      | none => none)
    (minBy (fun p => (p.2 : Int)) cand).map (·.1)

/-- The addresses of a snapshot set, up to the first 0 (R536). -/
def snapAddrs (e : Evr) (set : Nat) : List Word :=
  ((List.range 16).map (fun k => tget 0 e.sets (16 * set + k))).takeWhile (fun w => decide (w ≠ 0))

/-- SNAPSHOT_READ (R536): the reads of a set, each with its own time; a read of a block in reset fails and holds 0. -/
def snapshotReads : List Word → Nat → State → List SnapEntry × Nat × State
  | [], _, s => ([], 0, s)
  | a :: as, k, s =>
    let (acc, v, s1) := ctlRead .snapshot a s
    let bad := decide (acc = .held)
    let (es, f, s2) := snapshotReads as (k + 1) s1
    ({ addr := a, value := if bad then 0 else v, time := devTime s } :: es, f + (if bad then 2 ^ k else 0), s2)

/-- The end of the time in which an occurrence still folds into a record (R535). -/
def foldEnd (e : Evr) (r : EvRecord) : Nat := r.lastTime + Nat.max 1 e.repeatWin * 10000000

/-- An event folds into the open record (R535): same SOURCE, SEVERITY and DATA, within REPEAT_WIN of its last occurrence. -/
def foldsInto (e : Evr) (q : QueuedEvent) (r : EvRecord) : Bool :=
  decide (r.source = q.msg.src) && decide (r.severity = q.severity) && decide (r.data = q.msg.data)
    && decide (r.dlen = q.msg.dlen) && decide (q.msg.time ≤ foldEnd e r)

/-- The recorder takes the oldest queued event (R533 to R536): folded into the open record, written to a slot with its
snapshot, or dropped with event source 3585, which a dropped record of that source does not raise again. -/
def execEventRecordWrite (s : State) : Result :=
  match s.evr.queue with
  | [] => done s
  | q :: rest =>
    if recorderWrites s = false then done s
    else
      let s : State := { s with evr := { s.evr with queue := rest } }
      let fold := match s.evr.openSlot with
        | some k => (match tget none s.evr.slots k with
          | some r => if foldsInto s.evr q r then some (k, r) else none
          | none => none)
        | none => none
      match fold with
      | some (k, r) =>
        let r' := { r with rep := satAdd 4294967295 r.rep 1, lastTime := q.msg.time }
        done { s with evr := { s.evr with slots := tset none s.evr.slots k (some r') } }
      | none =>
        match slotFor s.evr q.severity with
        | none =>
          done (raiseIf (decide (q.msg.src ≠ 3585)) 3585 []
            { s with evr := { s.evr with dropped := satAdd 255 s.evr.dropped 1 } })
        | some k =>
          let s := closeRecord s
          let seq := s.evr.written % 4294967296
          let addrs := if q.snap = 0 then [] else snapAddrs s.evr q.snap
          let (es, failed, s) := snapshotReads addrs 0 s
          let r : EvRecord := {
            time := q.msg.time, seq := seq, source := q.msg.src, severity := q.severity, snap := decide (q.snap ≠ 0),
            modul := s.pins.pairSel, dlen := q.msg.dlen, rep := 0, lastTime := q.msg.time, data := q.msg.data,
            tag := frameTag s }
          let pool := if q.snap = 0 then s.evr.pool
            else tset none s.evr.pool k (some { seq := seq, set := q.snap, failed := failed, entries := es })
          done (raiseIf (decide (failed ≠ 0)) 3586 [] { s with evr := { s.evr with
            slots := tset none s.evr.slots k (some r), pool := pool, written := s.evr.written + 1, newest := k,
            openSlot := some k } })

/-- The open record, when REPEAT_WIN has passed since its last occurrence. -/
def windowPassed (s : State) : Bool :=
  match s.evr.openSlot.bind (tget none s.evr.slots) with
  | some r => decide (foldEnd s.evr r ≤ devTime s)
  | none => true

/-- REPEAT_WIN has passed since the open record's last occurrence (R535). -/
def execRecordClose (s : State) : Result := done (if windowPassed s then closeRecord s else s)

/-- Room returns in the recorder's queue after a loss (R532): event source 3584. -/
def execEventQueueRoom (s : State) : Result :=
  if s.evr.lossOpen = true ∧ s.evr.queue.length < 1024 then
    done (raise 3584 [] { s with evr := { s.evr with lossOpen := false } })
  else done s

/-- A write of EVT_ROUTEn (R552); that of an unused source is discarded and counted as a write to a read view (R549). -/
def execRouteWrite (req : Requester) (n : Fin 4096) (value : Word) (s : State) : Result :=
  done (ctlWrite req (wordN (0x16000000 + 4 * n.val)) value s).2

/-- A write of EVT_SOFT_CMD (R555). -/
def execSoftRaise (req : Requester) (value : Word) (s : State) : Result := done (atBlock 19 0 (softWrite (reqNumber req) value) s)

end Sys2Proof.Machine
end

