-- ==== Sys2Proof/Machine/Feedback.lean ====
section
/-! DEFINITION. Commands of Position Feedback (R286 to R314). The units run while the I/O die runs. -/
namespace Sys2Proof.Machine

/-- What a feedback unit does, while the I/O die runs. -/
def onIo (f : State → State) (s : State) : Result := done (if running s .io then f s else s)

/-- SSI_REQUEST (R288): `ready` is the level of SSIn_DATA at the request. -/
def execSsiRequest (n : Fin 16) (ready : Bool) (s : State) : Result := onIo (ssiRequest n.val ready) s

/-- SSI_FRAME_COMPLETE (R290, R291). -/
def execSsiFrameComplete (n : Fin 16) (frame : BitVec 40) (s : State) : Result := onIo (ssiFrame n.val frame.toNat) s

/-- FEEDBACK_RECORD (R287, R461): the one or two records of a feedback frame. -/
def execFeedbackRecord (station : Fin 2048) (r : FeedbackRec) (second : Option FeedbackRec) (s : State) : Result :=
  onIo (feedbackFrame station.val (r :: second.toList)) s

/-- QUAD_EDGE (R292, R297): the levels of A and B after the filter. -/
def execQuadEdge (n : Fin 16) (a b : Bool) (s : State) : Result := onIo (quadEdge n.val a b) s

/-- INDEX_EDGE (R293). -/
def execIndexEdge (n : Fin 16) (rise : Bool) (s : State) : Result := onIo (indexEdge n.val rise) s

/-- FUSION_TICK (R296, R298, R299). -/
def execFusionTick (c : Fin 64) (s : State) : Result := onIo (fusionTick c.val) s

/-- FBK_CMD 1 to 4 (R308, R310, R312). -/
def execFbkClear (c : Fin 64) (s : State) : Result := done (atBlock 9 0 (fbkClear c.val) s)
def execLearnBegin (c : Fin 64) (s : State) : Result := done (atBlock 9 0 (learnBegin c.val) s)
def execLearnEnd (c : Fin 64) (s : State) : Result := done (atBlock 9 0 (learnEnd c.val) s)
def execLearnAbort (c : Fin 64) (s : State) : Result := done (atBlock 9 0 (learnAbort c.val) s)

/-- DOOR_ZONE_EDGE (R311). -/
def execDoorZoneEdge (c : Fin 64) (rise : Bool) (s : State) : Result := onIo (zoneEdge c.val rise) s

end Sys2Proof.Machine
end

