-- ==== Sys2Proof/Machine/Field.lean ====
section
/-! DEFINITION. Commands of the field die (R415 to R437). -/
namespace Sys2Proof.Machine

/-- VFIELD_LOST, VFIELD_OVER, VFIELD_GOOD (R416), with VFIELD1 as group 0. -/
def execVfieldLost (g : Fin 2) (s : State) : Result := done (groupChange g.val .lost s)
def execVfieldOver (g : Fin 2) (s : State) : Result := done (groupChange g.val .beyond s)
def execVfieldGood (g : Fin 2) (s : State) : Result := done (groupChange g.val .good s)

/-- PROGRAM_FILTER_QUALIFIED (R420, R421) and RAW_READING_CHANGE (R418, R420, R491): the voltage at the input in 0.1 V. -/
def execProgramFilterQualified (k : Fin 48) (s : State) : Result := done (filterQualified k.val s)
def execRawReadingChange (k : Fin 48) (volts : BitVec 16) (s : State) : Result := done (rawChange k.val volts.toInt s)

/-- OUTPUT_OVERLOAD (R422): the load current in mA is what the output shows. -/
def execOutputOverload (o : Fin 24) (current : BitVec 16) (s : State) : Result := done (outOverload o.val current.toNat s)

/-- OVERLOAD_RETRY (R422, R436). -/
def execOverloadRetry (o : Fin 24) (s : State) : Result := done (outRetry o.val s)

/-- OUTPUT_OVERTEMP and OUTPUT_COOLED (R423). -/
def execOutputOvertemp (o : Fin 24) (s : State) : Result := done (outHot o.val s)
def execOutputCooled (o : Fin 24) (s : State) : Result := done (outCooled o.val s)

/-- OPEN_WIRE_SET and OPEN_WIRE_CLEAR (R424). -/
def execOpenWireSet (o : Fin 24) (current : BitVec 16) (s : State) : Result := done (openWire o.val current.toNat s)
def execOpenWireClear (o : Fin 24) (s : State) : Result := done (openWireClear o.val s)

/-- PULL_END (R429): HOLD follows, T_PULL ms after PULL began. -/
def execPullEnd (k : Fin 16) (s : State) : Result :=
  let x := coilOf s k.val
  done (if x.state = .pull then putCoil s k.val { x with state := .hold } else s)

/-- COIL_OFFSET_UPDATE (R430, R431): the mean current in mA over the last 50 µs. -/
def execCoilOffsetUpdate (k : Fin 16) (mean : BitVec 16) (s : State) : Result :=
  done (if running s .field then coilUpdate k.val mean.toInt s else s)

/-- COIL_TRIP (R432): OVERCURRENT, OPEN or SENSE, as CAUSE 1 to 3. -/
def execCoilTrip (k : Fin 16) (cause : Fin 3) (s : State) : Result :=
  done (if running s .field then coilTrip k.val (cause.val + 1) s else s)

/-- PAIR_TARGET_WRITE (R431). -/
def execPairTargetWrite (k : Fin 16) (target : Word) (s : State) : Result :=
  done (atBlock 12 0 (targetWritePair k.val target) s)

/-- PAIR_MODE_SWITCH_TIMEOUT (R431): the waiting switch is sent at once. -/
def execPairModeSwitchTimeout (k : Fin 16) (s : State) : Result :=
  let x := coilOf s k.val
  done (match x.switchTo with
    | some b => raise (2456 + k.val) [] (putCoil s k.val { x with strong := b, switchTo := none })
    | none => s)

/-- ADC_SAMPLE (R433, R434, R491): the 32 conversions of an instant. -/
def execAdcSample (vs : List (BitVec 16)) (s : State) : Result := done (adcSample vs s)

/-- ADC_REF_FAULT (R433): ADC_REF0 or ADC_REF1 has left its range, or is back in it. -/
def execAdcRefFault (r : Fin 2) (bad : Bool) (s : State) : Result :=
  let old := if r.val = 0 then s.fio.ref0Bad else s.fio.ref1Bad
  done (if running s .field then raiseIf (bad && !old) (2476 + r.val) [] { s with
    fio := if r.val = 0 then { s.fio with ref0Bad := bad } else { s.fio with ref1Bad := bad } } else s)

/-- FIELD_DIE_OVERTEMP (R435): the die temperature in °C. -/
def execFieldDieOvertemp (temp : BitVec 16) (s : State) : Result := done (fieldTemp temp.toInt s)

/-- KEEPER_LIVENESS_TIMEOUT (R53). -/
def execKeeperLivenessTimeout (s : State) : Result := done (if running s .field then keeperStrobe true s else s)

end Sys2Proof.Machine
end

