-- ==== Sys2Proof/Machine/Frame.lean ====
section
/-! DEFINITION. Meanings of the seal, presence, load and key commands (R123 to R143). -/
namespace Sys2Proof.Machine

/-- The samples of SEAL_B up to the third wrong one in a row: a seal break (R124, R126). -/
def execSealBreak (s : State) : Result := done (reassess (sealBreaks s))

/-- The samples of SEAL_B up to the 1,024th right one in a row: the loop is intact again (R124). -/
def execSealLoopRestored (s : State) : Result := done (reassess (sealSamples true (1024 - s.frm.sealRight) s))

/-- PRESENCE_N has been low for 100 ms in a row (R127). -/
def execPresenceBegin (s : State) : Result :=
  if running s .keeper then done (presenceBegins { s with pins := { s.pins with presenceLow := true } }) else done s

/-- PRESENCE_N goes high: presence ends (R127). -/
def execPresenceEnd (s : State) : Result :=
  done (reassess (presenceEnds { s with pins := { s.pins with presenceLow := false } }))

/-- Writing 1 to TAMPER (R128). -/
def execTamperClear (src : LogSource) (s : State) : Result := done (atBlock 3 0 (tamperClear src) s)

/-- FRM_LOAD_CMD STAGE_BEGIN (R131). -/
def execFrmStageBegin (s : State) : Result := done (atBlock 3 0 stageBegin s)

/-- LENGTH bytes have been written (R131): LENGTH is the container's own (R118). -/
def execStagingComplete (s : State) : Result :=
  let set := !s.frm.activeSet
  let len := leAt (bankBytes s.frm set) 8 8
  if s.frm.setState = .staging ∧ 0 < len ∧ len ≤ s.frm.stageGot then
    done (raise 64 [] { s with frm :=
      (if set then { s.frm with setState := .staged, stageLen := len, lenB := len }
       else { s.frm with setState := .staged, stageLen := len, lenA := len }) })
  else done s

/-- FRM_LOAD_CMD VERIFY (R130, R134). -/
def execFrmVerify (src : LogSource) (s : State) : Result := done (atBlock 3 0 (verify src) s)

/-- FRM_LOAD_CMD ACTIVATE (R131 to R133). -/
def execFrmActivate (src : LogSource) (s : State) : Result := done (atBlock 3 0 (activate src) s)

/-- FRM_LOAD_CMD REVERT (R131, R132, R136). -/
def execFrmRevert (src : LogSource) (s : State) : Result := done (atBlock 3 0 (revert src) s)

/-- FRM_LOAD_CMD ABORT (R131). -/
def execFrmAbort (src : LogSource) (s : State) : Result := done (atBlock 3 0 (abortLoad src) s)

/-- FRM_LOAD_CMD BENCH_ARM (R137). -/
def execBenchArm (src : LogSource) (s : State) : Result := done (atBlock 3 0 (benchArm src) s)

/-- FRM_LOAD_CMD BENCH_DISARM (R137). -/
def execBenchDisarm (s : State) : Result := done (atBlock 3 0 benchDisarm s)

/-- A KEY enrolment request (R123). -/
def execKeyEnrol (src : LogSource) (slot : Fin 2) (key signature : List Byte) (s : State) : Result :=
  done (atBlock 3 0 (keyEnrol src slot.val key signature) s)

/-- A KEY removal request (R123). -/
def execKeyRemove (src : LogSource) (slot : Fin 2) (signature : List Byte) (s : State) : Result :=
  done (atBlock 3 0 (keyRemove src slot.val signature) s)

end Sys2Proof.Machine
end

