-- ==== Sys2Proof/Machine/Hoist.lean ====
section
/-! DEFINITION. Commands of the hoist channels (R247 to R285). -/
namespace Sys2Proof.Machine

/-- HOIST_FRAME_COMPUTE (R259). -/
def execHoistFrameCompute (c : Fin 64) (s : State) : Result := done (hoistFrame c.val s)

/-- HST_CMD 1 to 6 (R264, R273, R274), held while the I/O die takes no new work (R71). -/
def execHstStart (c : Fin 64) (s : State) : Result := done (atBlock 7 0 (hstCommand c.val 1) s)
def execHstStop (c : Fin 64) (s : State) : Result := done (atBlock 7 0 (hstCommand c.val 2) s)
def execHstResume (c : Fin 64) (s : State) : Result := done (atBlock 7 0 (hstCommand c.val 3) s)
def execHstCancel (c : Fin 64) (s : State) : Result := done (atBlock 7 0 (hstCommand c.val 4) s)
def execHstReset (c : Fin 64) (s : State) : Result := done (atBlock 7 0 (hstCommand c.val 5) s)
def execHstRelevel (c : Fin 64) (s : State) : Result := done (atBlock 7 0 (hstCommand c.val 6) s)

/-- The address of HST_QOP of a channel. -/
def qopAddr (c : Nat) : Word := wordN (0x0A000000 + c * 0x1000 + 0x050)

/-- A write of HST_QOP: OP and INDEX. -/
def queueCommand (req : Requester) (c op index : Nat) (s : State) : Result :=
  done (ctlWrite req (qopAddr c) (regOf [(31, 28, op), (27, 24, index)]) s).2

/-- HST_QOP 1 to 4 (R268), written by a planner CE (R248). -/
def execQueueInsert (req : Requester) (c : Fin 64) (index : Fin 16) (s : State) : Result :=
  queueCommand req c.val 1 index.val s
def execQueueReplace (req : Requester) (c : Fin 64) (index : Fin 16) (s : State) : Result :=
  queueCommand req c.val 2 index.val s
def execQueueRemove (req : Requester) (c : Fin 64) (index : Fin 16) (s : State) : Result :=
  queueCommand req c.val 3 index.val s
def execQueueClear (req : Requester) (c : Fin 64) (index : Fin 16) (s : State) : Result :=
  queueCommand req c.val 4 index.val s

/-- VCAP_WRITE (R272) and VLIM_WRITE (R275). -/
def execVcapWrite (c : Fin 64) (v : BitVec 16) (s : State) : Result := done (atBlock 7 0 (vcapWrite c.val v.toNat) s)
def execVlimWrite (c : Fin 64) (up : Bool) (v : Word) (s : State) : Result := done (atBlock 7 0 (vlimWrite c.val up v.toInt) s)

/-- DRIVE_RETURN_FRAME (R263, R279): SEQ_ECHO, STATUS, FAULT_CODE, and whether the drive reports the deck within 1 mm. -/
def execDriveReturnFrame (c : Fin 64) (echo status fault : BitVec 16) (deckOk : Bool) (s : State) : Result :=
  if running s .io = false ∨ (carCfg s c.val).isNone then done s
  else done (putHst s c.val { hstOf s c.val with
    seqEcho := echo.toNat, drvStatus := status.toNat, drvFault := fault.toNat, deckOk := deckOk })

/-- START_TIMEOUT (R264): REFUSE 8 and event source 1026 + 4c. -/
def execStartTimeout (c : Fin 64) (s : State) : Result :=
  let h := hstOf s c.val
  if h.state = .start then
    done (raise (1026 + 4 * c.val) [] (putHst s c.val { h with
      state := .rest, runRequest := false, refuse := 8, noEntry := false, rescueFlight := false }))
  else done s

/-- SETTLE_EXPIRY (R264, R266, R279): ARRIVE ends, unless the deck is still to come. -/
def execSettleExpiry (c : Fin 64) (s : State) : Result :=
  let h := hstOf s c.val
  match carCfg s c.val with
  | none => done s
  | some k =>
    if h.state ≠ .arrive then done s
    else if deckInPlace k h then
      done (arriveEnds c.val (putHst s c.val { h with settled := true }))
    else done (putHst s c.val { h with settled := true, deckWait := true })

/-- DECK_LATE (R279): twice the planned time of the move that began with the flight is over. -/
def execDeckLate (c : Fin 64) (s : State) : Result :=
  let h := hstOf s c.val
  match carCfg s c.val with
  | some k => done (raiseIf (decide (h.state = .flight ∨ h.state = .arrive) && !(deckInPlace k h)) (1027 + 4 * c.val) [] s)
  | none => done s

/-- RESCUE_COMMAND (R282): a new rise of UP or DOWN while RESCUE_ON is high. It is refused unless exactly one of them is high and the car
alone is selected. -/
def execRescueCommand (c : Fin 64) (up : Bool) (s : State) : Result :=
  if (carCfg s c.val).isNone ∨ running s .io = false ∨ rescueActive s = false then done s
  else match rescueCommand s with
    | some (n, u, d) => done (if n = c.val ∧ u ≠ d ∧ u = up then rescueStart c.val up s else hoistRefuse c.val 9 1 s)
    | none => done (hoistRefuse c.val 9 1 s)

end Sys2Proof.Machine
end

