-- ==== Sys2Proof/Machine/Keeper.lean ====
section
/-! DEFINITION. Meanings of the Keeper's commands: firmware slots, sensors, the management service, the sealed path, the
calendar, Smoke and the debug port (R515 to R543), and held Keeper accesses (R546). -/
namespace Sys2Proof.Machine

/-- KPR_FW STAGE_BEGIN (R519). -/
def execFwStageBegin (s : State) : Result := done (atBlock 0 0 fwStageBegin s)
/-- KPR_FW VERIFY (R519). -/
def execFwVerify (s : State) : Result := done (atBlock 0 0 fwVerify s)
/-- KPR_FW SELECT (R519). -/
def execFwSelect (s : State) : Result := done (atBlock 0 0 fwSelect s)
/-- KPR_FW ABORT (R519). -/
def execFwAbort (s : State) : Result := done (atBlock 0 0 fwAbort s)
/-- KPR_FW RAISE_SVN (R520). -/
def execRaiseSvn (s : State) : Result := done (atBlock 0 0 raiseSvn s)

/-- A fan has turned at a speed for 5 s (R523): below its MIN, where MIN is not 0, it raises event source 133. -/
def execFanSlow (n : Fin 4) (rpm : BitVec 16) (s : State) : Result :=
  let min := tget 0 s.kpr.fanMin n.val
  done (raiseIf (decide (rpm.toNat < min)) 133 []
    { s with kpr := { s.kpr with fanSpeed := tset 0 s.kpr.fanSpeed n.val rpm.toNat } })

/-- The range of R47 of a voltage sensor, in mV; none where R47 gives the rail none. -/
def voltRange (set n : Nat) : Option (Nat × Nat) :=
  if n = 0 ∨ n = 12 ∨ n = 13 ∨ n = 14 then some (set - 15, set + 15)
  else match n with
  | 1 => some (1045, 1155) | 2 => some (1710, 1890) | 3 => some (3135, 3465) | 4 => some (825, 875)
  | 5 => some (1164, 1236) | 6 => some (776, 824) | 7 => some (3135, 3465) | 8 => some (855, 945) | 9 => some (855, 945)
  | 10 => some (19200, 30000) | 11 => some (19200, 30000)
  | _ => none

/-- The 16 voltage sensors are read (R522): KPR_VSENSEn, and event source 134 once per excursion outside R47. -/
def execVoltageSample (mv : List Nat) (s : State) : Result :=
  let step (s : State) (p : Nat × Nat) : State :=
    let out := match voltRange s.rst.vset p.1 with
      | some (lo, hi) => decide (p.2 < lo) || decide (hi < p.2)
      | none => false
    raiseIf (out && !(s.kpr.vOut.testBit p.1)) 134 []
      { s with kpr := { s.kpr with vsense := tset 0 s.kpr.vsense p.1 (p.2 % 65536), vOut := putBit s.kpr.vOut p.1 out } }
  done ((numbered (mv.take 16)).foldl step s)

/-! ## The management service -/

/-- A session. -/
def session (s : State) (n : Nat) : Session := tget ({} : Session) s.kpr.sessions n
def putSession (s : State) (n : Nat) (x : Session) : State :=
  { s with kpr := { s.kpr with sessions := tset ({} : Session) s.kpr.sessions n x } }

/-- A request answered (R525). -/
def answer (n : Nat) (tag : Word) (status : Nat) (data : List Word) (s : State) : State :=
  putSession s n { session s n with answer := some { tag := tag, status := status, data := data } }

/-- A TLS connection on a management port (R524): taken as the lowest free of 8 sessions when its client certificate's
fingerprint is in the access table; else closed with event source 130. -/
def execMgmtConnect (port : MgPort) (fingerprint : List Byte) (authenticated : Bool) (s : State) : Result :=
  if running s .keeper = false then done s
  else
    match s.img.network.access.find? (fun e => decide (e.fingerprint = fingerprint)),
        (List.range 8).find? (fun n => !(session s n).isOpen) with
    | some e, some n =>
      if authenticated then
        done (putSession s n { isOpen := true, port := port, rights := e.rights, tenant := e.tenant })
      else done (raise 130 [] s)
    | _, _ => done (raise 130 [] s)

/-- Registers that need the LOAD right: FRM_LOAD_CMD, KPR_FW, STO_CMD, NET_PAIR_CMD and FBK_CMD of a car (R526). -/
def loadRegister (addr : Word) : Bool :=
  decide (addr = 0x03000008 ∨ addr = 0x00000020 ∨ addr = 0x13000040 ∨ addr = 0x11000204)
    || (decide (0x0C000000 ≤ addr.toNat ∧ addr.toNat < 0x0C040000) && decide (addr.toNat % 0x1000 = 0x030))

/-- CMB_ACC_ID, CMB_ACC_CTRL and CMB_ACC_DATA (R526). -/
def accRegister (addr : Word) : Bool := decide (addr = 0x08000010 ∨ addr = 0x08000014 ∨ addr = 0x08000018)

/-- A session may read, or write, an address (R526). -/
def mayRead (rights : Nat) (addr : Word) : Bool := rights.testBit 0 || (rights.testBit 4 && accRegister addr)
def mayWrite (rights : Nat) (addr : Word) : Bool :=
  (if loadRegister addr then rights.testBit 2 else rights.testBit 1) || (rights.testBit 4 && accRegister addr)

/-- The addresses of `len` words from an address. -/
def wordAddrs (addr : Word) (len : Nat) : List Word := (List.range len).map (fun k => addr + wordN (4 * k))

/-- How a request that has run ends: its answer, held at a block in reset, or relayed to the safety dies, which are to answer it. -/
inductive ReqEnd where
  | answered (status : Nat) (data : List Word)
  | held
  | relayed
deriving DecidableEq, Repr

/-- STATUS of one refused access (R525). -/
def accessStatus : Access → Nat
  | .ok => 0 | .noRegister => 2 | .width => 2 | .overflow => 3 | .held => 3

/-- Words read one after another; the first refusal gives the status, and reading goes on (R12, R525). -/
def readWords (req : Requester) : List Word → State → ReqEnd × State
  | [], s => (.answered 0 [], s)
  | a :: as, s =>
    let (acc, v, s1) := ctlRead req a s
    if acc = .held then (.held, s)
    else
      let (e, s2) := readWords req as s1
      match e with
      | .answered st vs => (.answered (if acc = .ok then st else accessStatus acc) (v :: vs), s2)
      | x => (x, s2)

/-- A written command was refused for want of presence (R526), as the register's own result says after it: FRM_LOAD_CMD, TAMPER of FRM_SEAL,
KPR_FW, STO_CMD, NET_PAIR_CMD, CYC_FORCE_CMD, and FBK_CMD of a car. `before` is the state at the write, `s` what the write leaves of it
where FRM_REFUSE's code was none. -/
def presenceRefused (addr value : Word) (before s : State) : Bool :=
  !before.frm.presence
    && ((decide (addr = 0x03000008) && decide (s.frm.refuse = 11))
      || (decide (addr = 0x0300000C) && bitAt value 31 && s.frm.tamper)
      || (decide (addr = 0x00000020) && decide (fld value 31 28 = 3 ∨ fld value 31 28 = 5) && decide (s.kpr.fwResult = 3))
      || (decide (addr = 0x13000040) && decide (fld value 31 28 = 1) && decide (s.sto.result = 1))
      || (decide (addr = 0x11000204) && decide (fld value 31 28 = 1) && decide (s.net.result = 3))
      || (decide (addr = 0x0600001C) && decide (fld value 31 28 = 1) && decide (s.cyc.result = 2))
      || (decide (windowOf addr = some 9) && decide (addr.toNat % 0x1000 = 0x030) && decide (fld value 3 0 = 2)
        && decide ((fbkOf s ((addr.toNat - 0x0C000000) / 0x1000)).result = 2)))

/-- The state with FRM_REFUSE's code taken as none. -/
def noRefuse (s : State) : State := { s with frm := { s.frm with refuse := 0 } }

/-- Words written one after another (R525). -/
def writeWords (req : Requester) : List (Word × Word) → State → ReqEnd × State
  | [], s => (.answered 0 [], s)
  | (a, v) :: as, s =>
    let (acc, s1) := ctlWrite req a v s
    if acc = .held then (.held, s)
    else
      let st0 := if acc ≠ .ok then accessStatus acc
        else if presenceRefused a v s (ctlWrite req a v (noRefuse s)).2 then 5 else 0
      let (e, s2) := writeWords req as s1
      match e with
      | .answered st vs => (.answered (if st0 = 0 then st else st0) vs, s2)
      | x => (x, s2)

/-- STAGE (R525): image bytes into whichever of the inactive bank set and the inactive firmware slot is STAGING; STATE where neither or
both are. -/
def stageRequest (offset : Nat) (data : List Byte) (s : State) : ReqEnd × State :=
  let img := decide (s.frm.setState = .staging)
  let fw := decide (s.kpr.slotState = .staging)
  if 65536 < data.length then (.answered 4 [], s)
  else if img = fw then (.answered 3 [], s)
  else if img && setFetched s (!s.frm.activeSet) then
    (.answered 3 [], { s with frm := { s.frm with refuse := 14, refSection := 0, refIndex := 0 } })
  else if img then
    if 134217728 < offset + data.length then (.answered 4 [], s)
    else
      let f := s.frm
      let f := if f.activeSet then { f with setA := writeBytes f.setA offset data, lenA := Nat.max f.lenA (offset + data.length) }
        else { f with setB := writeBytes f.setB offset data, lenB := Nat.max f.lenB (offset + data.length) }
      (.answered 0 [], { s with frm := { f with stageGot := f.stageGot + data.length } })
  else if 15728640 < offset + data.length then (.answered 4 [], s)
  else
    let k := s.kpr
    let b := inactiveSlot k
    (.answered 0 [],
      fwStaged { s with kpr := { putSlot k b (writeBytes (fwSlot k b) offset data) with fwGot := k.fwGot + data.length } })

/-- RECORDS (R525): records from a slot on, 64 words each; a slot never written reads 0. -/
def recordsRequest (first : Word) (count : Nat) (s : State) : ReqEnd × State :=
  if count < 1 ∨ 256 < count then (.answered 4 [], s)
  else
    let words (k : Nat) : List Word := match tget none s.evr.slots k with
      | some r => recordWords r
      | none => List.replicate 64 0
    (.answered 0 ((List.range count).flatMap (fun i => words (first.toNat + i))), s)

/-- The log source of a session (R140). -/
def sessionSource (x : Session) : LogSource :=
  match x.port with | .mg0 => .mg0 | .mg1 => .mg1

/-- KEY (R123, R525). -/
def keyRequest (src : LogSource) (enrol : Bool) (slot : Nat) (key signature : List Byte) (s : State) : ReqEnd × State :=
  let s' := if enrol then keyEnrol src slot key signature s else keyRemove src slot signature s
  (.answered (if s'.frm.log ≠ s.frm.log then 0 else if s'.frm.refuse = 11 then 5 else 3) [], s')

/-- The rights that a request needs (R526). -/
def reqAllowed (rights : Nat) : MgmtReq → Bool
  | .read _ addr len => (wordAddrs addr len).all (mayRead rights)
  | .write _ addr data => (wordAddrs addr data.length).all (mayWrite rights)
  | .stage _ _ _ => rights.testBit 2
  | .relay _ _ _ _ _ => rights.testBit 3
  | .records _ _ _ => rights.testBit 0
  | .key _ _ _ _ _ => rights.testBit 2

/-- A READ or WRITE of a number of words that R525 does not give. -/
def reqSizeBad : MgmtReq → Bool
  | .read _ _ len => decide (len < 1 ∨ 256 < len)
  | .write _ _ data => decide (data.length < 1 ∨ 256 < data.length)
  | _ => false

/-- One request of a session (R525, R526, R527): SIZE, else RIGHTS with event source 131, else what its OP does. -/
def runRequest (n : Fin 8) (r : MgmtReq) (s : State) : ReqEnd × State :=
  let x := session s n.val
  if reqSizeBad r then (.answered 4 [], s)
  else if reqAllowed x.rights r = false then (.answered 1 [], raise 131 [] s)
  else match r with
  | .read _ addr len => readWords (.session n) (wordAddrs addr len) s
  | .write _ addr data => writeWords (.session n) ((wordAddrs addr data.length).zip data) s
  | .stage _ offset data => stageRequest offset data s
  | .relay tag toA toB code payload =>
    if 1048576 < payload.length then (.answered 4 [], s)
    else (.relayed, sealedRelay (some n.val) tag toA toB code payload s)
  | .records _ first count => recordsRequest first count s
  | .key _ enrol slot key signature => keyRequest (sessionSource x) enrol slot key signature s

/-- The tag of a request. -/
def reqTag : MgmtReq → Word
  | .read t _ _ => t
  | .write t _ _ => t
  | .stage t _ _ => t
  | .relay t _ _ _ _ => t
  | .records t _ _ => t
  | .key t _ _ _ _ => t

/-- A SEALED request of the session awaits its answers, and its later requests wait behind it (R525). -/
def awaitsSealed (s : State) (n : Nat) : Bool := s.kpr.relays.any (fun r => decide (r.session = some n))

/-- An open session handles a request at once: none of its own waits before it (R525). -/
def sessionFree (s : State) (n : Nat) : Bool :=
  (session s n).isOpen && decide ((session s n).waiting = []) && !(awaitsSealed s n)

/-- What a session's request that has run answers. -/
def endRequest (n : Fin 8) (r : MgmtReq) (e : ReqEnd) (s : State) : State :=
  match e with
  | .answered st vs => answer n.val (reqTag r) st vs s
  | _ => s

/-- A session's waiting requests handled in order, up to one that is held at a block in reset or awaits answers of the safety dies
(R525, R546). -/
def drainSession (n : Fin 8) : Nat → State → State
  | 0, s => s
  | k + 1, s =>
    if awaitsSealed s n.val then s
    else match (session s n.val).waiting with
    | [] => s
    | r :: rest =>
      match runRequest n r s with
      | (.held, _) => s
      | (e, s') => drainSession n k (endRequest n r e (putSession s' n.val { session s' n.val with waiting := rest }))

/-- A request of an open session is handled, or joins those that wait before it (R525). -/
def submit (n : Fin 8) (r : MgmtReq) (s : State) : State :=
  let x := session s n.val
  if sessionFree s n.val then
    match runRequest n r s with
    | (.held, _) => putSession s n.val { x with waiting := [r] }
    | (e, s') => endRequest n r e s'
  else if x.isOpen = false then s
  else drainSession n (x.waiting.length + 1) (putSession s n.val { x with waiting := x.waiting ++ [r] })

/-- READ (R525): LEN words from ADDR. -/
def execMgmtRead (n : Fin 8) (tag addr : Word) (len : Nat) (s : State) : Result := done (submit n (.read tag addr len) s)

/-- WRITE (R525): words to ADDR. -/
def execMgmtWrite (n : Fin 8) (tag addr : Word) (data : List Word) (s : State) : Result :=
  done (submit n (.write tag addr data) s)

/-- A Keeper access held at a block in reset is abandoned after 1 ms (R546): STATUS 3, and the session goes on. One that waits behind a held
command of its session waits on (R548), and so do those behind a SEALED request. -/
def execKeeperAccessTimeout (n : Fin 8) (s : State) : Result :=
  let s := drainSession n ((session s n.val).waiting.length) s
  match (session s n.val).waiting with
  | [] => done s
  | r :: rest =>
    if waitsBehind s (.session n) ∨ awaitsSealed s n.val = true then done s
    else
      let s := answer n.val (reqTag r) 3 [] (putSession s n.val { session s n.val with waiting := rest })
      done (drainSession n rest.length s)

/-- The sessions' waiting requests that can now go on (R546, R548). -/
def drainWaiting (s : State) : State :=
  (List.finRange 8).foldl (fun s n => drainSession n ((session s n.val).waiting.length) s) s

/-- What happens while no command waits (log entry 1): a count of REFCLK, with it the seal loop's bits and gPTP messages, a turn of the
gates, and the requests that waited; pushes of CAN frames and call registrations are decided (R351, R445). -/
def idleTurn (s : State) : State := drainWaiting (callDecideAll (canDecideAll (gateTurn (gptpTurn (devTime s) (sealTurn (clockCount s))))))

/-- STAGE (R525). -/
def execMgmtStage (n : Fin 8) (tag : Word) (offset : Nat) (data : List Byte) (s : State) : Result := done (submit n (.stage tag offset data) s)

/-- SEALED (R527): a request relayed byte for byte to die A (0), die B (1) or both (2). -/
def execMgmtSealed (n : Fin 8) (tag : Word) (which : Fin 3) (code : BitVec 8) (payload : List Byte) (s : State) : Result :=
  done (submit n (.relay tag (decide (which.val ≠ 1)) (decide (which.val ≠ 0)) code.toNat payload) s)

/-- A relay still waits for a die. -/
def relayWaits (ch : Channel) (r : SealedRelay) : Bool :=
  (match ch with | .a => r.toA | .b => r.toB) && !(r.answers.any (fun a => decide (a.1 = ch)))

/-- The answers of a relay in the order A, B. -/
def relayAnswers (r : SealedRelay) : List (Channel × Nat × Nat × List Byte) :=
  r.answers.filter (fun a => decide (a.1 = .a)) ++ r.answers.filter (fun a => decide (a.1 = .b))

/-- One die's answer as event source 132 holds it (R559). -/
def answerWord (a : Channel × Nat × Nat × List Byte) : Word :=
  regOf [(23, 16, a.2.2.1), (15, 8, a.2.1 + 0x80), (7, 0, match a.1 with | .a => 0 | .b => 1)]

/-- A request whose every answer has come: for a session's, which was relayed, event source 132 and the answers to the session, each a word
and the first 32 bytes of the die's log entry; STATE where no die answered. The Keeper's own FREEZE, THAW and BENCH are no relays (R527). -/
def relayDone (r : SealedRelay) (s : State) : State :=
  let xs := relayAnswers r
  match r.session with
  | some n =>
    let s := raise 132 (xs.map answerWord) s
    if (session s n).isOpen then
      answer n r.tag (if xs = [] then 3 else 0)
        (xs.flatMap (fun a => answerWord a :: (List.range 8).map (fun k => wordN (leNat ((a.2.2.2.drop (4 * k)).take 4))))) s
    else s
  | none => s

/-- SEALED_ANSWER (R527): the oldest answer of a die goes to the oldest relay that waits for that die; a die that has none did not answer,
and the relay goes on without it. -/
def execSealedAnswer (ch : Channel) (s : State) : Result :=
  let d := safOf s ch
  let got := d.answers.head?
  let s := putSaf s ch { d with answers := d.answers.drop 1 }
  let k := s.kpr
  match k.relays.findIdx? (relayWaits ch) with
  | none => done s
  | some i =>
    let r := k.relays.getD i default
    let r : SealedRelay := match got with
      | some (code, res, log) => { r with answers := r.answers ++ [(ch, code, res, log)] }
      | none => match ch with | .a => { r with toA := false } | .b => { r with toB := false }
    let k : Kpr := match ch with | .a => { k with sealedA := k.sealedA.drop 1 } | .b => { k with sealedB := k.sealedB.drop 1 }
    if relayWaits .a r || relayWaits .b r then done { s with kpr := { k with relays := k.relays.set i r } }
    else done (relayDone r { s with kpr := { k with relays := k.relays.eraseIdx i } })

/-- RECORDS (R525). -/
def execMgmtRecords (n : Fin 8) (tag : Word) (first : Word) (count : Nat) (s : State) : Result := done (submit n (.records tag first count) s)

/-- KEY (R123, R525). -/
def execMgmtKey (n : Fin 8) (tag : Word) (enrol : Bool) (slot : Fin 2) (key signature : List Byte) (s : State) : Result :=
  done (submit n (.key tag enrol slot.val key signature) s)

/-- RTC second: the calendar counts (R528 to R531). -/
def execRtcSecond (s : State) : Result := done (rtcSecond s)

/-- TMB_CAL_SET SET (R529, R530, R548). -/
def execCalendarSet (req : Requester) (s : State) : Result := done (ctlWrite req 0x15000028 (regOf [(31, 28, 1)]) s).2

/-! ## The debug port -/

/-- An instruction of the debug port has been taken. -/
def dbgTakes (i : DebugInstr) (out : List Word) (s : State) : State :=
  { s with kpr := { s.kpr with dbgInstr := i, dbgOut := out } }

/-- BYPASS (R540): one bit of delay between DBG_TDI and DBG_TDO. -/
def execDbgBypass (tdi : Bool) (s : State) : Result :=
  done (dbgTakes .bypass [wordN (b2n s.kpr.dbgBypass)] { s with kpr := { s.kpr with dbgBypass := tdi } })

/-- IDCODE (R540). -/
def execDbgIdcode (s : State) : Result := done (dbgTakes .idcode [0x11FC0F4B] s)

/-- SAMPLE/PRELOAD (R540): the boundary cells of the north and south regions are captured and loaded. -/
def execDbgSamplePreload (captured preload : List Bool) (s : State) : Result :=
  done (dbgTakes .samplePreload [] { s with kpr := { s.kpr with dbgCells := captured, dbgPreload := preload, dbgDrives := false } })

/-- EXTEST (R540): accepted only with presence while the compute, I/O and memory islands are held in reset. -/
def execDbgExtest (s : State) : Result :=
  let held := islandDies.all (fun x => decide (s.dies.get x = .inReset))
  if s.frm.presence && held then done (dbgTakes .extest [] { s with kpr := { s.kpr with dbgDrives := true } }) else done s

/-- AUTH (R540): the answer signs the challenge with an enrolled key; a failure raises event source 136 (R541). -/
def execDbgAuth (answer : List Byte) (s : State) : Result :=
  let ok := (enrolledKeys s.frm).any (fun k => ecdsaP384 k (Config.challenge s.kpr.dbgChallenge) answer)
  done (raiseIf (!ok) 136 [] (dbgTakes .auth []
    { s with kpr := { s.kpr with dbgAuth := ok, dbgChallenge := s.kpr.dbgChallenge + 1 } }))

/-- BOOTLOAD (R517, R540): a Keeper image written into a slot, only while both slots have failed, with presence. -/
def execDbgBootload (slot : Bool) (image : List Byte) (s : State) : Result :=
  if s.kpr.noFirmware ∧ s.frm.presence then
    done (dbgTakes .bootload [] { s with kpr := putSlot s.kpr slot (writeBytes [] 0 (image.take 15728640)) })
  else done s

/-- ACCESS (R541): the control space and the registers of halted CEs after AUTH; comb slice SRAM and router state only in FROZEN; writes
with presence. The field die is out of its reach. -/
def execDbgAccess (op : DebugOp) (s : State) : Result :=
  let reach (a : Word) : Bool := decide (windowOf a ≠ some 12)
  let frozen := decide (s.kpr.smoke = .frozen)
  if s.kpr.dbgAuth = false ∨ running s .keeper = false then done (dbgTakes .access [] s)
  else match op with
  | .read a =>
    if reach a then
      let (acc, v, s') := ctlRead .debug a s
      done (dbgTakes .access (if acc = .ok then [v] else []) s')
    else done (dbgTakes .access [] s)
  | .write a v =>
    if s.frm.presence && reach a then done (dbgTakes .access [] (ctlWrite .debug a v s).2) else done (dbgTakes .access [] s)
  | .ceReg n k =>
    done (dbgTakes .access (if (ceOf s n.val).st = .halt then [greg (ceOf s n.val) k.val] else []) s)
  | .sliceSram id k => done (dbgTakes .access (if frozen then [pword (pointOf s id.val) k.val] else []) s)
  | .router l =>
    let x := tget ({} : Link) s.trs.links l.val
    done (dbgTakes .access (if frozen then wordN x.passed :: [x.vc0, x.vc1, x.vc2, x.vc3].map (fun y => wordN y.credits) else []) s)

/-! ## Smoke (R538, R539) -/

/-- FREEZE_N has been low for 10 ms: Smoke is requested at once, or when R90 and the start-up let it (R538). -/
def execSmokeRequest (s : State) : Result :=
  done (smokeCheck { s with pins := { s.pins with freezeLow := true }, kpr := { s.kpr with smokePin := true } })

/-- REQUESTED, and the module sends no more or has no fit partner: FREEZE goes to both safety dies (R538). -/
def execSmokeWaitSafe (s : State) : Result :=
  if s.kpr.smoke = .requested && running s .keeper && (!(sending s) || !(partnerHas s (fun w => w.fit && !w.gone))) then
    done (sealedOriginate 5 [] (smokeTo .waitSafe { s with kpr := { s.kpr with smokeSince := s.now, smokeWaited := 0 } }))
  else done s

/-- SMOKE_SAFE in both channels: every CE is asked to halt, and the schedulers and the call port stop (R538, R539). -/
def execSmokeFrozen (s : State) : Result :=
  if s.kpr.smoke = .waitSafe && s.saf.smokeSafe && running s .keeper then
    let s : State := { s with kpr := { s.kpr with smokeWaited := smokeWaited s } }
    done (smokeTo .frozen (allCes.foldl (fun s n => requestHalt 3 n s) s))
  else done s

/-- FREEZE_N has been high for 10 ms: Smoke's halt is withdrawn, THAW goes to both dies, and with a partner holding a resynchronisation
starts (R538). -/
def execSmokeThaw (s : State) : Result :=
  let s : State := { s with pins := { s.pins with freezeLow := false }, kpr := { s.kpr with smokePin := false } }
  if (s.kpr.smoke = .requested ∨ s.kpr.smoke = .waitSafe ∨ s.kpr.smoke = .frozen) ∧ running s .keeper = true then
    let s : State := { s with kpr := { s.kpr with smokeWaited := smokeWaited s } }
    let s := smokeTo .thawing (allCes.foldl (fun s n => withdrawHalt 3 n s) s)
    let s := sealedOriginate 6 [] s
    done (settle (if partnerHas s (fun w => w.holder) then pairStart 2 s else s))
  else done s

end Sys2Proof.Machine
end

