-- ==== Sys2Proof/Machine/Net.lean ====
section
/-! DEFINITION. Meanings of the network, station and pair commands (R455 to R486). -/
namespace Sys2Proof.Machine

/-- PORT_STATE_CHANGE (R457). -/
def execPortStateChange (p : Fin 8) (st : PortState) (s : State) : Result := done (portChange p.val st s)

/-- HELD_FRAME_TIMEOUT (R457). -/
def execHeldFrameTimeout (p : Fin 8) (s : State) : Result := done (heldTimeout p.val s)

/-- PRP_FRAME_RECEIVE (R455, R456): size, VLAN, sender, sequence number, whether it carries a trailer, and whether its FCS is good. -/
def execPrpFrameReceive (p : PortFrame) (src : BitVec 48) (seq : BitVec 16) (trailer fcsGood : Bool) (s : State) : Result :=
  done (prpReceive p.port.val p.bytes p.vlan src seq trailer fcsGood s)

/-- PRP_SUPERVISION (R456). -/
def execPrpSupervision (k : Fin 4) (s : State) : Result := done (prpSupervision k.val s)

/-- GPTP_MESSAGE (R458). -/
def execGptpMessage (p : Fin 8) (m : GptpMsg) (s : State) : Result := done (gptpMessage p.val m s)

/-- STATION_CYCLE_SEND (R463). -/
def execStationCycleSend (n : Fin 2048) (s : State) : Result := done (cycleSend n.val s)

/-- STATION_INPUT_FRAME (R460, R465, R466): the frame, its LENGTH, check codes and CRC-32C as they arrive; one that is not whole is
discarded. -/
def execStationInputFrame (f : StationInput) (s : State) : Result :=
  done (if frameWhole f.frame f.length f.checks f.crc then inputFrame f.frame s else s)

/-- STATION_RETRY (R463). -/
def execStationRetry (n : Fin 2048) (s : State) : Result := done (stationRetry n.val s)

/-- STATION_BUDGET_END (R465). -/
def execStationBudgetEnd (n : Fin 2048) (s : State) : Result := done (if running s .io then budgetEnd n.val s else s)

/-- WAGGLE_SEND (R476). -/
def execWaggleSend (s : State) : Result := done (waggleSend s)

/-- WAGGLE_RECEIVE (R476): a valid waggle, and whether it came over the Lualas link. -/
def execWaggleReceive (w : Waggle) (lualas : Bool) (s : State) : Result := done (waggleIn w lualas s)

/-- HOLDER_TAKE (R470, R471). -/
def execHolderTake (s : State) : Result := done (holderTake s)

/-- PARTNER_SILENT (R477). -/
def execPartnerSilent (s : State) : Result := done (partnerSilent s)

/-- LUALAS_LOST (R477). -/
def execLualasLost (s : State) : Result := done (lualasLost s)

/-- LANE_DROPPED (R475). -/
def execLaneDropped (k : Fin 4) (s : State) : Result := done (laneDropped k.val s)

/-- HANDOVER (R474). -/
def execHandover (req : Requester) (s : State) : Result := done (atBlock 14 0 (pairCommand req 1) s)

/-- RESYNC (R482). -/
def execResync (req : Requester) (s : State) : Result := done (atBlock 14 0 (pairCommand req 2) s)

/-- RESYNC_COMPLETE (R482): with what was copied from the holder. -/
def execResyncComplete (copy : PairCopy) (s : State) : Result := done (resyncDone copy s)

/-- SELECTION_RECORD (R479): of tick `tick`. -/
def execSelectionRecord (tick : Nat) (sels : List Selection) (s : State) : Result := done (selectionRecord tick sels s)

/-- MIRRORED_STATION_FRAME (R479). -/
def execMirroredStationFrame (f : StationFrame) (s : State) : Result := done (mirroredFrame f s)

/-- SLOT_MIRROR_RECEIVE (R480). -/
def execSlotMirrorReceive (id : Fin 262144) (m : Machine.SlotImage) (s : State) : Result := done (slotMirror id.val m s)

/-- CALL_ORDER_RECORD (R480): the record of a call that the holder's port accepted. -/
def execCallOrderRecord (g : Fin 8) (w0 w1 : Word) (s : State) : Result := done (callOrdered g.val w0 w1 s)

/-- CALL_ORDER_TIMEOUT (R480). -/
def execCallOrderTimeout (g : Fin 8) (token : Fin 256) (s : State) : Result := done (callUnordered g.val token.val s)

/-- HEALTH_VERDICT (R484). -/
def execHealthVerdict (s : State) : Result := done (healthVerdict s)

/-- STANDBY_SELF_TEST (R484): the test and its outcome. -/
def execStandbySelfTest (t : Fin 8) (ok : Bool) (s : State) : Result := done (selfTest t.val ok s)

end Sys2Proof.Machine
end

