-- ==== Sys2Proof/Machine/Power.lean ====
section
/-! DEFINITION. Meanings of the power, reset, start-up and brace commands (R31, R59 to R91). -/
namespace Sys2Proof.Machine

/-- Dies fail, are powered or are released at one moment (R27, R31, R32): every field is updated, SET follows, READY falls
below SET 3, and the module's fitness is judged anew. -/
def execDieStateChange (changes : List (Die × DieState)) (s : State) : Result :=
  let new := changes.foldl (fun d c => d.put c.1 c.2) s.dies
  done (settle (readyUpdate (dieEffects s.dies { s with dies := new })))

/-- VKEEP rises through its power-on level (R67): reset values everywhere but in NV fields. -/
def execPowerOnReset (s : State) : Result := done (assertModule .powerOn s)

/-- A watched supply stands at a level for a time (R61, R67, R89): below its reset level for 1 µs it resets the module at once, even in
brace, and VIO33 resets the field die too; anything shorter is ignored. -/
def execSupplyReset (dip : SupplyDip) (s : State) : Result :=
  if dip.mv < resetLevel s.rst.vset dip.supply ∧ 1000 ≤ dip.ns then
    let s := assertModule .supply s
    let s := if dip.supply = .vio18 then { s with pins := { s.pins with vio18 := false } } else s
    done (if dip.supply = .vio33 then settle (fieldDieReset s) else s)
  else done s

/-- RESET_N low for a time (R69): below 2 µs ignored, from 5 µs a pin reset, between them either. -/
def execPinReset (lowNs : Nat) (s : State) : Result :=
  if lowNs < 2000 then done s
  else if 5000 ≤ lowNs then done (keeperReset .pin .pin s)
  else if freeBool s then done (keeperReset .pin .pin (drawn s))
  else done (drawn s)

/-- A Keeper core fails to serve its watchdog for 50 ms (R67, R518); which core makes no difference. -/
def execKeeperWatchdogReset (_core : Fin 4) (s : State) : Result := done (keeperReset .kwdog .kwdog s)

/-- A write to RST_ISLAND_REQ (R71, R90). -/
def execIslandResetRequest (mask : BitVec 4) (s : State) : Result := done (atBlock 1 0 (islandRequest mask.toNat) s)

/-- A write to RST_BLOCK_REQ (R71, R73, R90). -/
def execBlockResetRequest (mask : BitVec 4) (s : State) : Result := done (atBlock 1 0 (blockRequest mask.toNat) s)

/-- A unit answers idle (R71); when all of its request have, reset is asserted. -/
def execUnitIdleAnswer (u : ResetUnit) (s : State) : Result := done (if unitWaits u s then unitIdle u s else s)

/-- A unit's idle timeout (R72, R108): reset is asserted anyway, IDLE_TIMEOUT is set, event source 4 is raised, and its
transfers in flight are abandoned (event source 37 for each). -/
def execIdleTimeout (u : ResetUnit) (s : State) : Result := done (if unitWaits u s then unitTimeout u s else s)

/-- The stretch of a reset ends (R70, R75 to R77). -/
def execResetRelease (scope : ResetScope) (s : State) : Result :=
  match scope with
  | .module => done (releaseModule s)
  | .island => match s.rst.island with
    | some r => if r.asserted then done (releaseIsland r s) else done s
    | none => done s
  | .block => match s.rst.block with
    | some r => if r.asserted then done (releaseBlock r s) else done s
    | none => done s

/-- A start-up phase completes and the next begins (R78 to R80, R134 to R139). `pairSel` is the level of PAIR_SEL, which
start-up samples once after a power-on reset (R55); `unA` and `unB` name the slots whose mirror copies phase 7 cannot read (R219). -/
def execStartupPhaseComplete (pairSel : Bool) (unA unB : List Nat) (s : State) : Result :=
  done (settle (phaseComplete pairSel unA unB s))

/-- Phase 2 has waited longer than 500 ms (R78): event source 16. -/
def execSupplyPhaseWait (s : State) : Result := done (raiseIf (decide (s.rst.phase = 2)) 16 [] s)

/-- PFW_N low or a supply below warning during start-up (R90). -/
def execStartupSupplyInterrupt (s : State) : Result := done (stopStartup s)

/-- Ten milliseconds of good supplies: a stopped start-up resumes at phase 3 (R90). -/
def execStartupResume (s : State) : Result :=
  done (resumeStartup s)

/-- One step of the VCORE loop (R63, R111). -/
def execVcoreLoopStep (s : State) : Result := done (vcoreStep s)

/-- Three failed PMBus transactions or a STATUS_WORD fault (R66). -/
def execPmbusFault (s : State) : Result := done (pmbusFault s)

/-- Writing 1 to PMB_FAULT (R66). -/
def execPmbFaultClear (s : State) : Result := done (atBlock 1 0 pmbClear s)

/-- The slowest monitor below 1.90 G hs/s for 1 ms (R65): event source 11, and the module gives up its duties. -/
def execSpeedFloorLost (s : State) : Result :=
  done (reassess (raise 11 [] { s with rst := { s.rst with floorLost := true } }))

/-- The monitors at or above 2.00 G hs/s for 10 s (R65). -/
def execSpeedFloorRegained (s : State) : Result :=
  done (reassess { s with rst := { s.rst with floorLost := false } })

/-- PFW_N low for 2 µs or longer, or a supply below its warning level (R61, R62, R82); during start-up it stops start-up (R90). A supply
below the level for less than 1 µs is ignored and from 2 µs on detected; between them the manual leaves it open, and a free bit decides
(log entry 115). -/
def execBraceBegin (cause : BraceCause) (s : State) : Result :=
  match cause with
  | .pfw ns => if ns < 2000 then done s else done (braceBegin { s with pins := { s.pins with pfwLow := true } })
  | .supply x mv ns =>
    if warnLevel s.rst.vset x ≤ mv ∨ ns < 1000 then done s
    else if 2000 ≤ ns then done (braceBegin s)
    else if freeBool s then done (braceBegin (drawn s))
    else done (drawn s)

/-- The first pass of the save completes and the second begins (R85). -/
def execSaveFirstPassComplete (s : State) : Result :=
  done (firstPassDone s)

/-- Supplies and PFW_N good for 100 µs before commit (R86). -/
def execBraceRecovery (s : State) : Result := done (braceRecover s)

/-- 2,000 µs after brace began (R87). -/
def execBraceCommit (s : State) : Result := done (braceCommit s)

/-- The closing record is written, `us` µs after PFW_N fell (R87, RST_BRACE LAST_FLUSH). -/
def execSaveComplete (us : BitVec 16) (s : State) : Result := done (saveComplete us.toNat s)

/-- Supplies good for 10 ms after a commit (R88). -/
def execBraceRestart (s : State) : Result := done (braceRestart s)

end Sys2Proof.Machine
end

