-- ==== Sys2Proof/Machine/Safety.lean ====
section
/-! DEFINITION. Commands of the safety island (R374 to R414, R557, R558). -/
namespace Sys2Proof.Machine

/-- SAFETY_CYCLE (R374): `works` tells whether A's comparator can report a mismatch (R385). -/
def execSafetyCycle (ch : Channel) (works : Bool) (s : State) : Result := done (safetyCycle ch works s)

/-- SAFETY_RELEASE (R381). -/
def execSafetyRelease (s : State) : Result := done (safetyRelease s)

/-- CYCLE_MARKER (R375). -/
def execCycleMarker (length : Nat) (offset : Int) (s : State) : Result := done (cycleMarker length offset s)

/-- PLUMB_FRAME_RECEIVE and PLUMB_FRAME_DEADLINE (R376, R384). -/
def execPlumbFrameReceive (what : PlumbArrival) (err : BitVec 640) (s : State) : Result := done (plumbReceive what err s)
def execPlumbFrameDeadline (what : PlumbArrival) (s : State) : Result := done (plumbDeadline what s)

/-- INPUT_FILTER_QUALIFIED (R377, R378). -/
def execInputFilterQualified (ch : Channel) (k : Fin 48) (volts : BitVec 16) (s : State) : Result :=
  done (inputQualified ch k.val volts.toInt s)

/-- SAFETY_IN_FRAME (R379, R467): the I/O die passes the frame to both dies, and each checks its own code. -/
def execSafetyInFrame (f : StationFrame) (checkA checkB : BitVec 64) (s : State) : Result :=
  done (if running s .io then safetyIn .b f checkB (safetyIn .a f checkA s) else s)

/-- SAFETY_STATION_WATCHDOG (R379). -/
def execSafetyStationWatchdog (ch : Channel) (station : Fin 2048) (s : State) : Result := done (stationWatchdog ch station.val s)

/-- PUBLICATION_TIMEOUT (R382). -/
def execPublicationTimeout (ch : Channel) (s : State) : Result := done (putSaf s ch { safOf s ch with pub := none })

/-- SAFETY_POWER_UP, SAFETY_INIT_COMPLETE, SAFE_RESET, SAFETY_DIE_FAULT, SAFETY_SUPPLY_LOSS (R386). -/
def execSafetyPowerUp (ch : Channel) (s : State) : Result := done (settle (readyUpdate (safPowerUp ch s)))
def execSafetyInitComplete (ch : Channel) (s : State) : Result := done (initComplete ch s)
def execSafeReset (s : State) : Result := done (safeReset s)
def execSafetyDieFault (ch : Channel) (f : DieFault) (s : State) : Result := done (settle (readyUpdate (safFault ch f s)))
def execSafetySupplyLoss (ch : Channel) (s : State) : Result := done (settle (readyUpdate (safSupplyLoss ch s)))

/-- BRAKE_CONFIRM_TIMEOUT (R393): of the brake contacts, or of the mirror contact. -/
def execBrakeConfirmTimeout (ch : Channel) (c : Fin 64) (mirror : Bool) (s : State) : Result := done (confirmTimeout ch c.val mirror s)

/-- MAIN_DROP_EXPIRY (R392). -/
def execMainDropExpiry (ch : Channel) (c : Fin 64) (s : State) : Result := done (mainDropEnds ch c.val s)

/-- The brake test (R395). -/
def execBrakeTestStart (ch : Channel) (c : Fin 64) (s : State) : Result := done (testStart ch c.val s)
def execBrakeTestHoldEnd (ch : Channel) (c : Fin 64) (s : State) : Result := done (holdEnds ch c.val s)
def execBrakeTestDue (ch : Channel) (c : Fin 64) (s : State) : Result := done (testDue ch c.val s)
def execBrakeDueTrip (ch : Channel) (c : Fin 64) (s : State) : Result := done (testOverdue ch c.val s)

/-- SMOKE_WAIT_EXPIRY (R400). -/
def execSmokeWaitExpiry (ch : Channel) (s : State) : Result := done (smokeWaitEnds ch s)

/-- A sealed request whose frame fails its CRC answers CHECK (R558); a COMMIT then makes no change at the partner either (R406). -/
def sealedFrame (ch : Channel) (code : Nat) (intact : Bool) (time : Nat) (f : State → State) (s : State) : Result :=
  done (if chUp (safOf s ch) = false then s else if intact then f s
    else if code = 2 then commitRefuse ch 1 time s else safRefuse ch code 1 3 0 time none s)

/-- SEALED_STAGE to SEALED_BENCH (R404): the request's device time, and its payload. -/
def execSealedStage (ch : Channel) (intact : Bool) (time : DWord) (image : List Byte) (s : State) : Result :=
  sealedFrame ch 1 intact time.toNat (sealedStage ch time.toNat image) s
def execSealedCommit (ch : Channel) (intact : Bool) (time : DWord) (password : List Byte) (s : State) : Result :=
  sealedFrame ch 2 intact time.toNat (sealedCommit ch time.toNat password) s
def execSealedRevert (ch : Channel) (intact : Bool) (time : DWord) (password : List Byte) (s : State) : Result :=
  sealedFrame ch 3 intact time.toNat (sealedRevert ch time.toNat password) s
def execSealedCarReset (ch : Channel) (intact : Bool) (time : DWord) (c : Fin 64) (s : State) : Result :=
  sealedFrame ch 4 intact time.toNat (sealedCarReset ch time.toNat c.val) s
def execSealedFreeze (ch : Channel) (intact : Bool) (s : State) : Result := sealedFrame ch 5 intact (devTime s) (sealedFreeze ch) s
def execSealedThaw (ch : Channel) (intact : Bool) (s : State) : Result := sealedFrame ch 6 intact (devTime s) (sealedThaw ch) s
def execSealedBench (ch : Channel) (intact : Bool) (time : DWord) (s : State) : Result :=
  sealedFrame ch 7 intact time.toNat (sealedBench ch time.toNat) s

/-- LOCKOUT_EXPIRY (R405). -/
def execLockoutExpiry (ch : Channel) (s : State) : Result := done (lockoutEnds ch s)

end Sys2Proof.Machine
end

