-- ==== Sys2Proof/Machine/Truss.lean ====
section
/-! DEFINITION. Meanings of the truss and thermal commands: monitors, flit pairs and retries, book audits, thermal states
(R92 to R115). -/
namespace Sys2Proof.Machine

/-- A monitor reports once its tile's router is out of reset (R94, R95). Calibrated, its reading is VALID; event source 36 at the tenth
reading in a row more than 25 % below the median of the other monitors on its die. -/
def execSpeedMonitorReading (n : Fin 128) (rate : BitVec 16) (s : State) : Result :=
  let m := tget ({} : Monitor) s.trs.mons n.val
  if routerUp s (monitorPort n.val) then
    let others := (s.trs.mons.filter (fun e =>
      e.2.valid && decide (e.1 ≠ n.val) && decide (e.1 / 64 = n.val / 64))).map (fun e => e.2.rate)
    let low := if m.cal ∧ 4 * rate.toNat < 3 * medianNat others then m.low + 1 else 0
    let t := { s.trs with
      mons := tset ({} : Monitor) s.trs.mons n.val { m with rate := rate.toNat, valid := m.cal, low := Nat.min low 10 } }
    let slow := match slowestMon t with
      | some (_, v) => decide (v ≤ 2100)
      | none => false
    done (raiseIf (decide (low = 10) && decide (m.low = 9)) 36 []
      { s with trs := t, rst := if slow then { s.rst with fastSteps := 0 } else s.rst })
  else done s

/-- Both flits of a pair pass their check (R105). Whether a flit's check covers the sequence bit it carries the manual does not say.
DESIGN CHOICE, log entry 116: the check is over the 128 bits of data alone, and a sequence bit turned over on the way is not seen by
it. -/
def pairGood (p : FlitPair) : Bool :=
  decide (Config.flitCrc p.first.data = p.first.crc) && decide (Config.flitCrc p.second.data = p.second.crc)

/-- A pair as it arrives: the sent pair with the bits of `noise` turned over on the way. -/
def disturbed (p noise : FlitPair) : FlitPair :=
  { first := { data := p.first.data ^^^ noise.first.data, crc := p.first.crc ^^^ noise.first.crc },
    second := { data := p.second.data ^^^ noise.second.data, crc := p.second.crc ^^^ noise.second.crc },
    seq := p.seq ^^ noise.seq }

/-- A good pair at the receiver (R105): it joins the buffer, or is discarded where its sequence bit was already accepted; either way it
is acknowledged. -/
def pairAccepted (v : Nat) (got : FlitPair) (l : Link) : Link :=
  let x := vcOf l v
  let y : VcLane := { x with replay := none, retryAsked := false }
  if x.lastSeq = some got.seq then putVc l v { y with credits := Nat.min 16 (y.credits + 2) }
  else
    { putVc l v { y with lastSeq := some got.seq, buffer := y.buffer ++ [got] } with passed := l.passed + 1, lastPair := some got }

/-- A die reported failed by the Keeper, with all that follows (R27, R31, R106). -/
def dieFails (x : Die) (s : State) : State :=
  settle (readyUpdate (dieEffects s.dies { s with dies := s.dies.put x .failed }))

/-- A bad pair (R105, R106): a retry is asked for; after the fourth sending the link is marked failed and its traffic moves to the spare
lane with event source 32, and when the spare lane fails as well the endpoint is unreachable, with event source 35, and its die is reported
failed. How often the spare lane is tried the manual does not say. DESIGN CHOICE, log entry 117: four sendings again of every pair in the
link's replay buffers, the first of them started by a retry and counted in RETRIES. -/
def pairBad (link v : Nat) (l : Link) (p : FlitPair) (sent : Nat) (s : State) : State :=
  let x := vcOf l v
  if sent < 4 then putLink s link (putVc l v { x with retryAsked := true })
  else if l.failed then
    let s := putLink s link { putVc l v { x with replay := none, retryAsked := false, credits := Nat.min 16 (x.credits + 2) } with
      unreachable := true }
    dieFails (dieOfPort (linkPort link)) (raise 35 [] s)
  else
    let moved := mapVcs (fun y => if laneSent y then { y with replay := y.replay.map (fun r => (r.1, 0)), retryAsked := true } else y) l
    let s := putLink s link { putVc moved v { x with replay := some (p, 0), retryAsked := true } with failed := true }
    raise 32 [] { s with trs := { s.trs with failed := satAdd 255 s.trs.failed 1 } }

/-- The pair that the sender of a virtual channel has on the way, with the lane that sends it: the pair in its replay buffer, or `pair` as
a new one, which takes two credits and a copy in the replay buffer (R103); none while it waits for credits or for a retry to start. -/
def pairSent (x : VcLane) (pair : FlitPair) : Option (FlitPair × Nat × VcLane) :=
  let fresh (p : FlitPair) : Option (FlitPair × Nat × VcLane) :=
    if x.credits < 2 then none else some (p, 1, { x with credits := x.credits - 2, replay := some (p, 1) })
  if x.retryAsked then none
  else match x.replay with
    | none => fresh pair
    | some (p, 0) => fresh p
    | some (p, n) => some (p, n, x)

/-- A pair arrives at the receiver of a link on one of its virtual channels (R99, R103 to R106): `pair` as sent for the first time (a later
sending is the one in the replay buffer), `noise` the bits it lost on the way. A virtual channel has one pair outstanding at a time, and no
other waits for it. A router in reset accepts nothing (R77). -/
def execFlitPairReceive (link : Fin 1024) (vc : Fin 4) (pair noise : FlitPair) (s : State) : Result :=
  let l := linkOf s link.val
  if l.unreachable ∨ routerUp s (linkPort link.val) = false then done s
  else match pairSent (vcOf l vc.val) pair with
    | none => done s
    | some (p, sent, x) =>
      let l := putVc l vc.val x
      let got := disturbed p noise
      done (if pairGood got then putLink s link.val (pairAccepted vc.val got l) else pairBad link.val vc.val l p sent s)

/-- The sender starts a retry it was asked for (R105, R106): one more sending, counted in RETRIES. -/
def execLinkRetry (link : LinkChannel) (s : State) : Result :=
  let l := linkOf s link.link.val
  let x := vcOf l link.vc.val
  match x.replay with
  | some (p, n) =>
    if x.retryAsked then
      let s := putLink s link.link.val (putVc l link.vc.val { x with retryAsked := false, replay := some (p, n + 1) })
      done { s with trs := { s.trs with retries := satAdd 65535 s.trs.retries 1 } }
    else done s
  | none => done s

/-! ## The conservation books (R109, R110) -/

/-- A book whose items, as the state holds them, do not balance (R109): 0, a link whose credits do not make 16 while its router is up; 1,
a queue with more items than its total; 2, a station's exchange that is no enabled station's; 3, a group's calls beyond its tokens; 4, more
records than slots. The free items of books 1 to 4 are what the queues leave of their totals, and are not kept beside them. During an
online-change handover both programs may account for items of books 1 and 3, and during a switch-over both modules for those of 2 and 3. -/
def bookOff (s : State) (b : Nat) : Bool :=
  if (s.cyc.handover.isSome ∧ (b = 1 ∨ b = 3)) ∨ (s.net.release.isSome ∧ (b = 2 ∨ b = 3)) then false else
  match b with
  | 0 => s.trs.links.any (fun e => routerUp s (linkPort e.1) && !(linkBalanced e.2))
  | 1 => s.can.any (fun e => decide (64 < e.2.fifo.length) || decide (4096 < (e.2.rxWr - e.2.rxRd).toNat))
      || (List.range 4).any (fun p => decide (512 < (s.net.queue.filter (fun q => decide (q.pair = p))).length))
  | 2 => s.net.stations.any (fun e => e.2.exch.isSome && (s.img.stations.all (fun k => decide (k.no ≠ e.1))))
  | 3 => s.img.groups.any (fun g => decide (g.calls < (grpOf s g.no).calls.length))
  | 4 => decide (65536 < s.evr.slots.length)
  | _ => false

/-- One book at an audit (R110): out of balance beyond its longest time sets OPEN; still open at the next audit sets FAULT
and raises event source 33 with the book number. A book that goes out of balance anew while FAULT still stands from an earlier fault raises
no second event, and its 10 ms count from the audit that sets OPEN, which the manual does not say (DESIGN CHOICE, log entry 148). -/
def auditBook (beyond link : Nat) (s : State) (b : Nat) : State :=
  let t := s.trs
  let isOver := beyond.testBit b || bookOff s b
  let faulted := isOver && t.bookOpen.testBit b
  let run := if isOver && t.bookFault.testBit b then t.bookRun.getD b 0 + 1 else 0
  let links := if faulted && decide (b = 0) then tupd ({} : Link) t.links link (fun l => { l with resync := true }) else t.links
  raiseIf (faulted && !(t.bookFault.testBit b)) 33 [wordN b]
    { s with trs := { t with
        bookFault := if faulted then putBit t.bookFault b true else t.bookFault,
        bookOpen := putBit t.bookOpen b isOver, bookRun := lset t.bookRun b (Nat.min run 10), links := links } }

/-- The audit of the five books (R109, R110). A book is out of balance where the items that the state holds do not add up, and where the
audit's own counts, which stand in units the commands do not reach, do not (`beyond`, one bit a book, with `link` the link whose credits
are meant). A book other than the credits that stays faulted for 10 ms costs the module its duties. -/
def execBookAudit (beyond : BitVec 5) (link : Fin 1024) (s : State) : Result :=
  done (reassess ([0, 1, 2, 3, 4].foldl (auditBook beyond.toNat link.val) s))

/-- The two routers resynchronise a link once every flit in its buffers has left (R108, R110). -/
def execLinkResync (link : Fin 1024) (s : State) : Result :=
  let l := linkOf s link.val
  if l.resync ∧ linkEmpty l then done (putLink s link.val (linkRelease l))
  else done s

/-- The hottest of the readings, by the lowest sensor that shows it. -/
def hottestOf (temps : List Int) : Nat × Int :=
  match minBy (fun p => -p.2) (numbered temps) with
  | some p => p
  | none => (0, 0)

/-- The runs of samples after one more with hottest reading `h` (R112). -/
def riseRuns (h : Int) (runs : List Nat) : List Nat :=
  (List.range 3).map (fun k => if riseAt (k + 1) ≤ h then Nat.min 2001 (runs.getD k 0 + 1) else 0)
def fallRuns (h : Int) (runs : List Nat) : List Nat :=
  (List.range 3).map (fun k => if h < riseAt (k + 1) - 3 then Nat.min 2001 (runs.getD k 0 + 1) else 0)

/-- The thermal sensors are read (R112, R523): KPR_TEMPn, HOTTEST and the runs of samples. -/
def execThermalSample (temps : List Int) (s : State) : Result :=
  let ts := temps.take 32
  let h := hottestOf ts
  done { s with
    kpr := { s.kpr with temps := numbered ts },
    trs := { s.trs with
      sensor := h.1, hottest := h.2, rise := riseRuns h.2 s.trs.rise, fall := fallRuns h.2 s.trs.fall } }

/-- The dwell ends and the thermal state changes (R111, R112), once 2,000 ms lie between the first and the last sample of the run: event
source 34 with the old and new states; leaving T0 raises the set value by 10 mV at once; shedding and parking follow the state itself. The
runs start anew with the sample of the change. -/
def execThermalStateChange (s : State) : Result :=
  let t := s.trs
  let p := thermPending t.therm t.rise t.fall
  if p.1 ≠ t.therm ∧ 2001 ≤ p.2 then
    let s := { s with
      trs := { t with therm := p.1, rise := riseRuns t.hottest [0, 0, 0], fall := fallRuns t.hottest [0, 0, 0] },
      rst := if t.therm = 0 then vcoreWarm s.rst else s.rst }
    done (settle (raise 34 [wordN t.therm, wordN p.1] (thermalEffects t.therm s)))
  else done s

/-- Writing CLEAR in TRS_LINK_ERR. -/
def execTrsLinkErrClear (s : State) : Result :=
  done (atBlock 2 0 (fun s => { s with trs := { s.trs with failed := 0, retries := 0 } }) s)

end Sys2Proof.Machine
end

