-- ==== Sys2Proof/Machine/Dispatch.lean ====
section
/-! DEFINITION. One arm per command: a direct call of its meaning. -/
namespace Sys2Proof.Machine

/-- The effect of a command on the state (everything but the queue of waiting commands). -/
def exec (i : Instr) (s : State) : Host.Outcome State Fault Refusal :=
  match i with
  | .registerWrite req addr size value => Sys2Proof.Machine.execRegisterWrite req addr size value s
  | .keeperAccessTimeout n => Sys2Proof.Machine.execKeeperAccessTimeout n s
  | .dieStateChange changes => Sys2Proof.Machine.execDieStateChange changes s
  | .powerOnReset => Sys2Proof.Machine.execPowerOnReset s
  | .supplyReset dip => Sys2Proof.Machine.execSupplyReset dip s
  | .pinReset lowNs => Sys2Proof.Machine.execPinReset lowNs s
  | .keeperWatchdogReset core => Sys2Proof.Machine.execKeeperWatchdogReset core s
  | .islandResetRequest mask => Sys2Proof.Machine.execIslandResetRequest mask s
  | .blockResetRequest mask => Sys2Proof.Machine.execBlockResetRequest mask s
  | .unitIdleAnswer u => Sys2Proof.Machine.execUnitIdleAnswer u s
  | .idleTimeout u => Sys2Proof.Machine.execIdleTimeout u s
  | .resetRelease scope => Sys2Proof.Machine.execResetRelease scope s
  | .startupPhaseComplete pairSel unreadA unreadB => Sys2Proof.Machine.execStartupPhaseComplete pairSel unreadA unreadB s
  | .supplyPhaseWait => Sys2Proof.Machine.execSupplyPhaseWait s
  | .startupSupplyInterrupt => Sys2Proof.Machine.execStartupSupplyInterrupt s
  | .startupResume => Sys2Proof.Machine.execStartupResume s
  | .vcoreLoopStep => Sys2Proof.Machine.execVcoreLoopStep s
  | .pmbusFault => Sys2Proof.Machine.execPmbusFault s
  | .pmbFaultClear => Sys2Proof.Machine.execPmbFaultClear s
  | .speedFloorLost => Sys2Proof.Machine.execSpeedFloorLost s
  | .speedFloorRegained => Sys2Proof.Machine.execSpeedFloorRegained s
  | .braceBegin cause => Sys2Proof.Machine.execBraceBegin cause s
  | .saveFirstPassComplete => Sys2Proof.Machine.execSaveFirstPassComplete s
  | .braceRecovery => Sys2Proof.Machine.execBraceRecovery s
  | .braceCommit => Sys2Proof.Machine.execBraceCommit s
  | .saveComplete us => Sys2Proof.Machine.execSaveComplete us s
  | .braceRestart => Sys2Proof.Machine.execBraceRestart s
  | .speedMonitorReading n rate => Sys2Proof.Machine.execSpeedMonitorReading n rate s
  | .flitPairReceive link vc pair noise => Sys2Proof.Machine.execFlitPairReceive link vc pair noise s
  | .linkRetry link => Sys2Proof.Machine.execLinkRetry link s
  | .bookAudit beyond link => Sys2Proof.Machine.execBookAudit beyond link s
  | .linkResync link => Sys2Proof.Machine.execLinkResync link s
  | .thermalSample temps => Sys2Proof.Machine.execThermalSample temps s
  | .thermalStateChange => Sys2Proof.Machine.execThermalStateChange s
  | .trsLinkErrClear => Sys2Proof.Machine.execTrsLinkErrClear s
  | .sealBreak => Sys2Proof.Machine.execSealBreak s
  | .sealLoopRestored => Sys2Proof.Machine.execSealLoopRestored s
  | .presenceBegin => Sys2Proof.Machine.execPresenceBegin s
  | .presenceEnd => Sys2Proof.Machine.execPresenceEnd s
  | .tamperClear src => Sys2Proof.Machine.execTamperClear src s
  | .frmStageBegin => Sys2Proof.Machine.execFrmStageBegin s
  | .stagingComplete => Sys2Proof.Machine.execStagingComplete s
  | .frmVerify src => Sys2Proof.Machine.execFrmVerify src s
  | .frmActivate src => Sys2Proof.Machine.execFrmActivate src s
  | .frmRevert src => Sys2Proof.Machine.execFrmRevert src s
  | .frmAbort src => Sys2Proof.Machine.execFrmAbort src s
  | .benchArm src => Sys2Proof.Machine.execBenchArm src s
  | .benchDisarm => Sys2Proof.Machine.execBenchDisarm s
  | .keyEnrol src slot key signature => Sys2Proof.Machine.execKeyEnrol src slot key signature s
  | .keyRemove src slot signature => Sys2Proof.Machine.execKeyRemove src slot signature s
  | .integerInstruction n gd ins => Sys2Proof.Machine.execIntegerInstruction n gd ins s
  | .floatInstruction n gd ins => Sys2Proof.Machine.execFloatInstruction n gd ins s
  | .vectorInstruction n gd ins => Sys2Proof.Machine.execVectorInstruction n gd ins s
  | .loadInstruction n gd kind rd ra imm ecc => Sys2Proof.Machine.execLoadInstruction n gd kind rd ra imm ecc s
  | .storeInstruction n gd kind rs ra imm => Sys2Proof.Machine.execStoreInstruction n gd kind rs ra imm s
  | .gath n f upTo hurt => Sys2Proof.Machine.execGath n f upTo hurt s
  | .scat n f upTo hurt => Sys2Proof.Machine.execScat n f upTo hurt s
  | .ldp n f ecc => Sys2Proof.Machine.execLdp n f ecc s
  | .stp n f ecc => Sys2Proof.Machine.execStp n f ecc s
  | .branch n f => Sys2Proof.Machine.execBranch n f s
  | .branchLink n f => Sys2Proof.Machine.execBranchLink n f s
  | .jumpReg n f => Sys2Proof.Machine.execJumpReg n f s
  | .loop n f => Sys2Proof.Machine.execLoop n f s
  | .lclr n f => Sys2Proof.Machine.execLclr n f s
  | .mfs n gd rd sr => Sys2Proof.Machine.execMfs n gd rd sr s
  | .mts n gd ra sr => Sys2Proof.Machine.execMts n gd ra sr s
  | .sys n f => Sys2Proof.Machine.execSys n f s
  | .xret n f => Sys2Proof.Machine.execXret n f s
  | .setm n f => Sys2Proof.Machine.execSetm n f s
  | .brk n f => Sys2Proof.Machine.execBrk n f s
  | .wait n f => Sys2Proof.Machine.execWait n f s
  | .trussAccessTimeout n acc => Sys2Proof.Machine.execTrussAccessTimeout n acc s
  | .icacheFill n addr parity => Sys2Proof.Machine.execIcacheFill n addr parity s
  | .interruptTaken n => Sys2Proof.Machine.execInterruptTaken n s
  | .ceHalt n => Sys2Proof.Machine.execCeHalt n s
  | .ceCtrlHalt n => Sys2Proof.Machine.execCeCtrlHalt n s
  | .ceCtrlResume n => Sys2Proof.Machine.execCeCtrlResume n s
  | .ceCtrlRestart n => Sys2Proof.Machine.execCeCtrlRestart n s
  | .schedulerTick => Sys2Proof.Machine.execSchedulerTick s
  | .taskStartCmd t => Sys2Proof.Machine.execTaskStartCmd t s
  | .taskStopCmd t => Sys2Proof.Machine.execTaskStopCmd t s
  | .persistentFlushComplete n => Sys2Proof.Machine.execPersistentFlushComplete n s
  | .handoverSwitchTick => Sys2Proof.Machine.execHandoverSwitchTick s
  | .handoverTimeout n => Sys2Proof.Machine.execHandoverTimeout n s
  | .dataMapComplete n => Sys2Proof.Machine.execDataMapComplete n s
  | .forceSet tenant minutes => Sys2Proof.Machine.execForceSet tenant minutes s
  | .forceClear tenant minutes => Sys2Proof.Machine.execForceClear tenant minutes s
  | .forceClearAll tenant minutes => Sys2Proof.Machine.execForceClearAll tenant minutes s
  | .forceExpiry kind index => Sys2Proof.Machine.execForceExpiry kind index s
  | .combAccess w id op ecc => Sys2Proof.Machine.execCombAccess w id op ecc s
  | .mirrorWriteA id => Sys2Proof.Machine.execMirrorWriteA id s
  | .mirrorAckA id => Sys2Proof.Machine.execMirrorAckA id s
  | .mirrorWriteTimeout copyB id => Sys2Proof.Machine.execMirrorWriteTimeout copyB id s
  | .slotReload id okA okB => Sys2Proof.Machine.execSlotReload id okA okB s
  | .keeperReadWord word prio tenant => Sys2Proof.Machine.execKeeperReadWord word prio tenant s
  | .keeperWriteWord word prio tenant => Sys2Proof.Machine.execKeeperWriteWord word prio tenant s
  | .keeperRelinquish word prio tenant => Sys2Proof.Machine.execKeeperRelinquish word prio tenant s
  | .keeperReadSlot word prio tenant => Sys2Proof.Machine.execKeeperReadSlot word prio tenant s
  | .alarmScan => Sys2Proof.Machine.execAlarmScan s
  | .trendSample id => Sys2Proof.Machine.execTrendSample id s
  | .tenantModuleLoad t bytes => Sys2Proof.Machine.execTenantModuleLoad t bytes s
  | .tenantModuleSwitch t => Sys2Proof.Machine.execTenantModuleSwitch t s
  | .tenantSwitchTimeout t => Sys2Proof.Machine.execTenantSwitchTimeout t s
  | .energyForecast => Sys2Proof.Machine.execEnergyForecast s
  | .levelChange => Sys2Proof.Machine.execLevelChange s
  | .bacnetScConnect tenant hub chain fingerprint => Sys2Proof.Machine.execBacnetScConnect tenant hub chain fingerprint s
  | .whoIs q low high => Sys2Proof.Machine.execWhoIs q low high s
  | .whoHas q what => Sys2Proof.Machine.execWhoHas q what s
  | .readProperty q o prop => Sys2Proof.Machine.execReadProperty q o prop s
  | .readPropertyMultiple q items => Sys2Proof.Machine.execReadPropertyMultiple q items s
  | .writeProperty q o prop value prio => Sys2Proof.Machine.execWriteProperty q o prop value prio s
  | .writePropertyMultiple q items => Sys2Proof.Machine.execWritePropertyMultiple q items s
  | .subscribeCov q o confirmed cancel => Sys2Proof.Machine.execSubscribeCov q o confirmed cancel s
  | .covNotification k => Sys2Proof.Machine.execCovNotification k s
  | .getEventInformation q => Sys2Proof.Machine.execGetEventInformation q s
  | .acknowledgeAlarm q o kind => Sys2Proof.Machine.execAcknowledgeAlarm q o kind s
  | .readRange q id first count => Sys2Proof.Machine.execReadRange q id first count s
  | .modbusTcpRequest conn bind first count values => Sys2Proof.Machine.execModbusTcpRequest conn bind first count values s
  | .modbusRtuResponse no values => Sys2Proof.Machine.execModbusRtuResponse no values s
  | .hoistFrameCompute c => Sys2Proof.Machine.execHoistFrameCompute c s
  | .hstStart c => Sys2Proof.Machine.execHstStart c s
  | .hstStop c => Sys2Proof.Machine.execHstStop c s
  | .hstResume c => Sys2Proof.Machine.execHstResume c s
  | .hstCancel c => Sys2Proof.Machine.execHstCancel c s
  | .hstReset c => Sys2Proof.Machine.execHstReset c s
  | .hstRelevel c => Sys2Proof.Machine.execHstRelevel c s
  | .queueInsert req c index => Sys2Proof.Machine.execQueueInsert req c index s
  | .queueReplace req c index => Sys2Proof.Machine.execQueueReplace req c index s
  | .queueRemove req c index => Sys2Proof.Machine.execQueueRemove req c index s
  | .queueClear req c index => Sys2Proof.Machine.execQueueClear req c index s
  | .vcapWrite c v => Sys2Proof.Machine.execVcapWrite c v s
  | .vlimWrite c up v => Sys2Proof.Machine.execVlimWrite c up v s
  | .driveReturnFrame c echo status fault deckOk => Sys2Proof.Machine.execDriveReturnFrame c echo status fault deckOk s
  | .startTimeout c => Sys2Proof.Machine.execStartTimeout c s
  | .settleExpiry c => Sys2Proof.Machine.execSettleExpiry c s
  | .deckLate c => Sys2Proof.Machine.execDeckLate c s
  | .rescueCommand c up => Sys2Proof.Machine.execRescueCommand c up s
  | .ssiRequest n ready => Sys2Proof.Machine.execSsiRequest n ready s
  | .ssiFrameComplete n frame => Sys2Proof.Machine.execSsiFrameComplete n frame s
  | .feedbackRecord station r second => Sys2Proof.Machine.execFeedbackRecord station r second s
  | .quadEdge n a b => Sys2Proof.Machine.execQuadEdge n a b s
  | .indexEdge n rise => Sys2Proof.Machine.execIndexEdge n rise s
  | .fusionTick c => Sys2Proof.Machine.execFusionTick c s
  | .fbkClear c => Sys2Proof.Machine.execFbkClear c s
  | .learnBegin c => Sys2Proof.Machine.execLearnBegin c s
  | .learnEnd c => Sys2Proof.Machine.execLearnEnd c s
  | .learnAbort c => Sys2Proof.Machine.execLearnAbort c s
  | .doorZoneEdge c rise => Sys2Proof.Machine.execDoorZoneEdge c rise s
  | .doorUpdate d => Sys2Proof.Machine.execDoorUpdate d s
  | .doorOpen d => Sys2Proof.Machine.execDoorOpen d s
  | .doorClose d => Sys2Proof.Machine.execDoorClose d s
  | .doorNudge d => Sys2Proof.Machine.execDoorNudge d s
  | .doorStop d => Sys2Proof.Machine.execDoorStop d s
  | .doorReset d => Sys2Proof.Machine.execDoorReset d s
  | .armAdo d => Sys2Proof.Machine.execArmAdo d s
  | .disarmAdo d => Sys2Proof.Machine.execDisarmAdo d s
  | .doorProfileWrite d reg v => Sys2Proof.Machine.execDoorProfileWrite d reg v s
  | .gearCommit d => Sys2Proof.Machine.execGearCommit d s
  | .doorReturnFrame d echo status ia ib fault pos => Sys2Proof.Machine.execDoorReturnFrame d echo status ia ib fault pos s
  | .modeSwitchTimeout d => Sys2Proof.Machine.execModeSwitchTimeout d s
  | .callRegister g => Sys2Proof.Machine.execCallRegister g s
  | .callCancel g token => Sys2Proof.Machine.execCallCancel g token s
  | .insertionStep g => Sys2Proof.Machine.execInsertionStep g s
  | .sweepSlice g => Sys2Proof.Machine.execSweepSlice g s
  | .queueResult c => Sys2Proof.Machine.execQueueResult c s
  | .tagRelease => Sys2Proof.Machine.execTagRelease s
  | .carLeavesService c => Sys2Proof.Machine.execCarLeavesService c s
  | .tableRebuild g => Sys2Proof.Machine.execTableRebuild g s
  | .regenForecast => Sys2Proof.Machine.execRegenForecast s
  | .longWaitExpiry g token => Sys2Proof.Machine.execLongWaitExpiry g token s
  | .safetyCycle ch works => Sys2Proof.Machine.execSafetyCycle ch works s
  | .safetyRelease => Sys2Proof.Machine.execSafetyRelease s
  | .cycleMarker length offset => Sys2Proof.Machine.execCycleMarker length offset s
  | .plumbFrameReceive what err => Sys2Proof.Machine.execPlumbFrameReceive what err s
  | .plumbFrameDeadline what => Sys2Proof.Machine.execPlumbFrameDeadline what s
  | .inputFilterQualified ch k volts => Sys2Proof.Machine.execInputFilterQualified ch k volts s
  | .safetyInFrame f checkA checkB => Sys2Proof.Machine.execSafetyInFrame f checkA checkB s
  | .safetyStationWatchdog ch station => Sys2Proof.Machine.execSafetyStationWatchdog ch station s
  | .publicationTimeout ch => Sys2Proof.Machine.execPublicationTimeout ch s
  | .safetyPowerUp ch => Sys2Proof.Machine.execSafetyPowerUp ch s
  | .safetyInitComplete ch => Sys2Proof.Machine.execSafetyInitComplete ch s
  | .safeReset => Sys2Proof.Machine.execSafeReset s
  | .safetyDieFault ch f => Sys2Proof.Machine.execSafetyDieFault ch f s
  | .safetySupplyLoss ch => Sys2Proof.Machine.execSafetySupplyLoss ch s
  | .brakeConfirmTimeout ch c mirror => Sys2Proof.Machine.execBrakeConfirmTimeout ch c mirror s
  | .mainDropExpiry ch c => Sys2Proof.Machine.execMainDropExpiry ch c s
  | .brakeTestStart ch c => Sys2Proof.Machine.execBrakeTestStart ch c s
  | .brakeTestHoldEnd ch c => Sys2Proof.Machine.execBrakeTestHoldEnd ch c s
  | .brakeTestDue ch c => Sys2Proof.Machine.execBrakeTestDue ch c s
  | .brakeDueTrip ch c => Sys2Proof.Machine.execBrakeDueTrip ch c s
  | .smokeWaitExpiry ch => Sys2Proof.Machine.execSmokeWaitExpiry ch s
  | .sealedStage ch intact time image => Sys2Proof.Machine.execSealedStage ch intact time image s
  | .sealedCommit ch intact time password => Sys2Proof.Machine.execSealedCommit ch intact time password s
  | .sealedRevert ch intact time password => Sys2Proof.Machine.execSealedRevert ch intact time password s
  | .sealedCarReset ch intact time c => Sys2Proof.Machine.execSealedCarReset ch intact time c s
  | .sealedFreeze ch intact => Sys2Proof.Machine.execSealedFreeze ch intact s
  | .sealedThaw ch intact => Sys2Proof.Machine.execSealedThaw ch intact s
  | .sealedBench ch intact time => Sys2Proof.Machine.execSealedBench ch intact time s
  | .lockoutExpiry ch => Sys2Proof.Machine.execLockoutExpiry ch s
  | .vfieldLost g => Sys2Proof.Machine.execVfieldLost g s
  | .vfieldOver g => Sys2Proof.Machine.execVfieldOver g s
  | .vfieldGood g => Sys2Proof.Machine.execVfieldGood g s
  | .programFilterQualified k => Sys2Proof.Machine.execProgramFilterQualified k s
  | .outputOverload o current => Sys2Proof.Machine.execOutputOverload o current s
  | .overloadRetry o => Sys2Proof.Machine.execOverloadRetry o s
  | .outputOvertemp o => Sys2Proof.Machine.execOutputOvertemp o s
  | .outputCooled o => Sys2Proof.Machine.execOutputCooled o s
  | .openWireSet o current => Sys2Proof.Machine.execOpenWireSet o current s
  | .openWireClear o => Sys2Proof.Machine.execOpenWireClear o s
  | .pullEnd k => Sys2Proof.Machine.execPullEnd k s
  | .coilOffsetUpdate k mean => Sys2Proof.Machine.execCoilOffsetUpdate k mean s
  | .coilTrip k cause => Sys2Proof.Machine.execCoilTrip k cause s
  | .pairTargetWrite k target => Sys2Proof.Machine.execPairTargetWrite k target s
  | .pairModeSwitchTimeout k => Sys2Proof.Machine.execPairModeSwitchTimeout k s
  | .adcSample vs => Sys2Proof.Machine.execAdcSample vs s
  | .adcRefFault r bad => Sys2Proof.Machine.execAdcRefFault r bad s
  | .fieldDieOvertemp temp => Sys2Proof.Machine.execFieldDieOvertemp temp s
  | .keeperLivenessTimeout => Sys2Proof.Machine.execKeeperLivenessTimeout s
  | .canFrameReceived n f at0 => Sys2Proof.Machine.execCanFrameReceived n f at0 s
  | .canPush n => Sys2Proof.Machine.execCanPush n s
  | .canAbortHead n onBus => Sys2Proof.Machine.execCanAbortHead n onBus s
  | .canFlush n onBus => Sys2Proof.Machine.execCanFlush n onBus s
  | .canRecover n => Sys2Proof.Machine.execCanRecover n s
  | .canFrameSent n at0 => Sys2Proof.Machine.execCanFrameSent n at0 s
  | .canBusError n e => Sys2Proof.Machine.execCanBusError n e s
  | .headTmoExpiry n onBus => Sys2Proof.Machine.execHeadTmoExpiry n onBus s
  | .busOffRecovery n => Sys2Proof.Machine.execBusOffRecovery n s
  | .canRxRdWrite n v => Sys2Proof.Machine.execCanRxRdWrite n v s
  | .portStateChange p st => Sys2Proof.Machine.execPortStateChange p st s
  | .heldFrameTimeout p => Sys2Proof.Machine.execHeldFrameTimeout p s
  | .prpFrameReceive p src seq trailer fcsGood => Sys2Proof.Machine.execPrpFrameReceive p src seq trailer fcsGood s
  | .prpSupervision k => Sys2Proof.Machine.execPrpSupervision k s
  | .gptpMessage p m => Sys2Proof.Machine.execGptpMessage p m s
  | .stationCycleSend n => Sys2Proof.Machine.execStationCycleSend n s
  | .stationInputFrame f => Sys2Proof.Machine.execStationInputFrame f s
  | .stationRetry n => Sys2Proof.Machine.execStationRetry n s
  | .stationBudgetEnd n => Sys2Proof.Machine.execStationBudgetEnd n s
  | .waggleSend => Sys2Proof.Machine.execWaggleSend s
  | .waggleReceive w lualas => Sys2Proof.Machine.execWaggleReceive w lualas s
  | .holderTake => Sys2Proof.Machine.execHolderTake s
  | .partnerSilent => Sys2Proof.Machine.execPartnerSilent s
  | .lualasLost => Sys2Proof.Machine.execLualasLost s
  | .handover req => Sys2Proof.Machine.execHandover req s
  | .resync req => Sys2Proof.Machine.execResync req s
  | .resyncComplete copy => Sys2Proof.Machine.execResyncComplete copy s
  | .selectionRecord tick sels => Sys2Proof.Machine.execSelectionRecord tick sels s
  | .mirroredStationFrame f => Sys2Proof.Machine.execMirroredStationFrame f s
  | .slotMirrorReceive id m => Sys2Proof.Machine.execSlotMirrorReceive id m s
  | .callOrderRecord g w0 w1 => Sys2Proof.Machine.execCallOrderRecord g w0 w1 s
  | .callOrderTimeout g token => Sys2Proof.Machine.execCallOrderTimeout g token s
  | .healthVerdict => Sys2Proof.Machine.execHealthVerdict s
  | .ppsEdge => Sys2Proof.Machine.execPpsEdge s
  | .timebaseAdjust offset => Sys2Proof.Machine.execTimebaseAdjust offset s
  | .ppsLost => Sys2Proof.Machine.execPpsLost s
  | .timebaseLocked => Sys2Proof.Machine.execTimebaseLocked s
  | .intervalEvent u => Sys2Proof.Machine.execIntervalEvent u s
  | .pageClose stream => Sys2Proof.Machine.execPageClose stream s
  | .nvmeWriteComplete drive stream ok => Sys2Proof.Machine.execNvmeWriteComplete drive stream ok s
  | .nvmePeriodicFlush => Sys2Proof.Machine.execNvmePeriodicFlush s
  | .pcieLinkChange port link drive => Sys2Proof.Machine.execPcieLinkChange port link drive s
  | .driveFailure port timeout => Sys2Proof.Machine.execDriveFailure port timeout s
  | .driveReturn port blocks isNew => Sys2Proof.Machine.execDriveReturn port blocks isNew s
  | .rebuildComplete => Sys2Proof.Machine.execRebuildComplete s
  | .stoFormat => Sys2Proof.Machine.execStoFormat s
  | .stoRebuild => Sys2Proof.Machine.execStoRebuild s
  | .stoFlush => Sys2Proof.Machine.execStoFlush s
  | .headJournal => Sys2Proof.Machine.execHeadJournal s
  | .consumerAck k stream seq => Sys2Proof.Machine.execConsumerAck k stream seq s
  | .consumerTimeout k => Sys2Proof.Machine.execConsumerTimeout k s
  | .consumerDownResend k => Sys2Proof.Machine.execConsumerDownResend k s
  | .backfillSend k stream => Sys2Proof.Machine.execBackfillSend k stream s
  | .fwStageBegin => Sys2Proof.Machine.execFwStageBegin s
  | .fwVerify => Sys2Proof.Machine.execFwVerify s
  | .fwSelect => Sys2Proof.Machine.execFwSelect s
  | .fwAbort => Sys2Proof.Machine.execFwAbort s
  | .raiseSvn => Sys2Proof.Machine.execRaiseSvn s
  | .fanSlow n rpm => Sys2Proof.Machine.execFanSlow n rpm s
  | .mgmtConnect port fingerprint authenticated => Sys2Proof.Machine.execMgmtConnect port fingerprint authenticated s
  | .mgmtRead n tag addr len => Sys2Proof.Machine.execMgmtRead n tag addr len s
  | .mgmtWrite n tag addr data => Sys2Proof.Machine.execMgmtWrite n tag addr data s
  | .mgmtStage n tag offset data => Sys2Proof.Machine.execMgmtStage n tag offset data s
  | .mgmtSealed n tag which code payload => Sys2Proof.Machine.execMgmtSealed n tag which code payload s
  | .mgmtRecords n tag first count => Sys2Proof.Machine.execMgmtRecords n tag first count s
  | .mgmtKey n tag enrol slot key signature => Sys2Proof.Machine.execMgmtKey n tag enrol slot key signature s
  | .sealedAnswer ch => Sys2Proof.Machine.execSealedAnswer ch s
  | .calendarSet req => Sys2Proof.Machine.execCalendarSet req s
  | .rtcSecond => Sys2Proof.Machine.execRtcSecond s
  | .eventArrival block => Sys2Proof.Machine.execEventArrival block s
  | .eventRecordWrite => Sys2Proof.Machine.execEventRecordWrite s
  | .recordClose => Sys2Proof.Machine.execRecordClose s
  | .eventQueueRoom => Sys2Proof.Machine.execEventQueueRoom s
  | .smokeRequest => Sys2Proof.Machine.execSmokeRequest s
  | .smokeWaitSafe => Sys2Proof.Machine.execSmokeWaitSafe s
  | .smokeFrozen => Sys2Proof.Machine.execSmokeFrozen s
  | .smokeThaw => Sys2Proof.Machine.execSmokeThaw s
  | .dbgBypass tdi => Sys2Proof.Machine.execDbgBypass tdi s
  | .dbgIdcode => Sys2Proof.Machine.execDbgIdcode s
  | .dbgSamplePreload captured preload => Sys2Proof.Machine.execDbgSamplePreload captured preload s
  | .dbgExtest => Sys2Proof.Machine.execDbgExtest s
  | .dbgAuth answer => Sys2Proof.Machine.execDbgAuth answer s
  | .dbgAccess op => Sys2Proof.Machine.execDbgAccess op s
  | .dbgBootload slot image => Sys2Proof.Machine.execDbgBootload slot image s
  | .routeWrite req n value => Sys2Proof.Machine.execRouteWrite req n value s
  | .softRaise req value => Sys2Proof.Machine.execSoftRaise req value s
  | .busIntegration n => Sys2Proof.Machine.execBusIntegration n s
  | .laneDropped k => Sys2Proof.Machine.execLaneDropped k s
  | .gptpSourceLost => Sys2Proof.Machine.execGptpSourceLost s
  | .modbusDeviceLost no => Sys2Proof.Machine.execModbusDeviceLost no s
  | .mirrorAckB id => Sys2Proof.Machine.execMirrorAckB id s
  | .rawReadingChange k volts => Sys2Proof.Machine.execRawReadingChange k volts s
  | .voltageSample mv => Sys2Proof.Machine.execVoltageSample mv s
  | .standbySelfTest t ok => Sys2Proof.Machine.execStandbySelfTest t ok s

end Sys2Proof.Machine
end

