-- ==== Sys2Proof/Machine/Step.lean ====
section
/-! DEFINITION. One step: the command at the front of the queue, or, with none waiting, one count of the device clock, a turn of the
gates and the requests that had to wait. -/
namespace Sys2Proof.Machine

/-- The step of the block: the front command runs with the queue's rest; on an empty queue REFCLK advances by one count of 1 GHz
(R56, R487), each port sends what its gates now let go (R459), and the sessions' requests that waited for a block go on (R546, R548). -/
def step (s : State) : Host.Outcome State Fault Refusal :=
  match s.pending with
  | c :: rest => exec c { s with pending := rest }
  | [] => .next (idleTurn s)

/-- The state with the command that a table word spells in front of its queue; unchanged where the word spells none. -/
def State.withFetchWord (s : State) (nbits w : Nat) : State :=
  match Sys2Proof.decodeTableWord nbits w with
  | some c => { s with pending := c :: s.pending }
  | none => s

end Sys2Proof.Machine
end

