-- ==== Sys2Proof/Safety.lean ====
section
/-! DEFINITION. What counts as a sound state and a sound run: the invariants that every step is meant to keep. -/
namespace Sys2Proof.Machine

/-- A predicate that every step keeps. -/
def Kept (P : State → Prop) : Prop := ∀ s t, P s → step s = .next t → P t

/-- The command answers a next state, and that state is as `P` says. -/
def Completes (c : Instr) (s : State) (P : State → Prop) : Prop := ∃ t, exec c s = .next t ∧ P t

/-- An event of source `src` with the data words `data`, raised at the device time of `s`, is on its way in `t` (R554). -/
abbrev Raised (s : State) (src : Nat) (data : List Word) (t : State) : Prop :=
  ∃ e ∈ t.evt.inFlight, e.src = src ∧ e.data = data ∧ e.time = s.tmb.time

/-- CE `n` issues its next instruction: it is in RUN, and its fetch raises nothing (R145, R147). -/
abbrev Issues (s : State) (n : Fin 128) : Prop := (ceOf s n.val).st = .run ∧ fetchFault s n.val (ceOf s n.val) (ceOf s n.val).pc = none

/-- A CE that stands in a delay slot stands right behind the branch (R156). -/
abbrev slotBehind (c : Ce) : Prop := ∀ d, c.slot = some d → c.pc = d.branch + 4

/-- Every CE does, those saved in the two save areas included. -/
abbrev SlotBehindBranch (s : State) : Prop :=
  (∀ e ∈ s.ces, slotBehind e.2) ∧ (∀ e ∈ s.areaA.ces, slotBehind e.2) ∧ (∀ e ∈ s.areaB.ces, slotBehind e.2)

/-- An element reaches its home slice, and the guard lets it through (R224 to R227). -/
abbrev Reaches (s : State) (w : CombWho) (r id : Nat) (op : CombOp) : Prop :=
  id < 262144 ∧ serves s (homeDie s id) = true ∧ guardResult s w r id op none false = none

/-- The state after an element that writes its slot has been carried out: the alarm state is evaluated where it touches VALUE (R233). -/
def slotWritten (s : State) (w : CombWho) (r id : Nat) (op : CombOp) : State :=
  let q := applyOp (pointOf s id) w r (devTime s) op
  if opTouches op then commitPoint false id q s else storePoint [] id q s

/-- The service set that KPR_ISLAND_STATE shows is one of the four (R28). -/
abbrev setLegal (s : State) : Prop := fld (islandState s.dies) 3 0 ≤ 3

/-- PHASE is one of 0 to 10 or 15 (RST_PHASE). -/
abbrev phaseLegal (s : State) : Prop := s.rst.phase ≤ 10 ∨ s.rst.phase = 15

/-- EVT_BADACC holds a cause that is issued, and its count stays within 16 bits (R549). -/
abbrev badAccLegal (s : State) : Prop := s.evt.badCause ≤ 4 ∧ s.evt.badCount ≤ 65535

/-- The recorder's queue holds at most 1,024 events (R532). -/
abbrev recorderBounded (s : State) : Prop := s.evr.queue.length ≤ 1024

/-- The call that a REGISTER would hold, from the staged record (R350). -/
def stagedCall (s : State) (g : Nat) : Call :=
  let x := grpOf s g
  let c : Call := { w0 := x.stage0, w1 := x.stage1 &&& 0xFF00FFFF, state := .planning, car := none, deck := 0,
                    board := 0, accepted := devTime s, pick := none, drop := none, told := false, merged := [] }
  if c.kind = 4 then { c with car := (groupCars s g)[c.carIndex]?, board := c.dest } else { c with board := c.origin }

/-- A held call that a hall call is merged into (R372). -/
abbrev mergesInto (c o : Call) : Prop := c.isHall = true ∧ o.kind = c.kind ∧ o.origin = c.origin ∧ o.cls = c.cls ∧ o.state ≠ .boarded

/-- The port takes calls, and the staged record passes checks 1, 2 and 3 of R351 and the rights of R352. -/
abbrev PortTakes (s : State) (g : Nat) (c : Call) : Prop :=
  running s .comp0 = true ∧ (groupCfg s g).isSome = true ∧ computeRuns s = true ∧ s.kpr.smoke ≠ .frozen
    ∧ (grpOf s g).port.length + (grpOf s g).unordered.length < 16 ∧ callInRange s g c = true
    ∧ (3 ≤ c.kind → bitAt (rightsWord s c.profile (c.dest / 32)) (c.dest % 32) = true)

/-- The parts of the state: its fields. -/
inductive Part where
  | now | free | ordering | dies | pins | rst | trs | frm | img | kpr | evt | evr | tmb | ces | mram | areaA | areaB | acq | sto | cmb | cyc | hst | fbk | dor | dsp | safA | safB | saf | fio | can | net | pending
deriving DecidableEq, Repr

/-- A part is the same in two states. -/
def Part.same (s t : State) : Part → Prop
  | .now => t.now = s.now
  | .free => t.free = s.free
  | .ordering => t.ordering = s.ordering
  | .dies => t.dies = s.dies
  | .pins => t.pins = s.pins
  | .rst => t.rst = s.rst
  | .trs => t.trs = s.trs
  | .frm => t.frm = s.frm
  | .img => t.img = s.img
  | .kpr => t.kpr = s.kpr
  | .evt => t.evt = s.evt
  | .evr => t.evr = s.evr
  | .tmb => t.tmb = s.tmb
  | .ces => t.ces = s.ces
  | .mram => t.mram = s.mram
  | .areaA => t.areaA = s.areaA
  | .areaB => t.areaB = s.areaB
  | .acq => t.acq = s.acq
  | .sto => t.sto = s.sto
  | .cmb => t.cmb = s.cmb
  | .cyc => t.cyc = s.cyc
  | .hst => t.hst = s.hst
  | .fbk => t.fbk = s.fbk
  | .dor => t.dor = s.dor
  | .dsp => t.dsp = s.dsp
  | .safA => t.safA = s.safA
  | .safB => t.safB = s.safB
  | .saf => t.saf = s.saf
  | .fio => t.fio = s.fio
  | .can => t.can = s.can
  | .net => t.net = s.net
  | .pending => t.pending = s.pending

/-- The parts of the state that a command may change. Free values are drawn, and events raised, where the command says. -/
def partsOf : Instr → List Part
  | .registerWrite _ _ _ _ => [.free, .pins, .rst, .trs, .frm, .kpr, .evt, .evr, .ces, .acq, .sto, .cmb, .cyc, .hst, .fbk, .dor,
    .dsp, .saf, .fio, .can, .net]
  | .keeperAccessTimeout _ | .mgmtRead _ _ _ _ | .mgmtWrite _ _ _ _ | .mgmtStage _ _ _ _ | .mgmtSealed _ _ _ _ _
    | .mgmtRecords _ _ _ _ | .mgmtKey _ _ _ _ _ _ | .dbgAccess _ => [.free, .pins, .rst, .trs, .frm, .kpr, .evt,
    .evr, .tmb, .ces, .acq, .sto, .cmb, .cyc, .hst, .fbk, .dor, .dsp, .saf, .fio, .can, .net]
  | .dieStateChange _ | .flitPairReceive _ _ _ _ => [.free, .dies, .pins, .rst, .trs, .frm, .img, .kpr, .evt, .tmb, .ces, .acq, .sto,
    .cmb, .cyc, .hst, .fbk, .dor, .dsp, .safA, .safB, .saf, .fio, .can, .net]
  | .powerOnReset | .supplyReset _ | .pinReset _ | .keeperWatchdogReset _ => [.free, .dies, .pins, .rst, .trs, .frm, .kpr, .evt,
    .evr, .tmb, .ces, .acq, .sto, .cmb, .cyc, .hst, .fbk, .dor, .dsp, .safA, .safB, .saf, .fio, .can, .net]
  | .islandResetRequest _ => [.pins, .rst, .evt, .ces]
  | .blockResetRequest _ | .vcoreLoopStep | .pmbusFault => [.rst, .evt]
  | .unitIdleAnswer _ | .idleTimeout _ | .startupSupplyInterrupt | .braceBegin _ => [.free, .dies, .pins, .rst, .trs, .frm, .kpr,
    .evt, .tmb, .ces, .acq, .sto, .cmb, .cyc, .hst, .fbk, .dor, .dsp, .saf, .fio, .can, .net]
  | .resetRelease _ => [.free, .dies, .pins, .rst, .trs, .img, .kpr, .evt, .tmb, .ces, .sto, .cmb, .cyc, .hst, .fbk, .dor, .dsp,
    .fio, .can, .net]
  | .startupPhaseComplete _ _ _ => [.free, .dies, .pins, .rst, .trs, .frm, .img, .kpr, .evt, .tmb, .ces, .sto, .cmb, .cyc, .hst,
    .fbk, .dor, .dsp, .safA, .safB, .fio, .can, .net]
  | .supplyPhaseWait | .deckLate _ | .softRaise _ _ | .routeWrite _ _ _ => [.evt]
  | .startupResume => [.dies, .pins, .rst, .evt, .safA, .safB, .fio]
  | .pmbFaultClear => [.rst]
  | .speedFloorLost | .speedFloorRegained => [.free, .pins, .rst, .kpr, .evt, .can, .net]
  | .saveFirstPassComplete => [.rst, .areaA, .areaB]
  | .braceRecovery => [.free, .dies, .pins, .rst, .trs, .frm, .img, .kpr, .evt, .evr, .tmb, .ces, .acq, .sto, .cmb, .cyc, .hst, .fbk,
    .dor, .dsp, .safA, .safB, .saf, .fio, .can, .net]
  | .braceCommit => [.free, .pins, .rst, .evt, .ces, .sto, .fio, .can, .net]
  | .saveComplete _ => [.free, .dies, .pins, .rst, .trs, .frm, .kpr, .evt, .evr, .tmb, .ces, .areaA, .areaB, .acq, .sto, .cmb, .cyc,
    .hst, .fbk, .dor, .dsp, .safA, .safB, .saf, .fio, .can, .net]
  | .braceRestart => [.pins, .rst, .frm, .safA, .safB]
  | .speedMonitorReading _ _ => [.rst, .trs, .evt]
  | .linkRetry _ | .linkResync _ | .trsLinkErrClear => [.trs]
  | .bookAudit _ _ => [.free, .pins, .trs, .kpr, .evt, .can, .net]
  | .thermalSample _ => [.trs, .kpr]
  | .thermalStateChange => [.free, .pins, .rst, .trs, .kpr, .evt, .cyc, .fio, .can, .net]
  | .sealBreak | .sealLoopRestored | .presenceEnd => [.free, .pins, .frm, .kpr, .evt, .can, .net]
  | .presenceBegin => [.pins, .frm, .evt]
  | .tamperClear _ | .frmStageBegin | .stagingComplete | .frmVerify _ | .benchArm _ | .keyEnrol _ _ _ _ | .keyRemove _ _ _ => [.frm, .evt]
  | .frmActivate _ | .frmRevert _ | .frmAbort _ => [.frm, .evt, .cyc]
  | .benchDisarm => [.frm]
  | .integerInstruction _ _ _ | .floatInstruction _ _ _ | .vectorInstruction _ _ _ | .branch _ _ | .branchLink _ _ | .jumpReg _ _
    | .loop _ _ | .lclr _ _ | .mfs _ _ _ _ | .mts _ _ _ _ | .sys _ _ | .xret _ _ | .setm _ _ | .brk _ _ | .trussAccessTimeout _ _
    | .icacheFill _ _ _ | .interruptTaken _ => [.free, .evt, .ces, .cyc]
  | .loadInstruction _ _ _ _ _ _ _ => [.free, .evt, .tmb, .ces, .acq, .cyc]
  | .storeInstruction _ _ _ _ _ _ => [.free, .pins, .rst, .trs, .frm, .kpr, .evt, .evr, .ces, .mram, .acq, .sto, .cmb, .cyc, .hst,
    .fbk, .dor, .dsp, .saf, .fio, .can, .net]
  | .gath _ _ _ _ | .scat _ _ _ _ | .ldp _ _ _ | .stp _ _ _ => [.free, .evt, .ces, .cmb, .cyc]
  | .wait _ _ => [.free, .pins, .kpr, .evt, .ces, .cmb, .cyc, .hst, .dor, .fio, .can, .net]
  | .ceHalt _ | .ceCtrlRestart _ | .handoverTimeout _ => [.evt, .ces, .cyc]
  | .ceCtrlHalt _ | .ceCtrlResume _ => [.ces]
  | .schedulerTick | .selectionRecord _ _ => [.free, .pins, .kpr, .evt, .ces, .cyc, .can, .net]
  | .taskStartCmd _ | .persistentFlushComplete _ => [.cyc]
  | .taskStopCmd _ => [.free, .pins, .kpr, .evt, .cyc, .can, .net]
  | .handoverSwitchTick => [.frm, .img, .evt, .ces, .cyc]
  | .dataMapComplete _ => [.free, .frm, .img, .evt, .ces, .cyc]
  | .forceSet _ _ | .forceClear _ _ | .forceClearAll _ _ | .forceExpiry _ _ => [.pins, .evt, .cmb, .cyc, .fio]
  | .combAccess _ _ _ _ | .mirrorWriteTimeout _ _ | .slotReload _ _ _ | .keeperReadWord _ _ _ | .keeperWriteWord _ _ _
    | .keeperRelinquish _ _ _ | .keeperReadSlot _ _ _ | .levelChange | .bacnetScConnect _ _ _ _ | .covNotification _
    | .modbusTcpRequest _ _ _ _ _ | .modbusRtuResponse _ _ | .modbusDeviceLost _ => [.evt, .cmb]
  | .mirrorWriteA _ | .mirrorAckA _ | .slotMirrorReceive _ _ | .mirrorAckB _ => [.cmb]
  | .alarmScan | .trendSample _ | .whoIs _ _ _ | .whoHas _ _ | .readProperty _ _ _ | .readPropertyMultiple _ _
    | .writeProperty _ _ _ _ _ | .writePropertyMultiple _ _ | .subscribeCov _ _ _ _ | .getEventInformation _
    | .acknowledgeAlarm _ _ _ | .readRange _ _ _ _ => [.evt, .acq, .sto, .cmb, .net]
  | .tenantModuleLoad _ _ => [.evt, .ces, .mram, .cmb]
  | .tenantModuleSwitch _ => [.evt, .cmb, .cyc]
  | .tenantSwitchTimeout _ => [.evt, .ces, .cmb, .cyc]
  | .energyForecast => [.free, .evt, .cmb]
  | .hoistFrameCompute _ => [.evt, .hst, .dsp, .acq, .sto, .net]
  | .settleExpiry _ | .callCancel _ _ | .queueResult _ => [.evt, .hst, .dsp]
  | .hstStart _ | .hstStop _ | .hstResume _ | .hstCancel _ | .hstReset _ | .hstRelevel _ | .vlimWrite _ _ _ | .startTimeout _
    | .rescueCommand _ _ | .queueInsert _ _ _ | .queueReplace _ _ _ | .queueRemove _ _ _ | .queueClear _ _ _ => [.evt, .hst]
  | .vcapWrite _ _ | .driveReturnFrame _ _ _ _ _ => [.hst]
  | .ssiRequest _ _ => [.free, .evt, .acq, .fbk, .safA, .safB]
  | .ssiFrameComplete _ _ => [.evt, .acq, .sto, .fbk, .safA, .safB, .net]
  | .feedbackRecord _ _ _ => [.evt, .fbk, .safA, .safB]
  | .quadEdge _ _ _ => [.evt, .acq, .sto, .fbk, .net]
  | .indexEdge _ _ => [.evt, .acq, .fbk]
  | .fusionTick _ => [.free, .evt, .acq, .sto, .fbk, .safA, .safB, .net]
  | .fbkClear _ => [.free, .fbk]
  | .learnBegin _ | .learnAbort _ => [.fbk]
  | .learnEnd _ => [.evt, .fbk, .dsp]
  | .doorZoneEdge _ _ => [.evt, .fbk]
  | .doorUpdate _ => [.evt, .acq, .sto, .dor, .net]
  | .doorOpen _ | .doorClose _ | .doorNudge _ | .doorStop _ | .doorReset _ | .armAdo _ | .disarmAdo _ | .doorProfileWrite _ _ _
    | .gearCommit _ | .doorReturnFrame _ _ _ _ _ _ _ | .modeSwitchTimeout _ => [.evt, .dor]
  | .callRegister _ => [.evt, .hst, .dsp, .net]
  | .insertionStep _ | .sweepSlice _ => [.evt, .ces, .cyc, .hst, .dsp]
  | .tagRelease | .carLeavesService _ | .tableRebuild _ | .longWaitExpiry _ _ | .callOrderTimeout _ _ => [.evt, .dsp]
  | .regenForecast => [.evt, .cmb, .dsp]
  | .safetyCycle _ _ => [.pins, .evt, .safA, .safB, .saf]
  | .safetyRelease => [.evt, .safA, .safB, .saf, .fio]
  | .cycleMarker _ _ | .plumbFrameReceive _ _ | .plumbFrameDeadline _ | .safetyInitComplete _ | .safeReset
    | .brakeConfirmTimeout _ _ _ | .brakeTestHoldEnd _ _ | .brakeDueTrip _ _ | .smokeWaitExpiry _ | .sealedStage _ _ _ _
    | .sealedCommit _ _ _ _ | .sealedRevert _ _ _ _ | .sealedCarReset _ _ _ _ | .sealedFreeze _ _ | .sealedThaw _ _
    | .sealedBench _ _ _ => [.evt, .safA, .safB]
  | .inputFilterQualified _ _ _ => [.safA, .safB, .fio]
  | .safetyInFrame _ _ _ | .safetyStationWatchdog _ _ | .publicationTimeout _ | .mainDropExpiry _ _ | .brakeTestStart _ _
    | .brakeTestDue _ _ | .lockoutExpiry _ => [.safA, .safB]
  | .safetyPowerUp _ => [.free, .dies, .pins, .rst, .kpr, .evt, .safA, .safB, .fio, .can, .net]
  | .safetyDieFault _ _ | .safetySupplyLoss _ => [.free, .dies, .pins, .rst, .kpr, .evt, .safA, .safB, .saf, .fio, .can, .net]
  | .vfieldLost _ | .vfieldOver _ | .vfieldGood _ | .programFilterQualified _ | .outputOverload _ _ | .outputOvertemp _
    | .openWireSet _ _ | .coilTrip _ _ | .pairModeSwitchTimeout _ | .adcRefFault _ _ | .fieldDieOvertemp _ => [.evt, .fio]
  | .overloadRetry _ | .outputCooled _ | .openWireClear _ | .pullEnd _ | .coilOffsetUpdate _ _ | .pairTargetWrite _ _ => [.fio]
  | .adcSample _ | .rawReadingChange _ _ => [.evt, .acq, .sto, .fio, .net]
  | .keeperLivenessTimeout => [.pins, .fio]
  | .canFrameReceived _ _ _ | .canPush _ | .canAbortHead _ _ | .canFlush _ _ | .canRecover _ => [.free, .evt, .can]
  | .canFrameSent _ _ | .canBusError _ _ | .headTmoExpiry _ _ | .busOffRecovery _ => [.evt, .can]
  | .canRxRdWrite _ _ | .busIntegration _ => [.can]
  | .portStateChange _ _ | .heldFrameTimeout _ | .laneDropped _ => [.evt, .net]
  | .prpFrameReceive _ _ _ _ _ | .prpSupervision _ | .stationRetry _ | .waggleSend | .mirroredStationFrame _
    | .standbySelfTest _ _ => [.net]
  | .gptpMessage _ _ | .timebaseAdjust _ => [.free, .evt, .tmb]
  | .stationCycleSend _ => [.evt, .cmb, .cyc, .fbk, .dor, .net]
  | .stationInputFrame _ => [.evt, .cmb, .cyc, .net]
  | .stationBudgetEnd _ => [.evt, .cmb, .cyc, .fbk, .net]
  | .waggleReceive _ _ | .healthVerdict => [.free, .pins, .kpr, .evt, .fio, .can, .net]
  | .holderTake => [.free, .pins, .kpr, .evt, .ces, .cyc, .dsp, .fio, .can, .net]
  | .partnerSilent | .lualasLost => [.free, .pins, .kpr, .evt, .ces, .cyc, .fio, .can, .net]
  | .handover _ | .resync _ => [.free, .evt, .can, .net]
  | .resyncComplete _ => [.free, .pins, .kpr, .evt, .ces, .cmb, .cyc, .hst, .fbk, .dor, .dsp, .can, .net]
  | .callOrderRecord _ _ _ => [.dsp]
  | .ppsEdge => [.free, .evt, .tmb, .acq]
  | .ppsLost | .timebaseLocked | .gptpSourceLost => [.evt, .tmb]
  | .intervalEvent _ => [.evt, .acq, .sto, .net]
  | .pageClose _ | .consumerDownResend _ | .backfillSend _ _ => [.sto, .net]
  | .nvmeWriteComplete _ _ _ | .pcieLinkChange _ _ _ | .driveFailure _ _ | .driveReturn _ _ _ | .rebuildComplete | .stoFormat
    | .consumerAck _ _ _ | .consumerTimeout _ => [.evt, .sto]
  | .nvmePeriodicFlush | .stoRebuild | .stoFlush | .headJournal => [.sto]
  | .fwStageBegin | .fwAbort | .dbgBypass _ | .dbgIdcode | .dbgSamplePreload _ _ | .dbgExtest | .dbgBootload _ _ => [.kpr]
  | .fwVerify | .fwSelect | .raiseSvn | .fanSlow _ _ | .mgmtConnect _ _ _ | .calendarSet _ | .smokeWaitSafe | .dbgAuth _ | .voltageSample _ => [.kpr, .evt]
  | .sealedAnswer _ => [.kpr, .evt, .safA, .safB]
  | .rtcSecond => [.free, .kpr, .evt, .tmb]
  | .eventArrival _ | .eventQueueRoom => [.evt, .evr]
  | .eventRecordWrite => [.free, .evt, .evr, .tmb, .acq, .sto, .net]
  | .recordClose => [.evt, .evr, .acq, .sto, .net]
  | .smokeRequest => [.free, .pins, .kpr, .evt, .can, .net]
  | .smokeFrozen => [.kpr, .evt, .ces]
  | .smokeThaw => [.free, .pins, .kpr, .evt, .ces, .fio, .can, .net]

end Sys2Proof.Machine
end

