-- ==== Sys2Proof/WellFormed.lean ====
section
/-! DEFINITION. Which commands are well formed: the lengths that the spec fixes for what a command carries as a list. -/
namespace Sys2Proof

/-- Points are numbered below 262,144 (R215). -/
def pointsOk (ids : List Nat) : Bool := ids.all (fun i => decide (i < 262144))

/-- No die is named twice, and the Keeper's own state is not among those it shows (KPR_ISLAND_STATE). -/
def diesOk : List (Die × DieState) → Bool
  | [] => true
  | (d, _) :: t => decide (d ≠ .keeper) && !(t.any (fun e => decide (e.1 = d))) && diesOk t

/-- A station frame carries at most 360 words (R460). -/
def frameOk (f : StationFrame) : Bool := decide (f.payload.length ≤ 360)

/-- A CAN frame's data fill no more than its format holds (R438). -/
def canOk (f : CanFrame) : Bool := decide (f.data.length ≤ (if f.fdf then 64 else 8)) && !(f.fdf && f.rtr)

/-- A key is an uncompressed P-384 point, a signature its two numbers (R120, R123). -/
def keyOk (key : List Byte) : Bool := decide (key.length = 97)
def signatureOk (sg : List Byte) : Bool := decide (sg.length = 96)

/-- A BACnet object names a point below 262,144, or a device (R215, R236). -/
def objectOk : BacObject → Bool
  | .device _ => true
  | .point _ _ id => decide (id < 262144)
  | .trendLog id => decide (id < 262144)

/-- A command is well formed. -/
def Instr.wellFormed : Instr → Bool
  | .dieStateChange cs => diesOk cs
  | .startupPhaseComplete _ a b => pointsOk a && pointsOk b
  | .thermalSample ts => decide (ts.length = 32)
  | .voltageSample mv => decide (mv.length = 16)
  | .adcSample vs => decide (vs.length = 32)
  | .keyEnrol _ _ key sg => keyOk key && signatureOk sg
  | .keyRemove _ _ sg => signatureOk sg
  | .mgmtKey _ _ enrol _ key sg => (!enrol || keyOk key) && signatureOk sg
  | .stationInputFrame f => frameOk f.frame
  | .safetyInFrame f _ _ => frameOk f
  | .mirroredStationFrame f => frameOk f
  | .canFrameReceived _ f _ => canOk f
  | .dbgBootload _ image => decide (image.length ≤ 15728640)
  | .sealedStage _ _ _ image => decide (image.length ≤ 1048576)
  | .readProperty _ o _ => objectOk o
  | .readPropertyMultiple _ items => items.all (fun i => objectOk i.1)
  | .writeProperty _ o _ _ _ => objectOk o
  | .writePropertyMultiple _ items => items.all (fun i => objectOk i.1)
  | .subscribeCov _ o _ _ => objectOk o
  | .acknowledgeAlarm _ o _ => objectOk o
  | .readRange _ id _ _ => decide (id < 262144)
  | _ => true

end Sys2Proof
end

