-- ==== Sys2Proof/Certificates/Slice0/Obligations.lean ====
section
/-! DEFINITION. The statements for the provers: what the commands of each family do, what each leaves alone, and the
invariants that every step keeps. -/
open Sys2Proof Sys2Proof.Machine

/-- A step takes the command at the front of the queue, runs it with the queue's rest, and answers what it answers. On an empty queue the
step is the idle turn, which is the model's choice (log entries 1 and 110). -/
def Obligations.StepTakesTheFrontCommand : Prop :=
  (∀ c rest s, s.pending = c :: rest → step s = exec c { s with pending := rest }) ∧
  (∀ c s, step { s with pending := c :: s.pending } = exec c s) ∧
  (∀ s, s.pending = [] → step s = .next (idleTurn s))

/-- Whatever the state, a step answers a next state, and the queue has lost its front command and no other: no command puts one into
the queue or takes another out. -/
def Obligations.EveryStepConsumesOneCommand : Prop :=
  ∀ s, ∃ t, step s = .next t ∧ t.pending = s.pending.drop 1

/-- Reset values that the register tables give (01, 02, 03, 06, 07, 08, 12, 16, 17, 18): each register reads its value in the reset
state, and a control engine is in OFF, in runtime mode, with every register 0. The invariants stated over every step hold in the reset
state. -/
def Obligations.ResetValues : Prop :=
  (∀ q ∈ ([(1, 0x000, 0x00000002), (1, 0x014, 0x076C005F), (1, 0x030, 0x03840320), (5, 0x004, 0x00000014), (6, 0x014, 0x00800000),
      (15, 0x000, 0x00000001), (16, 0x000, 0x00000100), (16, 0x400, 0x000007D0), (17, 0x008, 0x00000064)] : List (Nat × Nat × Word)),
    regAt .debug q.1 q.2.1 State.reset = some q.2.2) ∧
  (∀ p : Fin 128, regAt .debug 2 (0x800 + 4 * p.val) State.reset = some 0x00420800) ∧
  (∀ p : Fin 8, regAt .debug 14 (16 * p.val) State.reset = some 0x00320000) ∧
  (∀ g : Fin 8, (grpOf State.reset g.val).avail = 0xFFFF ∧ (grpOf State.reset g.val).weight0 = 0x02010401
    ∧ (grpOf State.reset g.val).weight1 = 0x3C050A00 ∧ (grpOf State.reset g.val).dwell = 0x500A6420) ∧
  (∀ n : Fin 128, (ceOf State.reset n.val).st = .off ∧ specialReg (ceOf State.reset n.val) 6 = some 0x80000000
    ∧ (∀ k, greg (ceOf State.reset n.val) k = 0) ∧ (∀ j k, vlane (ceOf State.reset n.val) j k = 0)
    ∧ (∀ q ∈ ([0, 1, 2, 3, 4, 5, 8, 9, 10, 12, 13, 14] : List Nat), specialReg (ceOf State.reset n.val) q = some 0)) ∧
  State.reset.pending = [] ∧
  SlotBehindBranch State.reset ∧ twf (0 : Byte) State.reset.mram = true ∧ phaseLegal State.reset ∧ badAccLegal State.reset
    ∧ recorderBounded State.reset

/-- The fused identity (R3): KPR_DEVICE_ID reads the ordering code, the stepping and the part number; no step changes the ordering
code, and a write to the register is discarded and counted. The Keeper die runs, and no command of the requester is held (R547). -/
def Obligations.DeviceIdentity : Prop :=
  (∀ req s, running s .keeper = true → waitsBehind s req = false →
    ctlRead req 0x00000004 s = (.ok, regOf [(27, 24, s.ordering), (23, 16, 0xA1), (15, 0, 0x1FC0)], s)) ∧
  (∀ s t, step s = .next t → t.ordering = s.ordering) ∧
  (∀ req value s, running s .keeper = true → waitsBehind s req = false →
    Completes (.registerWrite req 0x00000004 .word value) s fun t => t = badAccess req 4 0x00000004 s)

/-- The MRAM that the image assigns to control engines and tenant modules keeps its canonical form in every step: addresses strictly
rising, and no byte listed that equals what an unlisted one reads as. -/
def Obligations.MramStaysCanonical : Prop := Kept fun s => twf (0 : Byte) s.mram = true

/-- Words of the control engines decode as R152 to R155 give them: a branch guarded by p3 six words back, a branch with link, a loop of
unit 1 with the immediate count 16 and a body of 5 words, a point instruction, and an opcode that no table lists. -/
def Obligations.CeWordsDecode : Prop :=
  decodeCe 0xC0FFFFFA = .branch { guard := { pn := false, ps := 3 }, disp := 0x3FFFFA } ∧
  decodeCe 0xC4000010 = .branchLink { guard := { pn := false, ps := 0 }, disp := 0x10 } ∧
  decodeCe 0xD0310005 = .loop { guard := { pn := false, ps := 0 }, u := true, i := true, mid := 16, stop := 5 } ∧
  decodeCe 0xA4043005 = .ldp { guard := { pn := false, ps := 0 }, rd := 2, ra := 3, imm := 5 } ∧
  decodeCe 0xF0000000 = .wait { guard := { pn := false, ps := 0 }, rd := 0, ra := 0, rb := 0, fn := 0 } ∧
  decodeCe 0xFC000000 = .illegal

/-- Decoding a control-engine word and encoding it agree (R152 to R155): every instruction whose fields the spec gives is read back
from its word with every field, at every value the fields admit, and a word that decodes to anything is the word of what it decodes to. -/
def Obligations.CeEncodingRoundTrip : Prop :=
  (∀ x w, decodeCe w = x → x ≠ .illegal → encodeCe x = some w) ∧
  (∀ f, decodeCe (encodeM 0 f) = .gath f ∧ decodeCe (encodeM 1 f) = .scat f) ∧
  (∀ f, decodeCe (encodeI 0x29 f) = .ldp f ∧ decodeCe (encodeI 0x2A f) = .stp f ∧ decodeCe (encodeI 0x38 f) = .sys f) ∧
  (∀ f, decodeCe (encodeJ 0x30 f) = .branch f ∧ decodeCe (encodeJ 0x31 f) = .branchLink f) ∧
  (∀ f, decodeCe (encodeL 0x34 f) = .loop f) ∧
  (∀ f, decodeCe (encodeR 0x32 f) = .jumpReg f ∧ decodeCe (encodeR 0x35 f) = .lclr f ∧ decodeCe (encodeR 0x39 f) = .xret f
    ∧ decodeCe (encodeR 0x3A f) = .setm f ∧ decodeCe (encodeR 0x3B f) = .brk f ∧ decodeCe (encodeR 0x3C f) = .wait f) ∧
  (∀ g rd sr, encodeCe (.mfs g rd sr) = some (encodeR 0x36 ⟨g, rd, 0, sr, 0⟩) ∧ decodeCe (encodeR 0x36 ⟨g, rd, 0, sr, 0⟩) = .mfs g rd sr) ∧
  (∀ g ra sr, encodeCe (.mts g ra sr) = some (encodeR 0x36 ⟨g, 0, ra, sr, 1⟩) ∧ decodeCe (encodeR 0x36 ⟨g, 0, ra, sr, 1⟩) = .mts g ra sr) ∧
  (∀ w, decodeCe w = .illegal ↔ (fld w 31 26 ∈ [0x2B, 0x2C, 0x2D, 0x2E, 0x2F, 0x33, 0x37, 0x3D, 0x3E, 0x3F]
    ∨ (fld w 31 26 = 0x36 ∧ ¬ (fld w 6 0 = 0 ∧ fld w 16 12 = 0) ∧ ¬ (fld w 6 0 = 1 ∧ fld w 21 17 = 0))))

/-- What each command leaves alone, of device time, the fused code, the MRAM and the save areas, the recorder, the two safety dies and
the queue: a command changes one of these only where `partsOf` lists it for the command. -/
def Obligations.MemoriesAndSafetyDiesAreIsolated : Prop :=
  ∀ c s t, exec c s = .next t →
    ∀ p ∈ ([.now, .ordering, .mram, .areaA, .areaB, .evr, .safA, .safB, .pending] : List Part), p ∉ partsOf c → Part.same s t p

/-- What each command leaves alone, of the dies, pins, resets, truss, frame image, Keeper, timebase, control engines, acquisition and
store: a command changes one of these only where `partsOf` lists it for the command. -/
def Obligations.FramesOfModuleUnits : Prop :=
  ∀ c s t, exec c s = .next t →
    ∀ p ∈ ([.dies, .pins, .rst, .trs, .frm, .img, .kpr, .tmb, .ces, .acq, .sto] : List Part), p ∉ partsOf c → Part.same s t p

/-- What each command leaves alone, of the free values drawn, the event unit, the comb, the schedulers, the hoist, feedback and door
channels, dispatch, the safety view, the field die, the CAN channels and the network: a command changes one of these only where
`partsOf` lists it for the command. -/
def Obligations.FramesOfFieldUnits : Prop :=
  ∀ c s t, exec c s = .next t →
    ∀ p ∈ ([.free, .evt, .cmb, .cyc, .hst, .fbk, .dor, .dsp, .saf, .fio, .can, .net] : List Part), p ∉ partsOf c → Part.same s t p

/-- In every step RST_PHASE stays one of 0 to 10 and 15, EVT_BADACC keeps a cause that is issued and a count of 16 bits (R549), and the
recorder's queue holds at most 1,024 events (R532). -/
def Obligations.RegisterFieldsStayLegal : Prop :=
  Kept phaseLegal ∧ Kept badAccLegal ∧ Kept recorderBounded

/-- Module resets (R67 to R69, R88): a power-on reset leaves its own bit alone in RST_CAUSE, and any other adds its bit; the reset is
asserted with PHASE 0, RSTOUT_N is low and READY falls. A power-on reset returns device time and the event counts to their reset values
and leaves the event slots, the change log and ACTIVE_SET as they are. A supply below its reset level for 1 µs or longer resets at once,
even in brace, and VIO33 resets the field die too; a shorter or smaller excursion does nothing (R61). RESET_N low for 5 µs or longer is a
pin reset, and for less than 2 µs nothing; a Keeper watchdog reset silences the module (R478). Both are held in brace before the commit
(R90); that they are held after it as well is the model's choice (log entry 114). A brace restart begins at phase 3. -/
def Obligations.ModuleResets : Prop :=
  (∀ s, Completes .powerOnReset s fun t =>
    t.rst.cause = 2 ∧ t.rst.phase = 0 ∧ t.rst.asserted = true ∧ t.pins.rstoutLow = true ∧ t.pins.ready = false ∧ t.tmb = {}
      ∧ t.evt.counts = [] ∧ t.evr.slots = s.evr.slots ∧ t.frm.log = s.frm.log ∧ t.frm.activeSet = s.frm.activeSet) ∧
  (∀ sup mv ns s, mv < resetLevel s.rst.vset sup → 1000 ≤ ns → Completes (.supplyReset ⟨sup, mv, ns⟩) s fun t =>
    t.rst.cause = s.rst.cause ||| 4 ∧ t.rst.phase = 0 ∧ t.rst.asserted = true ∧ t.pins.rstoutLow = true ∧ t.pins.ready = false
      ∧ (sup = .vio33 → t.dies.field ≠ .running)) ∧
  (∀ sup mv ns s, resetLevel s.rst.vset sup ≤ mv ∨ ns < 1000 → Completes (.supplyReset ⟨sup, mv, ns⟩) s fun t => t = s) ∧
  (∀ lowNs s, 5000 ≤ lowNs → s.rst.brace = .idle ∨ s.rst.brace = .parked → Completes (.pinReset lowNs) s fun t =>
    t.rst.cause = s.rst.cause ||| 8 ∧ t.rst.phase = 0 ∧ t.rst.asserted = true ∧ t.pins.rstoutLow = true ∧ t.pins.ready = false) ∧
  (∀ lowNs p s, 5000 ≤ lowNs → s.rst.brace = .brace p → s.rst.held = [] → Completes (.pinReset lowNs) s fun t =>
    t = { s with rst := { s.rst with held := [.pin] } }) ∧
  (∀ lowNs s, lowNs < 2000 → Completes (.pinReset lowNs) s fun t => t = s) ∧
  (∀ core s, s.rst.brace = .idle ∨ s.rst.brace = .parked → Completes (.keeperWatchdogReset core) s fun t =>
    t.rst.cause = s.rst.cause ||| 16 ∧ t.rst.phase = 0 ∧ t.rst.asserted = true ∧ t.pins.rstoutLow = true ∧ t.pins.ready = false
      ∧ t.net.gone = true) ∧
  (∀ core p s, s.rst.brace = .brace p → s.rst.held = [] → Completes (.keeperWatchdogReset core) s fun t =>
    t = { s with rst := { s.rst with held := [.kwdog] } }) ∧
  (∀ core s, s.rst.brace = .committed → s.rst.held = [] → Completes (.keeperWatchdogReset core) s fun t =>
    t = { s with rst := { s.rst with held := [.kwdog] } }) ∧
  (∀ s, s.rst.brace = .parked → Completes .braceRestart s fun t =>
    t.rst.brace = .idle ∧ t.rst.phase = 3 ∧ t.rst.cause = s.rst.cause ||| 512 ∧ t.pins.pfwLow = false ∧ t.frm.bench = false)

/-- Island and block resets (R70 to R73, R77, R81): a request of the block that answers asks its units to be idle, and READY falls with an
island request; the last idle answer or the timeout asserts the reset with its bit in RST_CAUSE; the release ends it, with the request
that came meanwhile next, which is the model's choice (log entry 112). A timeout raises event source 4, and 37 where a transfer of the
unit is in flight (R72). A module release starts phase 1. A change of dies is taken whole, and READY falls below SET 3 (R31). -/
def Obligations.IslandAndBlockResets : Prop :=
  (∀ mask s, accessHeld s 1 0 = false → s.rst.brace = .idle → s.rst.island = none → mask ≠ 0 →
    Completes (.islandResetRequest mask) s fun t => t.pins.ready = false ∧
      ∃ r, t.rst.island = some r ∧ r.asserted = false ∧ r.waiting = r.units
        ∧ r.units.contains .comp0 = mask.getLsbD 0 ∧ r.units.contains .comp1 = mask.getLsbD 1
        ∧ r.units.contains .io = mask.getLsbD 2 ∧ r.units.contains .mem = mask.getLsbD 3) ∧
  (∀ mask s, accessHeld s 1 0 = false → s.rst.brace = .idle → s.rst.block = none → mask ≠ 0 →
    Completes (.blockResetRequest mask) s fun t =>
      ∃ r, t.rst.block = some r ∧ r.asserted = false ∧ r.waiting = r.units
        ∧ r.units.contains .can = mask.getLsbD 0 ∧ r.units.contains .uart = mask.getLsbD 1
        ∧ r.units.contains .acq = mask.getLsbD 2 ∧ r.units.contains .sto = mask.getLsbD 3) ∧
  (∀ u s, u ∈ blockOrder → s.rst.island = none → s.rst.block = some { units := [u], waiting := [u], asserted := false } →
    Completes (.unitIdleAnswer u) s fun t =>
      t.rst.block = some { units := [u], waiting := [], asserted := true } ∧ t.rst.cause = s.rst.cause ||| 64
        ∧ t.pins.rstoutLow = s.pins.rstoutLow) ∧
  (∀ u s, u ∈ islandOrder → s.rst.block = none → s.rst.island = some { units := [u], waiting := [u], asserted := false } →
    Completes (.unitIdleAnswer u) s fun t =>
      t.rst.island = some { units := [u], waiting := [], asserted := true } ∧ t.rst.cause = s.rst.cause ||| 32
        ∧ t.pins.rstoutLow = true ∧ t.pins.ready = false ∧ ∀ d ∈ unitDies u, t.dies.get d ≠ .running) ∧
  (∀ u s, u ∈ blockOrder → s.rst.island = none → s.rst.block = some { units := [u], waiting := [u], asserted := false } →
    Completes (.idleTimeout u) s fun t =>
      t.rst.block = some { units := [u], waiting := [], asserted := true } ∧ t.rst.cause = s.rst.cause ||| 128 ||| 64
        ∧ (running s .keeper = true → Raised s 4 [] t
          ∧ ((∃ e ∈ s.trs.links, unitLinks u e.1 = true ∧ linkFlight e.2 ≠ []) → Raised s 37 [] t))) ∧
  (∀ s, s.rst.asserted = true → Completes (.resetRelease .module) s fun t =>
    t.rst.asserted = false ∧ t.rst.phase = 1 ∧ t.dies.keeper = .running ∧ (.powerOn ∈ s.rst.causes → Raised s 0 [] t)
      ∧ (.pin ∈ s.rst.causes → Raised s 1 [] t) ∧ (.kwdog ∈ s.rst.causes → Raised s 2 [] t)) ∧
  (∀ s r, s.rst.block = some r → r.asserted = true → Completes (.resetRelease .block) s fun t => t.rst.block = nextRun r) ∧
  (∀ s r, s.rst.island = some r → r.asserted = true → startupDone s = true → Completes (.resetRelease .island) s fun t =>
    t.rst.island = nextRun r ∧ t.pins.rstoutLow = false
      ∧ ∀ d ∈ r.units.flatMap unitDies, s.dies.get d = .inReset → t.dies.get d = .running) ∧
  (∀ changes s, Completes (.dieStateChange changes) s fun t =>
    t.dies = changes.foldl (fun d c => d.put c.1 c.2) s.dies ∧ (serviceSet t.dies < 3 → t.pins.ready = false))

/-- Start-up (R78 to R80, R90, R134): each phase whose work is done is followed by the next, while no island run holds its reset, which
is the model's choice (log entry 113). Phase 1 samples PAIR_SEL after a power-on reset; phase 2 finds the supplies good; phase 3 starts
the Keeper's firmware, or stays with FAULT_N low; phase 4 releases the routers and the VCORE loop; phase 5 releases the I/O die, whose
device time comes from the calendar; phase 6 loads the image that passes, or refuses the module; phase 7 releases the compute dies, warm
where a save area is usable; phase 8 waits for both safety channels and the field filters. Phase 2 longer than 500 ms raises event source
16; a supply that fails in phases 1 to 8 stops the start-up with its islands in reset, and good supplies resume it at phase 3. -/
def Obligations.StartUpPhases : Prop :=
  (∀ sel ua ub s, s.rst.stopped = false → s.rst.asserted = false → islandAsserted s = false → s.rst.phase = 1 →
    Completes (.startupPhaseComplete sel ua ub) s fun t => t.rst.phase = 2 ∧ (s.rst.needPair = true → t.pins.pairSel = sel)
      ∧ (s.rst.needPair = false → t.pins.pairSel = s.pins.pairSel)) ∧
  (∀ sel ua ub s, s.rst.stopped = false → s.rst.asserted = false → islandAsserted s = false → s.rst.phase = 2 →
    Completes (.startupPhaseComplete sel ua ub) s fun t => t.rst.phase = 3 ∧ (∀ d ∈ islandDies, t.dies.get d ≠ .unpowered)
      ∧ (s.dies.field = .inReset → t.dies.field = .running)) ∧
  (∀ sel ua ub s, s.rst.stopped = false → s.rst.asserted = false → islandAsserted s = false → s.rst.phase = 3 →
    Completes (.startupPhaseComplete sel ua ub) s fun t => (∀ d ∈ memDies, s.dies.get d = .inReset → t.dies.get d = .running)
      ∧ (t.kpr.noFirmware = false → t.rst.phase = 4) ∧ (t.kpr.noFirmware = true → t.rst.phase = 3 ∧ t.pins.faultKeeper = true)) ∧
  (∀ sel ua ub s, s.rst.stopped = false → s.rst.asserted = false → islandAsserted s = false → s.rst.phase = 4 →
    Completes (.startupPhaseComplete sel ua ub) s fun t =>
      t.rst.phase = 5 ∧ t.rst.vready = true ∧ t.rst.vloop = !s.rst.pmbFault
        ∧ ∀ p < 128, s.dies.get (dieOfPort p) ≠ .unpowered → s.dies.get (dieOfPort p) ≠ .failed → routerUp t p = true) ∧
  (∀ sel ua ub s, s.rst.stopped = false → s.rst.asserted = false → islandAsserted s = false → s.rst.phase = 5 →
    s.dies.io = .inReset → Completes (.startupPhaseComplete sel ua ub) s fun t =>
      t.rst.phase = 6 ∧ t.dies.io = .running ∧ t.tmb.running = true ∧ t.tmb.time = s.kpr.calSec * 1000000000) ∧
  (∀ sel ua ub s, s.rst.stopped = false → s.rst.asserted = false → islandAsserted s = false → s.rst.phase = 6 →
    s.frm.benchArmed = false → Completes (.startupPhaseComplete sel ua ub) s fun t =>
      match checkImage s s.frm.activeSet false false with
      | .passed c => t.rst.phase = 7 ∧ t.img = c ∧ t.frm.digest = frameDigest (bankBytes s.frm s.frm.activeSet)
          ∧ t.frm.pending = false ∧ t.frm.bench = false
      | .refused c sec i => c ≠ 15 → t.rst.phase = 15 ∧ t.frm.refuse = c ∧ t.frm.refSection = sec ∧ t.frm.refIndex = i
          ∧ t.pins.faultKeeper = true) ∧
  (∀ sel ua ub s, s.rst.stopped = false → s.rst.asserted = false → islandAsserted s = false → s.rst.phase = 7 →
    Completes (.startupPhaseComplete sel ua ub) s fun t =>
      t.rst.phase = 8 ∧ t.rst.startKind = (if (warmArea s).isSome then 2 else 1) ∧ t.pins.rstoutLow = false
        ∧ (s.dies.comp0 = .inReset → t.dies.comp0 = .running) ∧ (s.dies.comp1 = .inReset → t.dies.comp1 = .running)
        ∧ (running s .keeper = true → Raised s (if (warmArea s).isSome then 12 else 13) [] t)) ∧
  (∀ sel ua ub s, s.rst.stopped = false → s.rst.asserted = false → islandAsserted s = false → s.rst.phase = 8 →
    Completes (.startupPhaseComplete sel ua ub) s fun t =>
      t.rst.phase = (if safetyHealthy s = true ∧ fieldFilled s = true then 9 else 8)) ∧
  (∀ s, s.rst.phase = 2 → running s .keeper = true → Completes .supplyPhaseWait s fun t => Raised s 16 [] t) ∧
  (∀ s, 1 ≤ s.rst.phase → s.rst.phase ≤ 8 → s.rst.asserted = false → Completes .startupSupplyInterrupt s fun t =>
    t.rst.stopped = true ∧ t.rst.phase = s.rst.phase ∧ t.pins.rstoutLow = true ∧ ∀ d ∈ islandDies, t.dies.get d ≠ .running) ∧
  (∀ s, s.rst.stopped = true → Completes .startupResume s fun t => t.rst.stopped = false ∧ t.rst.phase = 3)

/-- The VCORE loop and the speed floor (R63, R65, R66, R94): a truss below 2.00 G hs/s raises the set value by 5 mV up to CEIL, and one
above 2.10 for the rule's time in T0 lowers it by 5 mV; a PMBus fault stops the loop with the set value held until PMB_FAULT is cleared;
the floor is lost and regained; a monitor whose router is out of reset shows its reading, VALID once calibrated. Brace (R61, R82 to R88):
PFW_N low for 2 µs or a supply below its warning level for as long begins it with the first pass of the save and ends a staging; the
first pass fills the area that is not the newest complete one and gives way to the second; recovery leaves brace; commit halts the store,
silences the module and takes READY away; the closing record parks the module with its area, contents and time. What an area holds is
the model's reading (log entry 36). -/
def Obligations.VcoreFloorAndBrace : Prop :=
  (∀ s n v, s.rst.vloop = true → slowestMon s.trs = some (n, v) → v < 2000 → s.rst.vset < ceilActs s.rst →
    Completes .vcoreLoopStep s fun t => t.rst.vset = Nat.min (s.rst.vset + 5) (ceilActs s.rst)) ∧
  (∀ s n v, s.rst.vloop = true → slowestMon s.trs = some (n, v) → 2100 < v → 500 ≤ s.rst.fastSteps → 49 ≤ s.rst.sinceLower →
    s.trs.therm = 0 → 600 < s.rst.vset → Completes .vcoreLoopStep s fun t =>
      t.rst.vset = s.rst.vset - 5 ∧ t.rst.sinceLower = 0) ∧
  (∀ s, Completes .pmbusFault s fun t =>
    t.rst = { s.rst with pmbFault := true, vloop := false } ∧ (running s .keeper = true → Raised s 10 [] t)) ∧
  (∀ s, accessHeld s 1 0 = false → s.rst.pmbFault = true → Completes .pmbFaultClear s fun t =>
    t = { s with rst := { s.rst with pmbFault := false, vloop := s.rst.vready } }) ∧
  (∀ s, Completes .speedFloorLost s fun t =>
    t.rst = { s.rst with floorLost := true } ∧ (running s .keeper = true → Raised s 11 [] t)) ∧
  (∀ s, Completes .speedFloorRegained s fun t => t.rst = { s.rst with floorLost := false }) ∧
  (∀ n rate s, routerUp s (monitorPort n.val) = true → Completes (.speedMonitorReading n rate) s fun t =>
    (tget ({} : Monitor) t.trs.mons n.val).rate = rate.toNat
      ∧ (tget ({} : Monitor) t.trs.mons n.val).valid = (tget ({} : Monitor) s.trs.mons n.val).cal
      ∧ ∀ m, m ≠ n.val → tget ({} : Monitor) t.trs.mons m = tget ({} : Monitor) s.trs.mons m) ∧
  (∀ ns s, 2000 ≤ ns → s.rst.brace = .idle → s.rst.phase = 9 ∨ s.rst.phase = 15 → s.rst.asserted = false →
    Completes (.braceBegin (.pfw ns)) s fun t =>
      t.rst.brace = .brace false ∧ t.pins.pfwLow = true ∧ (s.frm.setState = .staging → t.frm.setState = .empty)
        ∧ (getMark t.rst (saveTarget s.rst)).complete = false) ∧
  (∀ x mv ns s, mv < warnLevel s.rst.vset x → 2000 ≤ ns → s.rst.brace = .idle → s.rst.phase = 9 ∨ s.rst.phase = 15 →
    s.rst.asserted = false → Completes (.braceBegin (.supply x mv ns)) s fun t => t.rst.brace = .brace false) ∧
  (∀ x mv ns s, warnLevel s.rst.vset x ≤ mv ∨ ns < 1000 → Completes (.braceBegin (.supply x mv ns)) s fun t => t = s) ∧
  (∀ s, s.rst.brace = .brace false → Completes .saveFirstPassComplete s fun t =>
    t.rst.brace = .brace true ∧ getArea t (saveTarget s.rst) = saveContent s
      ∧ getArea t (!(saveTarget s.rst)) = getArea s (!(saveTarget s.rst))) ∧
  (∀ s p, s.rst.brace = .brace p → s.rst.held = [] → Completes .braceRecovery s fun t =>
    t.rst.brace = .idle ∧ t.pins.pfwLow = false ∧ (getMark t.rst (saveTarget s.rst)).complete = false) ∧
  (∀ s p, s.rst.brace = .brace p → Completes .braceCommit s fun t =>
    t.rst.brace = .committed ∧ t.pins.ready = false ∧ t.sto.halted = true ∧ t.net.gone = true) ∧
  (∀ us s, s.rst.brace = .committed → s.rst.held = [] → Completes (.saveComplete us) s fun t =>
    t.rst.brace = .parked ∧ t.rst.phase = 10 ∧ t.rst.lastFlush = us.toNat ∧ t.rst.area = saveTarget s.rst ∧ t.pins.rstoutLow = true
      ∧ getArea t (saveTarget s.rst) = savedNow (saveTarget s.rst) s
      ∧ (getMark t.rst (saveTarget s.rst)).complete = true ∧ (getMark t.rst (saveTarget s.rst)).digest = s.frm.digest)

/-- The truss and the thermal sensors (R103 to R112): a good pair that has its credits joins the receiver's buffer and takes two of them;
a bad one is kept for a retry, which sends it once more and is counted; an audit opens the books that are out of balance and faults those
still open; a link whose buffers are empty is resynchronised with full credits; the hottest sensor is shown; a dwell of 2,000 ms changes
the state; CLEAR clears TRS_LINK_ERR. Which books are out of balance beyond what State holds is an operand, and one pair of a virtual
channel is outstanding at a time, which is the model's choice (log entry 30). -/
def Obligations.TrussAndThermal : Prop :=
  (∀ link vc pair noise s, (linkOf s link.val).unreachable = false → routerUp s (linkPort link.val) = true →
    (vcOf (linkOf s link.val) vc.val).replay = none → (vcOf (linkOf s link.val) vc.val).retryAsked = false →
    2 ≤ (vcOf (linkOf s link.val) vc.val).credits → pairGood (disturbed pair noise) = true →
    (vcOf (linkOf s link.val) vc.val).lastSeq ≠ some (disturbed pair noise).seq →
    Completes (.flitPairReceive link vc pair noise) s fun t =>
      (linkOf t link.val).passed = (linkOf s link.val).passed + 1 ∧ (linkOf t link.val).lastPair = some (disturbed pair noise)
        ∧ (vcOf (linkOf t link.val) vc.val).buffer = (vcOf (linkOf s link.val) vc.val).buffer ++ [disturbed pair noise]
        ∧ (vcOf (linkOf t link.val) vc.val).credits = (vcOf (linkOf s link.val) vc.val).credits - 2
        ∧ (vcOf (linkOf t link.val) vc.val).replay = none
        ∧ ∀ v, v < 4 → v ≠ vc.val → vcOf (linkOf t link.val) v = vcOf (linkOf s link.val) v) ∧
  (∀ link vc pair noise s, (linkOf s link.val).unreachable = false → routerUp s (linkPort link.val) = true →
    (vcOf (linkOf s link.val) vc.val).replay = none → (vcOf (linkOf s link.val) vc.val).retryAsked = false →
    2 ≤ (vcOf (linkOf s link.val) vc.val).credits → pairGood (disturbed pair noise) = false →
    Completes (.flitPairReceive link vc pair noise) s fun t =>
      (vcOf (linkOf t link.val) vc.val).replay = some (pair, 1) ∧ (vcOf (linkOf t link.val) vc.val).retryAsked = true
        ∧ (linkOf t link.val).passed = (linkOf s link.val).passed) ∧
  (∀ link vc s p k, (vcOf (linkOf s link.val) vc.val).replay = some (p, k) → (vcOf (linkOf s link.val) vc.val).retryAsked = true →
    Completes (.linkRetry ⟨link, vc⟩) s fun t =>
      (vcOf (linkOf t link.val) vc.val).replay = some (p, k + 1) ∧ (vcOf (linkOf t link.val) vc.val).retryAsked = false
        ∧ t.trs.retries = Nat.min 65535 (s.trs.retries + 1)) ∧
  (∀ beyond link s, Completes (.bookAudit beyond link) s fun t => ∀ b < 5,
    t.trs.bookOpen.testBit b = (beyond.getLsbD b || bookOff s b)
      ∧ t.trs.bookFault.testBit b = (s.trs.bookFault.testBit b || ((beyond.getLsbD b || bookOff s b) && s.trs.bookOpen.testBit b))) ∧
  (∀ link s, (linkOf s link.val).resync = true → linkEmpty (linkOf s link.val) = true →
    Completes (.linkResync link) s fun t => (linkOf t link.val).resync = false
      ∧ ∀ v < 4, (vcOf (linkOf t link.val) v).credits = 16) ∧
  (∀ temps s, temps ≠ [] → temps.length ≤ 32 → Completes (.thermalSample temps) s fun t =>
    temps[t.trs.sensor]? = some t.trs.hottest ∧ (∀ x ∈ temps, x ≤ t.trs.hottest) ∧ t.kpr.temps = numbered temps) ∧
  (∀ s, (thermPending s.trs.therm s.trs.rise s.trs.fall).1 ≠ s.trs.therm →
    2001 ≤ (thermPending s.trs.therm s.trs.rise s.trs.fall).2 → Completes .thermalStateChange s fun t =>
      t.trs.therm = (thermPending s.trs.therm s.trs.rise s.trs.fall).1
        ∧ (running s .keeper = true → Raised s 34 [wordN s.trs.therm, wordN (thermPending s.trs.therm s.trs.rise s.trs.fall).1] t)) ∧
  (∀ s, accessHeld s 2 0 = false → Completes .trsLinkErrClear s fun t => t = { s with trs := { s.trs with failed := 0, retries := 0 } })

/-- Seal loop, presence and bench (R124 to R128, R137): the third wrong sample in a row latches TAMPER, counts and ends presence; the
1,024th right one makes the loop intact, and presence begins where PRESENCE_N is low; presence begins with an intact loop and ends with
the pin; TAMPER is cleared with presence; BENCH_ARM and BENCH_DISARM set their bit. -/
def Obligations.SealAndPresence : Prop :=
  (∀ s, running s .keeper = true → Completes .sealBreak s fun t =>
    t.frm.tamper = true ∧ t.frm.breaks = Nat.min 65535 (s.frm.breaks + 1) ∧ t.frm.loopOk = false ∧ t.frm.presence = false) ∧
  (∀ s, running s .keeper = true → s.frm.sealRight < 1024 → Completes .sealLoopRestored s fun t =>
    t.frm.loopOk = true ∧ t.frm.tamper = s.frm.tamper ∧ (s.pins.presenceLow = true → t.frm.presence = true)) ∧
  (∀ s, running s .keeper = true → s.frm.loopOk = true → Completes .presenceBegin s fun t =>
    t.pins.presenceLow = true ∧ t.frm.presence = true) ∧
  (∀ s, Completes .presenceEnd s fun t =>
    t.pins.presenceLow = false ∧ t.frm.presence = false
      ∧ (s.frm.presence = true → s.frm.setState = .verifiedStruct → t.frm.setState = .staged)) ∧
  (∀ src s, accessHeld s 3 0 = false → s.frm.presence = true → s.frm.tamper = true → Completes (.tamperClear src) s fun t =>
    t.frm.tamper = false ∧ t.frm.breaks = s.frm.breaks) ∧
  (∀ src s, accessHeld s 3 0 = false → s.frm.busy = false → s.frm.tamper = false → s.frm.log.length < 16384 →
    s.frm.presence = true → Completes (.benchArm src) s fun t => t.frm.benchArmed = true) ∧
  (∀ s, accessHeld s 3 0 = false → Completes .benchDisarm s fun t => t = { s with frm := { s.frm with benchArmed := false } })

/-- The load state machine and the installation keys (R123, R130 to R134): staging empties the inactive set, the whole length makes it
STAGED, VERIFY refuses with the code of the first check that fails or makes it VERIFIED, ACTIVATE begins a code handover or flips the
sets, REVERT flips them back, ABORT empties, and keys are enrolled and removed; STAGE_BEGIN, VERIFY and ACTIVATE in a state that does not
allow them are refused with 14, and REVERT with 16. FRM answers, chiplet 3 runs, and no CE fetches from the set that is emptied. The code 4
of a key request with a bad signature is the model's choice (log entry 26). -/
def Obligations.LoadAndKeys : Prop :=
  (∀ s, accessHeld s 3 0 = false → s.frm.setState ≠ .staging → s.frm.pending = false → s.rst.brace = .idle → s.frm.handover = false →
    s.frm.busy = false → setFetched s (!s.frm.activeSet) = false → s.frm.tamper = false → s.frm.log.length < 16384 →
    Completes .frmStageBegin s fun t =>
      t.frm.setState = .staging ∧ t.frm.cls = 0 ∧ bankBytes t.frm (!s.frm.activeSet) = []
        ∧ bankBytes t.frm s.frm.activeSet = bankBytes s.frm s.frm.activeSet) ∧
  (∀ s, accessHeld s 3 0 = false → s.frm.setState = .staging → Completes .frmStageBegin s fun t =>
    t.frm.refuse = 14 ∧ t.frm.setState = .staging) ∧
  (∀ s, s.frm.setState = .staging → 0 < leAt (bankBytes s.frm (!s.frm.activeSet)) 8 8 →
    leAt (bankBytes s.frm (!s.frm.activeSet)) 8 8 ≤ s.frm.stageGot → Completes .stagingComplete s fun t =>
      t.frm.setState = .staged ∧ bankLen t.frm (!s.frm.activeSet) = leAt (bankBytes s.frm (!s.frm.activeSet)) 8 8) ∧
  (∀ src s, accessHeld s 3 0 = false → frmServiceLost s = false → s.frm.setState = .staged → s.frm.busy = false → s.frm.tamper = false →
    Completes (.frmVerify src) s fun t =>
      match checkImage s (!s.frm.activeSet)
          (decide (imageClass (bankBytes s.frm s.frm.activeSet) (bankBytes s.frm (!s.frm.activeSet)) = 1)) false with
      | .refused c sec i => t.frm.refuse = c ∧ t.frm.refSection = sec ∧ t.frm.refIndex = i ∧ t.frm.setState = .staged
      | .passed _ =>
        if imageClass (bankBytes s.frm s.frm.activeSet) (bankBytes s.frm (!s.frm.activeSet)) = 1 then
          t.frm.setState = .verifiedCode ∧ t.frm.cls = 1
        else if s.frm.presence = true then t.frm.setState = .verifiedStruct
        else t.frm.refuse = 11 ∧ t.frm.setState = .staged) ∧
  (∀ src s, accessHeld s 3 0 = false → s.frm.setState ≠ .staged → Completes (.frmVerify src) s fun t =>
    t.frm.refuse = 14 ∧ t.frm.setState = s.frm.setState) ∧
  (∀ src s, accessHeld s 3 0 = false → frmServiceLost s = false → s.frm.setState = .verifiedStruct → s.frm.busy = false →
    s.frm.handover = false → s.frm.tamper = false → s.frm.log.length < 16384 → s.frm.presence = true → holderBars s = false →
    Completes (.frmActivate src) s fun t =>
      t.frm.activeSet = !s.frm.activeSet ∧ t.frm.setState = .previous ∧ t.frm.pending = true) ∧
  (∀ src s, accessHeld s 3 0 = false → frmServiceLost s = false → s.frm.setState = .verifiedCode → s.frm.busy = false →
    s.frm.handover = false → s.frm.tamper = false → s.frm.log.length < 16384 → Completes (.frmActivate src) s fun t =>
      t.frm.handover = true ∧ t.cyc.handover.isSome = true ∧ t.frm.activeSet = s.frm.activeSet) ∧
  (∀ src s, accessHeld s 3 0 = false → s.frm.setState ≠ .verifiedCode → s.frm.setState ≠ .verifiedStruct →
    Completes (.frmActivate src) s fun t => t.frm.refuse = 14 ∧ t.frm.activeSet = s.frm.activeSet) ∧
  (∀ src s, accessHeld s 3 0 = false → frmServiceLost s = false → s.frm.setState = .previous → s.frm.busy = false →
    s.frm.handover = false → s.frm.tamper = false → s.frm.log.length < 16384 → s.frm.presence = true → s.frm.cls ≠ 1 →
    holderBars s = false → Completes (.frmRevert src) s fun t =>
      t.frm.activeSet = !s.frm.activeSet ∧ t.frm.setState = .previous ∧ t.frm.pending = !s.frm.pending) ∧
  (∀ src s, accessHeld s 3 0 = false → s.frm.setState ≠ .previous → Completes (.frmRevert src) s fun t =>
    t.frm.refuse = 16 ∧ t.frm.activeSet = s.frm.activeSet) ∧
  (∀ src s, accessHeld s 3 0 = false → s.frm.setState = .staged → s.frm.busy = false → setFetched s (!s.frm.activeSet) = false →
    Completes (.frmAbort src) s fun t =>
      t.frm.setState = .empty ∧ t.frm.cls = 0 ∧ bankBytes t.frm (!s.frm.activeSet) = []) ∧
  (∀ src key sig s, accessHeld s 3 0 = false → s.frm.tamper = false → s.frm.log.length < 16384 → s.frm.presence = true →
    enrolledKeys s.frm = [] → Completes (.keyEnrol src 0 key sig) s fun t => t.frm.key0 = some key ∧ t.frm.key1 = s.frm.key1) ∧
  (∀ src slot key sig s, accessHeld s 3 0 = false → s.frm.tamper = false → s.frm.log.length < 16384 → s.frm.presence = true →
    enrolledKeys s.frm ≠ [] → Completes (.keyEnrol src slot key sig) s fun t =>
      if keySigned s.frm true slot.val key sig = true then keySlot t.frm slot.val = some key
      else t.frm.refuse = 4 ∧ keySlot t.frm slot.val = keySlot s.frm slot.val) ∧
  (∀ src slot sig s, accessHeld s 3 0 = false → s.frm.tamper = false → s.frm.log.length < 16384 → s.frm.presence = true →
    (keySlot s.frm slot.val).isSome = true → 2 ≤ (enrolledKeys s.frm).length → Completes (.keyRemove src slot sig) s fun t =>
      if keySigned s.frm false slot.val [] sig = true then keySlot t.frm slot.val = none
      else t.frm.refuse = 4 ∧ keySlot t.frm slot.val = keySlot s.frm slot.val)

/-- CAN frames and FIFOs (R440 to R446) and error confinement (R448, R449, R452): a frame received goes into the ring under the next
count, or is counted where the ring is full; a push puts the frame staged when it was written at the tail, and a command meanwhile is
held; the head leaves when it has been sent, aborted, flushed
or timed out, and where it is on the bus a removal waits for its end; CAN_RX_RD moves up to the entries written and no further; an error
seen as a receiver or a sender counts as the standard says; bus-off is left with AUTO_RECOVER or after RECOVER, with both counts 0;
integration ends; with the supplies good, a channel that is in no state of sending, or has nothing to send, drives its transmit ball
recessive. That RESULT becomes 0 at a removal and at
RECOVER, and what CAN_ERRFRAMES counts, are the model's readings (log entries 92 and 93). -/
def Obligations.CanFramesAndErrors : Prop :=
  (∀ n f at0 s, canHears s n.val = true → ((canOf s n.val).rxWr - (canOf s n.val).rxRd).toNat ≠ 4096 →
    Completes (.canFrameReceived n f at0) s fun t =>
      (canOf t n.val).rxWr = (canOf s n.val).rxWr + 1
        ∧ tget none (canOf t n.val).ring ((canOf s n.val).rxWr.toNat % 4096) = some
            { time := at0.toNat, id := canIdWord f, flags := canFlags false f, seq := (canOf s n.val).rxWr,
              data := if f.rtr then [] else f.data.take (dlcBytes f.fdf f.dlc.toNat) }
        ∧ (canOf t n.val).fifo = (canOf s n.val).fifo ∧ (canOf t n.val).rxRd = (canOf s n.val).rxRd
        ∧ ∀ m, m ≠ n.val → canOf t m = canOf s m) ∧
  (∀ n f at0 s, canHears s n.val = true → ((canOf s n.val).rxWr - (canOf s n.val).rxRd).toNat = 4096 →
    Completes (.canFrameReceived n f at0) s fun t =>
      (canOf t n.val).rxWr = (canOf s n.val).rxWr ∧ (canOf t n.val).ring = (canOf s n.val).ring
        ∧ (canOf t n.val).overflow = Nat.min 65535 ((canOf s n.val).overflow + 1)) ∧
  (∀ n s k st, accessHeld s 13 0 = false → (canOf s n.val).held = none →
    st = (canOf s n.val).pushing.getD (canOf s n.val).stage → canCfg s n.val = some k → k.listen = false →
    lenAllowed (bitAt st.flags 30) (fld st.flags 15 8) = true → (bitAt st.flags 30 = true → k.fdEn = true) →
    (bitAt st.flags 29 = true → bitAt st.flags 30 = true) → (bitAt st.flags 27 = true → bitAt st.flags 30 = false) →
    (canOf s n.val).fifo.length < 64 → (canOf s n.val).suppress = false → Completes (.canPush n) s fun t =>
      (canOf t n.val).result = 0 ∧ (canOf t n.val).pushing = none
        ∧ (canOf t n.val).fifo = (canOf s n.val).fifo ++ [stagedFrame st]) ∧
  (∀ n onBus s, accessHeld s 13 0 = false → (canOf s n.val).pushing.isSome = true → (canOf s n.val).held = none →
    Completes (.canAbortHead n onBus) s fun t =>
      t = putCan s n.val { canOf s n.val with held := some { cmd := 2, onBus := some onBus } }) ∧
  (∀ n onBus s, accessHeld s 13 0 = false → (canOf s n.val).pushing = none → (canOf s n.val).fifo ≠ [] →
    (canOf s n.val).suppress = false → (canOf s n.val).removal = none →
      Completes (.canAbortHead n onBus) s fun t => (canOf t n.val).result = 0
      ∧ (onBus = true → canSends s n.val = true →
          (canOf t n.val).fifo = (canOf s n.val).fifo ∧ (canOf t n.val).removal = some .command)
      ∧ (onBus = false ∨ canSends s n.val = false →
          (canOf t n.val).fifo = (canOf s n.val).fifo.drop 1 ∧ (canOf t n.val).removal = none)) ∧
  (∀ n onBus s, accessHeld s 13 0 = false → (canOf s n.val).pushing = none → (canOf s n.val).suppress = false →
    Completes (.canFlush n onBus) s fun t =>
    (canOf t n.val).result = 0 ∧ (onBus = false ∨ canSends s n.val = false → (canOf t n.val).fifo = [])
      ∧ (onBus = true → canSends s n.val = true → (canOf t n.val).fifo = (canOf s n.val).fifo.take 1)) ∧
  (∀ n s, running s .io = true → (canOf s n.val).headTmo ≠ 0 → canState s n.val ≠ 4 → (canOf s n.val).fifo ≠ [] →
    (canOf s n.val).suppress = false → Completes (.headTmoExpiry n false) s fun t =>
      (canOf t n.val).fifo = (canOf s n.val).fifo.drop 1
        ∧ (canOf t n.val).dropped = Nat.min 65535 ((canOf s n.val).dropped + 1)) ∧
  (∀ n at0 s, canSends s n.val = true → (canOf s n.val).fifo ≠ [] → (canOf s n.val).suppress = false → canAskedIdle s = false →
    Completes (.canFrameSent n at0) s fun t =>
      (canOf t n.val).fifo = (canOf s n.val).fifo.drop 1 ∧ ∀ m, m ≠ n.val → canOf t m = canOf s m) ∧
  (∀ n v s, accessHeld s 13 0 = false → (v - (canOf s n.val).rxRd).toNat ≤ ((canOf s n.val).rxWr - (canOf s n.val).rxRd).toNat →
    Completes (.canRxRdWrite n v) s fun t => canOf t n.val = { canOf s n.val with rxRd := v }) ∧
  (∀ n v s, ((canOf s n.val).rxWr - (canOf s n.val).rxRd).toNat < (v - (canOf s n.val).rxRd).toNat →
    Completes (.canRxRdWrite n v) s fun t => t = s) ∧
  (∀ n lec dp byEight s, canHears s n.val = true → Completes (.canBusError n (.receiver lec dp byEight)) s fun t =>
    (canOf t n.val).errFrames = Nat.min 65535 ((canOf s n.val).errFrames + 1) ∧ (canOf t n.val).lec = lec.val + 1
      ∧ (canOf t n.val).dataPhase = dp ∧ (canOf t n.val).rxErr = Nat.min 255 ((canOf s n.val).rxErr + (if byEight then 8 else 1))
      ∧ (canOf t n.val).fifo = (canOf s n.val).fifo) ∧
  (∀ n lec dp exempt s, canSends s n.val = true → (canOf s n.val).removal = none →
    Completes (.canBusError n (.sender lec dp exempt)) s fun t =>
      (canOf t n.val).txErr = Nat.min 255 ((canOf s n.val).txErr + (if exempt then 0 else 8)) ∧ (canOf t n.val).lec = lec.val + 1
        ∧ (canOf t n.val).fifo = (canOf s n.val).fifo
        ∧ ((canOf s n.val).txErr ≤ 255 → (canOf s n.val).busOff = false →
            ((canOf t n.val).busOff = true ↔ exempt = false ∧ 255 < (canOf s n.val).txErr + 8))) ∧
  (∀ n s, canSends s n.val = true → (canOf s n.val).removal = none →
    Completes (.canBusError n .arbitrationLost) s fun t => t = s) ∧
  (∀ n s, accessHeld s 13 0 = false → (canOf s n.val).pushing = none → (canOf s n.val).busOff = true →
    Completes (.canRecover n) s fun t =>
    (canOf t n.val).recovering = true ∧ (canOf t n.val).busOff = true) ∧
  (∀ n s k, canState s n.val = 4 → canCfg s n.val = some k → k.autoRecover = true ∨ (canOf s n.val).recovering = true →
    Completes (.busOffRecovery n) s fun t =>
      (canOf t n.val).busOff = false ∧ (canOf t n.val).txErr = 0 ∧ (canOf t n.val).rxErr = 0) ∧
  (∀ n s, canState s n.val = 1 → Completes (.busIntegration n) s fun t => canOf t n.val = { canOf s n.val with integrating := false }) ∧
  (∀ n s, s.pins.vio18 = true → s.dies.io ≠ .unpowered → canSends s n = false ∨ (canOf s n).fifo = [] → canTx s n = .recessive)

/-- The integer, float and vector groups (R144, R152, R155): with its guard on, an instruction writes its one result, and the CE goes
on to the next instruction; with the guard off it writes nothing; the rest of the machine is unchanged. A word that R155 calls ILLEGAL is
no instruction of these; of it speaks SynchronousTraps. -/
def Obligations.ArithmeticResults : Prop :=
  (∀ n g op rd ra b s w, Issues s n → guardOn (ceOf s n.val) g = true →
    aluOp op (greg (ceOf s n.val) ra.val) (srcVal (ceOf s n.val) b) = some w →
    Completes (.integerInstruction n g (.alu op rd ra b)) s fun t => t = putCe s n.val (retire (putG (ceOf s n.val) rd.val w))) ∧
  (∀ n g i s c, Issues s n → guardOn (ceOf s n.val) g = true → runInt (ceOf s n.val) i = some c →
    Completes (.integerInstruction n g i) s fun t => t = putCe s n.val (retire c)) ∧
  (∀ n g i s, Issues s n → i ≠ .illegal → guardOn (ceOf s n.val) g = false →
    Completes (.integerInstruction n g i) s fun t => t = putCe s n.val (retire (ceOf s n.val))) ∧
  (∀ n g op pd ra b s, Issues s n → guardOn (ceOf s n.val) g = true →
    Completes (.integerInstruction n g (.cmp op pd ra b)) s fun t => t = putCe s n.val (retire (putP (ceOf s n.val) pd.val
      (if cmpOp op (greg (ceOf s n.val) ra.val) (srcVal (ceOf s n.val) b) = true then 65535 else 0)))) ∧
  (∀ n g i s, Issues s n → guardOn (ceOf s n.val) g = true → Completes (.floatInstruction n g i) s fun t =>
    t = drawn (putCe s n.val (retire (runFloat (ceOf s n.val) (wordN (freeNat s)) i)))) ∧
  (∀ n g i s, Issues s n → guardOn (ceOf s n.val) g = false →
    Completes (.floatInstruction n g i) s fun t => t = putCe s n.val (retire (ceOf s n.val))) ∧
  (∀ n g op vd va vb s, Issues s n → (∀ k ∈ activeLanes (ceOf s n.val) g,
      (aluOp op (vlane (ceOf s n.val) va.val k) (vlane (ceOf s n.val) vb.val k)).isSome = true) →
    Completes (.vectorInstruction n g (.alu op vd va vb)) s fun t =>
      t = { putCe s n.val (retire (writeLanes (ceOf s n.val) vd.val (activeLanes (ceOf s n.val) g) fun k =>
          (aluOp op (vlane (ceOf s n.val) va.val k) (vlane (ceOf s n.val) vb.val k)).getD 0)) with free := s.free + 16 }) ∧
  (∀ n g i s c, Issues s n → runVec (ceOf s n.val) (activeLanes (ceOf s n.val) g) (freeLane s) i = some c →
    Completes (.vectorInstruction n g i) s fun t => t = { putCe s n.val (retire c) with free := s.free + 16 })

/-- What R144 says of the registers and R155 of the results: g0 reads 0 and p0 16#FFFF whatever is written to them, a register reads as
written and no other changes; ADD, SUB and MUL wrap, ADDS and SUBS saturate, shift amounts count modulo 32, quotient and remainder go
together, and only a division by zero has no result. -/
def Obligations.RegistersAndIntegerResults : Prop :=
  (∀ c r w, greg c 0 = 0 ∧ greg (putG c r w) 0 = 0 ∧ (r ≠ 0 → greg (putG c r w) r = w) ∧ (∀ k, k ≠ r → greg (putG c r w) k = greg c k)) ∧
  (∀ c r m, preg c 0 = 65535 ∧ preg (putP c r m) 0 = 65535 ∧ (r ≠ 0 → preg (putP c r m) r = m % 65536)
    ∧ (∀ k, k ≠ r → preg (putP c r m) k = preg c k)) ∧
  (∀ c j k w, k < 16 → vlane (putLane c j k w) j k = w
    ∧ ∀ i l, l < 16 → (i ≠ j ∨ l ≠ k) → vlane (putLane c j k w) i l = vlane c i l) ∧
  (∀ op a b, aluOp op a b = none ↔ b = 0 ∧ (op = .div ∨ op = .divu ∨ op = .rem ∨ op = .remu)) ∧
  (∀ a b : Word, aluOp .add a b = some (a + b) ∧ aluOp .sub a b = some (a - b) ∧ aluOp .mul a b = some (a * b)
    ∧ aluOp .andn a b = some (a &&& ~~~b)) ∧
  (∀ a b : Word, ∃ w, aluOp .adds a b = some w ∧ w.toInt = max (-2147483648) (min 2147483647 (a.toInt + b.toInt))) ∧
  (∀ a b : Word, ∃ w, aluOp .subs a b = some w ∧ w.toInt = max (-2147483648) (min 2147483647 (a.toInt - b.toInt))) ∧
  (∀ a b : Word, aluOp .shl a b = aluOp .shl a (b &&& 31) ∧ aluOp .shr a b = aluOp .shr a (b &&& 31)
    ∧ aluOp .sar a b = aluOp .sar a (b &&& 31) ∧ aluOp .rot a b = aluOp .rot a (b &&& 31)) ∧
  (∀ a b : Word, b ≠ 0 → ∃ q r, aluOp .div a b = some q ∧ aluOp .rem a b = some r ∧ q * b + r = a) ∧
  (∀ a b : Word, b ≠ 0 → ∃ q r, aluOp .divu a b = some q ∧ aluOp .remu a b = some r ∧ q * b + r = a ∧ r < b)

/-- Loads and stores (R146, R148, R178, R180, R182): in data SRAM a load reads and a store writes the bytes at the address, in
little-endian order, and nothing else changes; a vector load fills the active lanes; a corrected read is counted; a store to a bank with
the write right changes its bytes alone; a late access and an uncorrectable word raise their causes; a fill brings its line into the
cache. Program store is not writable (R180): a CE store to any address in banks 0 to 7 writes no byte of either bank set or of any other
bank, raises STORE_PS where its address is aligned, and increments PSREFUSE. What the error check finds is an operand, word by word. -/
def Obligations.LoadsStoresAndProgramStore : Prop :=
  (∀ n g kind rd ra imm ecc s, Issues s n → kind ≠ .v → guardOn (ceOf s n.val) g = true → eccAt ecc 0 = .clean →
    (dataAddr (ceOf s n.val) ra.val imm).toNat % loadSize kind = 0 → (dataAddr (ceOf s n.val) ra.val imm).toNat < 0x80000 →
    Completes (.loadInstruction n g kind rd ra imm ecc) s fun t => t = putCe s n.val (retire (putG (ceOf s n.val) rd.val
      (loadValue kind (readBytes (ceOf s n.val).sram (dataAddr (ceOf s n.val) ra.val imm).toNat (loadSize kind)))))) ∧
  (∀ n g rd ra imm s, Issues s n → guardBits (ceOf s n.val) g ≠ 0 → (dataAddr (ceOf s n.val) ra.val imm).toNat % 64 = 0 →
    (dataAddr (ceOf s n.val) ra.val imm).toNat < 0x80000 → Completes (.loadInstruction n g .v rd ra imm []) s fun t =>
      t = putCe s n.val (retire (writeLanes (ceOf s n.val) (rd.val % 16) (activeLanes (ceOf s n.val) g)
        (fun k => wordN (leNat (readBytes (ceOf s n.val).sram ((dataAddr (ceOf s n.val) ra.val imm).toNat + 4 * k) 4)))))) ∧
  (∀ n g kind rd ra imm ecc s, Issues s n → kind ≠ .v → guardOn (ceOf s n.val) g = true → eccAt ecc 0 = .corrected →
    (dataAddr (ceOf s n.val) ra.val imm).toNat % loadSize kind = 0 → (dataAddr (ceOf s n.val) ra.val imm).toNat < 0x80000 →
    Completes (.loadInstruction n g kind rd ra imm ecc) s fun t =>
      (ceOf t n.val).sramCe = Nat.min 255 ((ceOf s n.val).sramCe + 1)
        ∧ (rd.val ≠ 0 → greg (ceOf t n.val) rd.val = loadValue kind
            (readBytes (ceOf s n.val).sram (dataAddr (ceOf s n.val) ra.val imm).toNat (loadSize kind)))
        ∧ (∀ r, r ≠ rd.val → greg (ceOf t n.val) r = greg (ceOf s n.val) r)) ∧
  (∀ n g kind rd ra imm ecc s, Issues s n → kind ≠ .v → guardOn (ceOf s n.val) g = true → xact (ceOf s n.val) = false →
    eccAt ecc 0 = .double → (dataAddr (ceOf s n.val) ra.val imm).toNat % loadSize kind = 0 →
    (dataAddr (ceOf s n.val) ra.val imm).toNat < 0x80000 → Completes (.loadInstruction n g kind rd ra imm ecc) s fun t =>
      t = putCe s n.val (enterException causeEcc 1 (dataAddr (ceOf s n.val) ra.val imm) 0 (ceOf s n.val))) ∧
  (∀ n g kind rs ra imm s, Issues s n → kind ≠ .v → guardOn (ceOf s n.val) g = true →
    (dataAddr (ceOf s n.val) ra.val imm).toNat % storeSize kind = 0 → (dataAddr (ceOf s n.val) ra.val imm).toNat < 0x80000 →
    Completes (.storeInstruction n g kind rs ra imm) s fun t =>
      t = noteWrites n.val [(dataAddr (ceOf s n.val) ra.val imm).toNat] (putCe s n.val (retire { ceOf s n.val with
            sram := (writeBytes (ceOf s n.val).sram (dataAddr (ceOf s n.val) ra.val imm).toNat
              (leBytes (storeSize kind) (greg (ceOf s n.val) rs.val).toNat)) }))
        ∧ (∀ k, k < storeSize kind → tget 0 (ceOf t n.val).sram ((dataAddr (ceOf s n.val) ra.val imm).toNat + k)
            = BitVec.ofNat 8 ((greg (ceOf s n.val) rs.val).toNat / 256 ^ k))
        ∧ (∀ x, (x < (dataAddr (ceOf s n.val) ra.val imm).toNat
              ∨ (dataAddr (ceOf s n.val) ra.val imm).toNat + storeSize kind ≤ x) →
            tget 0 (ceOf t n.val).sram x = tget 0 (ceOf s n.val).sram x)) ∧
  (∀ n g rs ra imm s bank, Issues s n → guardOn (ceOf s n.val) g = true →
    (dataAddr (ceOf s n.val) ra.val imm).toNat % 4 = 0 → dataRegion (dataAddr (ceOf s n.val) ra.val imm) = .mram bank → 8 ≤ bank →
    bankRight s n.val (ceOf s n.val).priv bank = .readWrite → bankRuns s bank = true →
    Completes (.storeInstruction n g .w rs ra imm) s fun t =>
      t.mram = writeBytes s.mram ((dataAddr (ceOf s n.val) ra.val imm).toNat - 0x40000000)
          (leBytes 4 (greg (ceOf s n.val) rs.val).toNat)
        ∧ (∀ x, (x + 0x40000000 < (dataAddr (ceOf s n.val) ra.val imm).toNat
              ∨ (dataAddr (ceOf s n.val) ra.val imm).toNat + 4 ≤ x + 0x40000000) → tget 0 t.mram x = tget 0 s.mram x)
        ∧ t.frm = s.frm ∧ (ceOf t n.val).sram = (ceOf s n.val).sram) ∧
  (∀ n a s, Issues s n → xact (ceOf s n.val) = false → Completes (.trussAccessTimeout n (.data a)) s fun t =>
    t = putCe s n.val (enterException causeTruss 0 a 0 (ceOf s n.val))) ∧
  (∀ n lane id s, Issues s n → xact (ceOf s n.val) = false → Completes (.trussAccessTimeout n (.element lane id)) s fun t =>
    t = putCe s n.val (enterException causePoint 6 id lane.val (ceOf s n.val))) ∧
  (∀ n addr s, (ceOf s n.val).st ≠ .off → Completes (.icacheFill n addr false) s fun t =>
    (ceOf t n.val).lines.contains (addr.toNat / 64) = true ∧ (ceOf t n.val).badLine = none
      ∧ t = { putCe s n.val (ceOf t n.val) with free := s.free + 1 }) ∧
  (∀ n addr s, (ceOf s n.val).st ≠ .off → (ceOf s n.val).badLine ≠ some (addr.toNat / 64) →
    Completes (.icacheFill n addr true) s fun t =>
      (ceOf t n.val).badLine = some (addr.toNat / 64) ∧ (ceOf t n.val).icPar = Nat.min 255 ((ceOf s n.val).icPar + 1)) ∧
  (∀ n addr s, (ceOf s n.val).st = .run → (ceOf s n.val).badLine = some (addr.toNat / 64) → xact (ceOf s n.val) = false →
    Completes (.icacheFill n addr true) s fun t => t = putCe s n.val
      (enterException causeFetch 3 addr 0 { ceOf s n.val with badLine := none })) ∧
  (∀ n g kind rs ra imm s bank, dataRegion (dataAddr (ceOf s n.val) ra.val imm) = .mram bank → bank < 8 →
    Completes (.storeInstruction n g kind rs ra imm) s fun t =>
      t.frm.setA = s.frm.setA ∧ t.frm.setB = s.frm.setB ∧ t.mram = s.mram ∧ (ceOf t n.val).sram = (ceOf s n.val).sram) ∧
  (∀ n g kind rs ra imm s bank, Issues s n → guardBits (ceOf s n.val) g ≠ 0 → (kind ≠ .v → guardOn (ceOf s n.val) g = true) →
    xact (ceOf s n.val) = false → dataRegion (dataAddr (ceOf s n.val) ra.val imm) = .mram bank → bank < 8 →
    (dataAddr (ceOf s n.val) ra.val imm).toNat % storeSize kind = 0 → Completes (.storeInstruction n g kind rs ra imm) s fun t =>
      ceOf t n.val = enterException causeStorePs 0 (dataAddr (ceOf s n.val) ra.val imm) 0
        { ceOf s n.val with psRefuse := Nat.min 255 ((ceOf s n.val).psRefuse + 1) })

/-- Branches and loops (R154, R156, R158, R159): B, BL and JR leave a delay slot and then the target, or the next address where their guard
is off; BL and JR link where their guard is on; LOOP sets its unit and goes on at the body, or past it for a count of 0; LCLR ends a loop;
at LE an instruction goes back to LS, in a delay slot too. That BL and JR link only where the guard is on is the model's reading (log entry
21). -/
def Obligations.ControlFlow : Prop :=
  (∀ n f s, Issues s n → flowIllegal (ceOf s n.val) true = false → Completes (.branch n f) s fun t =>
    t = putCe s n.val (retireBranch (if guardOn (ceOf s n.val) f.guard = true
      then (ceOf s n.val).pc + (f.disp.signExtend 32) * 4 else (ceOf s n.val).pc + 8) (ceOf s n.val))) ∧
  (∀ n f s, Issues s n → flowIllegal (ceOf s n.val) true = false → guardOn (ceOf s n.val) f.guard = true →
    Completes (.branchLink n f) s fun t =>
      (ceOf t n.val).slot = some { branch := (ceOf s n.val).pc, target := (ceOf s n.val).pc + (f.disp.signExtend 32) * 4 }
        ∧ (ceOf t n.val).pc = (ceOf s n.val).pc + 4 ∧ greg (ceOf t n.val) 31 = (ceOf s n.val).pc + 8
        ∧ (∀ r, r ≠ 31 → greg (ceOf t n.val) r = greg (ceOf s n.val) r) ∧ t = putCe s n.val (ceOf t n.val)) ∧
  (∀ n f s, Issues s n → flowIllegal (ceOf s n.val) true = false → guardOn (ceOf s n.val) f.guard = true → f.rb.val = 0 → f.fn = 0 →
    Completes (.jumpReg n f) s fun t =>
      (ceOf t n.val).slot = some { branch := (ceOf s n.val).pc, target := greg (ceOf s n.val) f.ra.val }
        ∧ (ceOf t n.val).pc = (ceOf s n.val).pc + 4 ∧ (f.rd.val ≠ 0 → greg (ceOf t n.val) f.rd.val = (ceOf s n.val).pc + 8)
        ∧ (∀ r, r ≠ f.rd.val → greg (ceOf t n.val) r = greg (ceOf s n.val) r) ∧ t = putCe s n.val (ceOf t n.val)) ∧
  (∀ n f s, Issues s n → flowIllegal (ceOf s n.val) true = false → guardOn (ceOf s n.val) f.guard = false →
    Completes (.branchLink n f) s fun t => t = putCe s n.val (retireBranch ((ceOf s n.val).pc + 8) (ceOf s n.val))) ∧
  (∀ n f s, Issues s n → flowIllegal (ceOf s n.val) true = false → guardOn (ceOf s n.val) f.guard = false → f.rb.val = 0 → f.fn = 0 →
    Completes (.jumpReg n f) s fun t => t = putCe s n.val (retireBranch ((ceOf s n.val).pc + 8) (ceOf s n.val))) ∧
  (∀ n f s cnt, Issues s n → flowIllegal (ceOf s n.val) false = false → guardOn (ceOf s n.val) f.guard = true →
    f.stop ≠ 0 → (f.i = false → f.mid.toNat < 32) → (ceOf s n.val).lc0 = 0 → (ceOf s n.val).lc1 = 0 →
    cnt = (if f.i then wordN f.mid.toNat else greg (ceOf s n.val) (f.mid.toNat % 32)) → cnt ≠ 0 →
    Completes (.loop n f) s fun t =>
      (f.u = true → (ceOf t n.val).ls1 = (ceOf s n.val).pc + 4 ∧ (ceOf t n.val).le1 = (ceOf s n.val).pc + wordN (4 * f.stop.toNat)
          ∧ (ceOf t n.val).lc1 = cnt ∧ (ceOf t n.val).lc0 = 0)
        ∧ (f.u = false → (ceOf t n.val).ls0 = (ceOf s n.val).pc + 4 ∧ (ceOf t n.val).le0 = (ceOf s n.val).pc + wordN (4 * f.stop.toNat)
          ∧ (ceOf t n.val).lc0 = cnt ∧ (ceOf t n.val).lc1 = 0)
        ∧ (ceOf t n.val).pc = (ceOf s n.val).pc + 4 ∧ (ceOf t n.val).g = (ceOf s n.val).g ∧ t = putCe s n.val (ceOf t n.val)) ∧
  (∀ n f s, Issues s n → flowIllegal (ceOf s n.val) false = false → guardOn (ceOf s n.val) f.guard = true →
    f.stop ≠ 0 → (f.i = false → f.mid.toNat < 32) → (ceOf s n.val).lc0 = 0 → (ceOf s n.val).lc1 = 0 →
    (if f.i then wordN f.mid.toNat else greg (ceOf s n.val) (f.mid.toNat % 32)) = 0 → Completes (.loop n f) s fun t =>
      (ceOf t n.val).pc = (ceOf s n.val).pc + wordN (4 * f.stop.toNat) + 4) ∧
  (∀ n f s, Issues s n → flowIllegal (ceOf s n.val) false = false → guardOn (ceOf s n.val) f.guard = true → f.rd.val = 0 →
    f.ra.val = 0 → f.rb.val = 0 → f.fn = 0 ∨ f.fn = 1 → Completes (.lclr n f) s fun t =>
      (f.fn = 0 → (ceOf t n.val).lc0 = 0 ∧ (ceOf t n.val).lc1 = (ceOf s n.val).lc1)
        ∧ (f.fn = 1 → (ceOf t n.val).lc1 = 0 ∧ (ceOf t n.val).lc0 = (ceOf s n.val).lc0)
        ∧ (ceOf t n.val).g = (ceOf s n.val).g ∧ t = putCe s n.val (ceOf t n.val)) ∧
  (∀ c : Ce, c.slot = none → c.shadow = none → c.loopen = true → c.pc = c.le1 → 1 < c.lc1.toNat →
    retire c = { c with elem := 0, split := false, lc1 := c.lc1 - 1, pc := c.ls1 }) ∧
  (∀ c : Ce, c.slot = none → c.shadow = none → c.lc0 = 0 → c.lc1 = 0 →
    retire c = { c with elem := 0, split := false, pc := c.pc + 4 }) ∧
  (∀ (c : Ce) d, c.slot = some d → c.shadow = none → c.lc0 = 0 → c.lc1 = 0 →
    retire c = { c with elem := 0, split := false, pc := d.target, slot := none }) ∧
  (∀ (c : Ce) d, c.slot = some d → c.shadow = none → c.loopen = true → c.pc = c.le1 → 1 < c.lc1.toNat →
    retire c = { c with elem := 0, split := false, lc1 := c.lc1 - 1, pc := c.ls1, slot := none })

/-- System instructions in runtime mode (R150, R154, R168, R172): MFS and MTS move special registers, SYS and BRK take their
exceptions, XRET returns, SETM loads the mode behind a shadow of two instructions; all but the CE is unchanged. -/
def Obligations.SystemInstructions : Prop :=
  (∀ n g rd sr s w, Issues s n → guardOn (ceOf s n.val) g = true → specialReg (ceOf s n.val) sr.val = some w →
    ((ceOf s n.val).priv = true ∨ taskReads sr.val = true) → Completes (.mfs n g rd sr) s fun t =>
      t = putCe s n.val (retire (putG (ceOf s n.val) rd.val w))) ∧
  (∀ n g ra sr s, Issues s n → guardOn (ceOf s n.val) g = true → (specialReg (ceOf s n.val) sr.val).isSome = true → sr.val ≠ 6 →
    (ceOf s n.val).priv = true → Completes (.mts n g ra sr) s fun t =>
      t = putCe s n.val (retire (putSpecial (ceOf s n.val) sr.val (greg (ceOf s n.val) ra.val)))) ∧
  (∀ n f s, Issues s n → flowIllegal (ceOf s n.val) false = false → f.rd.val = 0 → f.ra.val = 0 →
    guardOn (ceOf s n.val) f.guard = true → xact (ceOf s n.val) = false → Completes (.sys n f) s fun t =>
      t = putCe s n.val (enterException causeSyscall 0 (f.imm.signExtend 32) 0 (ceOf s n.val))) ∧
  (∀ n f s, Issues s n → flowIllegal (ceOf s n.val) false = false → f.rd.val = 0 → f.ra.val = 0 → f.rb.val = 0 → f.fn = 0 →
    guardOn (ceOf s n.val) f.guard = true → xact (ceOf s n.val) = false → Completes (.brk n f) s fun t =>
      ∃ x, t = { putCe s n.val (enterException causeBreak 0 x 0 (ceOf s n.val)) with free := s.free + 1 }) ∧
  (∀ n f s, Issues s n → flowIllegal (ceOf s n.val) false = false → f.rd.val = 0 → f.ra.val = 0 → f.rb.val = 0 → f.fn = 0 →
    guardOn (ceOf s n.val) f.guard = true → (ceOf s n.val).priv = true → Completes (.xret n f) s fun t =>
      t = putCe s n.val (returnException (ceOf s n.val))) ∧
  (∀ n f s, Issues s n → flowIllegal (ceOf s n.val) false = false → f.rd.val = 0 → f.rb.val = 0 → f.fn = 0 →
    guardOn (ceOf s n.val) f.guard = true → (ceOf s n.val).priv = true → (ceOf s n.val).shadow = none →
    Completes (.setm n f) s fun t =>
      (ceOf t n.val).priv = true ∧ (ceOf t n.val).tctx = (ceOf s n.val).tctx
        ∧ (ceOf t n.val).shadow = some
            ⟨2, bitAt (greg (ceOf s n.val) f.ra.val) 31, fld (greg (ceOf s n.val) f.ra.val) 9 0⟩
        ∧ t = putCe s n.val (ceOf t n.val)) ∧
  (∀ (c : Ce) p x, c.shadow = some ⟨2, p, x⟩ → (retire c).shadow = some ⟨1, p, x⟩ ∧ (retire c).priv = c.priv
    ∧ (retire (retire c)).shadow = none ∧ (retire (retire c)).priv = p ∧ (retire (retire c)).tctx = x) ∧
  (∀ c s w, s ≠ 6 → (specialReg c s).isSome = true → s ≠ 1 → s ≠ 2 → s ≠ 5 → specialReg (putSpecial c s w) s = some w)

/-- Exception entry and return (R168 to R170, R172, R173): entry saves the mode, the tenant context, LOOPEN, the shadow and the slot,
and goes on in runtime mode with TCTX 0 at CE_XVEC + 16 × CAUSE; XRET after it restores the CE, to the slot and the shadow it was taken
in. The premise on the slot is the invariant of DelaySlotFollowsBranch. -/
def Obligations.ExceptionEntryAndReturn : Prop :=
  (∀ cause sub x elem c, cause < 16 → (enterException cause sub x elem c).priv = true ∧ (enterException cause sub x elem c).tctx = 0
    ∧ (enterException cause sub x elem c).loopen = false ∧ (enterException cause sub x elem c).shadow = none
    ∧ (enterException cause sub x elem c).pc = c.xvec + wordN (16 * cause) ∧ xact (enterException cause sub x elem c) = true
    ∧ (enterException cause sub x elem c).xaddr = x ∧ fld (enterException cause sub x elem c).xstatus 3 0 = cause
    ∧ (c.slot = none → (enterException cause sub x elem c).epc = c.pc)
    ∧ (∀ d, c.slot = some d → (enterException cause sub x elem c).epc = d.branch ∧ (enterException cause sub x elem c).xtarget = d.target
        ∧ bitAt (enterException cause sub x elem c).xstatus 30 = true)
    ∧ (enterException cause sub x elem c).g = c.g ∧ (enterException cause sub x elem c).lc0 = c.lc0
    ∧ (enterException cause sub x elem c).lc1 = c.lc1) ∧
  (∀ cause sub x elem c, cause < 16 → elem ≤ 16 → c.tctx < 1024 → (∀ d, c.slot = some d → c.pc = d.branch + 4) →
    (∀ h, c.shadow = some h → 0 < h.left ∧ h.left ≤ 2 ∧ h.tctx < 1024) →
    let r := returnException (enterException cause sub x elem c)
    r.pc = c.pc ∧ r.slot = c.slot ∧ r.shadow = c.shadow ∧ r.priv = c.priv ∧ r.tctx = c.tctx ∧ r.loopen = c.loopen ∧ r.elem = elem
      ∧ xact r = false ∧ r.g = c.g ∧ r.v = c.v ∧ r.p = c.p ∧ r.sram = c.sram ∧ r.lc0 = c.lc0 ∧ r.lc1 = c.lc1)

/-- What raises an exception (R147, R151, R155, R157, R160, R167): each instruction named raises its cause, with the pc at the handler
and the rest of the machine unchanged; while XACT is 1 the CE goes to FAULT instead (R174). That a word which R155 calls ILLEGAL, and a
control-flow instruction in a delay slot, raise it where the guard is off as well is the model's reading (log entry 21). -/
def Obligations.SynchronousTraps : Prop :=
  (∀ n g op rd ra b s, Issues s n → guardOn (ceOf s n.val) g = true → xact (ceOf s n.val) = false →
    srcVal (ceOf s n.val) b = 0 → (op = .div ∨ op = .divu ∨ op = .rem ∨ op = .remu) →
    Completes (.integerInstruction n g (.alu op rd ra b)) s fun t =>
      ∃ x, t = { putCe s n.val (enterException causeDiv 0 x 0 (ceOf s n.val)) with free := s.free + 1 }) ∧
  (∀ n g s, Issues s n → xact (ceOf s n.val) = false → Completes (.integerInstruction n g .illegal) s fun t =>
      ∃ x, t = { putCe s n.val (enterException causeIllegal 0 x 0 (ceOf s n.val)) with free := s.free + 1 }) ∧
  (∀ n s, Issues s n → (ceOf s n.val).slot.isSome = true → xact (ceOf s n.val) = false →
    ∀ (j : FmtJ) (l : FmtL) (r : FmtR) (i : FmtI),
    ∀ c ∈ ([.branch n j, .branchLink n j, .jumpReg n r, .loop n l, .lclr n r, .sys n i, .xret n r, .setm n r, .brk n r, .wait n ⟨r, []⟩] :
        List Instr),
      Completes c s fun t =>
        ∃ x, t = { putCe s n.val (enterException causeIllegal 0 x 0 (ceOf s n.val)) with free := s.free + 1 }) ∧
  (∀ n g i s, (ceOf s n.val).st = .run → (ceOf s n.val).pc.toNat % 4 ≠ 0 → xact (ceOf s n.val) = false →
    Completes (.integerInstruction n g i) s fun t =>
      t = putCe s n.val (enterException causeFetch 1 (ceOf s n.val).pc 0 (ceOf s n.val))) ∧
  (∀ n g kind rd ra imm e s, Issues s n → kind ≠ .v → guardOn (ceOf s n.val) g = true → xact (ceOf s n.val) = false →
    (dataAddr (ceOf s n.val) ra.val imm).toNat % loadSize kind ≠ 0 → Completes (.loadInstruction n g kind rd ra imm e) s fun t =>
      t = putCe s n.val (enterException causeAlign 0 (dataAddr (ceOf s n.val) ra.val imm) 0 (ceOf s n.val))) ∧
  (∀ n g kind rd ra imm e s, Issues s n → kind ≠ .v → guardOn (ceOf s n.val) g = true → xact (ceOf s n.val) = false →
    (dataAddr (ceOf s n.val) ra.val imm).toNat % loadSize kind = 0 → 0x80000 ≤ (dataAddr (ceOf s n.val) ra.val imm).toNat →
    (dataAddr (ceOf s n.val) ra.val imm).toNat < 0x40000000 → Completes (.loadInstruction n g kind rd ra imm e) s fun t =>
      t = putCe s n.val (enterException causeDaccess 1 (dataAddr (ceOf s n.val) ra.val imm) 0 (ceOf s n.val))) ∧
  (∀ n f s, Issues s n → flowIllegal (ceOf s n.val) false = false → f.rd.val = 0 → f.rb.val = 0 → f.fn = 0 →
    guardOn (ceOf s n.val) f.guard = true → (ceOf s n.val).priv = false → (ceOf s n.val).shadow = none → xact (ceOf s n.val) = false →
    Completes (.setm n f) s fun t =>
      ∃ x, t = { putCe s n.val (enterException causePriv 0 x 0 (ceOf s n.val)) with free := s.free + 1 }) ∧
  (∀ n g ra s, Issues s n → xact (ceOf s n.val) = false → Completes (.mts n g ra 6) s fun t =>
      ∃ x, t = { putCe s n.val (enterException causeIllegal 0 x 0 (ceOf s n.val)) with free := s.free + 1 }) ∧
  (∀ n f s, Issues s n → flowIllegal (ceOf s n.val) false = false → f.rd.val = 0 → f.ra.val = 0 →
    guardOn (ceOf s n.val) f.guard = true → xact (ceOf s n.val) = true → Completes (.sys n f) s fun t =>
      (ceOf t n.val).st = .fault ∧ (ceOf t n.val).pc = (ceOf s n.val).pc
        ∧ (running s .keeper = true → Raised s (256 + 2 * n.val) [(ceOf s n.val).epc] t))

/-- R157: a control-flow instruction in a delay slot raises ILLEGAL, whichever of the ten it is, where its guard lets it execute; a branch
whose target is not a multiple of 4 executes its slot, and then the fetch at the target raises FETCH. XACT is 0, as R174 has it
otherwise. -/
def Obligations.ControlFlowInDelaySlot : Prop :=
  (∀ n s, Issues s n → (ceOf s n.val).slot.isSome = true → xact (ceOf s n.val) = false →
    ∀ (j : FmtJ) (l : FmtL) (r : FmtR) (i : FmtI) (errs : List (Fin 131072 × Ecc)), guardOn (ceOf s n.val) j.guard = true →
    guardOn (ceOf s n.val) l.guard = true → guardOn (ceOf s n.val) r.guard = true → guardOn (ceOf s n.val) i.guard = true →
    ∀ c ∈ ([.branch n j, .branchLink n j, .jumpReg n r, .loop n l, .lclr n r, .sys n i, .xret n r, .setm n r, .brk n r,
        .wait n ⟨r, errs⟩] : List Instr),
      Completes c s fun t =>
        ∃ x, t = { putCe s n.val (enterException causeIllegal 0 x 0 (ceOf s n.val)) with free := s.free + 1 }) ∧
  (∀ n f s, Issues s n → flowIllegal (ceOf s n.val) true = false → guardOn (ceOf s n.val) f.guard = true → f.rb.val = 0 → f.fn = 0 →
    (greg (ceOf s n.val) f.ra.val).toNat % 4 ≠ 0 → Completes (.jumpReg n f) s fun t =>
      (ceOf t n.val).pc = (ceOf s n.val).pc + 4
        ∧ ∃ d, (ceOf t n.val).slot = some d ∧ d.target = greg (ceOf s n.val) f.ra.val) ∧
  (∀ n g i s d, Issues s n → (ceOf s n.val).slot = some d → i ≠ .illegal → guardOn (ceOf s n.val) g = false →
    (ceOf s n.val).lc0 = 0 → (ceOf s n.val).lc1 = 0 → Completes (.integerInstruction n g i) s fun t => (ceOf t n.val).pc = d.target
      ∧ (ceOf t n.val).slot = none
      ∧ (ceOf t n.val).st = .run ∧ (ceOf t n.val).xstatus = (ceOf s n.val).xstatus) ∧
  (∀ n g i s, (ceOf s n.val).st = .run → (ceOf s n.val).pc.toNat % 4 ≠ 0 → xact (ceOf s n.val) = false →
    Completes (.integerInstruction n g i) s fun t =>
      t = putCe s n.val (enterException causeFetch 1 (ceOf s n.val).pc 0 (ceOf s n.val)))

/-- Halt, resume and restart (R175, R183): CE_CTRL HALT asks a CE that runs or idles to halt at the next point of R175, where it enters
HALT with PREV and HSRC; RESUME returns it to the state it left; RESTART in HALT or FAULT makes it IDLE with registers at reset values.
The register answers, and no handover waits for the CE. -/
def Obligations.CeHaltResumeRestart : Prop :=
  (∀ n s, accessHeld s 4 (0x10000 * n.val) = false → ((ceOf s n.val).st = .run ∨ (ceOf s n.val).st = .idle) →
    Completes (.ceCtrlHalt n) s fun t =>
      t = putCe s n.val { ceOf s n.val with haltReq := putBit (ceOf s n.val).haltReq 4 true }) ∧
  (∀ n s, (ceOf s n.val).haltReq ≠ 0 → ((ceOf s n.val).st = .idle ∨ (ceOf s n.val).st = .run ∧ (ceOf s n.val).slot = none
      ∧ (ceOf s n.val).shadow = none) → mustLeave s n.val = false → Completes (.ceHalt n) s fun t =>
      t = putCe s n.val { ceOf s n.val with
        st := .halt, prev := (ceOf s n.val).st, hsrc := (ceOf s n.val).haltReq, haltReq := 0, resumeElem := (ceOf s n.val).elem
        elem := 0 }) ∧
  (∀ n s, ((ceOf s n.val).slot.isSome = true ∨ (ceOf s n.val).shadow.isSome = true) → (ceOf s n.val).st = .run →
    (ceOf s n.val).split = false → Completes (.ceHalt n) s fun t => t = s) ∧
  (∀ n s, accessHeld s 4 (0x10000 * n.val) = false → (ceOf s n.val).st = .halt → (ceOf s n.val).hsrc = 16 →
    (ceOf s n.val).haltReq = 0 → Completes (.ceCtrlResume n) s fun t => t = putCe s n.val { ceOf s n.val with
      st := (ceOf s n.val).prev, hsrc := 0, elem := (ceOf s n.val).resumeElem, resumeElem := 0 }) ∧
  (∀ n s, accessHeld s 4 (0x10000 * n.val) = false → ((ceOf s n.val).st = .halt ∨ (ceOf s n.val).st = .fault) →
    Completes (.ceCtrlRestart n) s fun t =>
      (ceOf t n.val).st = .idle ∧ (ceOf t n.val).pc = 0 ∧ (ceOf t n.val).g = [] ∧ (ceOf t n.val).priv = true
        ∧ (ceOf t n.val).sram = (ceOf s n.val).sram ∧ (ceOf t n.val).psRefuse = (ceOf s n.val).psRefuse ∧ stackOf t n.val = []
        ∧ (∀ m, m ≠ n.val → ceOf t m = ceOf s m)) ∧
  (∀ n s, (ceOf s n.val).st ≠ .halt → (ceOf s n.val).st ≠ .fault → Completes (.ceCtrlRestart n) s fun t => t = s)

/-- A pc in a delay slot stands right behind its branch (R156, R172). -/
def Obligations.DelaySlotFollowsBranch : Prop := Kept SlotBehindBranch

/-- Cyclic tasks (R188, R192, R202): a tick starts the due task of an IDLE CE with its interrupt; WAIT ends the cycle; an interrupt is
taken at the next point, the task start first, and none while XACT is 1; CYC_TASK_CMD stops and starts a task, an error task with the
records that it holds; a persistent flush replaces the older copy. The CAUSE 0 in the event of a commanded stop is the model's reading (log
entry 55). -/
def Obligations.TasksRun : Prop :=
  (∀ s k, s.rst.phase = 9 → awaitsRecord s = false → s.img.tasks = [k] → s.img.sandbox = [] → s.cyc.next = none →
    s.cyc.handover = none → k.ce < 64 → k.cls = 0 ∨ k.cls = 1 ∧ serviceSet s.dies = 3 → k.period ≠ 0 →
    devTime s / 250000 % k.period = k.phase → k.edgeWords = 0 ∨ (taskOf s k.task).flags.testBit 0 = true →
    running s .comp0 = true → (ceOf s k.ce).st = .idle → xact (ceOf s k.ce) = false → stackOf s k.ce = [] →
    (taskOf s k.task).state = .waiting → s.kpr.smoke ≠ .frozen → Completes .schedulerTick s fun t =>
      (taskOf t k.task).state = .running ∧ stackOf t k.ce = [k.task] ∧ (ceOf t k.ce).st = .run
        ∧ (ceOf t k.ce).pc = (ceOf s k.ce).xvec + wordN (16 * causeInterrupt) ∧ (ceOf t k.ce).xaddr = wordN k.task
        ∧ (∀ m, m ≠ k.ce → ceOf t m = ceOf s m)) ∧
  (∀ n f s tk c, Issues s n → (ceOf s n.val).slot = none → (ceOf s n.val).lc0 = 0 → (ceOf s n.val).lc1 = 0 → f.rd.val = 0 →
    f.ra.val = 0 → f.rb.val = 0 → f.fn = 0 → guardOn (ceOf s n.val) f.guard = true → stackOf s n.val = [tk] →
    taskOn s n.val tk = some c → taskCfg s tk = some c → c.outs = [] → s.img.persist = [] → (taskOf s tk).state = .running →
    (taskOf s tk).stopping = false → c.cls ≠ 4 → s.cyc.handover = none →
    (∀ x ∈ tasksOn s n.val, x.task ≠ tk → (taskOf s x.task).state ≠ .pending) →
    Completes (.wait n ⟨f, []⟩) s fun t =>
      (ceOf t n.val).st = .idle ∧ stackOf t n.val = [] ∧ (taskOf t tk).state = .waiting ∧ (taskOf t tk).begun = false) ∧
  (∀ n s tk rest, (ceOf s n.val).st = .run → xact (ceOf s n.val) = false → (ceOf s n.val).slot = none → (ceOf s n.val).shadow = none →
    stackOf s n.val = tk :: rest → (taskOf s tk).begun = false → Completes (.interruptTaken n) s fun t =>
      ceOf t n.val = enterException causeInterrupt 1 (wordN tk) (ceOf s n.val).elem (ceOf s n.val) ∧ (taskOf t tk).begun = true) ∧
  (∀ n s src rest, (ceOf s n.val).st = .run → xact (ceOf s n.val) = false → (ceOf s n.val).slot = none → (ceOf s n.val).shadow = none →
    stackOf s n.val = [] → (pendOf s n.val).queue = src :: rest → Completes (.interruptTaken n) s fun t =>
      ceOf t n.val = enterException causeInterrupt 2 (wordN src) (ceOf s n.val).elem (ceOf s n.val)
        ∧ (pendOf t n.val).queue = rest) ∧
  (∀ n s, xact (ceOf s n.val) = true → Completes (.interruptTaken n) s fun t => t = s) ∧
  (∀ k s, accessHeld s 5 0 = false → k.val < 240 → (taskOf s k.val).state = .stopped → (taskOf s k.val).queue = [] →
    (∀ c ∈ tableInForce s, k.val ∉ stackOf s c.ce) → Completes (.taskStartCmd k) s fun t =>
      t = putTask s k.val { taskOf s k.val with state := .waiting, stopping := false }) ∧
  (∀ k s c, accessHeld s 5 0 = false → k.val < 240 → (taskOf s k.val).state = .stopped → (taskOf s k.val).queue ≠ [] →
    taskCfg s k.val = some c → c.cls = 4 → (∀ c ∈ tableInForce s, k.val ∉ stackOf s c.ce) →
    Completes (.taskStartCmd k) s fun t =>
      t = putTask s k.val { taskOf s k.val with state := .pending, stopping := false }) ∧
  (∀ k s c, accessHeld s 5 0 = false → k.val < 240 → taskCfg s k.val = some c → (taskOf s k.val).state = .waiting →
    Completes (.taskStopCmd k) s fun t => (taskOf t k.val).state = .stopped
      ∧ (running s .keeper = true → Raised s (512 + 2 * k.val) [0] t)) ∧
  (∀ k s c, accessHeld s 5 0 = false → k.val < 240 → taskCfg s k.val = some c →
    (taskOf s k.val).state = .running ∨ (taskOf s k.val).state = .preempted →
    Completes (.taskStopCmd k) s fun t => t = putTask s k.val { taskOf s k.val with stopping := true }) ∧
  (∀ n s bs vs, (persistOf s n.val).flush = some (bs, vs) → Completes (.persistentFlushComplete n) s fun t =>
    newerCopy (persistOf t n.val) = bs ∧ (persistOf t n.val).flush = none
      ∧ ((persistOf s n.val).seq1 ≤ (persistOf s n.val).seq0 →
          (persistOf t n.val).copy1 = bs ∧ (persistOf t n.val).seq1 = (persistOf s n.val).seq0 + 1
            ∧ (persistOf t n.val).copy0 = (persistOf s n.val).copy0 ∧ (persistOf t n.val).seq0 = (persistOf s n.val).seq0)
      ∧ ((persistOf s n.val).seq0 < (persistOf s n.val).seq1 →
          (persistOf t n.val).copy0 = bs ∧ (persistOf t n.val).seq0 = (persistOf s n.val).seq1 + 1
            ∧ (persistOf t n.val).copy1 = (persistOf s n.val).copy1 ∧ (persistOf t n.val).seq1 = (persistOf s n.val).seq1))

/-- The code handover (R204, R205): at Th the CEs that may switch at once do; a CE left after its timeout is switched with event source
993; the last data map ends it, with the active set flipped and event source 68. Tenant modules (R231, R232): a module that passes its
checks is written to the half that does not execute and waits; one that fails raises event source 102; at a tick at least 1 ms after the
check the switch makes the other half execute with event source 101, and by force 200 ms after it. -/
def Obligations.HandoverAndTenantModules : Prop :=
  (∀ s h, s.cyc.handover = some h → h.switching = false → h.th ≤ devTime s → h.left ≠ [] →
    (∀ n ∈ h.left, switchesNow s n = false ∧ plannerSwitches s n = false) →
    Completes .handoverSwitchTick s fun t => t = { s with cyc := { s.cyc with handover := some { h with switching := true } } }) ∧
  (∀ s h n c, s.cyc.handover = some h → h.switching = false → h.th ≤ devTime s → h.left = [n] → h.mapping = [] →
    s.cyc.next = some c → (ceOf s n).st = .idle → Completes .handoverSwitchTick s fun t =>
      (ceOf t n).set = !s.frm.activeSet ∧ t.cyc.switched.contains n = true
        ∧ t.cyc.handover = some { h with switching := true, left := [], mapping := [n] }) ∧
  (∀ n s h c, s.cyc.handover = some h → h.switching = true → h.left = [n.val] → s.cyc.next = some c →
    h.th + handoverLimit s n.val ≤ devTime s → Completes (.handoverTimeout n) s fun t =>
      (ceOf t n.val).set = !s.frm.activeSet ∧ t.cyc.switched.contains n.val = true ∧ stackOf t n.val = []
        ∧ (running s .keeper = true → Raised s 993 [] t)) ∧
  (∀ r s h c, s.cyc.handover = some h → h.switching = true → h.left = [] → h.mapping = [r.ce.val] → s.cyc.next = some c →
    (ceOf s r.ce.val).st ≠ .halt → s.rst.brace ≠ .committed → (∀ e ∈ r.errs, e.2 ≠ .double) →
    Completes (.dataMapComplete r) s fun t =>
      t.frm.activeSet = !s.frm.activeSet ∧ t.cyc.handover = none ∧ t.img = c
        ∧ (running s .keeper = true → Raised s 68 [] t)) ∧
  (∀ k bytes s cfg, tenantCfg s k.val = some cfg → running s .keeper = true → Completes (.tenantModuleLoad k bytes) s fun t =>
    if moduleOk cfg bytes = true then
      t.mram = writeBytes s.mram
          (cfg.region + if (tget ({} : TenantModule) s.cmb.modules k.val).half = true then 0 else cfg.codeMax) bytes
        ∧ (tget ({} : TenantModule) t.cmb.modules k.val).waiting
            = some (wordN (leNat ((bytes.drop 12).take 4)), devTime s)
        ∧ (tget ({} : TenantModule) t.cmb.modules k.val).half = (tget ({} : TenantModule) s.cmb.modules k.val).half
    else t.mram = s.mram ∧ (tget ({} : TenantModule) t.cmb.modules k.val).waiting = none ∧ Raised s 102 [] t) ∧
  (∀ k s v at0, (tget ({} : TenantModule) s.cmb.modules k.val).waiting = some (v, at0) →
    at0 + 1000000 ≤ devTime s / 250000 * 250000 → (∀ c ∈ tenantTasks s k.val, c.task ∉ stackOf s c.ce) →
    Completes (.tenantModuleSwitch k) s fun t =>
        tget ({} : TenantModule) t.cmb.modules k.val
          = { half := !(tget ({} : TenantModule) s.cmb.modules k.val).half, version := v, waiting := none }
        ∧ (running s .keeper = true → Raised s 101 [wordN k.val, v] t)) ∧
  (∀ k s v at0, (tget ({} : TenantModule) s.cmb.modules k.val).waiting = some (v, at0) → at0 + 200000000 ≤ devTime s →
    Completes (.tenantSwitchTimeout k) s fun t =>
      (tget ({} : TenantModule) t.cmb.modules k.val).half = (!(tget ({} : TenantModule) s.cmb.modules k.val).half)
        ∧ (running s .keeper = true → Raised s 101 [wordN k.val, v] t))

/-- Forces (R209, R210, R212): a SET that passes its checks enters the table with its expiry and shows on the FORCED pin while the I/O die
runs; one that fails is refused by its code with the table unchanged; the standby sends the order to the holder (R480); clear, clear all
and expiry take entries out, a clear and an expiry with event source 992. CYC answers. -/
def Obligations.Forces : Prop :=
  (∀ tenant minutes s, accessHeld s 5 0 = false →
    forceCheck s (fld s.cyc.cmdTarget 31 28) (fld s.cyc.cmdTarget 27 0) s.cyc.cmdMask tenant.val = 0 →
    Completes (.forceSet tenant minutes) s fun t =>
      (forwardsWrites s = true → t.cyc.forceOut = forceSentOn 1 tenant.val minutes.toNat s) ∧
      t.cyc.result = 0 ∧ t.pins.forced = running s .io ∧ t.cyc.forces =
        s.cyc.forces.filter (fun g => !(decide (g.kind = fld s.cyc.cmdTarget 31 28 ∧ g.index = fld s.cyc.cmdTarget 27 0)))
          ++ [{
              kind := fld s.cyc.cmdTarget 31 28, index := fld s.cyc.cmdTarget 27 0, mask := s.cyc.cmdMask, value := s.cyc.cmdValue
              tenant := tenant.val
              expiry := (if Nat.min minutes.toNat 1440 = 0 then none
                else some (devTime s + Nat.min minutes.toNat 1440 * 60000000000)) }]) ∧
  (∀ tenant minutes s r, accessHeld s 5 0 = false →
    forceCheck s (fld s.cyc.cmdTarget 31 28) (fld s.cyc.cmdTarget 27 0) s.cyc.cmdMask tenant.val = r → r ≠ 0 →
    Completes (.forceSet tenant minutes) s fun t => t.cyc.result = r ∧ t.cyc.forces = s.cyc.forces) ∧
  (∀ tenant minutes s f, accessHeld s 5 0 = false →
    forceOn s (fld s.cyc.cmdTarget 31 28) (fld s.cyc.cmdTarget 27 0) = some f → Completes (.forceClear tenant minutes) s fun t =>
      t.cyc.result = 0 ∧ t.cyc.forces = s.cyc.forces.erase f
        ∧ (running s .keeper = true → Raised s 992 [wordN f.kind, wordN f.index] t)) ∧
  (∀ tenant minutes s, accessHeld s 5 0 = false → Completes (.forceClearAll tenant minutes) s fun t =>
    t.cyc.result = 0 ∧ t.cyc.forces = [] ∧ (s.cyc.forces ≠ [] → t.pins.forced = false)) ∧
  (∀ kind index s f e, forceOn s kind.val index.toNat = some f → f.expiry = some e → e ≤ devTime s →
    Completes (.forceExpiry kind index) s fun t =>
      t.cyc.forces = s.cyc.forces.erase f ∧ (running s .keeper = true → Raised s 992 [wordN f.kind, wordN f.index] t))

/-- Point instructions (R161 to R165, R230): LDP and GATH load words of points, STP and SCAT store them through the guard; an element fault
raises POINT with its lane; the instruction retires at its last lane, an interrupted one keeps its lane, and one whose CE has no budget
left waits. CMB_ACC_CTRL (R224): the Keeper reads a word or a slot, writes a word and relinquishes a priority, with RESULT 0; what the
guard refuses leaves its code in RESULT and the slot unchanged. -/
def Obligations.PointInstructionsAndKeeperAccess : Prop :=
  (∀ n f s, Issues s n → f.imm.toNat % 256 = 0 → guardOn (ceOf s n.val) f.guard = true → isSandbox s n.val = false →
    Reaches s (.ce n) (ceOf s n.val).tctx (greg (ceOf s n.val) f.ra.val).toNat (.read (Fin.ofNat 16 (f.imm.toNat / 256))) →
    Completes (.ldp n f .clean) s fun t => t = putCe s n.val (retire (putG (ceOf s n.val) f.rd.val
      (pword (pointOf s (greg (ceOf s n.val) f.ra.val).toNat) (f.imm.toNat / 256 % 16))))) ∧
  (∀ n f s, Issues s n → f.imm.toNat % 256 = 0 → guardOn (ceOf s n.val) f.guard = true → isSandbox s n.val = true →
    (ceOf s n.val).budget = 0 → (greg (ceOf s n.val) f.ra.val).toNat < 262144 → Completes (.ldp n f .clean) s fun t =>
      (ceOf t n.val).pc = (ceOf s n.val).pc ∧ (ceOf t n.val).g = (ceOf s n.val).g ∧ t.cmb = s.cmb
        ∧ ((ceOf s n.val).waited = false → running s .keeper = true → Raised s 100 [] t)) ∧
  (∀ n f s op, Issues s n → f.imm.toNat % 256 = 0 → guardOn (ceOf s n.val) f.guard = true → isSandbox s n.val = false →
    combStandby s = false → op = CombOp.write (Fin.ofNat 16 (f.imm.toNat / 256)) (greg (ceOf s n.val) f.rd.val) 0 →
    Reaches s (.ce n) (ceOf s n.val).tctx (greg (ceOf s n.val) f.ra.val).toNat op →
    Completes (.stp n f .clean) s fun t => ceOf t n.val = retire (ceOf s n.val)
      ∧ t = putCe (slotWritten s (.ce n) (ceOf s n.val).tctx (greg (ceOf s n.val) f.ra.val).toNat op) n.val (ceOf t n.val)
      ∧ ∀ k, k ≠ (greg (ceOf s n.val) f.ra.val).toNat → pointOf t k = pointOf s k) ∧
  (∀ n f s, Issues s n → f.zero = 0 → (ceOf s n.val).elem = 0 → isSandbox s n.val = false →
    (∀ k < 16, (guardBits (ceOf s n.val) f.guard).testBit k = true → Reaches s (.ce n) (ceOf s n.val).tctx
      (greg (ceOf s n.val) f.ra.val + vlane (ceOf s n.val) f.vb.val k).toNat (.read f.word)) →
    Completes (.gath n f 16 none) s fun t =>
      (∀ k < 16, vlane (ceOf t n.val) f.vd.val k = if (guardBits (ceOf s n.val) f.guard).testBit k = true
          then pword (pointOf s (greg (ceOf s n.val) f.ra.val + vlane (ceOf s n.val) f.vb.val k).toNat) f.word.val
          else vlane (ceOf s n.val) f.vd.val k)
        ∧ (ceOf t n.val).elem = 0 ∧ (ceOf t n.val).g = (ceOf s n.val).g ∧ t = putCe s n.val (ceOf t n.val)) ∧
  (∀ n f s op, Issues s n → f.zero = 0 → (ceOf s n.val).elem = 0 → isSandbox s n.val = false → combStandby s = false →
    guardBits (ceOf s n.val) f.guard = 1 → op = CombOp.write f.word (vlane (ceOf s n.val) f.vd.val 0) 0 →
    Reaches s (.ce n) (ceOf s n.val).tctx (greg (ceOf s n.val) f.ra.val + vlane (ceOf s n.val) f.vb.val 0).toNat op →
    Completes (.scat n f 16 none) s fun t => ceOf t n.val = retire (ceOf s n.val) ∧ t = putCe (slotWritten s (.ce n)
      (ceOf s n.val).tctx (greg (ceOf s n.val) f.ra.val + vlane (ceOf s n.val) f.vb.val 0).toNat op) n.val (ceOf t n.val)) ∧
  (∀ n f s, Issues s n → f.zero = 0 → (ceOf s n.val).elem = 0 → isSandbox s n.val = false → combStandby s = false →
    (∀ k < 16, (guardBits (ceOf s n.val) f.guard).testBit k = true → Reaches s (.ce n) (ceOf s n.val).tctx
      (greg (ceOf s n.val) f.ra.val + vlane (ceOf s n.val) f.vb.val k).toNat (.write f.word (vlane (ceOf s n.val) f.vd.val k) 0)) →
    Completes (.scat n f 16 none) s fun t => ceOf t n.val = retire (ceOf s n.val)
      ∧ ∀ id, (∀ k < 16, (guardBits (ceOf s n.val) f.guard).testBit k = true →
          id ≠ (greg (ceOf s n.val) f.ra.val + vlane (ceOf s n.val) f.vb.val k).toNat) → pointOf t id = pointOf s id) ∧
  (∀ n f s (u : Fin 17), Issues s n → f.zero = 0 → (ceOf s n.val).elem = 0 → guardBits (ceOf s n.val) f.guard = 0 → u.val < 16 →
    Completes (.gath n f u none) s fun t => t = putCe s n.val { ceOf s n.val with elem := u.val, split := true }) ∧
  (∀ n f e s, Issues s n → f.imm.toNat % 256 = 0 → guardOn (ceOf s n.val) f.guard = true → xact (ceOf s n.val) = false →
    262144 ≤ (greg (ceOf s n.val) f.ra.val).toNat → ∀ c ∈ ([.ldp n f e, .stp n f e] : List Instr), Completes c s fun t =>
      t = putCe s n.val (enterException causePoint 1 (greg (ceOf s n.val) f.ra.val) 0 (ceOf s n.val))) ∧
  (∀ n f s, Issues s n → f.zero = 0 → (ceOf s n.val).elem = 0 → (guardBits (ceOf s n.val) f.guard).testBit 0 = true →
    xact (ceOf s n.val) = false → 262144 ≤ (greg (ceOf s n.val) f.ra.val + vlane (ceOf s n.val) f.vb.val 0).toNat →
    ∀ c ∈ ([.gath n f 16 none, .scat n f 16 none] : List Instr), Completes c s fun t =>
      t = putCe s n.val (enterException causePoint 1 (greg (ceOf s n.val) f.ra.val + vlane (ceOf s n.val) f.vb.val 0) 0 (ceOf s n.val))) ∧
  (∀ word prio tenant s, accessHeld s 6 0 = false → Reaches s .keeper tenant.val s.cmb.accId (.read word) →
    Completes (.keeperReadWord word prio tenant) s fun t => t = { s with cmb := { s.cmb with
      accWord := word.val, accPrio := prio.val, accTenant := tenant.val, accResult := 0
      accData := pword (pointOf s s.cmb.accId) word.val } }) ∧
  (∀ prio tenant s, accessHeld s 6 0 = false →
    Reaches s .keeper tenant.val s.cmb.accId (.write 0 s.cmb.accData (Fin.ofNat 17 (Nat.min 16 prio.val))) →
    combStandby s = false → (pointOf s s.cmb.accId).arr = none → (pointOf s s.cmb.accId).force = none →
    Completes (.keeperWriteWord 0 prio tenant) s fun t =>
      t.cmb.accResult = 0 ∧ pword (pointOf t s.cmb.accId) 0 = s.cmb.accData ∧ t.cmb.accData = s.cmb.accData
        ∧ ∀ k, k ≠ s.cmb.accId → pointOf t k = pointOf s k) ∧
  (∀ word prio tenant s, accessHeld s 6 0 = false →
    Reaches s .keeper tenant.val s.cmb.accId (.relinquish (Fin.ofNat 17 (Nat.min 16 prio.val))) →
    combStandby s = false → Completes (.keeperRelinquish word prio tenant) s fun t =>
      t.cmb.accResult = 0 ∧ ∃ a, (pointOf t s.cmb.accId).arr = some a
        ∧ tget none a.entries (if prio.val = 0 then 16 else Nat.min 16 prio.val) = none) ∧
  (∀ word prio tenant s, accessHeld s 6 0 = false → Reaches s .keeper tenant.val s.cmb.accId .readSlot →
    Completes (.keeperReadSlot word prio tenant) s fun t =>
      t.cmb.accResult = 0 ∧ t.cmb.points = s.cmb.points ∧ t.cmb.window = (List.range 16).map (fun k =>
        if mayReadWord s (pointOf s s.cmb.accId) tenant.val k = true then pword (pointOf s s.cmb.accId) k else 0)) ∧
  (∀ word prio tenant s, accessHeld s 6 0 = false → s.cmb.accId < 262144 → serves s (homeDie s s.cmb.accId) = true →
    guardResult s .keeper tenant.val s.cmb.accId (.read word) none false = some .guarded →
    Completes (.keeperReadWord word prio tenant) s fun t =>
      t.cmb.accResult = 1 ∧ t.cmb.accData = s.cmb.accData ∧ t.cmb.points = s.cmb.points
        ∧ t.cmb.denyCount = Nat.min 16777215 (s.cmb.denyCount + 1))

/-- Elements, mirror and reload (R215, R217, R218, R223, R225, R246): a read answers the word, a write of VALUE to a slot without array
and force leaves the value and its time, a denial is counted and changes no slot; a changed slot goes to copy A and then to copy B; a
late copy raises event source 99; a broken slot is read back, or lost. -/
def Obligations.CombElements : Prop :=
  (∀ w id k s r, whoTenant s w = some r → Reaches s w r id.toNat (.read k) → Completes (.combAccess w id (.read k) .clean) s fun t =>
    t = { s with cmb := { s.cmb with answer := .ok [pword (pointOf s id.toNat) k.val] } }) ∧
  (∀ w id v prio s r, whoTenant s w = some r → Reaches s w r id.toNat (.write 0 v prio) → combStandby s = false →
    (pointOf s id.toNat).arr = none → (pointOf s id.toNat).force = none → Completes (.combAccess w id (.write 0 v prio) .clean) s fun t =>
      t.cmb.answer = .ok [] ∧ pword (pointOf t id.toNat) 0 = v ∧ pword (pointOf t id.toNat) 2 = loWord (devTime s)
        ∧ pword (pointOf t id.toNat) 3 = hiWord (devTime s) ∧ ∀ k, k ≠ id.toNat → pointOf t k = pointOf s k) ∧
  (∀ w id op e s r, whoTenant s w = some r → id.toNat < 262144 → serves s (homeDie s id.toNat) = true →
    guardResult s w r id.toNat op none (decide (e = .double)) = some .guarded → Completes (.combAccess w id op e) s fun t =>
      t.cmb.answer = .guarded ∧ t.cmb.points = s.cmb.points ∧ t.cmb.denyCount = Nat.min 16777215 (s.cmb.denyCount + 1)
        ∧ t.cmb.denyId = id.toNat ∧ t.cmb.denyTenant = r ∧ t.cmb.denyKind = whoKind w) ∧
  (∀ id s, (pointOf s id.val).dirty = true → s.rst.brace = .idle → Completes (.mirrorWriteA id) s fun t =>
    t = putPoint s id.val { pointOf s id.val with dirty := false, flightA := some (slotImage (pointOf s id.val)) }) ∧
  (∀ id s m, (pointOf s id.val).flightA = some m → Completes (.mirrorAckA id) s fun t =>
    tget ({} : SlotImage) t.cmb.mirA id.val = m ∧ (pointOf t id.val).flightA = none ∧ (pointOf t id.val).flightB = some m
      ∧ t.cmb.mirB = s.cmb.mirB) ∧
  (∀ id s m, (pointOf s id.val).flightB = some m → Completes (.mirrorAckB id) s fun t =>
    tget ({} : SlotImage) t.cmb.mirB id.val = m ∧ (pointOf t id.val).flightB = none ∧ t.cmb.mirA = s.cmb.mirA) ∧
  (∀ id s, (pointOf s id.val).flightA.isSome = true → s.rst.brace = .idle → running s .keeper = true →
    Completes (.mirrorWriteTimeout false id) s fun t => t.cmb.lateA = true ∧ t.cmb.lateB = s.cmb.lateB ∧ Raised s 99 [] t) ∧
  (∀ id s, (pointOf s id.val).flightB.isSome = true → s.rst.brace = .idle → running s .keeper = true →
    Completes (.mirrorWriteTimeout true id) s fun t => t.cmb.lateB = true ∧ t.cmb.lateA = s.cmb.lateA ∧ Raised s 99 [] t) ∧
  (∀ id s, (pointOf s id.val).broken = true → Completes (.slotReload id true true) s fun t =>
    (pointOf t id.val).broken = false ∧ t.cmb.repaired = Nat.min 65535 (s.cmb.repaired + 1)
      ∧ (∀ k, 2 ≤ k → k ≠ 11 → pword (pointOf t id.val) k = tget 0 (tget ({} : SlotImage) s.cmb.mirA id.val).words k)
      ∧ (running s .keeper = true → Raised s 97 [] t)) ∧
  (∀ id s, (pointOf s id.val).broken = true → Completes (.slotReload id false true) s fun t =>
    (pointOf t id.val).broken = false ∧ t.cmb.repaired = Nat.min 65535 (s.cmb.repaired + 1)
      ∧ (∀ k, 2 ≤ k → k ≠ 11 → pword (pointOf t id.val) k = tget 0 (tget ({} : SlotImage) s.cmb.mirB id.val).words k)) ∧
  (∀ id s, (pointOf s id.val).broken = true → Completes (.slotReload id false false) s fun t =>
    (pointOf t id.val).broken = false ∧ t.cmb.lost = Nat.min 255 (s.cmb.lost + 1) ∧ (running s .keeper = true → Raised s 98 [] t))

/-- Alarms, trends and energy (R233, R234, R243, R244): a scan moves a slot above its high limit with no delay to high limit and queues
its record; a sample of VALUE, STATUS and TIME goes to the TREND stream, on SH-8128-IB to the slot's own trend; the forecast is the
formula of R243 in kW; LEVEL rises by 1 after 10 s above the limit and falls by 1 after 60 s below it, with event source 104. That the
queue is drained at a scan, how F is rounded, and that 10 s lie between 11 forecasts are the model's readings (log entries 47 and 48). -/
def Obligations.AlarmsTrendsAndEnergy : Prop :=
  (∀ s id p, s.cmb.points = [(id, p)] → p.alloc = true → p.alarmPend = none → p.typ < 3 → p.eventState = 0 → p.quality ≠ 2 →
    bitAt (pword p 9) 31 = true → fld (pword p 9) 7 0 = 0 → valueLess p.typ (pword p 6) (pword p 0) = true →
    running s (homeDie s id) = true → running s .io = false → s.cmb.alarms.length < 16384 → Completes .alarmScan s fun t =>
      (pointOf t id).eventState = 2 ∧ bitAt (pword (pointOf t id) 1) 29 = true ∧ bitAt (pword (pointOf t id) 10) 29 = false
        ∧ t.cmb.alarms = s.cmb.alarms ++ [⟨devTime s, id, 0, 2, fld (pword p 9) 15 8, pword p 0⟩]) ∧
  (∀ s, s.cmb.points = [] → running s .io = true → s.cmb.alarms ≠ [] → Completes .alarmScan s fun t =>
    t.cmb.alarms = [] ∧ t.cmb.notified = s.cmb.alarms.flatMap (notesOf s)) ∧
  (∀ id s, (pointOf s id.val).alloc = true → 1 ≤ (pointOf s id.val).interval → (pointOf s id.val).interval ≤ 5 → isIB s = true →
    Completes (.trendSample id) s fun t => t = putPoint s id.val { pointOf s id.val with
      trend := ((pword (pointOf s id.val) 0, pword (pointOf s id.val) 1, slotTime (pointOf s id.val))
        :: (pointOf s id.val).trend).take 64 }) ∧
  (∀ id s, (pointOf s id.val).alloc = true → 1 ≤ (pointOf s id.val).interval → (pointOf s id.val).interval ≤ 5 → isIB s = false →
    Completes (.trendSample id) s fun t => t = appendRec 0 (.plain (slotTime (pointOf s id.val))
      (trendTag id.val (pword (pointOf s id.val) 1)) (pword (pointOf s id.val) 0)) (slotTime (pointOf s id.val)) s) ∧
  (∀ s m p, running s .comp0 = true → s.cmb.limit ≠ 0 → s.cmb.interval = some (devTime s / 1000000000 / 900) →
    Reaches s .unit 0 s.img.energy.meter (.read 0) → Reaches s .unit 0 s.img.energy.power (.read 0) →
    exactOf (cfgType s s.img.energy.meter) (pword (pointOf s s.img.energy.meter) 0) = some m →
    exactOf (cfgType s s.img.energy.power) (pword (pointOf s s.img.energy.power) 0) = some p →
      Completes .energyForecast s fun t => t.cmb.level = s.cmb.level ∧ t.cmb.forecast = Nat.min 65535
      (forecastOf (m - s.cmb.meter0) p (900 - devTime s / 1000000000 % 900) s.dsp.regen / kiloWatt).toNat) ∧
  (∀ s, running s .comp0 = true → s.cmb.limit ≠ 0 → 11 ≤ s.cmb.above → s.cmb.level < 8 → Completes .levelChange s fun t =>
    t.cmb.level = s.cmb.level + 1 ∧ t.cmb.above = 1 ∧ t.cmb.below = Nat.min 1 s.cmb.below
      ∧ (running s .keeper = true → Raised s 104 [] t)) ∧
  (∀ s, running s .comp0 = true → s.cmb.limit ≠ 0 → s.cmb.above < 11 → 61 ≤ s.cmb.below → 0 < s.cmb.level →
    Completes .levelChange s fun t => t.cmb.level = s.cmb.level - 1 ∧ t.cmb.below = 1
      ∧ (running s .keeper = true → Raised s 104 [] t))

/-- BACnet reads (R235 to R240): a session of a tenant gets its device, the objects it sees, the properties the guard lets it read, its
events and its trend logs; a connection that fails its checks is refused with event source 105. The I/O die runs, the session is bound,
and the request is no longer than the session takes. -/
def Obligations.BacnetReads : Prop :=
  (∀ k chain fp s c, running s .io = true → tenantCfg s k.val = some c → c.device.isSome = true → c.hubOk = true →
    s.cmb.conns.length < 4096 → tget none s.cmb.conns 0 = none → Completes (.bacnetScConnect k true chain fp) s fun t =>
      t = { s with cmb := { s.cmb with conns := tset none s.cmb.conns 0 (some { tenant := k.val, hub := true }) } }) ∧
  (∀ k chain fp s c, running s .io = true → tenantCfg s k.val = some c → c.device.isSome = true →
    chain.any c.cas.contains = true → c.peers.contains fp = true → s.cmb.conns.length < 4096 → tget none s.cmb.conns 0 = none →
    Completes (.bacnetScConnect k false chain fp) s fun t =>
      t = { s with cmb := { s.cmb with conns := tset none s.cmb.conns 0 (some { tenant := k.val, hub := false }) } }) ∧
  (∀ k hub chain fp s, running s .io = true → running s .keeper = true → tenantCfg s k.val = none →
    Completes (.bacnetScConnect k hub chain fp) s fun t => t.cmb = s.cmb ∧ Raised s 105 [] t) ∧
  (∀ q n low high s r c d, bacTenant s q = some r → running s .io = true → n ≤ maxApdu q → tenantCfg s r = some c →
    c.device = some d → low ≤ d → d ≤ high → Completes (.whoIs ⟨q, n⟩ low high) s fun t =>
      t.cmb.bacOut = .iAm [d] ∧ t.cmb.points = s.cmb.points) ∧
  (∀ q n id s r, bacTenant s q = some r → running s .io = true → n ≤ maxApdu q → sees s r id = true →
    pointDir (pointOf s id) < 3 → Completes (.whoHas ⟨q, n⟩ (.id (objectOf s id))) s fun t =>
      t.cmb.bacOut = .iHave (objectOf s id) ∧ t.cmb.points = s.cmb.points) ∧
  (∀ q n o id s r, bacTenant s q = some r → running s .io = true → n ≤ maxApdu q → slotNamed s r o = some id →
    Reaches s (bacWho q) r id .readSlot → mayReadWord s (pointOf s id) r 0 = true →
    Completes (.readProperty ⟨q, n⟩ o .presentValue) s fun t =>
      t.cmb.bacOut = .value [pword (pointOf s id) 0] ∧ t.cmb.points = s.cmb.points) ∧
  (∀ q n (ids : List Nat) s r, bacTenant s q = some r → running s .io = true → n ≤ maxApdu q →
    (∀ id ∈ ids, pointDir (pointOf s id) < 3 ∧ Reaches s (bacWho q) r id .readSlot ∧ mayReadWord s (pointOf s id) r 0 = true) →
    Completes (.readPropertyMultiple ⟨q, n⟩ (ids.map fun id => (objectOf s id, .presentValue))) s fun t =>
      t.cmb.bacOut = .values (ids.map fun id => .inr [pword (pointOf s id) 0]) ∧ t.cmb.points = s.cmb.points) ∧
  (∀ q n s r id p, bacTenant s q = some r → running s .io = true → n ≤ maxApdu q → s.cmb.points = [(id, p)] → sees s r id = true →
    running s (homeDie s id) = true → p.broken = false → mayReadWord s p r 10 = true → fld (pword p 9) 31 29 ≠ 0 →
    p.eventState ≠ 0 → Completes (.getEventInformation ⟨q, n⟩) s fun t =>
      t.cmb.bacOut = .events [(id, p.eventState, fld (pword p 10) 29 27)]) ∧
  (∀ q n id first count s r, bacTenant s q = some r → running s .io = true → n ≤ maxApdu q →
    Reaches s (bacWho q) r id (.read 0) → (pointOf s id).interval ≠ 0 → s.cmb.alarms = [] →
    Completes (.readRange ⟨q, n⟩ id first count) s fun t => t = bacSays (.range (((trendOf s id).drop first).take count)) s)

/-- BACnet writes and subscriptions (R227, R236 to R239): a property is written through the guard, as a list up to its first failure,
which is the model's presumption (log entry 50); over BACnet/IP a tenant without IP_WRITE writes nothing; an alarm's bit is acknowledged;
a subscription takes a place within the quota and gives it back; a notification goes out when VALUE has moved. Modbus (R222, R242): a
request reads and writes the registers of its binding's map, two to a VALUE, the high one first; a polled device is the source of its
slots, and its loss makes them bad with VALUE kept. -/
def Obligations.BacnetWritesAndModbus : Prop :=
  (∀ q n o id v prio s r, bacTenant s q = some r → running s .io = true → n ≤ maxApdu q → ipBars s q r = false →
    combStandby s = false → slotNamed s r o = some id → Reaches s (bacWho q) r id (.write 0 v prio) → (pointOf s id).arr = none →
    (pointOf s id).force = none →
    ∀ c ∈ ([.writeProperty ⟨q, n⟩ o .presentValue (some v) prio, .writePropertyMultiple ⟨q, n⟩ [(o, .presentValue, some v, prio)]] :
        List Instr),
      Completes c s fun t => t.cmb.bacOut = .ack ∧ pword (pointOf t id) 0 = v ∧ ∀ k, k ≠ id → pointOf t k = pointOf s k) ∧
  (∀ k n o id prop v prio s r, bacTenant s (.ip k) = some r → running s .io = true → n ≤ maxApdu (.ip k) →
    ipBars s (.ip k) r = true → slotNamed s r o = some id → Completes (.writeProperty ⟨.ip k, n⟩ o prop v prio) s fun t =>
      t.cmb.bacOut = .error .writeDenied ∧ t.cmb.points = s.cmb.points) ∧
  (∀ q n o id kind s r bit, bacTenant s q = some r → running s .io = true → n ≤ maxApdu q → ipBars s q r = false →
    combStandby s = false → slotNamed s r o = some id → bit = (match kind with | AlarmKind.offNormal => 29 | .fault => 28 | .normal => 27) →
    Reaches s (bacWho q) r id (.write 10 (maskOf bit bit) 16) → Completes (.acknowledgeAlarm ⟨q, n⟩ o kind) s fun t =>
      t.cmb.bacOut = .ack ∧ bitAt (pword (pointOf t id) 10) bit = true) ∧
  (∀ q n o id confirmed s r c, bacTenant s q = some r → running s .io = true → n ≤ maxApdu q → slotNamed s r o = some id →
    Reaches s (bacWho q) r id (.read 0) → s.cmb.subs = [] → tenantCfg s r = some c → 0 < c.covQuota →
    Completes (.subscribeCov ⟨q, n⟩ o confirmed false) s fun t => t.cmb.bacOut = .ack
      ∧ tget none t.cmb.subs 0
          = some ⟨q, r, id, confirmed, pword (pointOf s id) 0, pword (pointOf s id) 1, devTime s⟩) ∧
  (∀ q n o id confirmed s r c, bacTenant s q = some r → running s .io = true → n ≤ maxApdu q → slotNamed s r o = some id →
    Reaches s (bacWho q) r id (.read 0) → s.cmb.subs = [] → tenantCfg s r = some c → c.covQuota = 0 →
    Completes (.subscribeCov ⟨q, n⟩ o confirmed false) s fun t => t.cmb.bacOut = .error .noSpace ∧ t.cmb.subs = []) ∧
  (∀ q n o id confirmed s r k x, bacTenant s q = some r → running s .io = true → n ≤ maxApdu q → slotNamed s r o = some id →
    s.cmb.subs = [(k, some x)] → x.who = q → x.point = id → Completes (.subscribeCov ⟨q, n⟩ o confirmed true) s fun t =>
      t.cmb.bacOut = .ack ∧ t.cmb.subs = []) ∧
  (∀ k s x, tget none s.cmb.subs k.val = some x → running s .io = true → Reaches s (bacWho x.who) x.tenant x.point (.read 0) →
    x.lastTime + 100000000 ≤ devTime s → covMoved (pointOf s x.point) x.lastValue = true → Completes (.covNotification k) s fun t =>
      t.cmb.bacOut = .cov k.val x.confirmed (pword (pointOf s x.point) 0) (pword (pointOf s x.point) 1)
        ∧ tget none t.cmb.subs k.val = some { x with
            lastValue := pword (pointOf s x.point) 0, lastStatus := pword (pointOf s x.point) 1, lastTime := devTime s }) ∧
  (∀ conn bind s r m f id, running s .io = true → s.img.modbusBinds[bind]? = some (r, m.no) → s.img.modbus = [m] →
    m.regs = [(f, id)] → Reaches s (.session (.modbus bind)) r id (.read 0) →
    Completes (.modbusTcpRequest conn bind f 2 none) s fun t =>
      t.cmb.modbusOut = .regs [BitVec.ofNat 16 ((pword (pointOf s id) 0).toNat / 65536), BitVec.ofNat 16 (pword (pointOf s id) 0).toNat]
        ∧ t.cmb.points = s.cmb.points) ∧
  (∀ conn bind s r m f id a b, running s .io = true → s.img.modbusBinds[bind]? = some (r, m.no) → s.img.modbus = [m] →
    m.regs = [(f, id)] → combStandby s = false →
    Reaches s (.session (.modbus bind)) r id (.write 0 (wordN (a.toNat * 65536 + b.toNat)) 0) →
    (pointOf s id).arr = none → (pointOf s id).force = none → Completes (.modbusTcpRequest conn bind f 2 (some [a, b])) s fun t =>
      t.cmb.modbusOut = .written ∧ pword (pointOf t id) 0 = wordN (a.toNat * 65536 + b.toNat)) ∧
  (∀ conn bind s r m, running s .io = true → s.img.modbusBinds[bind]? = some (r, m.no) → s.img.modbus = [m] → m.regs = [] →
    Completes (.modbusTcpRequest conn bind 0 1 none) s fun t => t.cmb.modbusOut = .exception 2 ∧ t.cmb.points = s.cmb.points) ∧
  (∀ no vs s m id p v, running s .io = true → s.img.modbus.find? (fun m => decide (m.no = no.val)) = some m →
    s.cmb.points = [(id, p)] → p.alloc = true → p.sourceKind = 2 → p.sourceUnit = no.val → vs[p.sourceWord]? = some v →
    serves s (homeDie s id) = true →
    guardResult s (.session (.map no.val)) m.tenant id (.write 0 v 0) (some (2, no.val)) false = none →
    combStandby s = false → p.force = none → Completes (.modbusRtuResponse no vs) s fun t =>
      pword (pointOf t id) 0 = v ∧ (pointOf t id).quality = 0 ∧ pword (pointOf t id) 2 = loWord (devTime s)) ∧
  (∀ no s id p, s.cmb.points = [(id, p)] → p.alloc = true → p.sourceKind = 2 → p.sourceUnit = no.val →
    Completes (.modbusDeviceLost no) s fun t =>
      (pointOf t id).quality = 2 ∧ fld (pword (pointOf t id) 1) 15 8 = 12 ∧ bitAt (pword (pointOf t id) 1) 26 = true
        ∧ pword (pointOf t id) 0 = pword p 0)

/-- Hoist commands (R264, R269, R273, R274, R280, R282): START and RELEVEL from REST and RESUME from HELD enter START with the run
request and the set-point at the fused position; RELEVEL goes to HST_TARGET (log entry 59); STOP in FLIGHT and RESUME in STOPPING wait
for the next frame; CANCEL drops the kept flight; RESET leaves TRIPPED; a rescue rise starts a rescue flight to the nearest landing ahead;
in the wrong state, and in T3, a command is refused with its code and the channel stays. -/
def Obligations.HoistCommands : Prop :=
  (∀ c s k e, accessHeld s 7 0 = false → carCfg s c.val = some k → (hstOf s c.val).state = .rest → computeRuns s = true →
    s.trs.therm ≠ 3 → rescueService s = false → firstStop (hstOf s c.val).queue = some e → insideLimits s k e.target = true →
    Completes (.hstStart c) s fun t =>
      (hstOf t c.val).state = .start ∧ (hstOf t c.val).runRequest = true ∧ (hstOf t c.val).target = e.target
        ∧ (hstOf t c.val).posSet = fusedPos s c.val ∧ (hstOf t c.val).velSet = 0 ∧ (hstOf t c.val).queue = (hstOf s c.val).queue
        ∧ (hstOf t c.val).noEntry = false ∧ t = putHst s c.val (hstOf t c.val)) ∧
  (∀ c s k, accessHeld s 7 0 = false → carCfg s c.val = some k → (hstOf s c.val).state = .rest → computeRuns s = true →
    s.trs.therm = 3 → Completes (.hstStart c) s fun t => (hstOf t c.val) = { hstOf s c.val with refuse := 2, lastOk := false }) ∧
  (∀ c s k, accessHeld s 7 0 = false → carCfg s c.val = some k → (hstOf s c.val).state = .flight → Completes (.hstStop c) s fun t =>
    t = putHst s c.val { hstOf s c.val with stopAsked := true, lastOk := true }) ∧
  (∀ c s k, accessHeld s 7 0 = false → carCfg s c.val = some k → (hstOf s c.val).state ≠ .flight → Completes (.hstStop c) s fun t =>
    (hstOf t c.val) = { hstOf s c.val with refuse := 1, lastOk := false }
      ∧ ((hstOf s c.val).lastOk = true → running s .keeper = true → Raised s (1025 + 4 * c.val) [1, 2] t)) ∧
  (∀ c s k e, accessHeld s 7 0 = false → carCfg s c.val = some k → (hstOf s c.val).state = .held → computeRuns s = true →
    rescueService s = false → firstStop (hstOf s c.val).queue = some e → insideLimits s k e.target = true →
    Completes (.hstResume c) s fun t =>
      (hstOf t c.val).state = .start ∧ (hstOf t c.val).runRequest = true ∧ (hstOf t c.val).target = e.target
        ∧ (hstOf t c.val).queue = (hstOf s c.val).queue) ∧
  (∀ c s k e, accessHeld s 7 0 = false → carCfg s c.val = some k → (hstOf s c.val).state = .stopping → computeRuns s = true →
    rescueService s = false → firstStop (hstOf s c.val).queue = some e → insideLimits s k e.target = true →
    Completes (.hstResume c) s fun t => t = putHst s c.val { hstOf s c.val with resumeAsked := true }) ∧
  (∀ c s k, accessHeld s 7 0 = false → carCfg s c.val = some k → (hstOf s c.val).state = .held → Completes (.hstCancel c) s fun t =>
    t = putHst s c.val { hstOf s c.val with state := .rest, kept := 0, queue := dropStop (hstOf s c.val).queue, lastOk := true }) ∧
  (∀ c s k, accessHeld s 7 0 = false → carCfg s c.val = some k → (hstOf s c.val).state = .tripped → permit .a s c.val = true →
    permit .b s c.val = true → (fusedSpeed s c.val).natAbs < 10000 → (hstOf s c.val).drvStatus.testBit 2 = false →
    Completes (.hstReset c) s fun t =>
      (hstOf t c.val).state = (if (hstOf s c.val).kept ≠ 0 then .held else .rest)
        ∧ (hstOf t c.val).kept = (hstOf s c.val).kept ∧ (hstOf t c.val).queue = (hstOf s c.val).queue) ∧
  (∀ c s k, accessHeld s 7 0 = false → carCfg s c.val = some k → (hstOf s c.val).state = .tripped →
    (permit .a s c.val = false ∨ permit .b s c.val = false) → Completes (.hstReset c) s fun t =>
      (hstOf t c.val).state = .tripped ∧ (hstOf t c.val).refuse = 4) ∧
  (∀ c s k, accessHeld s 7 0 = false → carCfg s c.val = some k → (hstOf s c.val).state = .rest → computeRuns s = true →
    s.trs.therm ≠ 3 → rescueService s = false → (shownTarget (hstOf s c.val) - fusedPos s c.val).natAbs ≤ 5000 →
    insideLimits s k (shownTarget (hstOf s c.val)) = true → Completes (.hstRelevel c) s fun t =>
      (hstOf t c.val).state = .start ∧ (hstOf t c.val).noEntry = true ∧ (hstOf t c.val).runRequest = true
        ∧ (hstOf t c.val).target = shownTarget (hstOf s c.val) ∧ (hstOf t c.val).landing = shownLanding (hstOf s c.val)
        ∧ (hstOf t c.val).queue = (hstOf s c.val).queue) ∧
  (∀ c up s k l, running s .io = true → carCfg s c.val = some k → rescueActive s = true → rescueCommand s = some (c.val, up, !up) →
    s.trs.therm ≠ 3 → 2 ≤ serviceSet s.dies → anyMoving s = false → ((hstOf s c.val).state = .rest ∨ (hstOf s c.val).state = .held) →
    rescueLanding s k up = some l → insideLimits s k (landSill s c.val l) = true → Completes (.rescueCommand c up) s fun t =>
      (hstOf t c.val).state = .start ∧ (hstOf t c.val).rescueFlight = true ∧ (hstOf t c.val).runRequest = true
        ∧ (hstOf t c.val).target = landSill s c.val l ∧ (hstOf t c.val).landing = l) ∧
  (∀ c up s k, running s .io = true → carCfg s c.val = some k → rescueActive s = true → rescueCommand s = some (c.val, up, !up) →
    s.trs.therm = 3 → Completes (.rescueCommand c up) s fun t =>
      (hstOf t c.val) = { hstOf s c.val with refuse := 2, lastOk := false })

/-- The stop queue and the limits (R263, R264, R266, R268, R272, R275, R279, R548): an operation of a planner CE is staged whole and waits,
a second is held behind it, a third is discarded and counted; VCAP and the virtual limits are taken, limits that would meet are refused;
return frames are shown; START times out; ARRIVE ends and gives its entry up; a deck that is not in place is told. The hoist frame (R259 to
R261, R265, R268): an operation that passes its checks is applied whole at the next frame and RESULT reads 0; the frame carries both permit
bits as the safety dies publish them, whatever is forced; without a permit a moving channel is TRIPPED with velocity 0, and its event names
the state and the cause (in the codes of log entry 60). -/
def Obligations.HoistQueueLimitsAndFrame : Prop :=
  (∀ req c i s k, accessHeld s 7 0 = false → waitsBehind s req = false → isPlanner s req = true → carCfg s c.val = some k →
    (hstOf s c.val).qPending = none →
    ∀ p ∈ ([(.queueInsert req c i, 1), (.queueReplace req c i, 2), (.queueRemove req c i, 3), (.queueClear req c i, 4)] :
        List (Instr × Nat)),
      Completes p.1 s fun t => t = putHst s c.val { hstOf s c.val with
        qIndex := i.val, qResult := 15, qPending := some { op := p.2, index := i.val, entry := (hstOf s c.val).stage } }) ∧
  (∀ req c i s k p, accessHeld s 7 0 = false → waitsBehind s req = false → isPlanner s req = true → carCfg s c.val = some k →
    (hstOf s c.val).qPending = some p → (hstOf s c.val).qHeld = none →
    ∀ o ∈ ([(.queueInsert req c i, 1), (.queueReplace req c i, 2), (.queueRemove req c i, 3), (.queueClear req c i, 4)] :
        List (Instr × Nat)),
      Completes o.1 s fun t => t = putHst s c.val { hstOf s c.val with qHeld := some (o.2, i.val, req) }) ∧
  (∀ req c i s k p q, accessHeld s 7 0 = false → waitsBehind s req = false → isPlanner s req = true → carCfg s c.val = some k →
    (hstOf s c.val).qPending = some p → (hstOf s c.val).qHeld = some q →
    ∀ o ∈ ([.queueInsert req c i, .queueReplace req c i, .queueRemove req c i, .queueClear req c i] : List Instr),
      Completes o s fun t => t.hst = s.hst ∧ t.evt.badCause = 3
        ∧ t.evt.badCount = Nat.min 65535 (s.evt.badCount + 1) ∧ t.evt.badAddr = wordN (0x0A000050 + c.val * 0x1000)) ∧
  (∀ c v s k, accessHeld s 7 0 = false → carCfg s c.val = some k → Completes (.vcapWrite c v) s fun t =>
    t = putHst s c.val { hstOf s c.val with vcap := v.toNat, replan := true }) ∧
  (∀ c v s k, accessHeld s 7 0 = false → carCfg s c.val = some k → (hstOf s c.val).state ≠ .flight →
    (hstOf s c.val).vlimDn < min v.toInt k.vlimUp →
    Completes (.vlimWrite c true v) s fun t => t = putHst s c.val { hstOf s c.val with vlimUp := min v.toInt k.vlimUp }) ∧
  (∀ c v s k, accessHeld s 7 0 = false → carCfg s c.val = some k → (hstOf s c.val).state ≠ .flight →
    max v.toInt k.vlimDn < (hstOf s c.val).vlimUp →
    Completes (.vlimWrite c false v) s fun t => t = putHst s c.val { hstOf s c.val with vlimDn := max v.toInt k.vlimDn }) ∧
  (∀ c v s k, accessHeld s 7 0 = false → carCfg s c.val = some k → min v.toInt k.vlimUp ≤ (hstOf s c.val).vlimDn →
    Completes (.vlimWrite c true v) s fun t => (hstOf t c.val) = { hstOf s c.val with refuse := 5, lastOk := false }
      ∧ (running s .keeper = true → Raised s (1025 + 4 * c.val) [5, 0] t)) ∧
  (∀ c v s k, accessHeld s 7 0 = false → carCfg s c.val = some k → (hstOf s c.val).vlimUp ≤ max v.toInt k.vlimDn →
    Completes (.vlimWrite c false v) s fun t => (hstOf t c.val) = { hstOf s c.val with refuse := 5, lastOk := false }
      ∧ (running s .keeper = true → Raised s (1025 + 4 * c.val) [5, 0] t)) ∧
  (∀ c echo st fa deck s k, running s .io = true → carCfg s c.val = some k → Completes (.driveReturnFrame c echo st fa deck) s fun t =>
    t = putHst s c.val { hstOf s c.val with
      seqEcho := echo.toNat, drvStatus := st.toNat, drvFault := fa.toNat, deckOk := deck }) ∧
  (∀ c s, (hstOf s c.val).state = .start → Completes (.startTimeout c) s fun t =>
    (hstOf t c.val).state = .rest ∧ (hstOf t c.val).runRequest = false ∧ (hstOf t c.val).refuse = 8
      ∧ (running s .keeper = true → Raised s (1026 + 4 * c.val) [] t)) ∧
  (∀ c s k, carCfg s c.val = some k → (hstOf s c.val).state = .arrive → deckInPlace k (hstOf s c.val) = true →
    (hstOf s c.val).noEntry = false → Completes (.settleExpiry c) s fun t =>
      (hstOf t c.val).state = .rest ∧ (hstOf t c.val).runRequest = false ∧ (hstOf t c.val).kept = 0
        ∧ (hstOf t c.val).queue = dropStop (hstOf s c.val).queue
        ∧ ((hstOf t c.val).levelErr = true ↔ (hstOf s c.val).levelErr = true
            ∨ k.levelTol < (fusedPos s c.val - (hstOf s c.val).target).natAbs)) ∧
  (∀ c s k, carCfg s c.val = some k → (hstOf s c.val).state = .arrive → deckInPlace k (hstOf s c.val) = false →
    Completes (.settleExpiry c) s fun t =>
      (hstOf t c.val).state = .arrive ∧ (hstOf t c.val).deckWait = true ∧ (hstOf t c.val).queue = (hstOf s c.val).queue) ∧
  (∀ c s k, carCfg s c.val = some k → ((hstOf s c.val).state = .flight ∨ (hstOf s c.val).state = .arrive) →
    deckInPlace k (hstOf s c.val) = false → running s .keeper = true →
    Completes (.deckLate c) s fun t => t.hst = s.hst ∧ Raised s (1027 + 4 * c.val) [] t) ∧
  (∀ c s k o, carCfg s c.val = some k → running s .io = true → computeRuns s = true →
    (hstOf s c.val).state = .rest → (hstOf s c.val).qPending = some o → o.op = 1 → o.index ≤ (hstOf s c.val).queue.length →
    o.entry.kind < 2 → (hstOf s c.val).vlimDn ≤ o.entry.target → o.entry.target ≤ (hstOf s c.val).vlimUp → -30000 ≤ o.entry.deck →
    o.entry.deck ≤ 30000 → (hstOf s c.val).queue.length < 8 → (hstOf s c.val).qHeld = none → Completes (.hoistFrameCompute c) s fun t =>
      (hstOf t c.val).queue = (hstOf s c.val).queue.take o.index ++ o.entry :: (hstOf s c.val).queue.drop o.index
        ∧ (hstOf t c.val).qResult = 0 ∧ (hstOf t c.val).qPending = none ∧ (hstOf t c.val).state = .rest
        ∧ (hstOf t c.val).seq = ((hstOf s c.val).seq + 1) % 65536) ∧
  (∀ c s k, carCfg s c.val = some k → running s .io = true → (hstOf s c.val).state = .rest → (hstOf s c.val).qPending = none →
    Completes (.hoistFrameCompute c) s fun t => (hstOf t c.val).frame.length = 8 ∧ (hstOf t c.val).state = .rest
      ∧ (hstOf t c.val).queue = (hstOf s c.val).queue ∧ (hstOf t c.val).posSet = (hstOf s c.val).posSet
      ∧ bitAt ((hstOf t c.val).frame.headD 0) 16 = permit .a s c.val ∧ bitAt ((hstOf t c.val).frame.headD 0) 17 = permit .b s c.val) ∧
  (∀ c s k, carCfg s c.val = some k → running s .io = true → (hstOf s c.val).state = .flight → permit .a s c.val = false →
    Completes (.hoistFrameCompute c) s fun t =>
      (hstOf t c.val).state = .tripped ∧ (hstOf t c.val).velSet = 0 ∧ (hstOf t c.val).runRequest = false
        ∧ (hstOf t c.val).kept = (hstOf s c.val).target - fusedPos s c.val
        ∧ (running s .keeper = true → Raised s (1024 + 4 * c.val) [3, 0] t))

/-- Position feedback (R288 to R293, R296 to R299, R308 to R312): a request latches the instant and the count, its frame is shown and
judged; a sensor not ready makes a bad frame; a station's quadrature record becomes the newest count and goes to the safety dies; edges step
the count and an illegal one is counted; an index edge latches the count; fusion follows the anchor by the count; CLEAR and shaft learning
change state under their conditions only. -/
def Obligations.PositionFeedback : Prop :=
  (∀ n s k g, running s .io = true → ssiCar s n.val = some k → ssiCfg s n.val = some g → Completes (.ssiRequest n true) s fun t =>
    (ssiOf t n.val).latch = some (s.tmb.time, countAt s k s.tmb.time) ∧ t.fbk.cars = s.fbk.cars ∧ t.fbk.qe = s.fbk.qe) ∧
  (∀ n s k g, running s .io = true → ssiCar s n.val = some k → ssiCfg s n.val = some g → Completes (.ssiRequest n false) s fun t =>
    (ssiOf t n.val).latch = none ∧ (fbkOf t k.car).goodAbs = 0
      ∧ (fbkOf t k.car).absErr = Nat.min 255 ((fbkOf s k.car).absErr + 1)) ∧
  (∀ n f s k g l, running s .io = true → ssiCar s n.val = some k → ssiCfg s n.val = some g → (ssiOf s n.val).latch = some l →
    Completes (.ssiFrameComplete n f) s fun t =>
      (ssiOf t n.val).latch = none ∧ (ssiOf t n.val).frame = f.toNat % 2 ^ g.frameBits
        ∧ ((ssiDecode g (f.toNat % 2 ^ g.frameBits)).1 ≠ 0 → (fbkOf t k.car).goodAbs = 0
            ∧ (fbkOf t k.car).absErr = Nat.min 255 ((fbkOf s k.car).absErr + 1))) ∧
  (∀ st r r2 s k, running s .io = true → fbkCfg s r.car.val = some k → r.quad = true → k.quadStn = true → k.quadNum = st.val →
    (∀ x, r2 = some x → x.quad = false) → Completes (.feedbackRecord st r r2) s fun t =>
      (fbkOf t k.car).stnCount = r.value.toInt ∧ (fbkOf t k.car).stnTime = r.latchAt.toNat
        ∧ (running s .safA = true → tget none t.safA.raws (2 * k.car + 1)
            = some { value := r.value.toInt, verdict := r.verdict.toNat, latch := r.latchAt.toNat })) ∧
  (∀ st r s k, running s .io = true → fbkCfg s r.car.val = some k → r.quad = false → k.absStn = true → k.absNum = st.val →
    r.verdict.toNat ≠ 0 → Completes (.feedbackRecord st r none) s fun t => (fbkOf t k.car).goodAbs = 0
        ∧ (fbkOf t k.car).absErr = Nat.min 255 ((fbkOf s k.car).absErr + 1)) ∧
  (∀ n s, running s .io = true → (qeOf s n.val).a = false → (qeOf s n.val).b = false → Completes (.quadEdge n true false) s fun t =>
    (qeOf t n.val).count = (qeOf s n.val).count + 1 ∧ (qeOf t n.val).a = true ∧ (qeOf t n.val).illegal = (qeOf s n.val).illegal) ∧
  (∀ n s, running s .io = true → (qeOf s n.val).a = false → (qeOf s n.val).b = false → Completes (.quadEdge n false true) s fun t =>
    (qeOf t n.val).count = (qeOf s n.val).count - 1 ∧ (qeOf t n.val).b = true) ∧
  (∀ n s, running s .io = true → (qeOf s n.val).a = false → (qeOf s n.val).b = false → Completes (.quadEdge n true true) s fun t =>
    (qeOf t n.val).count = (qeOf s n.val).count ∧ (qeOf t n.val).illegal = Nat.min 255 ((qeOf s n.val).illegal + 1)
      ∧ ((qeOf s n.val).told = false → running s .keeper = true → Raised s (1936 + n.val) [] t)) ∧
  (∀ n rise s g, running s .io = true → qeCfg s n.val = some g → g.zpol = !rise → Completes (.indexEdge n rise) s fun t =>
    (qeOf t n.val).idx = (qeOf s n.val).count ∧ (qeOf t n.val).idxAt = some s.tmb.time ∧ (qeOf t n.val).count = (qeOf s n.val).count) ∧
  (∀ c s k a, running s .io = true → fbkCfg s c.val = some k → k.quadStn = false → (fbkOf s c.val).absSt ≠ .lost →
    (fbkOf s c.val).quadSt ≠ .lost → (fbkOf s c.val).fusedValid = true → (fbkOf s c.val).hold = false → (fbkOf s c.val).anchor = some a →
    Completes (.fusionTick c) s fun t => (fbkOf t c.val).pos
        = a.pos + roundDiv (quadFine (fbkOf s c.val) k (countDiff (qeOf s k.quadNum).count.toInt a.count)) (2 ^ 24)
      ∧ (fbkOf t c.val).age = Nat.min 255 ((s.tmb.time - a.time) / 10000) ∧ t.fbk.qe = s.fbk.qe) ∧
  (∀ c s k, accessHeld s 9 0 = false → fbkCfg s c.val = some k → (measuredSpeed s k).1.natAbs < 10000 → 1000 ≤ (fbkOf s c.val).goodAbs →
    1000 ≤ (fbkOf s c.val).goodQuad → Completes (.fbkClear c) s fun t =>
      (fbkOf t c.val).absSt = .good ∧ (fbkOf t c.val).quadSt = .good ∧ (fbkOf t c.val).degraded = false
        ∧ (fbkOf t c.val).tripReq = false ∧ (fbkOf t c.val).hold = true ∧ (fbkOf t c.val).result = 0) ∧
  (∀ c s k, accessHeld s 9 0 = false → fbkCfg s c.val = some k → (fbkOf s c.val).goodAbs < 1000 → Completes (.fbkClear c) s fun t =>
    fbkOf t c.val = { fbkOf s c.val with result := 1 }) ∧
  (∀ c s k, accessHeld s 9 0 = false → fbkCfg s c.val = some k → s.frm.presence = true → (hstOf s c.val).state = .rest →
    (fbkOf s c.val).absSt = .good → (fbkOf s c.val).quadSt = .good → Completes (.learnBegin c) s fun t =>
      t = putFbk s c.val { fbkOf s c.val with result := 0, learn := 1, zone := none, sills := [] }) ∧
  (∀ c s k, accessHeld s 9 0 = false → fbkCfg s c.val = some k → s.frm.presence = false → Completes (.learnBegin c) s fun t =>
    t = putFbk s c.val { fbkOf s c.val with result := 2 }) ∧
  (∀ c s k, accessHeld s 9 0 = false → fbkCfg s c.val = some k → (fbkOf s c.val).learn = 1 → Completes (.learnAbort c) s fun t =>
    t = putFbk s c.val { fbkOf s c.val with result := 0, learn := 0, zone := none, sills := [] }) ∧
  (∀ c s k car v, accessHeld s 9 0 = false → fbkCfg s c.val = some k → carCfg s c.val = some car → (fbkOf s c.val).learn = 1 →
    (hstOf s c.val).state = .rest → newScale s k (fbkOf s c.val) = some v →
    (∀ l ∈ car.served, ∃ x ∈ (fbkOf s c.val).sills, x.landing = l) →
    (∀ x ∈ (fbkOf s c.val).sills, (absPos (fbkOf s c.val) k x.raw - nominalSill s x.landing).natAbs ≤ 5000) →
    Completes (.learnEnd c) s fun t =>
      (fbkOf t c.val).learn = 2 ∧ (fbkOf t c.val).scale = some v ∧ (fbkOf t c.val).datum = some (newDatum s k (fbkOf s c.val))
        ∧ (fbkOf t c.val).result = 0 ∧ (running s .keeper = true → Raised s (1793 + 2 * c.val) [] t)) ∧
  (∀ c s k x, running s .io = true → fbkCfg s c.val = some k → (fbkOf s c.val).newest = some x → (fbkOf s c.val).learn = 1 →
    Completes (.doorZoneEdge c true) s fun t => ∃ e, t = putFbk s c.val { fbkOf s c.val with zone := some e }
      ∧ e.count = countAt s k s.tmb.time ∧ (e.up = true ↔ 0 ≤ (fbkOf s c.val).speed))

/-- Door commands (R329, R333, R334, R341, R343): with both permits OPEN, CLOSE and NUDGE start a move from REST, OPEN in CLOSING waits
for the update, STOP stops a move or gearing, RESET leaves TRIPPED, ARM_ADO and DISARM_ADO set their flag, profile writes and a gear table
are taken, and a table committed while GEARED waits; what may not run is refused with its code and the door stays; without both compute dies
all are refused with SOURCE. Door updates and telemetry (R322, R325, R326, R329, R334): a return frame is kept, and the first with ENC_OK
brings the channel out of OFF at the measured position; an update in REST sends its frame with both permit bits; without PERMIT_A the
channel is TRIPPED; a mode switch that waits too long is sent. -/
def Obligations.DoorChannels : Prop :=
  (∀ d s k, doorCfg s d.val = some k → accessHeld s 8 0 = false → computeRuns s = true → (dorOf s d.val).state = .rest →
    isOpened k (dorOf s d.val) = false → doorPermit .a s d.val = true → doorPermit .b s d.val = true → Completes (.doorOpen d) s fun t =>
      (dorOf t d.val).state = .opening ∧ (dorOf t d.val).moveEnd = targetOpen k (dorOf s d.val) ∧ (dorOf t d.val).p2 = (dorOf s d.val).p2
        ∧ (dorOf t d.val).v9 = (dorOf s d.val).v9 ∧ (dorOf t d.val).lastOk = true ∧ t = putDor s d.val (dorOf t d.val)) ∧
  (∀ d s k, doorCfg s d.val = some k → accessHeld s 8 0 = false → computeRuns s = true → (dorOf s d.val).state = .closing →
    Completes (.doorOpen d) s fun t =>
      if doorPermit .a s d.val = true ∧ doorPermit .b s d.val = true then t = putDor s d.val { dorOf s d.val with openAsked := true }
      else dorOf t d.val = { dorOf s d.val with refuse := 2, lastOk := false }
        ∧ ((dorOf s d.val).lastOk = true → running s .keeper = true → Raised s (1282 + 4 * d.val) [2] t)) ∧
  (∀ d s k, doorCfg s d.val = some k → accessHeld s 8 0 = false → computeRuns s = true → (dorOf s d.val).state = .rest →
    isClosed k (dorOf s d.val) = false → doorPermit .a s d.val = true → doorPermit .b s d.val = true →
    ∀ p ∈ ([(.doorClose d, false), (.doorNudge d, true)] : List (Instr × Bool)), Completes p.1 s fun t =>
      (dorOf t d.val).state = .closing ∧ (dorOf t d.val).nudge = p.2 ∧ (dorOf t d.val).moveEnd = 0 ∧ (dorOf t d.val).peak = none
        ∧ t = putDor s d.val (dorOf t d.val)) ∧
  (∀ d s k, doorCfg s d.val = some k → accessHeld s 8 0 = false → computeRuns s = true → (dorOf s d.val).state = .rest →
    isClosed k (dorOf s d.val) = false → doorPermit .a s d.val = false → Completes (.doorClose d) s fun t =>
      dorOf t d.val = { dorOf s d.val with refuse := 2, lastOk := false }) ∧
  (∀ d s k, doorCfg s d.val = some k → accessHeld s 8 0 = false → computeRuns s = true →
    ((dorOf s d.val).state = .opening ∨ (dorOf s d.val).state = .closing ∨ (dorOf s d.val).state = .geared) →
    Completes (.doorStop d) s fun t =>
      (dorOf t d.val).state = .stopping ∧ (dorOf t d.val).rev = false ∧ (dorOf t d.val).lastOk = true
        ∧ ((dorOf s d.val).v9 = 0 → (dorOf t d.val).plan = [])) ∧
  (∀ d s k, doorCfg s d.val = some k → accessHeld s 8 0 = false → computeRuns s = true → (dorOf s d.val).state = .tripped →
    doorPermit .a s d.val = true → doorPermit .b s d.val = true → bridgeBit (dorOf s d.val) 0 = true →
    bridgeBit (dorOf s d.val) 1 = false → bridgeBit (dorOf s d.val) 3 = true → Completes (.doorReset d) s fun t =>
      t = putDor s d.val { dorOf s d.val with state := .rest, missed := 0, lastOk := true }) ∧
  (∀ d s k, doorCfg s d.val = some k → accessHeld s 8 0 = false → computeRuns s = true → (dorOf s d.val).state = .rest → k.adoDist ≠ 0 →
    Completes (.armAdo d) s fun t => t = putDor s d.val { dorOf s d.val with armed := true, lastOk := true }) ∧
  (∀ d s k, doorCfg s d.val = some k → accessHeld s 8 0 = false → computeRuns s = true → (dorOf s d.val).state ≠ .off →
    Completes (.disarmAdo d) s fun t => t = putDor s d.val { dorOf s d.val with armed := false, lastOk := true }) ∧
  (∀ d v s k, doorCfg s d.val = some k → accessHeld s 8 0 = false → computeRuns s = true →
    ∀ p ∈ ([(DoorReg.prof, { dorOf s d.val with vopen := some (fld v 31 16), vclose := some (fld v 15 0), replan := true, lastOk := true }),
            (DoorReg.acc, { dorOf s d.val with acc := some (fld v 31 16), replan := true, lastOk := true }),
            (DoorReg.target, { dorOf s d.val with target := some v.toInt, lastOk := true })] : List (DoorReg × Door)),
      Completes (.doorProfileWrite d p.1 v) s fun t => t = putDor s d.val p.2) ∧
  (∀ d s k, doorCfg s d.val = some k → accessHeld s 8 0 = false → computeRuns s = true → gearOk s k (dorOf s d.val) = true →
    Completes (.gearCommit d) s fun t => t = putDor s d.val (if (dorOf s d.val).state = .geared
      then { dorOf s d.val with waiting := some (stagingGear k (dorOf s d.val)), lastOk := true }
      else { dorOf s d.val with live := some (stagingGear k (dorOf s d.val)), lastOk := true })) ∧
  (∀ d s k, doorCfg s d.val = some k → accessHeld s 8 0 = false → computeRuns s = true → gearOk s k (dorOf s d.val) = false →
    Completes (.gearCommit d) s fun t => dorOf t d.val = { dorOf s d.val with refuse := 4, lastOk := false }) ∧
  (∀ d r v s k, doorCfg s d.val = some k → accessHeld s 8 0 = false → computeRuns s = false →
    ∀ c ∈ ([.doorOpen d, .doorClose d, .doorNudge d, .doorStop d, .doorReset d, .armAdo d, .disarmAdo d, .gearCommit d,
        .doorProfileWrite d r v] : List Instr),
      Completes c s fun t => dorOf t d.val = { dorOf s d.val with refuse := 3, lastOk := false }) ∧
  (∀ d echo st ia ib fa pos s k, running s .io = true → doorCfg s d.val = some k →
    Completes (.doorReturnFrame d echo st ia ib fa pos) s fun t => (dorOf t d.val).arrived = true
      ∧ (dorOf t d.val).ret = some ⟨echo.toNat, st.toNat, ia.toInt, ib.toInt, pos.toInt, fa.toNat⟩
      ∧ ((dorOf s d.val).state ≠ .off → (dorOf t d.val).state = (dorOf s d.val).state ∧ (dorOf t d.val).p2 = (dorOf s d.val).p2)
      ∧ ((dorOf s d.val).state = .off → st.toNat.testBit 3 = true →
          (dorOf t d.val).state = .rest ∧ (dorOf t d.val).p2 = pos.toInt * unit2 ∧ (dorOf t d.val).v9 = 0)) ∧
  (∀ d s k, doorCfg s d.val = some k → running s .io = true → computeRuns s = true → (dorOf s d.val).state = .rest →
    (dorOf s d.val).armed = false → doorPermit .a s d.val = true → doorPermit .b s d.val = true →
    (dorOf s d.val).missed ≤ 1 → bridgeBit (dorOf s d.val) 1 = false → Completes (.doorUpdate d) s fun t =>
      (dorOf t d.val).state = .rest ∧ (dorOf t d.val).p2 = (dorOf s d.val).p2 ∧ (dorOf t d.val).v9 = 0
        ∧ ((dorOf s d.val).arrived = false → (dorOf t d.val).missed = (dorOf s d.val).missed + 1)
        ∧ (dorOf t d.val).seq = ((dorOf s d.val).seq + 1) % 65536 ∧ (dorOf t d.val).words.length = 6
        ∧ bitAt ((dorOf t d.val).words.headD 0) 16 = true ∧ bitAt ((dorOf t d.val).words.headD 0) 17 = true) ∧
  (∀ d s k, doorCfg s d.val = some k → running s .io = true →
    (dorOf s d.val).state ≠ .off → (dorOf s d.val).state ≠ .tripped → doorPermit .a s d.val = false →
    gearedStops s (dorOf s d.val) d.val = false → Completes (.doorUpdate d) s fun t =>
      (dorOf t d.val).state = .tripped ∧ (dorOf t d.val).tripCause = 1 ∧ (dorOf t d.val).v9 = 0 ∧ (dorOf t d.val).armed = false
        ∧ bitAt ((dorOf t d.val).words.headD 0) 16 = false
        ∧ (running s .keeper = true → Raised s (1280 + 4 * d.val) [wordN (doorCode (dorOf s d.val).state), 1] t)) ∧
  (∀ d s, running s .io = true → (dorOf s d.val).switchDue = true → Completes (.modeSwitchTimeout d) s fun t =>
    (dorOf t d.val).strong = (!(dorOf s d.val).strong) ∧ (dorOf t d.val).switchDue = false
      ∧ (running s .keeper = true → Raised s (1283 + 4 * d.val) [] t))

/-- The call port (R351, R352, R355, R372): a staged record that passes the checks takes the lowest free token, and a hall call equal
to a held one is merged with it; the first failed check is the RESULT; behind the releases that have arrived, CANCEL frees a call that has
not boarded and writes its record.
Queue operations and releases (R354, R361): OK to an append or insertion marks the entry as written, OK to a removal frees the slot,
another answer raises its event; a release with the right GEN frees its slot, and one that does not match is discarded with event 2053
+ 16 × g. -/
def Obligations.CallPortAndQueueAnswers : Prop :=
  (∀ g s k, accessHeld s 10 0 = false → (grpOf s g.val).calling = none → (grpOf s g.val).heldOp = none →
    PortTakes s g.val (stagedCall s g.val) →
    (∀ e ∈ (grpOf s g.val).calls, ∀ o, e.2 = some o → ¬ mergesInto (stagedCall s g.val) o) →
    (List.range (Nat.min 256 (((groupCfg s g.val).map (·.calls)).getD 0))).find? (fun t => (callOf (grpOf s g.val) t).isNone) = some k →
    Completes (.callRegister g) s fun t =>
      (grpOf t g.val).result = 0 ∧ (grpOf t g.val).token = k ∧ callOf (grpOf t g.val) k = some (stagedCall s g.val)
        ∧ (isStandby s = false → (grpOf t g.val).port = (grpOf s g.val).port ++ [k])) ∧
  (∀ g s k o, accessHeld s 10 0 = false → (grpOf s g.val).calling = none → (grpOf s g.val).heldOp = none →
    PortTakes s g.val (stagedCall s g.val) → (grpOf s g.val).calls = [(k, some o)] → mergesInto (stagedCall s g.val) o →
    Completes (.callRegister g) s fun t =>
      (grpOf t g.val).result = 0 ∧ (grpOf t g.val).token = k ∧ (grpOf t g.val).port = (grpOf s g.val).port
        ∧ (o.state = .planning →
            callOf (grpOf t g.val) k = some { o with merged := o.merged ++ [(stagedCall s g.val).ref] })
        ∧ (o.state = .assigned → (grpOf t g.val).resWr = ((grpOf s g.val).resWr + 1) % 65536)) ∧
  (∀ g s, accessHeld s 10 0 = false → (grpOf s g.val).calling = none → (grpOf s g.val).heldOp = none →
    (groupCfg s g.val).isSome = true → computeRuns s = false ∨ s.kpr.smoke = .frozen →
    Completes (.callRegister g) s fun t => t = putGrp s g.val { grpOf s g.val with result := 5 }) ∧
  (∀ g s, accessHeld s 10 0 = false → (grpOf s g.val).calling = none → (grpOf s g.val).heldOp = none →
    (groupCfg s g.val).isSome = true → computeRuns s = true → s.kpr.smoke ≠ .frozen →
    16 ≤ (grpOf s g.val).port.length + (grpOf s g.val).unordered.length →
    Completes (.callRegister g) s fun t => t = putGrp s g.val { grpOf s g.val with result := 1 }) ∧
  (∀ g s, accessHeld s 10 0 = false → (grpOf s g.val).calling = none → (grpOf s g.val).heldOp = none →
    (groupCfg s g.val).isSome = true → computeRuns s = true → s.kpr.smoke ≠ .frozen →
    (grpOf s g.val).port.length + (grpOf s g.val).unordered.length < 16 → callInRange s g.val (stagedCall s g.val) = false →
    Completes (.callRegister g) s fun t => t = putGrp s g.val { grpOf s g.val with result := 3 }) ∧
  (∀ g s, accessHeld s 10 0 = false → (grpOf s g.val).calling = none → (grpOf s g.val).heldOp = none →
    (groupCfg s g.val).isSome = true → computeRuns s = true → s.kpr.smoke ≠ .frozen →
    (grpOf s g.val).port.length + (grpOf s g.val).unordered.length < 16 → callInRange s g.val (stagedCall s g.val) = true →
    3 ≤ (stagedCall s g.val).kind →
    bitAt (rightsWord s (stagedCall s g.val).profile ((stagedCall s g.val).dest / 32)) ((stagedCall s g.val).dest % 32) = false →
    Completes (.callRegister g) s fun t =>
      (grpOf t g.val).result = 4 ∧ (grpOf t g.val).calls = (grpOf s g.val).calls
        ∧ (running s .keeper = true → (grpOf s g.val).rightsTold = false → Raised s (2048 + 16 * g.val + 1) [] t)) ∧
  (∀ g k s u c, accessHeld s 10 0 = false → (grpOf s g.val).calling = none → (groupCfg s g.val).isSome = true →
    u = s.dsp.released.foldl (fun x _ => tagRelease x) s → callOf (grpOf u g.val) k.val = some c → c.state ≠ .boarded →
    Completes (.callCancel g k) s fun t =>
      (grpOf t g.val).result = 0 ∧ (grpOf t g.val).token = k.val ∧ callOf (grpOf t g.val) k.val = none
        ∧ (grpOf t g.val).resWr = ((grpOf u g.val).resWr + 1) % 65536
        ∧ tget (0, 0) (grpOf t g.val).ring ((grpOf u g.val).resWr % 64)
            = (regOf [(31, 28, 7), (27, 26, c.deck), (23, 16, c.board), (15, 0, c.ref)],
               regOf [(31, 24, k.val), (21, 16, c.car.getD 0), (15, 0, 0)])) ∧
  (∀ g k s u, accessHeld s 10 0 = false → (grpOf s g.val).calling = none → (groupCfg s g.val).isSome = true →
    u = s.dsp.released.foldl (fun x _ => tagRelease x) s →
    (match callOf (grpOf u g.val) k.val with
      | some c => c.state = .boarded
      | none => True) →
    Completes (.callCancel g k) s fun t => t = putGrp u g.val { grpOf u g.val with token := k.val, result := 6 }) ∧
  (∀ c s gc tag v, groupOf s c.val = some gc → running s .comp0 = true → tget none (grpOf s gc.no).inflight c.val = some (1, tag) →
    (hstOf s c.val).qPending = none → (hstOf s c.val).qResult = 0 →
    slotOf (grpOf s gc.no) (fld tag 7 0) = some v → tagOf gc.no (fld tag 7 0) v = tag → Completes (.queueResult c) s fun t =>
      slotOf (grpOf t gc.no) (fld tag 7 0) = some { v with written := true }) ∧
  (∀ c s gc tag v, groupOf s c.val = some gc → running s .comp0 = true → tget none (grpOf s gc.no).inflight c.val = some (3, tag) →
    (hstOf s c.val).qPending = none → (hstOf s c.val).qResult = 0 →
    slotOf (grpOf s gc.no) (fld tag 7 0) = some v → tagOf gc.no (fld tag 7 0) v = tag → Completes (.queueResult c) s fun t =>
      slotOf (grpOf t gc.no) (fld tag 7 0) = none) ∧
  (∀ c s gc op tag, groupOf s c.val = some gc → running s .comp0 = true → running s .keeper = true →
    tget none (grpOf s gc.no).inflight c.val = some (op, tag) → (hstOf s c.val).qPending = none → (hstOf s c.val).qResult ≠ 0 →
    Completes (.queueResult c) s fun t => Raised s (2048 + 16 * gc.no + 6) [wordN (hstOf s c.val).qResult] t) ∧
  (∀ s tag rest v, running s .comp0 = true → s.dsp.released = tag :: rest → fld tag 31 27 = 0 →
    (groupCfg s (fld tag 26 24)).isSome = true → slotOf (grpOf s (fld tag 26 24)) (fld tag 7 0) = some v → v.gen = fld tag 23 8 →
    Completes .tagRelease s fun t =>
      t.dsp.released = rest ∧ slotOf (grpOf t (fld tag 26 24)) (fld tag 7 0) = none
        ∧ ∀ st ∈ planOf (grpOf t (fld tag 26 24)) v.car, st.slot ≠ some (fld tag 7 0)) ∧
  (∀ s tag rest v, running s .comp0 = true → running s .keeper = true → s.dsp.released = tag :: rest → fld tag 31 27 = 0 →
    (groupCfg s (fld tag 26 24)).isSome = true → slotOf (grpOf s (fld tag 26 24)) (fld tag 7 0) = some v → v.gen ≠ fld tag 23 8 →
    Completes .tagRelease s fun t =>
      t.dsp.released = rest ∧ t.dsp.groups = s.dsp.groups ∧ Raised s (2048 + 16 * fld tag 26 24 + 5) [] t)

/-- The planners (R358, R361 to R363): an insertion gives the call at the port the car of the best candidate with an ASSIGNED record,
or with none frees it with NO_CAR (a CAR call apart); a sweep takes the next hall call in token order and leaves it, or moves it to another
car (REASSIGNED) or to another place of its own car's plan (REPLANNED, the model's choice, log entry 76); a car out of service
gives its calls back to be inserted again; a table rebuilt sets READY; a call that has waited LONG_WAIT is told once. -/
def Obligations.Planners : Prop :=
  (∀ g s k rest c, canStep s g.val = true → lostStops g.val s = s → (grpOf s g.val).redo = [] → (grpOf s g.val).port = k :: rest →
    callOf (grpOf s g.val) k = some c → c.state = .planning → c.kind ≠ 4 →
    bestChoice (putGrp s g.val { grpOf s g.val with port := rest }) g.val k c (callCars s g.val c) 0 = none →
    Completes (.insertionStep g) s fun t =>
      callOf (grpOf t g.val) k = none
        ∧ tget (0, 0) (grpOf t g.val).ring ((grpOf s g.val).resWr % 64)
            = (regOf [(31, 28, 2), (27, 26, c.deck), (23, 16, c.board), (15, 0, c.ref)],
               regOf [(31, 24, k), (21, 16, c.car.getD 0), (15, 0, 0)])
        ∧ (running s .keeper = true → Raised s (2048 + 16 * g.val) [] t)) ∧
  (∀ g s k rest c b, canStep s g.val = true → lostStops g.val s = s → (grpOf s g.val).redo = [] → (grpOf s g.val).port = k :: rest →
    callOf (grpOf s g.val) k = some c → c.state = .planning → c.merged = [] →
    bestChoice (putGrp s g.val { grpOf s g.val with port := rest }) g.val k c (callCars s g.val c) 0 = some b →
    (adopt g.val k c b (putGrp s g.val { grpOf s g.val with port := rest })).isSome = true →
    Completes (.insertionStep g) s fun t =>
      (grpOf t g.val).port = rest ∧ (grpOf t g.val).resWr = ((grpOf s g.val).resWr + 1) % 65536
        ∧ ∃ d, callOf (grpOf t g.val) k = some d ∧ d.state = .assigned ∧ d.car = some b.car ∧ d.deck = b.route.deck
          ∧ tget (0, 0) (grpOf t g.val).ring ((grpOf s g.val).resWr % 64)
              = (regOf [(31, 28, 0), (27, 26, d.deck), (23, 16, d.board), (15, 0, c.ref)],
                 regOf [(31, 24, k), (21, 16, b.car), (15, 0, Nat.min 65535 (b.eta / 100))])) ∧
  (∀ g s k c, canStep s g.val = true → lostStops g.val s = s → (grpOf s g.val).redo = [] → (grpOf s g.val).port = [] →
    (grpOf s g.val).calls = [(k, some c)] → sweepable s g.val k c = true → Completes (.sweepSlice g) s fun t =>
      (grpOf t g.val).cursor = k + 1
        ∧ ∃ d, callOf (grpOf t g.val) k = some d ∧ d.state = .assigned
          ∧ (((grpOf t g.val).resWr = (grpOf s g.val).resWr ∧ d = c)
              ∨ ((grpOf t g.val).resWr = ((grpOf s g.val).resWr + 1) % 65536
                  ∧ ∃ eta, tget (0, 0) (grpOf t g.val).ring ((grpOf s g.val).resWr % 64)
                      = (regOf [(31, 28, if d.car = c.car then 4 else 3), (27, 26, d.deck), (23, 16, d.board), (15, 0, c.ref)],
                         regOf [(31, 24, k), (21, 16, d.car.getD 0), (15, 0, Nat.min 65535 (eta / 100))])))) ∧
  (∀ c s gc k d, groupOf s c.val = some gc → running s .comp0 = true → inService s gc.no c.val = false → lostStops gc.no s = s →
    callOf (grpOf s gc.no) k = some d → d.car = some c.val → d.state = .assigned → d.kind ≠ 4 →
    Completes (.carLeavesService c) s fun t =>
      callOf (grpOf t gc.no) k = some { d with pick := none, drop := none, car := none }
        ∧ (∃ r ∈ (grpOf t gc.no).redo, r.token = k)
        ∧ (running s .keeper = true → Raised s (2048 + 16 * gc.no + 4) [] t)) ∧
  (∀ g s, (groupCfg s g.val).isSome = true → plannersRun s g.val = true → Completes (.tableRebuild g) s fun t =>
    grpOf t g.val = { grpOf s g.val with ready := true, rebuild := false, lands := groupLands s g.val }
      ∧ (running s .keeper = true → Raised s (2048 + 16 * g.val + 8) [] t)) ∧
  (∀ g k s c, running s .comp0 = true → callOf (grpOf s g.val) k.val = some c → c.state ≠ .boarded → c.kind ≠ 4 → c.told = false →
    Completes (.longWaitExpiry g k) s fun t =>
      callOf (grpOf t g.val) k.val = some { c with told := true }
        ∧ (running s .keeper = true → Raised s (2048 + 16 * g.val + 7) [] t)) ∧
  (∀ s, running s .comp0 = true → Completes .regenForecast s fun t => t.dsp.regen = regenSlices s)

/-- The safety cycle, its frames and its release (R374 to R376, R380 to R384): a cycle counts and empties what arrived, and a second
mismatch in a row takes die A to SAFE with cause FRAME; a frame is what the partner sent with the bits inverted on the way, and one
that shows SAFE, a wrong returned copy or a missing frame takes its receiver to SAFE; a release publishes the bits that both channels
grant, and tells each car newly tripped. -/
def Obligations.SafetyCycles : Prop :=
  (∀ ch works s, chUp (safOf s ch) = true → Completes (.safetyCycle ch works) s fun t =>
    (safOf t ch).cycle = wrap16 ((safOf s ch).cycle + 1) ∧ (safOf t ch).partner = none ∧ (safOf t ch).returned = none
      ∧ (safOf t ch).pattern = none ∧ chUp (safOf t ch) = true) ∧
  (∀ works s, s.safA.state = .run → s.safA.commitAsked = false → s.safA.commitDue = false → running s .field = true →
    s.safA.partner = none →
    Completes (.safetyCycle .a works) s fun t => t.safA.state = .run ∧ t.pins.safeOkA = !s.pins.safeOkA) ∧
  (∀ s p r, s.safA.state = .run → s.safA.commitAsked = false → s.safA.commitDue = false → s.safA.partner = some p →
    s.safA.returned = some r →
    frameCycle s.safA.frame % 100 ≠ 0 → (r ^^^ p) &&& comparedBits ≠ 0 → s.safA.compares.getD 0 false = true →
    Completes (.safetyCycle .a true) s fun t =>
      t.safA.state = .safe ∧ t.safA.cause = 3 ∧ (running s .keeper = true → Raised s 2180 [] t ∧ Raised s 2176 [3] t)) ∧
  (∀ s, s.safB.state = .run → s.safB.commitAsked = false → s.safB.commitDue = false → s.safB.marker = true →
    119 ≤ s.safB.sinceKnock →
    ∀ works, Completes (.safetyCycle .b works) s fun t => t.safB.state = .safe ∧ t.safB.cause = 4) ∧
  (∀ s, s.safB.state = .run → s.safB.commitAsked = false → s.safB.commitDue = false → s.safB.marker = false → 1 ≤ s.safB.startBad →
    ∀ works, Completes (.safetyCycle .b works) s fun t => t.safB.state = .safe ∧ t.safB.cause = 7) ∧
  (∀ works s image, chUp s.safA = true → s.safA.commitAsked = true → s.safB.commitAsked = true → s.safA.commitDue = false →
    commitHolds s .a = true → heldImage s .a = some image → Completes (.safetyCycle .a works) s fun t =>
      t.safA.state = .safe ∧ t.safA.cause = 8 ∧ t.safA.active = image ∧ t.safB.commitDue = true ∧ t.safB.commitAsked = false) ∧
  (∀ s, chUp s.safA = true → chUp s.safB = true → Completes .safetyRelease s fun t =>
    t.safA.pub.map (·.frame) = some (appliedFrame s .a) ∧ t.safB.pub.map (·.frame) = some (appliedFrame s .b)
      ∧ (holdSafe s = false → t.fio.gateA = 0 ∧ t.fio.coilA = 0 ∧ t.fio.gateB = 0 ∧ t.fio.coilB = 0)
      ∧ (running s .io = true → t.saf.a = shownOf .a t ∧ t.saf.b = shownOf .b t)
      ∧ t.saf.told = (safCars s).filter (fun c => decide (shownCause s c ≠ 0))
          ++ ((safShafts s).filter (separated s)).map (fun h => 64 + h.shaft)
      ∧ ∀ c ∈ safCars s, shownCause s c ≠ 0 → c ∉ s.saf.told → running s .keeper = true →
          Raised s (2240 + c) [wordN (shownCause s c)] t) ∧
  (∀ length offset s, chUp s.safA = true → chUp s.safB = true → Completes (.cycleMarker length offset) s fun t =>
    t.safB.trim = max (-1000) (min 1000 (4000 - offset)) ∧ t.safA = s.safA) ∧
  (∀ length offset s, chUp s.safA = true → s.safB.state = .run → length < 98000 ∨ 102000 < length → 1 ≤ s.safB.lengthBad →
    Completes (.cycleMarker length offset) s fun t => t.safB.state = .safe ∧ t.safB.cause = 7) ∧
  (∀ length err s, chUp s.safA = true → chUp s.safB = true → Completes (.plumbFrameReceive (.partnerAtA length) err) s fun t =>
    t.safA.partner = some (s.safB.frame ^^^ err) ∧ t.safB = s.safB) ∧
  (∀ err s, chUp s.safA = true → chUp s.safB = true → Completes (.plumbFrameReceive .partnerAtB err) s fun t =>
    t.safB.partner = some (s.safA.frame ^^^ err) ∧ t.safA = s.safA
      ∧ (s.safB.state = .run → (frameFlags (s.safA.frame ^^^ err)).testBit 0 = true → t.safB.state = .safe ∧ t.safB.cause = 2)) ∧
  (∀ err s, chUp s.safA = true → chUp s.safB = true → Completes (.plumbFrameReceive .returned err) s fun t =>
    t.safA.returned = some (s.safA.frame ^^^ err)
      ∧ (s.safA.state = .run → err ≠ 0 → t.safA.state = .safe ∧ t.safA.cause = 5)) ∧
  (∀ err s, chUp s.safA = true → chUp s.safB = true → Completes (.plumbFrameReceive .pattern err) s fun t =>
    t.safA.pattern = some (patternBits s.safA.cycle ^^^ err)
      ∧ (s.safA.state = .run → err ≠ 0 → t.safA.state = .safe ∧ t.safA.cause = 5)) ∧
  (∀ s, s.safA.state = .run → ∀ what, (∃ length, what = .partnerAtA length) ∧ s.safA.partner = none
      ∨ what = .returned ∧ s.safA.returned = none ∨ what = .pattern ∧ s.safA.pattern = none →
    Completes (.plumbFrameDeadline what) s fun t =>
      t.safA.state = .safe ∧ t.safA.cause = 6 ∧ (running s .keeper = true → Raised s 2183 [] t ∧ Raised s 2176 [6] t)) ∧
  (∀ err s, chUp s.safA = true → chUp s.safB = true → Completes (.plumbFrameReceive .patternAtB err) s fun t =>
    t = { s with safB := { s.safB with pattern := some (patternBits s.safA.cycle ^^^ err) } }) ∧
  (∀ s, s.safB.state = .run → ∀ what, what = .partnerAtB ∧ s.safB.partner = none ∨ what = .patternAtB ∧ s.safB.pattern = none →
    Completes (.plumbFrameDeadline what) s fun t =>
      t.safB.state = .safe ∧ t.safB.cause = 6 ∧ (running s .keeper = true → Raised s 2183 [] t ∧ Raised s 2177 [6] t))

/-- Safety inputs (R377 to R379, R382): a qualified level is valid at its die alone; an in frame is taken by the die whose check code
is right and whose SEQ is newer; a watchdog takes a station away, and a stale publication goes. The states of a channel (R386): power
brings INIT with the stored images kept, INIT ends in RUN or, with configurations that fail or differ, in SAFE; SAFE_RESET brings RUN
back once every cause is gone; a fault or a supply loss takes every gate away. -/
def Obligations.SafetyInputsAndStates : Prop :=
  (∀ ch k (volts : BitVec 16) s, chUp (safOf s ch) = true → running s .field = true →
    (safOf s ch).cfg.filters.any (fun e => decide (e.1 = k.val)) = true → Completes (.inputFilterQualified ch k volts) s fun t =>
      (110 ≤ volts.toInt → safInput (safOf t ch) k.val = { level := true, valid := true })
        ∧ (volts.toInt ≤ 70 → safInput (safOf t ch) k.val = { level := false, valid := true })
        ∧ (70 < volts.toInt → volts.toInt < 110 → safInput (safOf t ch) k.val = {
            level := (match ch with
              | .a => (fieldIn s k.val).rawA
              | .b => (fieldIn s k.val).rawB)
            valid := true })
        ∧ safOf t (otherCh ch) = safOf s (otherCh ch)) ∧
  (∀ f ca cb s, running s .io = true → chUp s.safA = true →
    (∀ q, (safStn s.safA f.station.toNat).seq = some q → 0 < (f.seq - q).toInt) →
    ca = safetyCheck .a f.station.toNat f.seq (frameBytes f) → Completes (.safetyInFrame f ca cb) s fun t =>
      safStn t.safA f.station.toNat = { words := f.payload, seq := some f.seq, live := true }) ∧
  (∀ f ca cb s, running s .io = true → chUp s.safB = true →
    (∀ q, (safStn s.safB f.station.toNat).seq = some q → 0 < (f.seq - q).toInt) →
    cb = safetyCheck .b f.station.toNat f.seq (frameBytes f) → Completes (.safetyInFrame f ca cb) s fun t =>
      safStn t.safB f.station.toNat = { words := f.payload, seq := some f.seq, live := true }) ∧
  (∀ f ca cb s, Completes (.safetyInFrame f ca cb) s fun t =>
    (ca ≠ safetyCheck .a f.station.toNat f.seq (frameBytes f) → t.safA = s.safA)
      ∧ (cb ≠ safetyCheck .b f.station.toNat f.seq (frameBytes f) → t.safB = s.safB)) ∧
  (∀ ch n s, chUp (safOf s ch) = true → Completes (.safetyStationWatchdog ch n) s fun t =>
    safStn (safOf t ch) n.val = { safStn (safOf s ch) n.val with live := false } ∧ safOf t (otherCh ch) = safOf s (otherCh ch)) ∧
  (∀ ch s, Completes (.publicationTimeout ch) s fun t => t = putSaf s ch { safOf s ch with pub := none }) ∧
  (∀ ch s, (safOf s ch).state = .off → Completes (.safetyPowerUp ch) s fun t =>
    (safOf t ch).state = .init ∧ (safOf t ch).cause = 1 ∧ (safOf t ch).active = (safOf s ch).active
      ∧ (safOf t ch).previous = (safOf s ch).previous ∧ (safOf t ch).staged = (safOf s ch).staged ∧ (safOf t ch).log = (safOf s ch).log
      ∧ (safOf t ch).fails = (safOf s ch).fails ∧ (safOf t ch).cfg = Config.safetyContent (safOf s ch).active
      ∧ (safOf t ch).inputs = [] ∧ running t (dieOf ch) = true) ∧
  (∀ ch s, (safOf s ch).state = .init → linksRight ch (safOf s ch) = true → (ch = .a → delayRight s.safA = true) →
    filtersFull s (safOf s ch) = true → Completes (.safetyInitComplete ch) s fun t =>
      if activeOk (safOf s ch) = true ∧ cfgMatch s = true then (safOf t ch).state = .run ∧ (safOf t ch).cause = 0
      else (safOf t ch).state = .safe ∧ (safOf t ch).cause = 9
        ∧ (running s .keeper = true → Raised s (2176 + chNo ch) [9] t)) ∧
  (∀ ch s, (safOf s ch).state = .init → activeOk (safOf s ch) = false → Completes (.safetyInitComplete ch) s fun t =>
    (safOf t ch).state = .safe ∧ (safOf t ch).cause = 9 ∧ (running s .keeper = true → Raised s (2176 + chNo ch) [9] t)) ∧
  (∀ ch s, (safOf s ch).state = .init → linksRight ch (safOf s ch) = true → (ch = .a → delayRight s.safA = true) → cfgMatch s = false →
    (safOf s (otherCh ch)).state = .safe → (safOf s (otherCh ch)).cause = 8 →
    Completes (.safetyInitComplete ch) s fun t => (safOf t ch).state = .safe ∧ (safOf t ch).cause = 9
      ∧ (safOf t (otherCh ch)).state = .safe ∧ (activeOk (safOf s ch) = true → (safOf t (otherCh ch)).cause = 9)) ∧
  (∀ s, s.safA.state = .safe → s.safB.state = .safe →
    (∀ ch, safInputOf (safOf s ch) (safOf s ch).cfg.safeReset = true ∧ causeGone s ch = true ∧ filtersFull s (safOf s ch) = true) →
    Completes .safeReset s fun t =>
      t.safA.state = .run ∧ t.safA.cause = 0 ∧ t.safB.state = .run ∧ t.safB.cause = 0
        ∧ (running s .keeper = true → Raised s 2191 [] t)) ∧
  (∀ ch s, (safOf s ch).state = .safe → causeGone s ch = false → Completes .safeReset s fun t => t = s) ∧
  (∀ ch f s, chUp (safOf s ch) = true → Completes (.safetyDieFault ch f) s fun t =>
    (safOf t ch).state = .fault
      ∧ (safOf t ch).cause = (match f with
          | .selfTest => 11
          | .oscillator => 12
          | .supply => 13)
      ∧ safOf t (otherCh ch) = safOf s (otherCh ch)
      ∧ (match ch with
          | .a => t.fio.gateA = 0 ∧ t.fio.coilA = 0
          | .b => t.fio.gateB = 0 ∧ t.fio.coilB = 0)) ∧
  (∀ ch s, Completes (.safetySupplyLoss ch) s fun t =>
    (safOf t ch).state = .off ∧ (safOf t ch).cause = 0 ∧ (safOf t ch).inputs = [] ∧ (safOf t ch).active = (safOf s ch).active
      ∧ (safOf t ch).log = (safOf s ch).log ∧ running t (dieOf ch) = false
      ∧ (match ch with
          | .a => t.fio.gateA = 0 ∧ t.fio.coilA = 0
          | .b => t.fio.gateB = 0 ∧ t.fio.coilB = 0))

/-- Brakes, contactor and brake test of a car (R392, R393, R395, R400): a confirmation that does not come trips BRAKE or CONTACTOR, and
fails a brake test; MAIN_DROP clears MAIN; the test goes from circuit to circuit; a car that holds no trip when the smoke wait ends trips.
-/
def Obligations.BrakeSequences : Prop :=
  (∀ ch c mirror s k, chUp (safOf s ch) = true → (safOf s ch).cfg.cars.find? (fun k => decide (k.car = c.val)) = some k →
    Completes (.brakeConfirmTimeout ch c mirror) s fun t =>
      safCar (safOf t ch) c.val =
        (let x := safCar (safOf s ch) c.val
         match x.phase, mirror with
          | .main, true => if contactorOpen (safOf s ch) k = true then tripCar tContactor x else x
          | .lifting, false => tripCar tBrake x
          | .dropping, false => tripCar tBrake x
          | .off, true => if contactorOpen (safOf s ch) k = true then x else tripCar tContactor x
          | .off, false => if brakesApplied (safOf s ch) k = true then x else tripCar tBrake x
          | .testLift _, false => { tripCar tBrake x with btResult := 2 }
          | .testDrop _, false => { tripCar tBrake x with btResult := 2 }
          | _, _ => x)) ∧
  (∀ ch c s, chUp (safOf s ch) = true → (safOf s ch).cfg.cars.any (fun k => decide (k.car = c.val)) = true →
    (safCar (safOf s ch) c.val).phase = .mainDrop → Completes (.mainDropExpiry ch c) s fun t =>
      t = putSaf s ch (putSafCar (safOf s ch) c.val { safCar (safOf s ch) c.val with phase := .off })) ∧
  (∀ ch c s k, (safOf s ch).state = .run → (safOf s ch).freeze = false →
    (safOf s ch).cfg.cars.find? (fun k => decide (k.car = c.val)) = some k → (safCar (safOf s ch) c.val).btDue = true →
    lessMask (safCar (safOf s ch) c.val).trips (causeMask [(tBrakeDue, true)]) = 0 → (safCar (safOf s ch) c.val).phase = .idle →
    (safCar (safOf s ch) c.val).tap.hoist = .rest → (safCar (safOf s ch) c.val).locked = true →
    nearSill k (safCar (safOf s ch) c.val) k.zone (fun _ => true) = true → Completes (.brakeTestStart ch c) s fun t =>
      t = putSaf s ch (putSafCar (safOf s ch) c.val { safCar (safOf s ch) c.val with phase := .testLift 1, btResult := 3 })) ∧
  (∀ ch c s k i p, chUp (safOf s ch) = true → (safOf s ch).cfg.cars.find? (fun k => decide (k.car = c.val)) = some k →
    (safCar (safOf s ch) c.val).phase = .testHold i p → Completes (.brakeTestHoldEnd ch c) s fun t =>
      if k.btMove * 100 ≤ (((safCar (safOf s ch) c.val).pos.getD p) - p).natAbs then
        safCar (safOf t ch) c.val = { tripCar tBrake (safCar (safOf s ch) c.val) with btResult := 2 }
          ∧ (running s .keeper = true → Raised s (2304 + c.val) [] t)
      else safCar (safOf t ch) c.val = { safCar (safOf s ch) c.val with phase := .testDrop i }) ∧
  (∀ ch c s, chUp (safOf s ch) = true → (safOf s ch).cfg.cars.any (fun k => decide (k.car = c.val)) = true →
    Completes (.brakeTestDue ch c) s fun t =>
      t = putSaf s ch (putSafCar (safOf s ch) c.val { safCar (safOf s ch) c.val with btDue := true })) ∧
  (∀ ch c s, chUp (safOf s ch) = true → (safOf s ch).cfg.cars.any (fun k => decide (k.car = c.val)) = true →
    (safCar (safOf s ch) c.val).btDue = true → (safCar (safOf s ch) c.val).btOver = false → Completes (.brakeDueTrip ch c) s fun t =>
      safCar (safOf t ch) c.val = (let x := { safCar (safOf s ch) c.val with btOver := true }
          if testing x.phase = true then { x with trips := putBit x.trips tBrakeDue true, ado := false } else tripCar tBrakeDue x)
        ∧ (running s .keeper = true → Raised s (2304 + c.val) [] t)) ∧
  (∀ ch s, chUp (safOf s ch) = true → (safOf s ch).freeze = true → Completes (.smokeWaitExpiry ch) s fun t =>
    ∀ k ∈ (safOf s ch).cfg.cars,
      ((safCar (safOf s ch) k.car).trips = 0 → (safCar (safOf t ch) k.car).trips.testBit tSmoke = true
        ∧ (running s .keeper = true → Raised s 2188 [] t))
      ∧ ((safCar (safOf s ch) k.car).trips ≠ 0 → safCar (safOf t ch) k.car = safCar (safOf s ch) k.car))

/-- Sealed requests (R404 to R408, R558): each request is answered; a frame that fails its CRC with CHECK, one without presence with
NO_PRESENCE, a wrong password counts; STAGE keeps the image when it passes, COMMIT waits for the cycle, REVERT takes the image before,
CAR_RESET clears the manual trips, FREEZE, THAW and BENCH have their effect. -/
def Obligations.SealedRequests : Prop :=
  (∀ ch time image s, chUp (safOf s ch) = true → (safOf s ch).log.length < 4096 → Completes (.sealedStage ch true time image) s fun t =>
    (if Config.safetyFormat image = true ∧ safCfgOk (Config.safetyContent image) = true then
        (safOf t ch).staged = some image ∧ ∃ b, (safOf t ch).answers = (safOf s ch).answers ++ [(1, 0, b)]
      else (safOf t ch).staged = (safOf s ch).staged
        ∧ ∃ b, (safOf t ch).answers
            = (safOf s ch).answers ++ [(1, if Config.safetyFormat image = true then 2 else 1, b)])
      ∧ (safOf t ch).log.length = (safOf s ch).log.length + 1 ∧ (safOf t ch).active = (safOf s ch).active) ∧
  (∀ ch time pw s, chUp (safOf s ch) = true → chUp (safOf s (otherCh ch)) = true → safPresence (safOf s ch) = true →
    (safOf s ch).lockout = false → (safOf s (otherCh ch)).lockout = false → passwordRight (safOf s ch) pw = true →
    (safOf s ch).log.length < 4096 → (safOf s (otherCh ch)).log.length < 4096 → (heldImage s ch).isSome = true →
    heldImage s ch = heldImage s (otherCh ch) → carsAtRest (safOf s ch) = true → carsAtRest (safOf s (otherCh ch)) = true →
    (safOf s ch).commitAsked = false → (safOf s ch).commitDue = false → Completes (.sealedCommit ch true time pw) s fun t =>
      t = putSaf s ch { safOf s ch with fails := 0, commitAsked := true, commitTime := time.toNat }) ∧
  (∀ ch time pw s, chUp (safOf s ch) = true → safPresence (safOf s ch) = true → (safOf s ch).lockout = false →
    passwordRight (safOf s ch) pw = true → (safOf s ch).log.length < 4096 → (safOf s ch).previous ≠ [] →
    (safOf s ch).cfg.cars.all (fun k => atRest (safCar (safOf s ch) k.car)) = true →
    Completes (.sealedRevert ch true time pw) s fun t =>
      (safOf t ch).active = (safOf s ch).previous ∧ (safOf t ch).previous = (safOf s ch).active
        ∧ (safOf t ch).digest = sha384 (safOf s ch).previous
        ∧ ((safOf s ch).state = .run → (safOf t ch).state = .safe ∧ (safOf t ch).cause = 8)
        ∧ (running s .keeper = true → Raised s 2184 [] t)) ∧
  (∀ ch time (c : Fin 64) s, chUp (safOf s ch) = true → (safOf s ch).cfg.cars.any (fun k => decide (k.car = c.val)) = true →
    safPresence (safOf s ch) = true →
    firstCause ((safCar (safOf s ch) c.val).trips &&& (safCar (safOf s ch) c.val).present &&& manualMask (safCar (safOf s ch) c.val)) = 0 →
    Completes (.sealedCarReset ch true time c) s fun t =>
      safCar (safOf t ch) c.val = (let x := safCar (safOf s ch) c.val
        { x with trips := lessMask x.trips (manualMask x), chainManual := false })) ∧
  (∀ ch s, chUp (safOf s ch) = true → Completes (.sealedFreeze ch true) s fun t =>
    t = putSaf s ch { safOf s ch with freeze := true, answers := (safOf s ch).answers ++ [(5, 0, [])] }) ∧
  (∀ ch s, chUp (safOf s ch) = true → Completes (.sealedThaw ch true) s fun t =>
    (safOf t ch).freeze = false ∧ (safOf t ch).answers = (safOf s ch).answers ++ [(6, 0, [])]
      ∧ ∀ c, (safCar (safOf t ch) c).trips.testBit tSmoke = false) ∧
  (∀ ch time s, chUp (safOf s ch) = true → s.rst.phase = 7 ∨ s.rst.phase = 8 → Completes (.sealedBench ch true time) s fun t =>
    t = putSaf s ch { safOf s ch with bench := true, answers := (safOf s ch).answers ++ [(7, 0, [])] }) ∧
  (∀ ch time s, chUp (safOf s ch) = true → s.rst.phase ≠ 7 → s.rst.phase ≠ 8 → Completes (.sealedBench ch true time) s fun t =>
    (safOf t ch).bench = (safOf s ch).bench ∧ ∃ b, (safOf t ch).answers = (safOf s ch).answers ++ [(7, 6, b)]) ∧
  (∀ ch s, Completes (.lockoutExpiry ch) s fun t => t = putSaf s ch { safOf s ch with lockout := false }) ∧
  (∀ ch time image pw (c : Fin 64) s, chUp (safOf s ch) = true →
    ∀ q ∈ ([(1, .sealedStage ch false time image), (2, .sealedCommit ch false time pw), (3, .sealedRevert ch false time pw),
        (4, .sealedCarReset ch false time c), (5, .sealedFreeze ch false), (6, .sealedThaw ch false),
        (7, .sealedBench ch false time)] : List (Nat × Instr)),
      Completes q.2 s fun t =>
        (∃ b, (safOf t ch).answers = (safOf s ch).answers ++ [(q.1, 1, b)]) ∧ (safOf t ch).active = (safOf s ch).active
          ∧ (safOf t ch).freeze = (safOf s ch).freeze ∧ (safOf t ch).bench = (safOf s ch).bench
          ∧ (running s .keeper = true → Raised s 2185 [1] t)) ∧
  (∀ ch time pw s, chUp (safOf s ch) = true → safPresence (safOf s ch) = false →
    ∀ q ∈ ([(2, .sealedCommit ch true time pw), (3, .sealedRevert ch true time pw)] : List (Nat × Instr)),
      Completes q.2 s fun t =>
        (∃ b, (safOf t ch).answers = (safOf s ch).answers ++ [(q.1, 3, b)]) ∧ (safOf t ch).active = (safOf s ch).active
          ∧ (safOf t ch).commitAsked = (safOf s ch).commitAsked) ∧
  (∀ ch time pw s, chUp (safOf s ch) = true → safPresence (safOf s ch) = true → (safOf s ch).lockout = false →
    ∀ q ∈ ([.sealedCommit ch true time pw, .sealedRevert ch true time pw] : List Instr), Completes q s fun t =>
      passwordRight (safOf s ch) pw = false →
        (safOf t ch).fails = Nat.min 63 ((safOf s ch).fails + 1) ∧ (safOf t ch).active = (safOf s ch).active
          ∧ (4 ≤ (safOf s ch).fails → (safOf t ch).lockout = true))

/-- Field supplies, inputs and converters (R416, R418 to R421, R433 to R435, R53): a change of a VFIELD group raises its event and brings
every output in line; what the comparators read at a voltage, and a qualified reading is the level, valid; each enabled channel takes its
sample; a reference out of range, the die's temperature and the Keeper's silence are kept. -/
def Obligations.FieldInputs : Prop :=
  (∀ (g : Fin 2) s, running s .field = true →
    ∀ q ∈ ([(.vfieldLost g, .lost), (.vfieldOver g, .beyond), (.vfieldGood g, .good)] : List (Instr × GroupState)),
      groupState s g.val ≠ q.2 → Completes q.1 s fun t =>
        groupState t g.val = q.2 ∧ groupState t (1 - g.val) = groupState s (1 - g.val)
          ∧ (running s .keeper = true → Raised s (2472 + g.val) [] t)) ∧
  (∀ k s, running s .field = true → (inCfg s k.val).isSome = true → Completes (.programFilterQualified k) s fun t =>
    fieldIn t k.val = { fieldIn s k.val with level := (fieldIn s k.val).raw, valid := true }
      ∧ t.fio.filled = s.img.field.ins.all (fun c => (fieldIn t c.no).valid)
      ∧ (running s .keeper = true → s.fio.filled = false → t.fio.filled = true → Raised s 2475 [] t)) ∧
  (∀ k (volts : BitVec 16) s c, running s .field = true → inCfg s k.val = some c → Completes (.rawReadingChange k volts) s fun t =>
      (((inLevels c).1 : Int) ≤ volts.toInt → (fieldIn t k.val).raw = true)
        ∧ (volts.toInt ≤ ((inLevels c).2 : Int) → volts.toInt < ((inLevels c).1 : Int) → (fieldIn t k.val).raw = false)
        ∧ (((inLevels c).2 : Int) < volts.toInt → volts.toInt < ((inLevels c).1 : Int) →
            (fieldIn t k.val).raw = (fieldIn s k.val).raw)
        ∧ (110 ≤ volts.toInt → (fieldIn t k.val).rawA = true ∧ (fieldIn t k.val).rawB = true)
        ∧ (volts.toInt ≤ 70 → (fieldIn t k.val).rawA = false ∧ (fieldIn t k.val).rawB = false)
        ∧ (c.filt = 0 → (fieldIn t k.val).raw ≠ (fieldIn s k.val).raw →
            (fieldIn t k.val).level = (fieldIn t k.val).raw ∧ (fieldIn t k.val).valid = true)
        ∧ (c.filt ≠ 0 → (fieldIn t k.val).level = (fieldIn s k.val).level ∧ (fieldIn t k.val).valid = (fieldIn s k.val).valid)) ∧
  (∀ vs s a, running s .field = true → a ∈ (fieldTable s).adcs → (fieldTable s).adcs.Nodup → Completes (.adcSample vs) s fun t =>
    (adcOf t a).samples = ((vs.getD a 0).toNat, !(if a < 16 then s.fio.ref0Bad else s.fio.ref1Bad)) :: (adcOf s a).samples.take 63) ∧
  (∀ (r : Fin 2) bad s, running s .field = true → Completes (.adcRefFault r bad) s fun t =>
    (r.val = 0 → t.fio = { s.fio with ref0Bad := bad }) ∧ (r.val = 1 → t.fio = { s.fio with ref1Bad := bad })
      ∧ (running s .keeper = true → bad = true → (if r.val = 0 then s.fio.ref0Bad else s.fio.ref1Bad) = false →
          Raised s (2476 + r.val) [] t)) ∧
  (∀ temp s, running s .field = true → Completes (.fieldDieOvertemp temp) s fun t =>
    t.fio.temp = max (-128) (min 127 temp.toInt) ∧ t.fio.warm = decide (125 < temp.toInt)
      ∧ t.fio.hot = (decide (140 < temp.toInt) || (s.fio.hot && decide (125 ≤ temp.toInt)))
      ∧ (running s .keeper = true → s.fio.hot = false → 140 < temp.toInt → Raised s 2474 [] t)
      ∧ (running s .keeper = true → s.fio.warm = false → 125 < temp.toInt → Raised s 2474 [] t)) ∧
  (∀ s, running s .field = true → Completes .keeperLivenessTimeout s fun t =>
    t.fio = { s.fio with keeperSilent := true } ∧ t.pins.faultField = true)

/-- Field outputs (R422 to R424, R437): an overload waits and the third in a row latches; the retry, over-temperature and its end
follow the command, the gate and the supply; OPEN is set and cleared. Each shows FIO_OUTST in its event. Coil channels and motor pairs
(R429 to R432): HOLD follows PULL; an update moves the offset by the current error within its limit and a moving pair by one step; a
trip stops the channel with its cause; a target starts the move of a pair in HOLD and is refused while it moves; a mode switch that
waits too long is made. -/
def Obligations.FieldOutputsAndCoils : Prop :=
  (∀ o current s, running s .field = true → (fieldOut s o.val).state = .on → Completes (.outputOverload o current) s fun t =>
    fieldOut t o.val = { fieldOut s o.val with
      state := (if 2 ≤ (fieldOut s o.val).overloads then OutState.latched else .wait)
      overloads := (fieldOut s o.val).overloads + 1
      current := current.toNat
      retryDue := false
      released := false } ∧ (running s .keeper = true → Raised s (2432 + o.val) [outReg t o.val] t)) ∧
  (∀ o s, running s .field = true → (fieldOut s o.val).state = .wait → outWanted s o.val = true → Completes (.overloadRetry o) s fun t =>
    fieldOut t o.val = (if outFree s o.val = true then { fieldOut s o.val with
        state := .on
        retryDue := false
        retries := satAdd 255 (fieldOut s o.val).retries 1 }
      else { fieldOut s o.val with retryDue := true })) ∧
  (∀ o s, running s .field = true → (fieldOut s o.val).state = .hot → (fieldOut s o.val).before = .wait → outWanted s o.val = true →
    Completes (.overloadRetry o) s fun t => fieldOut t o.val = { fieldOut s o.val with retryDue := true }) ∧
  (∀ o s, running s .field = true → (outCfg s o.val).isSome = true → (fieldOut s o.val).state ≠ .hot →
    Completes (.outputOvertemp o) s fun t =>
      fieldOut t o.val = { fieldOut s o.val with
        state := .hot
        before := (if (fieldOut s o.val).state = .on then OutState.off else (fieldOut s o.val).state) }
        ∧ (running s .keeper = true → Raised s (2432 + o.val) [outReg t o.val] t)) ∧
  (∀ o s, running s .field = true → (fieldOut s o.val).state = .hot → Completes (.outputCooled o) s fun t =>
    ((fieldOut s o.val).before = .off → (fieldOut t o.val).state = (if outFree s o.val = true then .on else .off))
      ∧ ((fieldOut s o.val).before = .latched → outWanted s o.val = true → (fieldOut s o.val).released = false →
          (fieldOut t o.val).state = .latched)) ∧
  (∀ o current s k, running s .field = true → outCfg s o.val = some k → (fieldOut s o.val).isOpen = false →
    (if (fieldOut s o.val).state = .on then k.owOn else k.owOff) = true → Completes (.openWireSet o current) s fun t =>
      fieldOut t o.val = { fieldOut s o.val with isOpen := true, current := current.toNat }
        ∧ (running s .keeper = true → Raised s (2432 + o.val) [outReg t o.val] t)) ∧
  (∀ o s, running s .field = true → Completes (.openWireClear o) s fun t =>
    t = putOut s o.val { fieldOut s o.val with isOpen := false }) ∧
  (∀ k s, (coilOf s k.val).state = .pull → Completes (.pullEnd k) s fun t =>
    t = putCoil s k.val { coilOf s k.val with state := .hold }) ∧
  (∀ k mean s c, running s .field = true → coilCfg s k.val = some c → c.mode = 1 → Completes (.coilOffsetUpdate k mean) s fun t =>
    (coilOf t k.val).mean = mean.toInt ∧ (coilOf t k.val).state = (coilOf s k.val).state
      ∧ ((coilOf s k.val).state = .off ∨ (coilOf s k.val).state = .tripped → (coilOf t k.val).off = 0)
      ∧ ((coilOf s k.val).state = .pull → 0 < c.iPull → (coilOf t k.val).gl = false
          ∧ ((coilOf t k.val).gh = true ↔ mean.toInt < 10 * (c.iPull : Int) + (coilOf t k.val).off - 10 * (c.band : Int)
              ∨ (coilOf s k.val).gh = true ∧ mean.toInt ≤ 10 * (c.iPull : Int) + (coilOf t k.val).off + 10 * (c.band : Int)))
      ∧ ((coilOf s k.val).state = .pull → (coilOf t k.val).off
          = max (-((10 * c.offMax : Nat) : Int)) (min ((10 * c.offMax : Nat) : Int)
              ((coilOf s k.val).off + (((10 * c.iPull : Nat) : Int) - mean.toInt) * c.koff / 256)))) ∧
  (∀ k mean s c, running s .field = true → coilCfg s k.val = some c → c.mode = 2 → (coilOf s k.val).state = .move →
    Completes (.coilOffsetUpdate k mean) s fun t =>
      (coilOf t k.val).pos = (pairStep s c).pos ∧ (coilOf t k.val).speed = (pairStep s c).speed
        ∧ (coilOf t k.val).state = (pairStep s c).state ∧ (coilOf t (k.val + 1)).state = (pairStep s c).state) ∧
  (∀ k (cause : Fin 3) s c, running s .field = true → coilCfg s k.val = some c → c.mode ≠ 0 →
    ((coilOf s k.val).state = .off → cause.val ≠ 1) → (coilOf s k.val).state ≠ .tripped → (c.mode = 3 → k.val ≠ 0) →
      Completes (.coilTrip k cause) s fun t =>
      (coilOf t k.val).state = .tripped ∧ (coilOf t k.val).cause = cause.val + 1 ∧ (coilOf t k.val).off = 0
        ∧ (coilOf t k.val).gh = false ∧ (coilOf t k.val).gl = false ∧ (coilOf t k.val).speed = 0 ∧ (c.mode = 2 →
          (coilOf t (k.val + 1)).state = .off)
        ∧ (running s .keeper = true → Raised s (2456 + k.val) [wordN (cause.val + 1)] t)) ∧
  (∀ k target s c, running s .field = true → coilCfg s k.val = some c → c.mode = 2 → (coilOf s k.val).state = .hold →
    (coilOf s k.val).pos ≠ target.toInt * 800 → Completes (.pairTargetWrite k target) s fun t =>
      coilOf t k.val = { coilOf s k.val with target := target.toInt, refuse := false, state := .move }
        ∧ (coilOf t (k.val + 1)).state = .move) ∧
  (∀ k target s c, running s .field = true → coilCfg s k.val = some c → c.mode = 2 → (coilOf s k.val).state = .move →
    Completes (.pairTargetWrite k target) s fun t => t = putCoil s k.val { coilOf s k.val with refuse := true }) ∧
  (∀ k s b, (coilOf s k.val).switchTo = some b → Completes (.pairModeSwitchTimeout k) s fun t =>
    coilOf t k.val = { coilOf s k.val with strong := b, switchTo := none }
      ∧ (running s .keeper = true → Raised s (2456 + k.val) [] t))

/-- Ports, redundancy and time (R455 to R459, R464, R486): a port coming UP sends what was held for it as its gates are open; a frame held
too long is dropped and counted; of a frame that a port takes (log entry 134) a bad FCS is counted, and of a duplicate the second copy is
counted and dropped; supervision frames count and go out by both ports with one trailer number, or wait; an announce decides the
grandmaster. Station exchanges (R460 to R466): a cycle's first sending opens the exchange of its SEQ; a retry sends the same frames again,
at most twice; a frame that is not whole is discarded, and a valid input frame ends the exchange and brings the station to RUN; WD missed
cycles in a row lose it. -/
def Obligations.PortsAndStations : Prop :=
  (∀ p st s c, running s .io = true → portCfg s p.val = some c → (netPort s p.val).state ≠ st → Completes (.portStateChange p st) s fun t =>
    (netPort t p.val).state = st ∧ (running s .keeper = true → Raised s (2816 + p.val) [] t)
      ∧ (st = .up → ∀ e ∈ t.net.queue, leavesNow s p.val e = false) ∧ (st ≠ .up → t.net.queue = s.net.queue)) ∧
  (∀ p s e rest, portUp s p.val = false → s.net.queue = e :: rest → e.ports = [p.val] → Completes (.heldFrameTimeout p) s fun t =>
    t.net.queue = rest ∧ netPort t p.val = { netPort s p.val with
      held := satAdd 65535 (netPort s p.val).held 1
      dropping := true }
      ∧ ((netPort s p.val).dropping = false → running s .keeper = true → Raised s (2824 + p.val) [] t)) ∧
  (∀ p n vlan src seq trailer s, portUp s p.val = true → frameTaken s p.val n vlan = true →
    Completes (.prpFrameReceive ⟨p, n, vlan⟩ src seq trailer false) s fun t => t = putNetPort s p.val { netPort s p.val with badFcs := satAdd 4294967295 (netPort s p.val).badFcs 1 }) ∧
  (∀ p n vlan src seq s e, portUp s p.val = true → frameTaken s p.val n vlan = true → (portCfg s p.val).any (·.paired) = true →
    e ∈ s.net.nodes → e.pair = p.val / 2 → e.src = src → e.seq = seq → s.now - e.time ≤ 400000000 →
    Completes (.prpFrameReceive ⟨p, n, vlan⟩ src seq true true) s fun t =>
      netPort t p.val = { netPort s p.val with dups := satAdd 4294967295 (netPort s p.val).dups 1 }) ∧
  (∀ p n vlan src seq s, portUp s p.val = true → frameTaken s p.val n vlan = true → (portCfg s p.val).any (·.paired) = true →
    (∀ e ∈ s.net.nodes, e.pair = p.val / 2 → e.src = src → e.seq = seq → 400000000 < s.now - e.time) →
    Completes (.prpFrameReceive ⟨p, n, vlan⟩ src seq true true) s fun t =>
      t.net.nodes.head? = some { pair := p.val / 2, src := src, seq := seq, time := s.now } ∧ t.net.ports = s.net.ports) ∧
  (∀ k s, running s .io = true → s.net.gone = false → lanPorts s k.val ≠ [] → Completes (.prpSupervision k) s fun t =>
    tget 0 t.net.superSeq k.val = (tget 0 s.net.superSeq k.val + 1) % 65536
      ∧ tget 0 t.net.rct k.val = (tget 0 s.net.rct k.val + 1) % 65536
      ∧ (∀ p ∈ lanPorts s k.val, ∀ c, portCfg s p = some c →
          if portUp s p = true ∧ gateOpen s c (.supervision k.val (tget 0 s.net.superSeq k.val)) = true then
            (netPort t p).sent = some (.supervision k.val (tget 0 s.net.superSeq k.val))
              ∧ (netPort t p).sentRct = some (tget 0 s.net.rct k.val)
          else ∃ e ∈ t.net.queue, e.frame = .supervision k.val (tget 0 s.net.superSeq k.val) ∧ p ∈ e.ports)) ∧
  (∀ p (prio : BitVec 8) s, portUp s p.val = true → Completes (.gptpMessage p (.announce 0 prio)) s fun t =>
    t.net = s.net ∧ t.tmb = { s.tmb with gm := t.tmb.gm, lanGm := t.tmb.lanGm }
      ∧ (prio.toNat ≠ ownPriority s → tget none t.tmb.lanGm p.val = some (decide (ownPriority s < prio.toNat)))
      ∧ (∀ q, q ≠ p.val → tget none t.tmb.lanGm q = tget none s.tmb.lanGm q)
      ∧ (t.tmb.gm = true ↔ ∀ e ∈ t.tmb.lanGm, e.2 ≠ some false)) ∧
  (∀ p sec off s, portUp s p.val = true → tget none s.tmb.lanGm p.val ≠ some true → Completes (.gptpMessage p (.time 0 sec off)) s fun t =>
    t.tmb.gpBase = some (toldBase sec off s) ∧ (s.tmb.source ≠ 1 →
      t = { s with tmb := { s.tmb with gpBase := some (toldBase sec off s) } })) ∧
  (∀ n s k, running s .io = true → stationCfg s n.val = some k → (stnOf s n.val).exch = none → Completes (.stationCycleSend n) s fun t =>
    ∃ x, (stnOf t n.val).exch = some x ∧ x.seq = wordN (devTime s / stationCycle k.cycle)
      ∧ x.cycleAt = devTime s / stationCycle k.cycle * stationCycle k.cycle ∧ x.sendings = (if sending s = true then 1 else 0)
      ∧ x.answered = false ∧ x.frames = stationFrames s k x.seq x.cycleAt ∧ (sending s = false → x.refused = false)) ∧
  (∀ n s k e, stationCfg s n.val = some k → (stnOf s n.val).exch = some e → e.answered = false → 1 ≤ e.sendings → e.sendings ≤ 2 →
    sending s = true → Completes (.stationRetry n) s fun t =>
      (stnOf t n.val).retries = satAdd 255 (stnOf s n.val).retries 1
        ∧ ∃ x, (stnOf t n.val).exch = some x ∧ x.sendings = e.sendings + 1 ∧ x.seq = e.seq ∧ x.frames = e.frames
          ∧ (e.refused = true → x.refused = true)) ∧
  (∀ n s k e, stationCfg s n.val = some k → (stnOf s n.val).exch = some e → e.answered = true ∨ e.sendings = 3 →
    Completes (.stationRetry n) s fun t => t = s) ∧
  (∀ (f : StationFrame) length checks crc s, frameWhole f length checks crc = false →
    Completes (.stationInputFrame ⟨f, length, checks, crc⟩) s fun t => t = s) ∧
  (∀ (f : StationFrame) length checks crc s k, running s .io = true → frameWhole f length checks crc = true →
    stationCfg s f.station.toNat = some k → inputFrameOk s f = true →
    (∀ q, (stnOf s f.station.toNat).newest = some q → 0 < (f.seq - q).toInt) →
    Completes (.stationInputFrame ⟨f, length, checks, crc⟩) s fun t =>
      (stnOf t f.station.toNat).state = .running
        ∧ ((stnOf s f.station.toNat).state = .lost → (stnOf t f.station.toNat).missed = 0)
        ∧ (∀ e, (stnOf s f.station.toNat).exch = some e → e.seq = f.seq → e.refused = false → (stnOf t f.station.toNat).missed = 0)
        ∧ ((stnOf s f.station.toNat).exch = none → (stnOf s f.station.toNat).state ≠ .lost →
            (stnOf t f.station.toNat).missed = (stnOf s f.station.toNat).missed)
        ∧ (stnOf t f.station.toNat).newest = some f.seq
        ∧ (∀ e, (stnOf s f.station.toNat).exch = some e → e.seq = f.seq →
            (stnOf t f.station.toNat).exch = some { e with answered := true })
        ∧ ((stnOf s f.station.toNat).state = .lost → running s .keeper = true → Raised s 2841 [] t)) ∧
  (∀ n s k e, running s .io = true → stationCfg s n.val = some k → (stnOf s n.val).exch = some e → e.answered = true →
    e.refused = false → Completes (.stationBudgetEnd n) s fun t => t = putStn s n.val { stnOf s n.val with exch := none }) ∧
  (∀ n s k e, running s .io = true → stationCfg s n.val = some k → (stnOf s n.val).exch = some e → e.answered = false →
    (stnOf s n.val).state ≠ .lost → Completes (.stationBudgetEnd n) s fun t =>
      (stnOf t n.val).missed = satAdd 15 (stnOf s n.val).missed 1 ∧ (stnOf t n.val).exch = none
        ∧ (if k.wd ≤ satAdd 15 (stnOf s n.val).missed 1 then
            (stnOf t n.val).state = .lost ∧ (stnOf t n.val).losses = satAdd 255 (stnOf s n.val).losses 1
              ∧ (running s .keeper = true → Raised s 2840 [wordN n.val] t)
          else (stnOf t n.val).state = (stnOf s n.val).state)) ∧
  (∀ (f : StationFrame) s, running s .io = true → s.net.lualasOk = true → s.net.mixed = false → inputFrameOk s f = true → f.kind = 2 →
    Completes (.mirroredStationFrame f) s fun t =>
      t = putStn s f.station.toNat { stnOf s f.station.toNat with frames := addFrame f (stnOf s f.station.toNat).frames })

/-- Waggles, the holder duty and health (R470 to R478, R484, R548): a module sends its own state and keeps its partner's; two modules of
one number clash; the duty is taken with its CAUSE, in bench mode not beside a partner outside it; a handover needs a usable partner; two
failed verdicts in a row silence the module. -/
def Obligations.PairDuty : Prop :=
  (∀ s, running s .io = true → s.net.gone = false → Completes .waggleSend s fun t =>
    t.net.sent = some (waggleNow s) ∧ t.net.count = s.net.count + 1 ∧ t.net.holder = s.net.holder) ∧
  (∀ w lualas s, running s .io = true → Completes (.waggleReceive w lualas) s fun t =>
    t.net.partner = some w ∧ t.net.silent = false
      ∧ (lualas = true → t.net.lualasOk = true ∧ t.net.lastCount = some w.count) ∧ (lualas = false → netFresh t = true)
      ∧ (w.modul = s.pins.pairSel → t.net.clash = true ∧ (s.net.clash = false → t.net.clashHeld = s.net.holder ∧ t.pins.faultKeeper = true
          ∧ (running s .keeper = true → Raised s 2851 [] t)))
      ∧ (w.modul ≠ s.pins.pairSel → t.net.clash = s.net.clash
          ∧ (s.net.clash = false → t.net.mixed = decide (w.digest ≠ BitVec.ofNat 64 (leNat (s.frm.digest.take 8)))))) ∧
  (∀ s c, running s .io = true → 2 ≤ serviceSet s.dies → s.net.holder = false → s.net.gone = false → s.net.clash = false →
    s.net.tickDue = none → s.net.take = some c →
    (fit s = true ∨ c = 2 ∧ partnerHas s (fun w => bothRelease w s) = true ∧ (s.frm.bench && partnerHas s (fun w => !w.bench)) = false) →
    Completes .holderTake s fun t =>
      t.net.holder = true ∧ t.net.cause = c ∧ t.net.handovers = satAdd 255 s.net.handovers 1 ∧ t.net.take = none
        ∧ (running s .keeper = true → Raised s 2842 [wordN c] t)) ∧
  (∀ s, running s .io = true → 2 ≤ serviceSet s.dies → s.net.holder = false → s.net.gone = false → s.net.clash = false →
    s.net.tickDue = none → s.net.take = none → startTake s = true → Completes .holderTake s fun t =>
      t.net.holder = true ∧ t.net.cause = 1 ∧ t.net.handovers = satAdd 255 s.net.handovers 1
        ∧ (running s .keeper = true → Raised s 2842 [1] t)) ∧
  (∀ s, running s .io = true → 2 ≤ serviceSet s.dies → s.net.silent = false → s.net.tickDue = none → Completes .partnerSilent s fun t =>
    t.net.silent = true ∧ t.net.lualasOk = false ∧ t.net.netOk = false
      ∧ (∀ w, s.net.partner = some w → s.net.holder = false → s.net.clash = false → w.holder = true → t.net.take = some 3)
      ∧ (s.net.partner.isSome = true → running s .keeper = true → Raised s 2843 [] t)) ∧
  (∀ s, s.net.lualasOk = true → s.net.tickDue = none → Completes .lualasLost s fun t =>
    t.net.lualasOk = false ∧ (running s .keeper = true → Raised s 2844 [] t)) ∧
  (∀ k s, s.net.lanes.testBit k.val = true → Completes (.laneDropped k) s fun t =>
    t.net.lanes.testBit k.val = false ∧ (running s .keeper = true → Raised s 2844 [] t)) ∧
  (∀ req s, accessHeld s 14 0 = false → s.net.result ≠ 15 → Completes (.handover req) s fun t =>
    if s.net.holder = false then t = { s with net := { s.net with result := 1 } }
    else if s.net.clash = true ∨ s.net.lualasOk = false ∨ partnerUsable s = false then t = { s with net := { s.net with result := 2 } }
    else if s.net.mixed = true ∧ s.frm.presence = false then t = { s with net := { s.net with result := 3 } }
    else t.net = { s.net with result := 15, release := some .handover, releaseAt := devTime s }) ∧
  (∀ req s, accessHeld s 14 0 = false → s.net.result = 15 → s.net.heldCmd = none →
    Completes (.handover req) s (fun t => t = { s with net := { s.net with heldCmd := some (1, req) } })
      ∧ Completes (.resync req) s (fun t => t = { s with net := { s.net with heldCmd := some (2, req) } })) ∧
  (∀ req s c, accessHeld s 14 0 = false → s.net.result = 15 → s.net.heldCmd = some c →
    ∀ q ∈ ([.handover req, .resync req] : List Instr), Completes q s fun t => t = badAccess req 3 0x11000204 s) ∧
  (∀ s f, running s .keeper = true → f = (if s.net.holder = true then putBit s.net.failing 0 false else s.net.failing) →
    Completes .healthVerdict s fun t =>
      t.net.failed = f ∧ t.net.verdictAt = s.now ∧ t.net.verdict = (if f = 0 then 1 else 2)
        ∧ t.net.failRun = (if f = 0 then 0 else s.net.failRun + 1)
        ∧ (f ≠ 0 → Raised s 2847 [] t) ∧ (f ≠ 0 → 1 ≤ s.net.failRun → t.net.gone = true)) ∧
  (∀ t' ok s, running s .keeper = true → (t'.val = 0 → s.net.holder = false) → Completes (.standbySelfTest t' ok) s fun t =>
    t = { s with net := { s.net with failing := putBit s.net.failing t'.val (!ok) } })

/-- Resynchronisation and the standby's ticks (R479 to R482): RESYNC asks for it; its end takes the holder's state into the standby; a
selection record runs the tick that waits for it; a mirrored slot and a call order are taken over. -/
def Obligations.PairRecords : Prop :=
  (∀ req s, accessHeld s 14 0 = false → s.net.result ≠ 15 → Completes (.resync req) s fun t =>
    t = { s with net := { s.net with
      result := 0
      resyncing := hasPartner s && !s.net.mixed
      synced := s.net.synced && s.net.holder
      stale := false } }) ∧
  (∀ copy s, s.net.resyncing = true → s.net.holder = false → 2 ≤ serviceSet s.dies → Completes (.resyncComplete copy) s fun t =>
    t.net.resyncing = false ∧ t.net.synced = true ∧ t.net.stale = false ∧ t.net.diverge = 0
      ∧ t.hst = copy.hoists ∧ t.dor = copy.doors ∧ t.fbk = copy.feedback ∧ t.dsp = { copy.dsp with rights := s.dsp.rights }
      ∧ (running s .keeper = true → Raised s 2846 [] t)) ∧
  (∀ k e f s, s.net.tickDue = some k → devTime s ≤ k * 250000 + 50000 →
    (stnOf s e.station.val).frames.find? (fun f => decide (f.seq = e.seq)) = some f → Completes (.selectionRecord k [e]) s fun t =>
      t = runTick k (let v := putStn s e.station.val { stnOf s e.station.val with chosen := some f, fresh := true }
        { v with net := { v.net with tickDue := none } })) ∧
  (∀ k sels s, s.net.tickDue ≠ some k → Completes (.selectionRecord k sels) s fun t => t = s) ∧
  (∀ id m s, isStandby s = true → exchanges s = true → (pointOf s id.val).alloc = true → running s (homeDie s id.val) = true →
    Completes (.slotMirrorReceive id m) s fun t =>
      pointOf t id.val = refresh { pointOf s id.val with words := m.words, base := m.base, arr := m.arr, dirty := true }) ∧
  (∀ g w0 w1 s k, isStandby s = true → exchanges s = true → running s .comp0 = true → (groupCfg s g.val).isSome = true →
    (grpOf s g.val).unordered.find? (fun t => decide ((callOf (grpOf s g.val) t).map (fun c => (c.w0, c.w1)) = some (w0, w1))) = some k →
    Completes (.callOrderRecord g w0 w1) s fun t => t = putGrp s g.val { grpOf s g.val with
      unordered := (grpOf s g.val).unordered.erase k
      port := (grpOf s g.val).port ++ [k] }) ∧
  (∀ g w0 w1 s, isStandby s = true → exchanges s = true → running s .comp0 = true → (groupCfg s g.val).isSome = true →
    (grpOf s g.val).unordered = [] →
    Completes (.callOrderRecord g w0 w1) s fun t =>
      t = putGrp s g.val { grpOf s g.val with orders := (grpOf s g.val).orders ++ [(w0, w1)] }) ∧
  (∀ g k s c, callOf (grpOf s g.val) k.val = some c → k.val ∈ (grpOf s g.val).unordered → Completes (.callOrderTimeout g k) s fun t =>
    callOf (grpOf t g.val) k.val = none ∧ (grpOf t g.val).resWr = ((grpOf s g.val).resWr + 1) % 65536
      ∧ tget (0, 0) (grpOf t g.val).ring ((grpOf s g.val).resWr % 64)
          = (regOf [(31, 28, 7), (27, 26, c.deck), (23, 16, c.board), (15, 0, c.ref)],
             regOf [(31, 24, k.val), (21, 16, c.car.getD 0), (15, 0, 0)])
      ∧ (running s .keeper = true → Raised s 2848 [] t))

/-- The timebase and interval units (R487 to R490, R496): before READY an offset steps device time, after it the clock is slewed by at most
200 ppm; LOCKED follows 10 s within 100 ns, and an offset above that or a lost source clears it; an interval runs from a start to the next
stop, and an event out of order (a stop stamped before the open start among them) is discarded. -/
def Obligations.TimebaseAndIntervals : Prop :=
  (∀ off s, s.tmb.running = true → s.pins.ready = false → s.tmb.source ≠ 0 → ¬ (s.tmb.source = 1 ∧ s.tmb.gm = true) →
    Completes (.timebaseAdjust off) s fun t =>
      t.tmb.time = ((s.tmb.time : Int) + off).toNat ∧ t.tmb.offset = off ∧ t.tmb.adj = s.tmb.adj
        ∧ (-100 ≤ off → off ≤ 100 → t.tmb.locked = s.tmb.locked ∧ t.tmb.nearSince = some (s.tmb.nearSince.getD s.now))
        ∧ (off < -100 ∨ 100 < off → t.tmb.locked = false ∧ t.tmb.nearSince = none
          ∧ (s.tmb.locked = true → running s .keeper = true → Raised t 3705 [] t))) ∧
  (∀ off s, s.tmb.source = 0 ∨ (s.tmb.source = 1 ∧ s.tmb.gm = true) → Completes (.timebaseAdjust off) s fun t => t = s) ∧
  (∀ off s, s.tmb.running = true → s.pins.ready = true → s.tmb.source ≠ 0 → ¬ (s.tmb.source = 1 ∧ s.tmb.gm = true) →
    Completes (.timebaseAdjust off) s fun t =>
    t.tmb.time = s.tmb.time ∧ t.tmb.offset = off ∧ (off = 0 → t.tmb.adj = s.tmb.adj)
      ∧ (0 < off → 1 ≤ t.tmb.adj ∧ t.tmb.adj ≤ 2000) ∧ (off < 0 → -2000 ≤ t.tmb.adj ∧ t.tmb.adj ≤ -1)
      ∧ (1000000 < off.natAbs → running s .keeper = true → Raised s 3706 [] t)) ∧
  (∀ s b, s.tmb.running = true → s.pins.ready = false → s.tmb.source = 2 → s.tmb.gpBase = some b → Completes .ppsEdge s fun t =>
    t.tmb.time = nearestSecond (b + (s.now : Int)).toNat * 1000000000 ∧ t.tmb.ppsOk = true) ∧
  (∀ s, s.tmb.running = true → s.pins.ready = true → s.tmb.source = 2 ∨ s.tmb.source = 3 → Completes .ppsEdge s fun t =>
    t.tmb.time = s.tmb.time
      ∧ t.tmb.offset = ((nearestSecond ((s.tmb.time : Int) + s.tmb.offset).toNat * 1000000000 : Nat) : Int) - (s.tmb.time : Int)
      ∧ t.tmb.ppsOk = true ∧ (s.tmb.ppsOk = false → running s .keeper = true → Raised s 3707 [] t)) ∧
  (∀ s, s.tmb.source = 2 ∨ s.tmb.source = 3 → Completes .ppsLost s fun t =>
    t.tmb = { s.tmb with ppsOk := false, locked := false, nearSince := none }
      ∧ (s.tmb.ppsOk = true → running s .keeper = true → Raised s 3707 [] t)
      ∧ (s.tmb.locked = true → running s .keeper = true → Raised s 3705 [] t)) ∧
  (∀ s n, s.tmb.running = true → s.tmb.nearSince = some n → n + 10000000000 ≤ s.now → Completes .timebaseLocked s fun t =>
    t.tmb = { s.tmb with locked := true } ∧ (s.tmb.locked = false → running s .keeper = true → Raised s 3705 [] t)) ∧
  (∀ s, s.tmb.source = 1 → s.tmb.gm = false → Completes .gptpSourceLost s fun t =>
    t.tmb = { s.tmb with gpBase := none, locked := false, nearSince := none }) ∧
  (∀ u s at', firstHeld (tget ({} : IntervalUnit) s.acq.ints u.val).openAt.isSome
      (tget ({} : IntervalUnit) s.acq.ints u.val).heldEv = some (at', false) → at' + 250 ≤ devTime s →
        Completes (.intervalEvent u) s fun t =>
    match (tget ({} : IntervalUnit) s.acq.ints u.val).openAt with
    | none => (tget ({} : IntervalUnit) t.acq.ints u.val).openAt = some at'
    | some a => (tget ({} : IntervalUnit) t.acq.ints u.val).openAt = some a
        ∧ (tget ({} : IntervalUnit) t.acq.ints u.val).discarded
            = satAdd 4294967295 (tget ({} : IntervalUnit) s.acq.ints u.val).discarded 1) ∧
  (∀ u s at', firstHeld (tget ({} : IntervalUnit) s.acq.ints u.val).openAt.isSome
      (tget ({} : IntervalUnit) s.acq.ints u.val).heldEv = some (at', true) → at' + 250 ≤ devTime s →
        Completes (.intervalEvent u) s fun t =>
    (if (tget ({} : IntervalUnit) s.acq.ints u.val).openAt.any (fun a => decide (a ≤ at')) = true then
        (tget ({} : IntervalUnit) t.acq.ints u.val).openAt = none
          ∧ ∀ a, (tget ({} : IntervalUnit) s.acq.ints u.val).openAt = some a →
            (tget ({} : IntervalUnit) t.acq.ints u.val).last = wordN (Nat.min 4294967295 (at' - a))
              ∧ (tget ({} : IntervalUnit) t.acq.ints u.val).coinc = decide (at' - a = 0)
      else (tget ({} : IntervalUnit) t.acq.ints u.val).openAt = (tget ({} : IntervalUnit) s.acq.ints u.val).openAt
          ∧ (tget ({} : IntervalUnit) t.acq.ints u.val).order = true
          ∧ (tget ({} : IntervalUnit) t.acq.ints u.val).discarded
              = satAdd 4294967295 (tget ({} : IntervalUnit) s.acq.ints u.val).discarded 1
          ∧ ((tget ({} : IntervalUnit) s.acq.ints u.val).order = false → running s .keeper = true → Raised s (3344 + u.val) [] t)))

/-- Pages and drives (R494, R500, R501, R503 to R505): a page closes with the next SEQ; it counts as written when every drive it goes
to has completed it; a drive is taken or refused when its link comes up; a mirror goes on without a lost drive until it is rebuilt. -/
def Obligations.PagesAndDrives : Prop :=
  (∀ st s r rs, (stageOf s st.val).recs = r :: rs → stoDown s = false → Completes (.pageClose st) s fun t =>
    (stageOf t st.val).recs = [] ∧ (stageOf t st.val).nextSeq = (stageOf s st.val).nextSeq + 1
      ∧ (if storeTakes s st.val = true then
          ∃ p, (stageOf t st.val).waiting = (stageOf s st.val).waiting ++ [p] ∧ p.seq = (stageOf s st.val).nextSeq ∧ p.recs = r :: rs
            ∧ p.stream = st.val ∧ p.modul = s.pins.pairSel ∧ (∃ w ∈ (ringOf t st.val).writing, w.page = p)
        else (stageOf t st.val).waiting = (stageOf s st.val).waiting ∧ ringOf t st.val = ringOf s st.val)) ∧
  (∀ (d : Fin 2) st s w, (ringOf s st.val).writing.find? (fun w => if d.val = 0 then w.at0 else w.at1) = some w →
    Completes (.nvmeWriteComplete d st false) s fun t =>
      portOf t d.val = { portOf s d.val with errors := satAdd 65535 (portOf s d.val).errors 1 } ∧ t.sto.rings = s.sto.rings) ∧
  (∀ (d : Fin 2) st s w, (ringOf s st.val).writing.find? (fun w => if d.val = 0 then w.at0 else w.at1) = some w →
    (if d.val = 0 then w.at1 else w.at0) = false → Completes (.nvmeWriteComplete d st true) s fun t =>
      (ringOf t st.val).head = Nat.max (ringOf s st.val).head (w.page.seq + 1)
        ∧ (∀ x ∈ (ringOf t st.val).writing, x.page.seq ≠ w.page.seq)
        ∧ (∀ p ∈ (stageOf t st.val).waiting, p.seq ≠ w.page.seq)) ∧
  (∀ (d : Fin 2) st s w, (ringOf s st.val).writing.find? (fun w => if d.val = 0 then w.at0 else w.at1) = some w →
    (if d.val = 0 then w.at1 else w.at0) = true → Completes (.nvmeWriteComplete d st true) s fun t =>
      (ringOf t st.val).head = (ringOf s st.val).head
        ∧ (∃ x ∈ (ringOf t st.val).writing, x.page = w.page ∧ (if d.val = 0 then x.at0 else x.at1) = false
            ∧ (if d.val = 0 then x.at1 else x.at0) = true)) ∧
  (∀ s, s.sto.state = 2 → s.sto.halted = false → Completes .nvmePeriodicFlush s fun t =>
    ∀ n : Fin 2, (portOf t n.val).flushes
      = (if (portOf s n.val).drive = 1 then (portOf s n.val).flushes + 1 else (portOf s n.val).flushes)) ∧
  (∀ (n : Fin 2) d s x, isIB s = false → running s .io = true → x ∈ ([(.down, 0), (.notPresent, 3)] : List (LinkState × Nat)) →
    Completes (.pcieLinkChange n x.1 d) s fun t =>
      portOf t n.val = { portOf s n.val with link := x.2, gen := 0, width := 0, drive := 0, cause := 0 }
        ∧ ((portOf s n.val).drive ≠ 0 → running s .keeper = true → Raised s (3456 + n.val) [] t)) ∧
  (∀ (n : Fin 2) d s, isIB s = false → running s .io = true → Completes (.pcieLinkChange n .training d) s fun t =>
    portOf t n.val = { portOf s n.val with link := 1 }) ∧
  (∀ (n : Fin 2) g w d s c, isIB s = false → running s .io = true →
    c = (if driveCause d = 0 ∧ s.sto.state = 2 ∧ s.sto.mirror = true ∧ s.sto.degraded = true ∧ s.sto.rebuildPort = n.val
      ∧ d.blocks < (portOf s n.val).blocks then 3 else driveCause d) → Completes (.pcieLinkChange n (.up g w) d) s fun t =>
    portOf t n.val = { portOf s n.val with
      link := 2
      gen := g
      width := w
      drive := (if c = 0 then 1 else 2)
      cause := c
      blocks := d.blocks } ∧ (running s .keeper = true → Raised s (3456 + n.val) [] t)) ∧
  (∀ (n : Fin 2) timeout s, (portOf s n.val).drive = 1 → Completes (.driveFailure n timeout) s fun t =>
    portOf t n.val = { portOf s n.val with drive := 3, cause := (if timeout = true then 4 else 5) }
      ∧ (s.sto.state = 2 → s.sto.mirror = true → s.sto.rebuild = false → (portOf s (1 - n.val)).drive = 1 →
          t.sto.degraded = true ∧ t.sto.state = 2 ∧ t.sto.rebuildPort = n.val)
      ∧ (s.sto.state = 2 → s.sto.mirror = false → t.sto.state = 3)
      ∧ (running s .keeper = true → Raised s (3456 + n.val) [] t)) ∧
  (∀ (n : Fin 2) blocks isNew s, s.sto.mirror = true → s.sto.degraded = true → (portOf s n.val).drive ≠ 1 →
    isNew = false ∨ (portOf s n.val).blocks ≤ blocks → (portOf s (1 - n.val)).drive = 1 → Completes (.driveReturn n blocks isNew) s fun t =>
      (portOf t n.val).drive = 1 ∧ (portOf t n.val).cause = 0 ∧ t.sto.rebuild = true ∧ t.sto.degraded = true
        ∧ (running s .keeper = true → Raised s (3456 + n.val) [] t)) ∧
  (∀ s, s.sto.rebuild = true → Completes .rebuildComplete s fun t =>
    t.sto = { s.sto with rebuild := false, degraded := false } ∧ (running s .keeper = true → Raised s 3459 [] t))

/-- STO_CMD and the journal (R501, R503 to R506): FORMAT needs presence and a store that is there, and empties every ring; REBUILD
needs a degraded mirror with both drives; FLUSH reaches every drive in use; on SH-8128-IB all three do nothing; the journal takes heads
and cursors. Consumers (R506 to R509): an acknowledgement moves the cursor and brings a DOWN consumer back; without one for TMO a LIVE
consumer is DOWN; a DOWN consumer
is sent its oldest page again, and one in BACKFILL its next, with BACKFILL set. -/
def Obligations.StoreCommandsAndConsumers : Prop :=
  (∀ s, isIB s = false → accessHeld s 16 0 = false → Completes .stoFormat s fun t =>
    if s.frm.presence = false then t = { s with sto := { s.sto with result := 1 } }
    else if s.sto.state = 0 ∨ s.sto.state = 3 then t = { s with sto := { s.sto with result := 2 } }
    else t.sto.state = 2 ∧ t.sto.formatted = true ∧ t.sto.blocks = storeBlocks s ∧ t.sto.shares = s.img.memory.store.shares
      ∧ t.sto.formatTag = frameTag s ∧ t.sto.result = 0
      ∧ (∀ st, (ringOf t st).pages = [] ∧ (ringOf t st).writing = [] ∧ (stageOf t st).recs = [] ∧ (stageOf t st).waiting = []
        ∧ (ringOf t st).head = (stageOf t st).nextSeq ∧ (ringOf t st).oldest = (stageOf t st).nextSeq)
      ∧ (∀ c ∈ s.img.network.consumers, (consumer t c.no).state = .live)
      ∧ (∀ (k : Fin 16) st, tget 0 (consumer t k.val).cursor st = (stageOf t st).nextSeq) ∧ (running s .keeper = true →
        Raised s 3463 [] t)) ∧
  (∀ s, isIB s = false → accessHeld s 16 0 = false → Completes .stoRebuild s fun t =>
    t = (if s.sto.mirror = true ∧ s.sto.degraded = true ∧ s.sto.port0.drive = 1 ∧ s.sto.port1.drive = 1 then
        { s with sto := { s.sto with rebuild := true, result := 0 } }
      else { s with sto := { s.sto with result := 2 } })) ∧
  (∀ s c, isIB s = true → c ∈ ([.stoFormat, .stoRebuild, .stoFlush] : List Instr) → Completes c s fun t => t = s) ∧
  (∀ s, isIB s = false → accessHeld s 16 0 = false → Completes .stoFlush s fun t =>
    if s.sto.state = 2 then t.sto.result = 0 ∧ (∀ n : Fin 2, (portOf t n.val).flushes
        = (if (portOf s n.val).drive = 1 then (portOf s n.val).flushes + 1 else (portOf s n.val).flushes))
    else t = { s with sto := { s.sto with result := 2 } }) ∧
  (∀ s, s.rst.brace = .idle → s.sto.state = 2 → Completes .headJournal s fun t =>
    (∀ st, ringOf t st = { ringOf s st with journal := (ringOf s st).head })
      ∧ (∀ k, consumer t k = { consumer s k with journal := (consumer s k).cursor })) ∧
  (∀ k (st : BitVec 8) (seq : DWord) s cc, consumerCfg s k.val = some cc → st.toNat ∈ cc.streams →
    tget 0 (consumer s k.val).cursor st.toNat ≤ seq.toNat → seq.toNat < tget 0 (consumer s k.val).sent st.toNat →
    Completes (.consumerAck k st seq) s fun t =>
      tget 0 (consumer t k.val).cursor st.toNat = seq.toNat + 1
        ∧ (∀ x, x ≠ st.toNat → tget 0 (consumer t k.val).cursor x = tget 0 (consumer s k.val).cursor x)
        ∧ ((consumer s k.val).state = .live → (consumer t k.val).state = .live)
        ∧ ((consumer s k.val).state = .down → (consumer t k.val).state ≠ .down ∧ (running s .keeper = true → Raised s 3461 [] t))) ∧
  (∀ k (st : BitVec 8) (seq : DWord) s cc, consumerCfg s k.val = some cc →
    tget 0 (consumer s k.val).sent st.toNat ≤ seq.toNat ∨ seq.toNat < tget 0 (consumer s k.val).cursor st.toNat →
    Completes (.consumerAck k st seq) s fun t => t = s) ∧
  (∀ k s, (consumer s k.val).state = .backfill → Completes (.consumerTimeout k) s fun t => t = s) ∧
  (∀ k s, (consumer s k.val).state = .live → Completes (.consumerTimeout k) s fun t =>
    consumer t k.val = { consumer s k.val with state := .down } ∧ (running s .keeper = true → Raised s 3461 [] t)) ∧
  (∀ k s cc st p, s.net.gone = false → consumerCfg s k.val = some cc → cc.streams = [st] → (consumer s k.val).state = .down →
    tget (none : Option Page) (ringOf s st).pages (tget 0 (consumer s k.val).cursor st) = some p →
    Completes (.consumerDownResend k) s fun t => (consumer t k.val).lastSent = some (p.stream, p.seq, false)
      ∧ tget 0 (consumer t k.val).sent p.stream = Nat.max (tget 0 (consumer s k.val).sent p.stream) (p.seq + 1)) ∧
  (∀ k (st : Fin 19) s cc n p, s.net.gone = false → consumerCfg s k.val = some cc → st.val ∈ cc.streams →
    (consumer s k.val).state = .backfill →
    n = Nat.max (tget 0 (consumer s k.val).fill st.val) (tget 0 (consumer s k.val).cursor st.val) →
    tget (none : Option Page) (ringOf s st.val).pages n = some p → Completes (.backfillSend k st) s fun t =>
      (consumer t k.val).lastSent = some (p.stream, p.seq, true) ∧ tget 0 (consumer t k.val).fill st.val = n + 1)

/-- Writes to the control space (R1, R10, R12, R13, R545 to R549): a word write to a register with a field that the requester may write
is applied at its block; one of another width, off the word grid, where no register is, or to a read view changes nothing and is
counted in EVT_BADACC with its CAUSE; a read where no register is answers 0 and is counted; on SH-8128-IB the store's window reads 0
and ignores writes; a write held at a block in reset, or behind a held command of its requester, changes nothing, and after 1 ms at such
a block its session is answered with STATUS 3. -/
def Obligations.ControlSpaceWrites : Prop :=
  (∀ req addr value s w, addr.toNat % 4 = 0 → windowOf addr = some w → ¬ (w = 16 ∧ isIB s = true) →
    accessHeld s w (winOffset addr w) = false → waitsBehind s req = false → (regAt req w (winOffset addr w) s).isSome = true →
    writableAt s req w (winOffset addr w) = true → Completes (.registerWrite req addr .word value) s fun t =>
      t = writeAt req addr w (winOffset addr w) value s) ∧
  (∀ req value s, running s .keeper = true → waitsBehind s req = false → Completes (.registerWrite req 0x01000000 .word value) s fun t =>
    t = { s with rst := { s.rst with cause := s.rst.cause &&& ~~~(value &&& 0x3FE#32) } }) ∧
  (∀ req addr size value s, size ≠ .word → Completes (.registerWrite req addr size value) s fun t => t = badAccess req 2 addr s) ∧
  (∀ req addr value s, addr.toNat % 4 ≠ 0 → Completes (.registerWrite req addr .word value) s fun t => t = badAccess req 2 addr s) ∧
  (∀ req addr value s, addr.toNat % 4 = 0 → windowOf addr = none →
    Completes (.registerWrite req addr .word value) s fun t => t = badAccess req 1 addr s) ∧
  (∀ req addr value s w, addr.toNat % 4 = 0 → windowOf addr = some w → ¬ (w = 16 ∧ isIB s = true) →
    accessHeld s w (winOffset addr w) = false → waitsBehind s req = false → regAt req w (winOffset addr w) s = none →
    Completes (.registerWrite req addr .word value) s fun t => t = badAccess req 1 addr s) ∧
  (∀ req addr s, addr.toNat % 4 = 0 → windowOf addr = none → ctlRead req addr s = (.noRegister, 0, badAccess req 1 addr s)) ∧
  (∀ req addr s w, addr.toNat % 4 = 0 → windowOf addr = some w → ¬ (w = 16 ∧ isIB s = true) →
    accessHeld s w (winOffset addr w) = false → waitsBehind s req = false →
    regAt req w (winOffset addr w) s = none → ctlRead req addr s = (.noRegister, 0, badAccess req 1 addr s)) ∧
  (∀ req addr value s, addr.toNat % 4 = 0 → windowOf addr = some 16 → isIB s = true →
    Completes (.registerWrite req addr .word value) s (fun t => t = s) ∧ ctlRead req addr s = (.ok, 0, s)) ∧
  (∀ req addr value s w, addr.toNat % 4 = 0 → windowOf addr = some w → ¬ (w = 16 ∧ isIB s = true) →
    accessHeld s w (winOffset addr w) = false → waitsBehind s req = false → (regAt req w (winOffset addr w) s).isSome = true →
    writableAt s req w (winOffset addr w) = false → Completes (.registerWrite req addr .word value) s fun t => t = badAccess req 4 addr s) ∧
  (∀ req addr value s w, addr.toNat % 4 = 0 → windowOf addr = some w →
    accessHeld s w (winOffset addr w) = true ∨ waitsBehind s req = true →
      Completes (.registerWrite req addr .word value) s fun t => t = s) ∧
  (∀ req addr cause s, (badAccess req cause addr s).evt = { s.evt with
    badKind := reqKind req
    badCause := cause
    badCount := Nat.min 65535 (s.evt.badCount + 1)
    badAddr := addr }) ∧
  (∀ n s r, (session s n.val).waiting = [r] → (runRequest n r s).1 = .held → waitsBehind s (.session n) = false →
    awaitsSealed s n.val = false → Completes (.keeperAccessTimeout n) s fun t =>
    session t n.val = { session s n.val with waiting := [], answer := some { tag := reqTag r, status := 3, data := [] } })

/-- The event unit and the recorder (R532 to R537, R549, R551 to R555): an event is counted, recorded where REC is 1 and queued where
INT is 1; the recorder writes it to a slot, with its snapshot, or folds it into the open record; a routing is written, a software event
raised. -/
def Obligations.EventsAndRecords : Prop :=
  (∀ b s m r, s.evt.inFlight.find? (fun m => decide (blockOf m.src = some b)) = some m → routeOf s m.src = some r →
    Completes (.eventArrival b) s fun t =>
      t.evt.inFlight = s.evt.inFlight.erase m ∧ tget 0 t.evt.counts m.src = (tget 0 s.evt.counts m.src + 1) % 65536
        ∧ (bitAt r 31 = true → s.evr.queue.length < 1024 →
            t.evr.queue = s.evr.queue ++ [{ msg := m, severity := fld r 29 28, snap := fld r 27 24 }])
        ∧ (bitAt r 31 = true → 1024 ≤ s.evr.queue.length →
            t.evr.queue = s.evr.queue ∧ t.evr.lost = Nat.min 255 (s.evr.lost + 1) ∧ t.evr.lossOpen = true)
        ∧ (bitAt r 31 = false → t.evr = s.evr)
        ∧ (bitAt r 23 = true → (pendOf s (fld r 22 16)).queue.length < 16 →
            (pendOf t (fld r 22 16)).queue = (pendOf s (fld r 22 16)).queue ++ [m.src])
        ∧ (bitAt r 23 = false → t.evt.pend = s.evt.pend)) ∧
  (∀ s q rest k, running s .mem2 = true → s.rst.brace = .idle → s.evr.queue = q :: rest → s.evr.openSlot = none →
    slotFor s.evr q.severity = some k → Completes .eventRecordWrite s fun t =>
      t.evr.queue = rest ∧ t.evr.written = s.evr.written + 1 ∧ t.evr.newest = k ∧ t.evr.openSlot = some k
        ∧ (∃ r, tget none t.evr.slots k = some r ∧ r.seq = s.evr.written % 4294967296 ∧ r.source = q.msg.src ∧ r.data = q.msg.data
            ∧ r.severity = q.severity ∧ r.time = q.msg.time ∧ r.lastTime = q.msg.time ∧ r.rep = 0 ∧ r.snap = decide (q.snap ≠ 0))
        ∧ (∀ i, i ≠ k → tget none t.evr.slots i = tget none s.evr.slots i)
        ∧ (q.snap = 0 → t.evr.pool = s.evr.pool)
        ∧ (q.snap ≠ 0 → ∃ x, tget none t.evr.pool k = some x ∧ x.seq = s.evr.written % 4294967296 ∧ x.set = q.snap
            ∧ x.entries.map (·.addr) = snapAddrs s.evr q.snap)) ∧
  (∀ s q rest k r, running s .mem2 = true → s.rst.brace = .idle → s.evr.queue = q :: rest → s.evr.openSlot = some k →
    tget none s.evr.slots k = some r → foldsInto s.evr q r = true → Completes .eventRecordWrite s fun t =>
      t.evr.queue = rest ∧ t.evr.written = s.evr.written
        ∧ tget none t.evr.slots k = some { r with rep := Nat.min 4294967295 (r.rep + 1), lastTime := q.msg.time }) ∧
  (∀ s q rest, running s .mem2 = true → s.rst.brace = .idle → s.evr.queue = q :: rest → s.evr.openSlot = none →
    slotFor s.evr q.severity = none → Completes .eventRecordWrite s fun t =>
      t.evr = { s.evr with queue := rest, dropped := Nat.min 255 (s.evr.dropped + 1) }
        ∧ (q.msg.src ≠ 3585 → running s .keeper = true → Raised s 3585 [] t)) ∧
  (∀ s k r, s.evr.openSlot = some k → tget none s.evr.slots k = some r → foldEnd s.evr r ≤ devTime s →
    stoDown s = false → storeFailed s 2 = false → (stageOf s 2).recs.length < 14 →
    fill (stageOf s 2) < 64 → (stageOf s 2).dropRun = none → Completes .recordClose s fun t =>
      t.evr = { s.evr with openSlot := none } ∧ (stageOf t 2).recs = (stageOf s 2).recs ++ [.event r]) ∧
  (∀ s, s.evr.lossOpen = true → s.evr.queue.length < 1024 → Completes .eventQueueRoom s fun t =>
    t.evr = { s.evr with lossOpen := false } ∧ (running s .keeper = true → Raised s 3584 [] t)) ∧
  (∀ req (n : Fin 4096) value s, running s .keeper = true → waitsBehind s req = false → (sourceSeverity n.val).isSome = true →
    Completes (.routeWrite req n value) s fun t =>
    ∃ w, routeOf t n.val = some w ∧ fld w 31 31 = fld value 31 31 ∧ fld w 29 24 = fld value 29 24 ∧ fld w 22 16 = fld value 22 16
      ∧ fld w 15 0 = 0 ∧ fld w 30 30 = 0
      ∧ (if roleOf s.img (fld value 22 16) = some .sandbox then bitAt w 23 = false else bitAt w 23 = bitAt value 23)
      ∧ ∀ i, i ≠ n.val → routeOf t i = routeOf s i) ∧
  (∀ req (n : Fin 4096) value s, running s .keeper = true → waitsBehind s req = false → sourceSeverity n.val = none →
    Completes (.routeWrite req n value) s fun t =>
    t = badAccess req 4 (wordN (0x16000000 + 4 * n.val)) s) ∧
  (∀ req (value : Word) s w, running s .keeper = true → fld value 31 28 = 1 → 3712 ≤ fld value 11 0 → fld value 18 12 ≤ 64 →
    routeOf s (fld value 11 0) = some w → bitAt w 31 = true → 1024 ≤ s.evr.queue.length → Completes (.softRaise req value) s fun t =>
      (softOf t (reqNumber req)).result = 2 ∧ t.evt.inFlight = s.evt.inFlight) ∧
  (∀ req (value : Word) s w, running s .keeper = true → fld value 31 28 = 1 → 3712 ≤ fld value 11 0 → fld value 18 12 ≤ 64 →
    routeOf s (fld value 11 0) = some w → bitAt w 31 = false ∨ s.evr.queue.length < 1024 →
    Completes (.softRaise req value) s fun t =>
      (softOf t (reqNumber req)).result = 0 ∧ (softOf t (reqNumber req)).source = fld value 11 0
        ∧ (softOf t (reqNumber req)).dlen = fld value 18 12
        ∧ (∃ m, t.evt.inFlight = s.evt.inFlight ++ [m] ∧ m.src = fld value 11 0 ∧ m.dlen = fld value 18 12
            ∧ m.time = devTime s ∧ m.data.length = ceilDiv (fld value 18 12) 4)) ∧
  (∀ req (value : Word) s, running s .keeper = true → fld value 31 28 = 1 → fld value 11 0 < 3712 ∨ 64 < fld value 18 12 →
    Completes (.softRaise req value) s fun t =>
    (softOf t (reqNumber req)).result = 1 ∧ t.evt.inFlight = s.evt.inFlight)

/-- Keeper firmware slots and sensors (R517, R519, R520, R522, R523): staging empties the inactive slot, a staged image that passes the
checks is VERIFIED, SELECT and RAISE_SVN need presence; a fan below its MIN and a voltage outside its range raise their events. Smoke
(R538, R539): REQUESTED once the module is ready; WAIT_SAFE with FREEZE on both sealed lines when it sends no more or has no fit
partner; FROZEN with every CE asked to halt once both channels are safe; THAWING with THAW to both dies and Smoke's halt withdrawn. -/
def Obligations.FirmwareSensorsAndSmoke : Prop :=
  (∀ s, running s .keeper = true → Completes .fwStageBegin s fun t =>
    t.kpr.slotState = .staging ∧ t.kpr.fwGot = 0 ∧ fwSlot t.kpr (inactiveSlot s.kpr) = []
      ∧ fwSlot t.kpr s.kpr.running = fwSlot s.kpr s.kpr.running ∧ t.kpr.running = s.kpr.running ∧ t.kpr.fwResult = 0) ∧
  (∀ s, running s .keeper = true → s.kpr.slotState = .staged → Completes .fwVerify s fun t =>
    t.kpr.fwResult = slotCheck s.kpr (inactiveSlot s.kpr)
      ∧ t.kpr.slotState = (if slotCheck s.kpr (inactiveSlot s.kpr) = 0 then .verified else .staged)
      ∧ (slotCheck s.kpr (inactiveSlot s.kpr) = 0 → Raised s 128 [] t)) ∧
  (∀ s, running s .keeper = true → s.kpr.slotState ≠ .staged →
    Completes .fwVerify s fun t => t = { s with kpr := { s.kpr with fwResult := 5 } }) ∧
  (∀ s, running s .keeper = true → s.kpr.slotState = .verified → Completes .fwSelect s fun t =>
    if s.frm.presence = false then t = { s with kpr := { s.kpr with fwResult := 3 } }
    else if holderBars s = true then t = { s with kpr := { s.kpr with fwResult := 4 } }
    else t.kpr = { s.kpr with selected := !s.kpr.running, fwResult := 0 } ∧ Raised s 128 [] t) ∧
  (∀ s, running s .keeper = true → s.kpr.slotState ≠ .empty → Completes .fwAbort s fun t =>
    t.kpr.slotState = .empty ∧ t.kpr.fwResult = 0 ∧ fwSlot t.kpr (inactiveSlot s.kpr) = []
      ∧ fwSlot t.kpr s.kpr.running = fwSlot s.kpr s.kpr.running) ∧
  (∀ s, running s .keeper = true → s.kpr.fallback = false → Completes .raiseSvn s fun t =>
    if s.frm.presence = false then t = { s with kpr := { s.kpr with fwResult := 3 } }
    else t.kpr = { s.kpr with minSvn := Nat.max s.kpr.minSvn s.kpr.svn, fwResult := 0 } ∧ Raised s 128 [] t) ∧
  (∀ n rpm s, Completes (.fanSlow n rpm) s fun t =>
    tget 0 t.kpr.fanSpeed n.val = rpm.toNat
      ∧ (rpm.toNat < tget 0 s.kpr.fanMin n.val → running s .keeper = true → Raised s 133 [] t)) ∧
  (∀ mv s, Completes (.voltageSample mv) s fun t =>
    ∀ k v, k < 16 → mv[k]? = some v → tget 0 t.kpr.vsense k = v % 65536
      ∧ ∀ lo hi, voltRange s.rst.vset k = some (lo, hi) → v < lo ∨ hi < v →
          t.kpr.vOut.testBit k = true ∧ (s.kpr.vOut.testBit k = false → running s .keeper = true → Raised s 134 [] t)) ∧
  (∀ s, s.rst.phase = 9 → s.rst.asserted = false → s.rst.brace = .idle → s.kpr.smoke = .run → running s .keeper = true →
    Completes .smokeRequest s fun t => t.kpr.smoke = .requested ∧ t.kpr.smokePin = true ∧ t.pins.freezeLow = true ∧ Raised s 135 [] t) ∧
  (∀ s, s.kpr.smoke = .requested → running s .keeper = true → sending s = false ∨ partnerHas s (fun w => w.fit && !w.gone) = false →
    Completes .smokeWaitSafe s fun t =>
      t.kpr.smoke = .waitSafe ∧ t.kpr.smokeSince = s.now ∧ t.kpr.sealedA = s.kpr.sealedA ++ [sealedOf 5 []]
        ∧ t.kpr.sealedB = s.kpr.sealedB ++ [sealedOf 5 []] ∧ Raised s 135 [] t) ∧
  (∀ s, s.kpr.smoke = .waitSafe → s.saf.smokeSafe = true → running s .keeper = true → Completes .smokeFrozen s fun t =>
    t.kpr.smoke = .frozen ∧ (∀ n : Fin 128, (ceOf s n.val).st = .run ∨ (ceOf s n.val).st = .idle → (ceOf t n.val).haltReq.testBit 3 = true)
      ∧ (∀ n : Fin 128, (ceOf s n.val).st = .halt → (ceOf t n.val).hsrc.testBit 3 = true) ∧ Raised s 135 [] t) ∧
  (∀ s, s.kpr.smoke = .frozen → running s .keeper = true → Completes .smokeThaw s fun t =>
    (t.kpr.smoke = .thawing ∨ t.kpr.smoke = .run) ∧ t.kpr.smokePin = false ∧ t.pins.freezeLow = false
      ∧ t.kpr.sealedA = s.kpr.sealedA ++ [sealedOf 6 []] ∧ t.kpr.sealedB = s.kpr.sealedB ++ [sealedOf 6 []]
      ∧ (∀ n : Fin 128, (ceOf s n.val).st = .halt → (ceOf s n.val).hsrc = 8 → (ceOf t n.val).st = (ceOf s n.val).prev)
      ∧ Raised s 135 [] t)

/-- The management service (R524 to R527, R123): a known, authenticated client gets a session; a request is answered with its values, or
with the STATUS of what it lacks: right, length, state, presence; staged bytes go to the bank set or slot that is STAGING; requests behind
one that awaits the safety dies wait their turn. -/
def Obligations.ManagementRequests : Prop :=
  (∀ port fp s e n, running s .keeper = true → s.img.network.access.find? (fun e => decide (e.fingerprint = fp)) = some e →
    (List.range 8).find? (fun n => !(session s n).isOpen) = some n → Completes (.mgmtConnect port fp true) s fun t =>
      t = putSession s n { isOpen := true, port := port, rights := e.rights, tenant := e.tenant }) ∧
  (∀ port fp auth s, running s .keeper = true → s.img.network.access.find? (fun e => decide (e.fingerprint = fp)) = none →
    Completes (.mgmtConnect port fp auth) s fun t => t.kpr.sessions = s.kpr.sessions ∧ Raised s 130 [] t) ∧
  (∀ n tag addr len s vs st, sessionFree s n.val = true → 1 ≤ len → len ≤ 256 →
    (wordAddrs addr len).all (mayRead (session s n.val).rights) = true →
    (readWords (.session n) (wordAddrs addr len) s).1 = .answered st vs →
      Completes (.mgmtRead n tag addr len) s fun t => (session t n.val).answer = some { tag := tag, status := st, data := vs }) ∧
  (∀ n tag addr data s vs st, sessionFree s n.val = true → 1 ≤ data.length → data.length ≤ 256 →
    (wordAddrs addr data.length).all (mayWrite (session s n.val).rights) = true →
    (writeWords (.session n) ((wordAddrs addr data.length).zip data) s).1 = .answered st vs →
      Completes (.mgmtWrite n tag addr data) s fun t => (session t n.val).answer = some { tag := tag, status := st, data := vs }) ∧
  (∀ n tag addr len s, sessionFree s n.val = true → 1 ≤ len → len ≤ 256 →
    (wordAddrs addr len).all (mayRead (session s n.val).rights) = false → Completes (.mgmtRead n tag addr len) s fun t =>
      (session t n.val).answer = some { tag := tag, status := 1, data := [] } ∧ (running s .keeper = true → Raised s 131 [] t)) ∧
  (∀ n tag off data s, sessionFree s n.val = true → (session s n.val).rights.testBit 2 = true → data.length ≤ 65536 →
    s.frm.setState = .staging → s.kpr.slotState ≠ .staging → setFetched s (!s.frm.activeSet) = false →
      off + data.length ≤ 134217728 → Completes (.mgmtStage n tag off data) s fun t =>
      (session t n.val).answer = some { tag := tag, status := 0, data := [] } ∧ t.frm.stageGot = s.frm.stageGot + data.length
        ∧ bankBytes t.frm (!s.frm.activeSet) = writeBytes (bankBytes s.frm (!s.frm.activeSet)) off data
        ∧ bankBytes t.frm s.frm.activeSet = bankBytes s.frm s.frm.activeSet) ∧
  (∀ n tag off data s, sessionFree s n.val = true → (session s n.val).rights.testBit 2 = true → data.length ≤ 65536 →
    s.frm.setState ≠ .staging → s.kpr.slotState = .staging → off + data.length ≤ 15728640 → Completes (.mgmtStage n tag off data) s fun t =>
      (session t n.val).answer = some { tag := tag, status := 0, data := [] } ∧ t.kpr.fwGot = s.kpr.fwGot + data.length
        ∧ fwSlot t.kpr (inactiveSlot s.kpr) = writeBytes (fwSlot s.kpr (inactiveSlot s.kpr)) off data) ∧
  (∀ n tag (which : Fin 3) (code : BitVec 8) payload s, sessionFree s n.val = true → (session s n.val).rights.testBit 3 = true →
    payload.length ≤ 1048576 → Completes (.mgmtSealed n tag which code payload) s fun t =>
      t.kpr = { s.kpr with
        relays := s.kpr.relays ++ [{
          session := some n.val
          tag := tag
          toA := decide (which.val ≠ 1)
          toB := decide (which.val ≠ 0)
          answers := [] }]
        sealedA := (if which.val ≠ 1 then s.kpr.sealedA ++ [sealedOf code.toNat payload] else s.kpr.sealedA)
        sealedB := (if which.val ≠ 0 then s.kpr.sealedB ++ [sealedOf code.toNat payload] else s.kpr.sealedB) }) ∧
  (∀ n tag (first : Word) s, sessionFree s n.val = true → (session s n.val).rights.testBit 0 = true →
    Completes (.mgmtRecords n tag first 1) s fun t =>
      t = answer n.val tag 0 (match tget none s.evr.slots first.toNat with
        | some r => recordWords r
        | none => List.replicate 64 0) s) ∧
  (∀ n tag enrol slot key sig s, sessionFree s n.val = true → (session s n.val).rights.testBit 2 = true → s.frm.tamper = false →
    s.frm.log.length < 16384 → s.frm.presence = false → Completes (.mgmtKey n tag enrol slot key sig) s fun t =>
      (session t n.val).answer = some { tag := tag, status := 5, data := [] } ∧ t.frm.key0 = s.frm.key0 ∧ t.frm.key1 = s.frm.key1
        ∧ t.frm.refuse = 11) ∧
  (∀ n tag key sig s, sessionFree s n.val = true → (session s n.val).rights.testBit 2 = true → s.frm.presence = true →
    s.frm.tamper = false → s.frm.log.length < 16384 → s.frm.key0 = none → s.frm.key1 = none →
    Completes (.mgmtKey n tag true 0 key sig) s fun t =>
      t.frm.key0 = some key ∧ t.frm.key1 = none ∧ (running s .keeper = true → Raised s 74 [] t)) ∧
  (∀ n tag off data code which payload enrol slot key sig s, sessionFree s n.val = true → (session s n.val).rights = 0 →
    ∀ c ∈ ([.mgmtStage n tag off data, .mgmtSealed n tag which code payload, .mgmtRecords n tag 0 1,
        .mgmtKey n tag enrol slot key sig] : List Instr),
      Completes c s fun t => t = answer n.val tag 1 [] (raise 131 [] s)) ∧
  (∀ (n : Fin 8) tag first count s, (session s n.val).isOpen = true → awaitsSealed s n.val = true →
    Completes (.mgmtRecords n tag first count) s fun t => t = putSession s n.val { session s n.val with
      waiting := (session s n.val).waiting ++ [.records tag first count] })

/-- Sealed answers, the calendar and the debug port (R527, R529 to R531, R540, R541, R548): a die's answer closes the relay that waits for
it; the calendar counts, follows a locked timebase, or takes or rejects a pending SET, one more being held and a further one counted; the
debug port's instructions have their effect with AUTH and presence. -/
def Obligations.SealedLinesCalendarAndDebug : Prop :=
  (∀ n tag code res log rest s, s.kpr.relays = [{ session := some n, tag := tag, toA := true, toB := false, answers := [] }] →
    s.safA.answers = (code, res, log) :: rest → running s .keeper = true → Completes (.sealedAnswer .a) s fun t =>
      t.kpr.relays = [] ∧ t.safA.answers = rest ∧ Raised s 132 [regOf [(23, 16, res), (15, 8, code + 0x80), (7, 0, 0)]] t
        ∧ ((session s n).isOpen = true → ∃ d, (session t n).answer = some { tag := tag, status := 0, data := d } ∧ d.length = 9)) ∧
  (∀ s, s.kpr.calResult ≠ 15 → s.tmb.locked = false → s.tmb.source ≠ 0 ∨ s.tmb.offset = 0 → s.kpr.calSec + 1 < calLast →
    Completes .rtcSecond s fun t => t = { s with kpr := { s.kpr with calSec := s.kpr.calSec + 1, calEnd := false } }) ∧
  (∀ s, s.kpr.calResult ≠ 15 → s.tmb.locked = true → s.tmb.running = true → devTime s / 1000000000 < calLast →
    Completes .rtcSecond s fun t =>
      t.kpr = { s.kpr with calSec := devTime s / 1000000000, calEnd := false, calValid := true }) ∧
  (∀ s, s.kpr.calResult = 15 → s.kpr.calHeld = none → calRejects s.kpr.stageDate s.kpr.stageTime = true → s.tmb.locked = false →
    Completes .rtcSecond s fun t =>
      t.kpr = { s.kpr with
        calResult := 1
        calSec := Nat.min calLast (s.kpr.calSec + 1)
        calEnd := decide (calLast ≤ s.kpr.calSec + 1) }
        ∧ (running s .keeper = true → Raised t 3589 [] t)) ∧
  (∀ s, s.kpr.calResult = 15 → s.kpr.calHeld = none → calRejects s.kpr.stageDate s.kpr.stageTime = false →
    Completes .rtcSecond s fun t =>
      t.kpr.calResult = 0 ∧ t.kpr.calValid = true ∧ t.kpr.calSec = Nat.min calLast (calSeconds (fld s.kpr.stageDate 24 16)
        (fld s.kpr.stageDate 11 8) (fld s.kpr.stageDate 4 0) (fld s.kpr.stageTime 20 16) (fld s.kpr.stageTime 13 8) (fld s.kpr.stageTime 5 0))
      ∧ (s.tmb.running = true → s.tmb.source = 0 ∨ s.tmb.source = 3 →
        t.tmb.offset = ((t.kpr.calSec * 1000000000 : Nat) : Int) - (devTime s : Int))
      ∧ (running s .keeper = true → Raised s 3588 [] t)) ∧
  (∀ req s, running s .keeper = true → waitsBehind s req = false → s.kpr.calResult ≠ 15 → Completes (.calendarSet req) s fun t =>
    t = { s with kpr := { s.kpr with
      calResult := (if (s.tmb.source = 1 ∨ s.tmb.source = 2) ∧ s.tmb.locked = true then 2 else 15) } }) ∧
  (∀ req s, running s .keeper = true → waitsBehind s req = false → s.kpr.calResult = 15 → s.kpr.calHeld = none →
    Completes (.calendarSet req) s fun t => t = { s with kpr := { s.kpr with calHeld := some req } }) ∧
  (∀ req r s, running s .keeper = true → waitsBehind s req = false → s.kpr.calResult = 15 → s.kpr.calHeld = some r →
    Completes (.calendarSet req) s fun t => t = badAccess req 3 0x15000028 s) ∧
  (∀ tdi s, Completes (.dbgBypass tdi) s fun t =>
    t.kpr.dbgOut = [wordN (b2n s.kpr.dbgBypass)] ∧ t.kpr.dbgBypass = tdi ∧ t.kpr.dbgInstr = .bypass) ∧
  (∀ s, Completes .dbgIdcode s fun t => t = { s with kpr := { s.kpr with dbgInstr := .idcode, dbgOut := [0x11FC0F4B] } }) ∧
  (∀ cap pre s, Completes (.dbgSamplePreload cap pre) s fun t =>
    t.kpr.dbgCells = cap ∧ t.kpr.dbgPreload = pre ∧ t.kpr.dbgDrives = false) ∧
  (∀ s, Completes .dbgExtest s fun t =>
    if s.frm.presence = true ∧ (∀ x ∈ islandDies, s.dies.get x = .inReset) then t.kpr.dbgDrives = true ∧ t.kpr.dbgInstr = .extest
    else t = s) ∧
  (∀ ans s, Completes (.dbgAuth ans) s fun t =>
    t.kpr.dbgAuth = (enrolledKeys s.frm).any (fun k => ecdsaP384 k (Config.challenge s.kpr.dbgChallenge) ans)
      ∧ t.kpr.dbgChallenge = s.kpr.dbgChallenge + 1 ∧ (t.kpr.dbgAuth = false → running s .keeper = true → Raised s 136 [] t)) ∧
  (∀ slot image s, s.kpr.noFirmware = true → s.frm.presence = true → Completes (.dbgBootload slot image) s fun t =>
    fwSlot t.kpr slot = writeBytes [] 0 (image.take 15728640) ∧ fwSlot t.kpr (!slot) = fwSlot s.kpr (!slot)) ∧
  (∀ n k s, s.kpr.dbgAuth = true → running s .keeper = true → (ceOf s n.val).st = .halt → Completes (.dbgAccess (.ceReg n k)) s fun t =>
    t.kpr.dbgOut = [greg (ceOf s n.val) k.val]) ∧
  (∀ (id : Fin 262144) (k : Fin 16) s, s.kpr.dbgAuth = true → running s .keeper = true → Completes (.dbgAccess (.sliceSram id k)) s fun t =>
    t.kpr.dbgOut = (if s.kpr.smoke = .frozen then [pword (pointOf s id.val) k.val] else [])) ∧
  (∀ a s, s.kpr.dbgAuth = true → running s .keeper = true → windowOf a ≠ some 12 → (ctlRead .debug a s).1 = .ok →
    Completes (.dbgAccess (.read a)) s fun t => t.kpr.dbgOut = [(ctlRead .debug a s).2.1]) ∧
  (∀ op s, s.kpr.dbgAuth = false → Completes (.dbgAccess op) s fun t =>
    t = { s with kpr := { s.kpr with dbgInstr := .access, dbgOut := [] } })
end

