-- ==== Sys2Proof/Laws/Memory.lean ====
section
/-! SUPPORT. Tables and byte memories: a read after a write, and the canonical form that every write keeps. -/
namespace Sys2Proof.Machine

theorem tget_terase_self {α : Type} (d : α) (t : Tab α) (k : Nat) : tget d (terase k t) k = d := by
  induction t with
  | nil => rfl
  | cons e t ih =>
    obtain ⟨j, a⟩ := e
    by_cases h : j = k
    · simpa [terase, List.filter_cons, h] using ih
    · simpa [terase, List.filter_cons, h, tget] using ih

theorem tget_terase_ne {α : Type} (d : α) (t : Tab α) {j k : Nat} (h : j ≠ k) : tget d (terase k t) j = tget d t j := by
  induction t with
  | nil => rfl
  | cons e t ih =>
    obtain ⟨i, a⟩ := e
    by_cases hk : i = k
    · have : i ≠ j := fun hj => h (hj.symm.trans hk)
      simpa [terase, List.filter_cons, hk, tget, Ne.symm h] using ih
    · have hc : terase k ((i, a) :: t) = (i, a) :: terase k t := by simp [terase, hk]
      rw [hc, tget, tget, ih]

theorem tget_tinsert {α : Type} (d : α) (t : Tab α) (k : Nat) (v : α) (h : ∀ e ∈ t, e.1 ≠ k) (j : Nat) :
    tget d (tinsert k v t) j = if j = k then v else tget d t j := by
  induction t with
  | nil => simp [tinsert, tget, eq_comm]
  | cons e t ih =>
    obtain ⟨i, a⟩ := e
    have hi : i ≠ k := h (i, a) (by simp)
    have ht : ∀ e ∈ t, e.1 ≠ k := fun e he => h e (by simp [he])
    rw [tinsert]
    split
    · simp [tget, eq_comm]
    · rw [tget, ih ht, tget]
      by_cases hij : i = j
      · subst hij; simp [hi]
      · simp [hij]

/-- A table read after one entry is written. -/
@[simp] theorem tget_tset {α : Type} [DecidableEq α] (d : α) (t : Tab α) (k : Nat) (v : α) (j : Nat) :
    tget d (tset d t k v) j = if j = k then v else tget d t j := by
  rw [tset]
  split
  · next hv =>
    by_cases h : j = k
    · rw [if_pos h, h, tget_terase_self, hv]
    · rw [if_neg h, tget_terase_ne d t h]
  · rw [tget_tinsert]
    · by_cases h : j = k
      · simp [h]
      · simp [h, tget_terase_ne d t h]
    · intro e he
      simpa [terase] using (List.mem_filter.mp he).2

theorem tget_tset_self {α : Type} [DecidableEq α] (d : α) (t : Tab α) (k : Nat) (v : α) : tget d (tset d t k v) k = v := by simp

theorem tget_tset_ne {α : Type} [DecidableEq α] (d : α) (t : Tab α) (k : Nat) (v : α) {j : Nat} (h : j ≠ k) :
    tget d (tset d t k v) j = tget d t j := by simp [h]

/-! ## The canonical form -/

/-- The canonical form, entry by entry: keys above a bound, rising, and no default listed. -/
theorem twf_cons {α : Type} [DecidableEq α] (d : α) (k : Nat) (a : α) (t : Tab α) :
    twf d ((k, a) :: t) = true ↔ a ≠ d ∧ (∀ e ∈ t.head?, k < e.1) ∧ twf d t = true := by
  cases t with
  | nil => simp [twf]
  | cons e t => obtain ⟨j, b⟩ := e; simp [twf, and_assoc]

theorem twf_above {α : Type} [DecidableEq α] (d : α) (t : Tab α) (k : Nat) (a : α) (h : twf d ((k, a) :: t) = true) :
    ∀ e ∈ t, k < e.1 := by
  induction t generalizing k a with
  | nil => simp
  | cons e t ih =>
    obtain ⟨j, b⟩ := e
    have h1 := (twf_cons d k a _).mp h
    have hj : k < j := h1.2.1 (j, b) (by simp)
    intro e he
    rcases List.mem_cons.mp he with rfl | he
    · exact hj
    · exact Nat.lt_trans hj (ih j b h1.2.2 e he)

theorem twf_terase {α : Type} [DecidableEq α] (d : α) (t : Tab α) (k : Nat) (h : twf d t = true) : twf d (terase k t) = true := by
  induction t with
  | nil => rfl
  | cons e t ih =>
    obtain ⟨j, a⟩ := e
    have h1 := (twf_cons d j a t).mp h
    have ht := ih h1.2.2
    by_cases hj : j = k
    · simpa [terase, List.filter_cons, hj] using ht
    · have hc : terase k ((j, a) :: t) = (j, a) :: terase k t := by simp [terase, hj]
      rw [hc, twf_cons]
      refine ⟨h1.1, ?_, ht⟩
      intro e he
      have hm : e ∈ terase k t := List.mem_of_head? he
      exact twf_above d t j a h e (List.mem_filter.mp hm).1

theorem head_tinsert {α : Type} (k : Nat) (v : α) (t : Tab α) :
    (tinsert k v t).head? = some (k, v) ∨ (tinsert k v t).head? = t.head? := by
  cases t with
  | nil => simp [tinsert]
  | cons e t =>
    obtain ⟨j, a⟩ := e
    rw [tinsert]
    split
    · simp
    · split <;> simp

theorem twf_tinsert {α : Type} [DecidableEq α] (d : α) (t : Tab α) (k : Nat) (v : α) (hv : v ≠ d) (h : twf d t = true) :
    twf d (tinsert k v t) = true := by
  induction t with
  | nil => simp [tinsert, twf, hv]
  | cons e t ih =>
    obtain ⟨j, a⟩ := e
    have h1 := (twf_cons d j a t).mp h
    rw [tinsert]
    split
    · next hk => rw [twf_cons]; exact ⟨hv, by simpa using hk, h⟩
    · next hk =>
      split
      · next hjk => subst hjk; rw [twf_cons]; exact ⟨hv, h1.2.1, h1.2.2⟩
      · next hjk =>
        rw [twf_cons]
        refine ⟨h1.1, ?_, ih h1.2.2⟩
        intro e he
        rcases head_tinsert k v t with h2 | h2
        · rw [h2] at he
          have : e = (k, v) := by simpa using he.symm
          subst this; simp only; omega
        · rw [h2] at he; exact h1.2.1 e he

/-- A write keeps the canonical form. -/
theorem twf_tset {α : Type} [DecidableEq α] (d : α) (t : Tab α) (k : Nat) (v : α) (h : twf d t = true) :
    twf d (tset d t k v) = true := by
  rw [tset]
  split
  · exact twf_terase d t k h
  · next hv => exact twf_tinsert d _ k v hv (twf_terase d t k h)

/-! ## Runs of bytes -/

/-- A run of bytes stored keeps the canonical form. -/
theorem twf_writeBytes (m : Tab Byte) (a : Nat) (bs : List Byte) (h : twf 0 m = true) : twf 0 (writeBytes m a bs) = true := by
  induction bs generalizing m a with
  | nil => exact h
  | cons b bs ih => exact ih _ _ (twf_tset 0 m a b h)

/-- A byte outside the run stored reads as before. -/
theorem tget_writeBytes_outside (m : Tab Byte) (a : Nat) (bs : List Byte) (x : Nat) (h : x < a ∨ a + bs.length ≤ x) :
    tget 0 (writeBytes m a bs) x = tget 0 m x := by
  induction bs generalizing m a with
  | nil => rfl
  | cons b bs ih =>
    simp only [List.length_cons] at h
    rw [writeBytes, ih _ _ (by omega), tget_tset, if_neg (by omega)]

/-- A byte of the run reads as stored. -/
theorem tget_writeBytes_inside (m : Tab Byte) (a : Nat) (bs : List Byte) (k : Nat) (h : k < bs.length) :
    tget 0 (writeBytes m a bs) (a + k) = bs.getD k 0 := by
  induction bs generalizing m a k with
  | nil => simp at h
  | cons b bs ih =>
    rw [writeBytes]
    cases k with
    | zero => rw [tget_writeBytes_outside _ _ _ _ (by omega)]; simp
    | succ k =>
      have h2 : k < bs.length := by simpa using h
      have := ih (tset 0 m a b) (a + 1) k h2
      rw [show a + (k + 1) = a + 1 + k by omega, this]; simp

/-- What is stored is read back. -/
theorem readBytes_writeBytes (m : Tab Byte) (a : Nat) (bs : List Byte) : readBytes (writeBytes m a bs) a bs.length = bs := by
  apply List.ext_getElem
  · simp [readBytes]
  · intro i h1 h2
    have hi : i < bs.length := h2
    simp only [readBytes, List.getElem_map, List.getElem_range]
    rw [tget_writeBytes_inside m a bs i hi, List.getD_eq_getElem?_getD, List.getElem?_eq_getElem hi]; rfl

theorem leBytes_length (k n : Nat) : (leBytes k n).length = k := by
  induction k generalizing n with
  | zero => rfl
  | succ k ih => simp [leBytes, ih]

/-- Byte `i` of a number in little-endian order. -/
theorem leBytes_get (k n i : Nat) (h : i < k) : (leBytes k n).getD i 0 = BitVec.ofNat 8 (n / 256 ^ i) := by
  induction k generalizing n i with
  | zero => omega
  | succ k ih =>
    cases i with
    | zero => simp [leBytes]
    | succ i =>
      have := ih (n / 256) i (by omega)
      rw [leBytes, List.getD_cons_succ, this, Nat.div_div_eq_div_mul, Nat.pow_succ, Nat.mul_comm]

end Sys2Proof.Machine
end

