-- ==== Sys2Proof/Laws/State.lean ====
section
/-! SUPPORT. Each write of one piece of State: what it leaves, field by field, and what a read after it answers. -/
namespace Sys2Proof.Machine

/-! `putCan` writes `can`, nothing else. -/

@[simp] theorem putCan_now (s : State) (n : Nat) (x : CanChannel) : (putCan s n x).now = s.now := rfl
@[simp] theorem putCan_free (s : State) (n : Nat) (x : CanChannel) : (putCan s n x).free = s.free := rfl
@[simp] theorem putCan_ordering (s : State) (n : Nat) (x : CanChannel) : (putCan s n x).ordering = s.ordering := rfl
@[simp] theorem putCan_dies (s : State) (n : Nat) (x : CanChannel) : (putCan s n x).dies = s.dies := rfl
@[simp] theorem putCan_pins (s : State) (n : Nat) (x : CanChannel) : (putCan s n x).pins = s.pins := rfl
@[simp] theorem putCan_rst (s : State) (n : Nat) (x : CanChannel) : (putCan s n x).rst = s.rst := rfl
@[simp] theorem putCan_trs (s : State) (n : Nat) (x : CanChannel) : (putCan s n x).trs = s.trs := rfl
@[simp] theorem putCan_frm (s : State) (n : Nat) (x : CanChannel) : (putCan s n x).frm = s.frm := rfl
@[simp] theorem putCan_img (s : State) (n : Nat) (x : CanChannel) : (putCan s n x).img = s.img := rfl
@[simp] theorem putCan_kpr (s : State) (n : Nat) (x : CanChannel) : (putCan s n x).kpr = s.kpr := rfl
@[simp] theorem putCan_evt (s : State) (n : Nat) (x : CanChannel) : (putCan s n x).evt = s.evt := rfl
@[simp] theorem putCan_evr (s : State) (n : Nat) (x : CanChannel) : (putCan s n x).evr = s.evr := rfl
@[simp] theorem putCan_tmb (s : State) (n : Nat) (x : CanChannel) : (putCan s n x).tmb = s.tmb := rfl
@[simp] theorem putCan_ces (s : State) (n : Nat) (x : CanChannel) : (putCan s n x).ces = s.ces := rfl
@[simp] theorem putCan_mram (s : State) (n : Nat) (x : CanChannel) : (putCan s n x).mram = s.mram := rfl
@[simp] theorem putCan_areaA (s : State) (n : Nat) (x : CanChannel) : (putCan s n x).areaA = s.areaA := rfl
@[simp] theorem putCan_areaB (s : State) (n : Nat) (x : CanChannel) : (putCan s n x).areaB = s.areaB := rfl
@[simp] theorem putCan_acq (s : State) (n : Nat) (x : CanChannel) : (putCan s n x).acq = s.acq := rfl
@[simp] theorem putCan_sto (s : State) (n : Nat) (x : CanChannel) : (putCan s n x).sto = s.sto := rfl
@[simp] theorem putCan_cmb (s : State) (n : Nat) (x : CanChannel) : (putCan s n x).cmb = s.cmb := rfl
@[simp] theorem putCan_cyc (s : State) (n : Nat) (x : CanChannel) : (putCan s n x).cyc = s.cyc := rfl
@[simp] theorem putCan_hst (s : State) (n : Nat) (x : CanChannel) : (putCan s n x).hst = s.hst := rfl
@[simp] theorem putCan_fbk (s : State) (n : Nat) (x : CanChannel) : (putCan s n x).fbk = s.fbk := rfl
@[simp] theorem putCan_dor (s : State) (n : Nat) (x : CanChannel) : (putCan s n x).dor = s.dor := rfl
@[simp] theorem putCan_dsp (s : State) (n : Nat) (x : CanChannel) : (putCan s n x).dsp = s.dsp := rfl
@[simp] theorem putCan_safA (s : State) (n : Nat) (x : CanChannel) : (putCan s n x).safA = s.safA := rfl
@[simp] theorem putCan_safB (s : State) (n : Nat) (x : CanChannel) : (putCan s n x).safB = s.safB := rfl
@[simp] theorem putCan_saf (s : State) (n : Nat) (x : CanChannel) : (putCan s n x).saf = s.saf := rfl
@[simp] theorem putCan_fio (s : State) (n : Nat) (x : CanChannel) : (putCan s n x).fio = s.fio := rfl
@[simp] theorem putCan_net (s : State) (n : Nat) (x : CanChannel) : (putCan s n x).net = s.net := rfl
@[simp] theorem putCan_pending (s : State) (n : Nat) (x : CanChannel) : (putCan s n x).pending = s.pending := rfl
@[simp] theorem canOf_putCan (s : State) (n j : Nat) (x : CanChannel) :
    canOf (putCan s n x) j = if j = n then x else canOf s j := by simp [canOf, putCan]

/-! `putCe` writes `ces`, nothing else. -/

@[simp] theorem putCe_now (s : State) (n : Nat) (c : Ce) : (putCe s n c).now = s.now := rfl
@[simp] theorem putCe_free (s : State) (n : Nat) (c : Ce) : (putCe s n c).free = s.free := rfl
@[simp] theorem putCe_ordering (s : State) (n : Nat) (c : Ce) : (putCe s n c).ordering = s.ordering := rfl
@[simp] theorem putCe_dies (s : State) (n : Nat) (c : Ce) : (putCe s n c).dies = s.dies := rfl
@[simp] theorem putCe_pins (s : State) (n : Nat) (c : Ce) : (putCe s n c).pins = s.pins := rfl
@[simp] theorem putCe_rst (s : State) (n : Nat) (c : Ce) : (putCe s n c).rst = s.rst := rfl
@[simp] theorem putCe_trs (s : State) (n : Nat) (c : Ce) : (putCe s n c).trs = s.trs := rfl
@[simp] theorem putCe_frm (s : State) (n : Nat) (c : Ce) : (putCe s n c).frm = s.frm := rfl
@[simp] theorem putCe_img (s : State) (n : Nat) (c : Ce) : (putCe s n c).img = s.img := rfl
@[simp] theorem putCe_kpr (s : State) (n : Nat) (c : Ce) : (putCe s n c).kpr = s.kpr := rfl
@[simp] theorem putCe_evt (s : State) (n : Nat) (c : Ce) : (putCe s n c).evt = s.evt := rfl
@[simp] theorem putCe_evr (s : State) (n : Nat) (c : Ce) : (putCe s n c).evr = s.evr := rfl
@[simp] theorem putCe_tmb (s : State) (n : Nat) (c : Ce) : (putCe s n c).tmb = s.tmb := rfl
@[simp] theorem putCe_mram (s : State) (n : Nat) (c : Ce) : (putCe s n c).mram = s.mram := rfl
@[simp] theorem putCe_areaA (s : State) (n : Nat) (c : Ce) : (putCe s n c).areaA = s.areaA := rfl
@[simp] theorem putCe_areaB (s : State) (n : Nat) (c : Ce) : (putCe s n c).areaB = s.areaB := rfl
@[simp] theorem putCe_acq (s : State) (n : Nat) (c : Ce) : (putCe s n c).acq = s.acq := rfl
@[simp] theorem putCe_sto (s : State) (n : Nat) (c : Ce) : (putCe s n c).sto = s.sto := rfl
@[simp] theorem putCe_cmb (s : State) (n : Nat) (c : Ce) : (putCe s n c).cmb = s.cmb := rfl
@[simp] theorem putCe_cyc (s : State) (n : Nat) (c : Ce) : (putCe s n c).cyc = s.cyc := rfl
@[simp] theorem putCe_hst (s : State) (n : Nat) (c : Ce) : (putCe s n c).hst = s.hst := rfl
@[simp] theorem putCe_fbk (s : State) (n : Nat) (c : Ce) : (putCe s n c).fbk = s.fbk := rfl
@[simp] theorem putCe_dor (s : State) (n : Nat) (c : Ce) : (putCe s n c).dor = s.dor := rfl
@[simp] theorem putCe_dsp (s : State) (n : Nat) (c : Ce) : (putCe s n c).dsp = s.dsp := rfl
@[simp] theorem putCe_safA (s : State) (n : Nat) (c : Ce) : (putCe s n c).safA = s.safA := rfl
@[simp] theorem putCe_safB (s : State) (n : Nat) (c : Ce) : (putCe s n c).safB = s.safB := rfl
@[simp] theorem putCe_saf (s : State) (n : Nat) (c : Ce) : (putCe s n c).saf = s.saf := rfl
@[simp] theorem putCe_fio (s : State) (n : Nat) (c : Ce) : (putCe s n c).fio = s.fio := rfl
@[simp] theorem putCe_can (s : State) (n : Nat) (c : Ce) : (putCe s n c).can = s.can := rfl
@[simp] theorem putCe_net (s : State) (n : Nat) (c : Ce) : (putCe s n c).net = s.net := rfl
@[simp] theorem putCe_pending (s : State) (n : Nat) (c : Ce) : (putCe s n c).pending = s.pending := rfl
@[simp] theorem ceOf_putCe (s : State) (n j : Nat) (c : Ce) :
    ceOf (putCe s n c) j = if j = n then c else ceOf s j := by simp [ceOf, putCe]

/-! `putTask` writes `cyc.tasks`, nothing else. -/

@[simp] theorem putTask_now (s : State) (t : Nat) (x : Task) : (putTask s t x).now = s.now := rfl
@[simp] theorem putTask_free (s : State) (t : Nat) (x : Task) : (putTask s t x).free = s.free := rfl
@[simp] theorem putTask_ordering (s : State) (t : Nat) (x : Task) : (putTask s t x).ordering = s.ordering := rfl
@[simp] theorem putTask_dies (s : State) (t : Nat) (x : Task) : (putTask s t x).dies = s.dies := rfl
@[simp] theorem putTask_pins (s : State) (t : Nat) (x : Task) : (putTask s t x).pins = s.pins := rfl
@[simp] theorem putTask_rst (s : State) (t : Nat) (x : Task) : (putTask s t x).rst = s.rst := rfl
@[simp] theorem putTask_trs (s : State) (t : Nat) (x : Task) : (putTask s t x).trs = s.trs := rfl
@[simp] theorem putTask_frm (s : State) (t : Nat) (x : Task) : (putTask s t x).frm = s.frm := rfl
@[simp] theorem putTask_img (s : State) (t : Nat) (x : Task) : (putTask s t x).img = s.img := rfl
@[simp] theorem putTask_kpr (s : State) (t : Nat) (x : Task) : (putTask s t x).kpr = s.kpr := rfl
@[simp] theorem putTask_evt (s : State) (t : Nat) (x : Task) : (putTask s t x).evt = s.evt := rfl
@[simp] theorem putTask_evr (s : State) (t : Nat) (x : Task) : (putTask s t x).evr = s.evr := rfl
@[simp] theorem putTask_tmb (s : State) (t : Nat) (x : Task) : (putTask s t x).tmb = s.tmb := rfl
@[simp] theorem putTask_ces (s : State) (t : Nat) (x : Task) : (putTask s t x).ces = s.ces := rfl
@[simp] theorem putTask_mram (s : State) (t : Nat) (x : Task) : (putTask s t x).mram = s.mram := rfl
@[simp] theorem putTask_areaA (s : State) (t : Nat) (x : Task) : (putTask s t x).areaA = s.areaA := rfl
@[simp] theorem putTask_areaB (s : State) (t : Nat) (x : Task) : (putTask s t x).areaB = s.areaB := rfl
@[simp] theorem putTask_acq (s : State) (t : Nat) (x : Task) : (putTask s t x).acq = s.acq := rfl
@[simp] theorem putTask_sto (s : State) (t : Nat) (x : Task) : (putTask s t x).sto = s.sto := rfl
@[simp] theorem putTask_cmb (s : State) (t : Nat) (x : Task) : (putTask s t x).cmb = s.cmb := rfl
@[simp] theorem putTask_hst (s : State) (t : Nat) (x : Task) : (putTask s t x).hst = s.hst := rfl
@[simp] theorem putTask_fbk (s : State) (t : Nat) (x : Task) : (putTask s t x).fbk = s.fbk := rfl
@[simp] theorem putTask_dor (s : State) (t : Nat) (x : Task) : (putTask s t x).dor = s.dor := rfl
@[simp] theorem putTask_dsp (s : State) (t : Nat) (x : Task) : (putTask s t x).dsp = s.dsp := rfl
@[simp] theorem putTask_safA (s : State) (t : Nat) (x : Task) : (putTask s t x).safA = s.safA := rfl
@[simp] theorem putTask_safB (s : State) (t : Nat) (x : Task) : (putTask s t x).safB = s.safB := rfl
@[simp] theorem putTask_saf (s : State) (t : Nat) (x : Task) : (putTask s t x).saf = s.saf := rfl
@[simp] theorem putTask_fio (s : State) (t : Nat) (x : Task) : (putTask s t x).fio = s.fio := rfl
@[simp] theorem putTask_can (s : State) (t : Nat) (x : Task) : (putTask s t x).can = s.can := rfl
@[simp] theorem putTask_net (s : State) (t : Nat) (x : Task) : (putTask s t x).net = s.net := rfl
@[simp] theorem putTask_pending (s : State) (t : Nat) (x : Task) : (putTask s t x).pending = s.pending := rfl
@[simp] theorem putTask_cyc_ceStacks (s : State) (t : Nat) (x : Task) : (putTask s t x).cyc.ceStacks = s.cyc.ceStacks := rfl
@[simp] theorem putTask_cyc_handover (s : State) (t : Nat) (x : Task) : (putTask s t x).cyc.handover = s.cyc.handover := rfl
@[simp] theorem putTask_cyc_timeout (s : State) (t : Nat) (x : Task) : (putTask s t x).cyc.timeout = s.cyc.timeout := rfl
@[simp] theorem putTask_cyc_next (s : State) (t : Nat) (x : Task) : (putTask s t x).cyc.next = s.cyc.next := rfl
@[simp] theorem putTask_cyc_switched (s : State) (t : Nat) (x : Task) : (putTask s t x).cyc.switched = s.cyc.switched := rfl
@[simp] theorem putTask_cyc_cmdTarget (s : State) (t : Nat) (x : Task) : (putTask s t x).cyc.cmdTarget = s.cyc.cmdTarget := rfl
@[simp] theorem putTask_cyc_cmdMask (s : State) (t : Nat) (x : Task) : (putTask s t x).cyc.cmdMask = s.cyc.cmdMask := rfl
@[simp] theorem putTask_cyc_cmdValue (s : State) (t : Nat) (x : Task) : (putTask s t x).cyc.cmdValue = s.cyc.cmdValue := rfl
@[simp] theorem putTask_cyc_result (s : State) (t : Nat) (x : Task) : (putTask s t x).cyc.result = s.cyc.result := rfl
@[simp] theorem putTask_cyc_tenant (s : State) (t : Nat) (x : Task) : (putTask s t x).cyc.tenant = s.cyc.tenant := rfl
@[simp] theorem putTask_cyc_minutes (s : State) (t : Nat) (x : Task) : (putTask s t x).cyc.minutes = s.cyc.minutes := rfl
@[simp] theorem putTask_cyc_forces (s : State) (t : Nat) (x : Task) : (putTask s t x).cyc.forces = s.cyc.forces := rfl
@[simp] theorem putTask_cyc_forceOut (s : State) (t : Nat) (x : Task) : (putTask s t x).cyc.forceOut = s.cyc.forceOut := rfl
@[simp] theorem putTask_cyc_persist (s : State) (t : Nat) (x : Task) : (putTask s t x).cyc.persist = s.cyc.persist := rfl
@[simp] theorem taskOf_putTask (s : State) (t j : Nat) (x : Task) :
    taskOf (putTask s t x) j = if j = t then x else taskOf s j := by simp [taskOf, putTask]

/-! `putStack` writes `cyc.ceStacks`, nothing else. -/

@[simp] theorem putStack_now (s : State) (n : Nat) (l : List Nat) : (putStack s n l).now = s.now := rfl
@[simp] theorem putStack_free (s : State) (n : Nat) (l : List Nat) : (putStack s n l).free = s.free := rfl
@[simp] theorem putStack_ordering (s : State) (n : Nat) (l : List Nat) : (putStack s n l).ordering = s.ordering := rfl
@[simp] theorem putStack_dies (s : State) (n : Nat) (l : List Nat) : (putStack s n l).dies = s.dies := rfl
@[simp] theorem putStack_pins (s : State) (n : Nat) (l : List Nat) : (putStack s n l).pins = s.pins := rfl
@[simp] theorem putStack_rst (s : State) (n : Nat) (l : List Nat) : (putStack s n l).rst = s.rst := rfl
@[simp] theorem putStack_trs (s : State) (n : Nat) (l : List Nat) : (putStack s n l).trs = s.trs := rfl
@[simp] theorem putStack_frm (s : State) (n : Nat) (l : List Nat) : (putStack s n l).frm = s.frm := rfl
@[simp] theorem putStack_img (s : State) (n : Nat) (l : List Nat) : (putStack s n l).img = s.img := rfl
@[simp] theorem putStack_kpr (s : State) (n : Nat) (l : List Nat) : (putStack s n l).kpr = s.kpr := rfl
@[simp] theorem putStack_evt (s : State) (n : Nat) (l : List Nat) : (putStack s n l).evt = s.evt := rfl
@[simp] theorem putStack_evr (s : State) (n : Nat) (l : List Nat) : (putStack s n l).evr = s.evr := rfl
@[simp] theorem putStack_tmb (s : State) (n : Nat) (l : List Nat) : (putStack s n l).tmb = s.tmb := rfl
@[simp] theorem putStack_ces (s : State) (n : Nat) (l : List Nat) : (putStack s n l).ces = s.ces := rfl
@[simp] theorem putStack_mram (s : State) (n : Nat) (l : List Nat) : (putStack s n l).mram = s.mram := rfl
@[simp] theorem putStack_areaA (s : State) (n : Nat) (l : List Nat) : (putStack s n l).areaA = s.areaA := rfl
@[simp] theorem putStack_areaB (s : State) (n : Nat) (l : List Nat) : (putStack s n l).areaB = s.areaB := rfl
@[simp] theorem putStack_acq (s : State) (n : Nat) (l : List Nat) : (putStack s n l).acq = s.acq := rfl
@[simp] theorem putStack_sto (s : State) (n : Nat) (l : List Nat) : (putStack s n l).sto = s.sto := rfl
@[simp] theorem putStack_cmb (s : State) (n : Nat) (l : List Nat) : (putStack s n l).cmb = s.cmb := rfl
@[simp] theorem putStack_hst (s : State) (n : Nat) (l : List Nat) : (putStack s n l).hst = s.hst := rfl
@[simp] theorem putStack_fbk (s : State) (n : Nat) (l : List Nat) : (putStack s n l).fbk = s.fbk := rfl
@[simp] theorem putStack_dor (s : State) (n : Nat) (l : List Nat) : (putStack s n l).dor = s.dor := rfl
@[simp] theorem putStack_dsp (s : State) (n : Nat) (l : List Nat) : (putStack s n l).dsp = s.dsp := rfl
@[simp] theorem putStack_safA (s : State) (n : Nat) (l : List Nat) : (putStack s n l).safA = s.safA := rfl
@[simp] theorem putStack_safB (s : State) (n : Nat) (l : List Nat) : (putStack s n l).safB = s.safB := rfl
@[simp] theorem putStack_saf (s : State) (n : Nat) (l : List Nat) : (putStack s n l).saf = s.saf := rfl
@[simp] theorem putStack_fio (s : State) (n : Nat) (l : List Nat) : (putStack s n l).fio = s.fio := rfl
@[simp] theorem putStack_can (s : State) (n : Nat) (l : List Nat) : (putStack s n l).can = s.can := rfl
@[simp] theorem putStack_net (s : State) (n : Nat) (l : List Nat) : (putStack s n l).net = s.net := rfl
@[simp] theorem putStack_pending (s : State) (n : Nat) (l : List Nat) : (putStack s n l).pending = s.pending := rfl
@[simp] theorem putStack_cyc_tasks (s : State) (n : Nat) (l : List Nat) : (putStack s n l).cyc.tasks = s.cyc.tasks := rfl
@[simp] theorem putStack_cyc_handover (s : State) (n : Nat) (l : List Nat) : (putStack s n l).cyc.handover = s.cyc.handover := rfl
@[simp] theorem putStack_cyc_timeout (s : State) (n : Nat) (l : List Nat) : (putStack s n l).cyc.timeout = s.cyc.timeout := rfl
@[simp] theorem putStack_cyc_next (s : State) (n : Nat) (l : List Nat) : (putStack s n l).cyc.next = s.cyc.next := rfl
@[simp] theorem putStack_cyc_switched (s : State) (n : Nat) (l : List Nat) : (putStack s n l).cyc.switched = s.cyc.switched := rfl
@[simp] theorem putStack_cyc_cmdTarget (s : State) (n : Nat) (l : List Nat) : (putStack s n l).cyc.cmdTarget = s.cyc.cmdTarget := rfl
@[simp] theorem putStack_cyc_cmdMask (s : State) (n : Nat) (l : List Nat) : (putStack s n l).cyc.cmdMask = s.cyc.cmdMask := rfl
@[simp] theorem putStack_cyc_cmdValue (s : State) (n : Nat) (l : List Nat) : (putStack s n l).cyc.cmdValue = s.cyc.cmdValue := rfl
@[simp] theorem putStack_cyc_result (s : State) (n : Nat) (l : List Nat) : (putStack s n l).cyc.result = s.cyc.result := rfl
@[simp] theorem putStack_cyc_tenant (s : State) (n : Nat) (l : List Nat) : (putStack s n l).cyc.tenant = s.cyc.tenant := rfl
@[simp] theorem putStack_cyc_minutes (s : State) (n : Nat) (l : List Nat) : (putStack s n l).cyc.minutes = s.cyc.minutes := rfl
@[simp] theorem putStack_cyc_forces (s : State) (n : Nat) (l : List Nat) : (putStack s n l).cyc.forces = s.cyc.forces := rfl
@[simp] theorem putStack_cyc_forceOut (s : State) (n : Nat) (l : List Nat) : (putStack s n l).cyc.forceOut = s.cyc.forceOut := rfl
@[simp] theorem putStack_cyc_persist (s : State) (n : Nat) (l : List Nat) : (putStack s n l).cyc.persist = s.cyc.persist := rfl
@[simp] theorem stackOf_putStack (s : State) (n j : Nat) (l : List Nat) :
    stackOf (putStack s n l) j = if j = n then l else stackOf s j := by simp [stackOf, putStack]

/-! `putPoint` writes `cmb.points`, nothing else. -/

@[simp] theorem putPoint_now (s : State) (id : Nat) (p : Point) : (putPoint s id p).now = s.now := rfl
@[simp] theorem putPoint_free (s : State) (id : Nat) (p : Point) : (putPoint s id p).free = s.free := rfl
@[simp] theorem putPoint_ordering (s : State) (id : Nat) (p : Point) : (putPoint s id p).ordering = s.ordering := rfl
@[simp] theorem putPoint_dies (s : State) (id : Nat) (p : Point) : (putPoint s id p).dies = s.dies := rfl
@[simp] theorem putPoint_pins (s : State) (id : Nat) (p : Point) : (putPoint s id p).pins = s.pins := rfl
@[simp] theorem putPoint_rst (s : State) (id : Nat) (p : Point) : (putPoint s id p).rst = s.rst := rfl
@[simp] theorem putPoint_trs (s : State) (id : Nat) (p : Point) : (putPoint s id p).trs = s.trs := rfl
@[simp] theorem putPoint_frm (s : State) (id : Nat) (p : Point) : (putPoint s id p).frm = s.frm := rfl
@[simp] theorem putPoint_img (s : State) (id : Nat) (p : Point) : (putPoint s id p).img = s.img := rfl
@[simp] theorem putPoint_kpr (s : State) (id : Nat) (p : Point) : (putPoint s id p).kpr = s.kpr := rfl
@[simp] theorem putPoint_evt (s : State) (id : Nat) (p : Point) : (putPoint s id p).evt = s.evt := rfl
@[simp] theorem putPoint_evr (s : State) (id : Nat) (p : Point) : (putPoint s id p).evr = s.evr := rfl
@[simp] theorem putPoint_tmb (s : State) (id : Nat) (p : Point) : (putPoint s id p).tmb = s.tmb := rfl
@[simp] theorem putPoint_ces (s : State) (id : Nat) (p : Point) : (putPoint s id p).ces = s.ces := rfl
@[simp] theorem putPoint_mram (s : State) (id : Nat) (p : Point) : (putPoint s id p).mram = s.mram := rfl
@[simp] theorem putPoint_areaA (s : State) (id : Nat) (p : Point) : (putPoint s id p).areaA = s.areaA := rfl
@[simp] theorem putPoint_areaB (s : State) (id : Nat) (p : Point) : (putPoint s id p).areaB = s.areaB := rfl
@[simp] theorem putPoint_acq (s : State) (id : Nat) (p : Point) : (putPoint s id p).acq = s.acq := rfl
@[simp] theorem putPoint_sto (s : State) (id : Nat) (p : Point) : (putPoint s id p).sto = s.sto := rfl
@[simp] theorem putPoint_cyc (s : State) (id : Nat) (p : Point) : (putPoint s id p).cyc = s.cyc := rfl
@[simp] theorem putPoint_hst (s : State) (id : Nat) (p : Point) : (putPoint s id p).hst = s.hst := rfl
@[simp] theorem putPoint_fbk (s : State) (id : Nat) (p : Point) : (putPoint s id p).fbk = s.fbk := rfl
@[simp] theorem putPoint_dor (s : State) (id : Nat) (p : Point) : (putPoint s id p).dor = s.dor := rfl
@[simp] theorem putPoint_dsp (s : State) (id : Nat) (p : Point) : (putPoint s id p).dsp = s.dsp := rfl
@[simp] theorem putPoint_safA (s : State) (id : Nat) (p : Point) : (putPoint s id p).safA = s.safA := rfl
@[simp] theorem putPoint_safB (s : State) (id : Nat) (p : Point) : (putPoint s id p).safB = s.safB := rfl
@[simp] theorem putPoint_saf (s : State) (id : Nat) (p : Point) : (putPoint s id p).saf = s.saf := rfl
@[simp] theorem putPoint_fio (s : State) (id : Nat) (p : Point) : (putPoint s id p).fio = s.fio := rfl
@[simp] theorem putPoint_can (s : State) (id : Nat) (p : Point) : (putPoint s id p).can = s.can := rfl
@[simp] theorem putPoint_net (s : State) (id : Nat) (p : Point) : (putPoint s id p).net = s.net := rfl
@[simp] theorem putPoint_pending (s : State) (id : Nat) (p : Point) : (putPoint s id p).pending = s.pending := rfl
@[simp] theorem putPoint_cmb_mirA (s : State) (id : Nat) (p : Point) : (putPoint s id p).cmb.mirA = s.cmb.mirA := rfl
@[simp] theorem putPoint_cmb_mirB (s : State) (id : Nat) (p : Point) : (putPoint s id p).cmb.mirB = s.cmb.mirB := rfl
@[simp] theorem putPoint_cmb_mirDigest (s : State) (id : Nat) (p : Point) : (putPoint s id p).cmb.mirDigest = s.cmb.mirDigest := rfl
@[simp] theorem putPoint_cmb_loaded (s : State) (id : Nat) (p : Point) : (putPoint s id p).cmb.loaded = s.cmb.loaded := rfl
@[simp] theorem putPoint_cmb_lateA (s : State) (id : Nat) (p : Point) : (putPoint s id p).cmb.lateA = s.cmb.lateA := rfl
@[simp] theorem putPoint_cmb_lateB (s : State) (id : Nat) (p : Point) : (putPoint s id p).cmb.lateB = s.cmb.lateB := rfl
@[simp] theorem putPoint_cmb_accId (s : State) (id : Nat) (p : Point) : (putPoint s id p).cmb.accId = s.cmb.accId := rfl
@[simp] theorem putPoint_cmb_accWord (s : State) (id : Nat) (p : Point) : (putPoint s id p).cmb.accWord = s.cmb.accWord := rfl
@[simp] theorem putPoint_cmb_accPrio (s : State) (id : Nat) (p : Point) : (putPoint s id p).cmb.accPrio = s.cmb.accPrio := rfl
@[simp] theorem putPoint_cmb_accResult (s : State) (id : Nat) (p : Point) : (putPoint s id p).cmb.accResult = s.cmb.accResult := rfl
@[simp] theorem putPoint_cmb_accTenant (s : State) (id : Nat) (p : Point) : (putPoint s id p).cmb.accTenant = s.cmb.accTenant := rfl
@[simp] theorem putPoint_cmb_accData (s : State) (id : Nat) (p : Point) : (putPoint s id p).cmb.accData = s.cmb.accData := rfl
@[simp] theorem putPoint_cmb_window (s : State) (id : Nat) (p : Point) : (putPoint s id p).cmb.window = s.cmb.window := rfl
@[simp] theorem putPoint_cmb_denyCount (s : State) (id : Nat) (p : Point) : (putPoint s id p).cmb.denyCount = s.cmb.denyCount := rfl
@[simp] theorem putPoint_cmb_denyKind (s : State) (id : Nat) (p : Point) : (putPoint s id p).cmb.denyKind = s.cmb.denyKind := rfl
@[simp] theorem putPoint_cmb_denyTenant (s : State) (id : Nat) (p : Point) : (putPoint s id p).cmb.denyTenant = s.cmb.denyTenant := rfl
@[simp] theorem putPoint_cmb_denyId (s : State) (id : Nat) (p : Point) : (putPoint s id p).cmb.denyId = s.cmb.denyId := rfl
@[simp] theorem putPoint_cmb_lost (s : State) (id : Nat) (p : Point) : (putPoint s id p).cmb.lost = s.cmb.lost := rfl
@[simp] theorem putPoint_cmb_repaired (s : State) (id : Nat) (p : Point) : (putPoint s id p).cmb.repaired = s.cmb.repaired := rfl
@[simp] theorem putPoint_cmb_limit (s : State) (id : Nat) (p : Point) : (putPoint s id p).cmb.limit = s.cmb.limit := rfl
@[simp] theorem putPoint_cmb_level (s : State) (id : Nat) (p : Point) : (putPoint s id p).cmb.level = s.cmb.level := rfl
@[simp] theorem putPoint_cmb_forecast (s : State) (id : Nat) (p : Point) : (putPoint s id p).cmb.forecast = s.cmb.forecast := rfl
@[simp] theorem putPoint_cmb_meter0 (s : State) (id : Nat) (p : Point) : (putPoint s id p).cmb.meter0 = s.cmb.meter0 := rfl
@[simp] theorem putPoint_cmb_interval (s : State) (id : Nat) (p : Point) : (putPoint s id p).cmb.interval = s.cmb.interval := rfl
@[simp] theorem putPoint_cmb_above (s : State) (id : Nat) (p : Point) : (putPoint s id p).cmb.above = s.cmb.above := rfl
@[simp] theorem putPoint_cmb_below (s : State) (id : Nat) (p : Point) : (putPoint s id p).cmb.below = s.cmb.below := rfl
@[simp] theorem putPoint_cmb_alarms (s : State) (id : Nat) (p : Point) : (putPoint s id p).cmb.alarms = s.cmb.alarms := rfl
@[simp] theorem putPoint_cmb_trendQ (s : State) (id : Nat) (p : Point) : (putPoint s id p).cmb.trendQ = s.cmb.trendQ := rfl
@[simp] theorem putPoint_cmb_answer (s : State) (id : Nat) (p : Point) : (putPoint s id p).cmb.answer = s.cmb.answer := rfl
@[simp] theorem putPoint_cmb_modules (s : State) (id : Nat) (p : Point) : (putPoint s id p).cmb.modules = s.cmb.modules := rfl
@[simp] theorem putPoint_cmb_conns (s : State) (id : Nat) (p : Point) : (putPoint s id p).cmb.conns = s.cmb.conns := rfl
@[simp] theorem putPoint_cmb_subs (s : State) (id : Nat) (p : Point) : (putPoint s id p).cmb.subs = s.cmb.subs := rfl
@[simp] theorem putPoint_cmb_bacOut (s : State) (id : Nat) (p : Point) : (putPoint s id p).cmb.bacOut = s.cmb.bacOut := rfl
@[simp] theorem putPoint_cmb_notified (s : State) (id : Nat) (p : Point) : (putPoint s id p).cmb.notified = s.cmb.notified := rfl
@[simp] theorem putPoint_cmb_modbusOut (s : State) (id : Nat) (p : Point) : (putPoint s id p).cmb.modbusOut = s.cmb.modbusOut := rfl
@[simp] theorem putPoint_cmb_mirrorOut (s : State) (id : Nat) (p : Point) : (putPoint s id p).cmb.mirrorOut = s.cmb.mirrorOut := rfl
@[simp] theorem putPoint_cmb_forwardOut (s : State) (id : Nat) (p : Point) : (putPoint s id p).cmb.forwardOut = s.cmb.forwardOut := rfl
@[simp] theorem pointOf_putPoint (s : State) (id j : Nat) (p : Point) :
    pointOf (putPoint s id p) j = if j = id then p else pointOf s j := by simp [pointOf, putPoint]

/-! `putDor` writes `dor`, nothing else. -/

@[simp] theorem putDor_now (s : State) (d : Nat) (x : Door) : (putDor s d x).now = s.now := rfl
@[simp] theorem putDor_free (s : State) (d : Nat) (x : Door) : (putDor s d x).free = s.free := rfl
@[simp] theorem putDor_ordering (s : State) (d : Nat) (x : Door) : (putDor s d x).ordering = s.ordering := rfl
@[simp] theorem putDor_dies (s : State) (d : Nat) (x : Door) : (putDor s d x).dies = s.dies := rfl
@[simp] theorem putDor_pins (s : State) (d : Nat) (x : Door) : (putDor s d x).pins = s.pins := rfl
@[simp] theorem putDor_rst (s : State) (d : Nat) (x : Door) : (putDor s d x).rst = s.rst := rfl
@[simp] theorem putDor_trs (s : State) (d : Nat) (x : Door) : (putDor s d x).trs = s.trs := rfl
@[simp] theorem putDor_frm (s : State) (d : Nat) (x : Door) : (putDor s d x).frm = s.frm := rfl
@[simp] theorem putDor_img (s : State) (d : Nat) (x : Door) : (putDor s d x).img = s.img := rfl
@[simp] theorem putDor_kpr (s : State) (d : Nat) (x : Door) : (putDor s d x).kpr = s.kpr := rfl
@[simp] theorem putDor_evt (s : State) (d : Nat) (x : Door) : (putDor s d x).evt = s.evt := rfl
@[simp] theorem putDor_evr (s : State) (d : Nat) (x : Door) : (putDor s d x).evr = s.evr := rfl
@[simp] theorem putDor_tmb (s : State) (d : Nat) (x : Door) : (putDor s d x).tmb = s.tmb := rfl
@[simp] theorem putDor_ces (s : State) (d : Nat) (x : Door) : (putDor s d x).ces = s.ces := rfl
@[simp] theorem putDor_mram (s : State) (d : Nat) (x : Door) : (putDor s d x).mram = s.mram := rfl
@[simp] theorem putDor_areaA (s : State) (d : Nat) (x : Door) : (putDor s d x).areaA = s.areaA := rfl
@[simp] theorem putDor_areaB (s : State) (d : Nat) (x : Door) : (putDor s d x).areaB = s.areaB := rfl
@[simp] theorem putDor_acq (s : State) (d : Nat) (x : Door) : (putDor s d x).acq = s.acq := rfl
@[simp] theorem putDor_sto (s : State) (d : Nat) (x : Door) : (putDor s d x).sto = s.sto := rfl
@[simp] theorem putDor_cmb (s : State) (d : Nat) (x : Door) : (putDor s d x).cmb = s.cmb := rfl
@[simp] theorem putDor_cyc (s : State) (d : Nat) (x : Door) : (putDor s d x).cyc = s.cyc := rfl
@[simp] theorem putDor_hst (s : State) (d : Nat) (x : Door) : (putDor s d x).hst = s.hst := rfl
@[simp] theorem putDor_fbk (s : State) (d : Nat) (x : Door) : (putDor s d x).fbk = s.fbk := rfl
@[simp] theorem putDor_dsp (s : State) (d : Nat) (x : Door) : (putDor s d x).dsp = s.dsp := rfl
@[simp] theorem putDor_safA (s : State) (d : Nat) (x : Door) : (putDor s d x).safA = s.safA := rfl
@[simp] theorem putDor_safB (s : State) (d : Nat) (x : Door) : (putDor s d x).safB = s.safB := rfl
@[simp] theorem putDor_saf (s : State) (d : Nat) (x : Door) : (putDor s d x).saf = s.saf := rfl
@[simp] theorem putDor_fio (s : State) (d : Nat) (x : Door) : (putDor s d x).fio = s.fio := rfl
@[simp] theorem putDor_can (s : State) (d : Nat) (x : Door) : (putDor s d x).can = s.can := rfl
@[simp] theorem putDor_net (s : State) (d : Nat) (x : Door) : (putDor s d x).net = s.net := rfl
@[simp] theorem putDor_pending (s : State) (d : Nat) (x : Door) : (putDor s d x).pending = s.pending := rfl
@[simp] theorem dorOf_putDor (s : State) (d j : Nat) (x : Door) :
    dorOf (putDor s d x) j = if j = d then x else dorOf s j := by simp [dorOf, putDor]

/-! `putGrp` writes `dsp.groups`, nothing else. -/

@[simp] theorem putGrp_now (s : State) (g : Nat) (x : Grp) : (putGrp s g x).now = s.now := rfl
@[simp] theorem putGrp_free (s : State) (g : Nat) (x : Grp) : (putGrp s g x).free = s.free := rfl
@[simp] theorem putGrp_ordering (s : State) (g : Nat) (x : Grp) : (putGrp s g x).ordering = s.ordering := rfl
@[simp] theorem putGrp_dies (s : State) (g : Nat) (x : Grp) : (putGrp s g x).dies = s.dies := rfl
@[simp] theorem putGrp_pins (s : State) (g : Nat) (x : Grp) : (putGrp s g x).pins = s.pins := rfl
@[simp] theorem putGrp_rst (s : State) (g : Nat) (x : Grp) : (putGrp s g x).rst = s.rst := rfl
@[simp] theorem putGrp_trs (s : State) (g : Nat) (x : Grp) : (putGrp s g x).trs = s.trs := rfl
@[simp] theorem putGrp_frm (s : State) (g : Nat) (x : Grp) : (putGrp s g x).frm = s.frm := rfl
@[simp] theorem putGrp_img (s : State) (g : Nat) (x : Grp) : (putGrp s g x).img = s.img := rfl
@[simp] theorem putGrp_kpr (s : State) (g : Nat) (x : Grp) : (putGrp s g x).kpr = s.kpr := rfl
@[simp] theorem putGrp_evt (s : State) (g : Nat) (x : Grp) : (putGrp s g x).evt = s.evt := rfl
@[simp] theorem putGrp_evr (s : State) (g : Nat) (x : Grp) : (putGrp s g x).evr = s.evr := rfl
@[simp] theorem putGrp_tmb (s : State) (g : Nat) (x : Grp) : (putGrp s g x).tmb = s.tmb := rfl
@[simp] theorem putGrp_ces (s : State) (g : Nat) (x : Grp) : (putGrp s g x).ces = s.ces := rfl
@[simp] theorem putGrp_mram (s : State) (g : Nat) (x : Grp) : (putGrp s g x).mram = s.mram := rfl
@[simp] theorem putGrp_areaA (s : State) (g : Nat) (x : Grp) : (putGrp s g x).areaA = s.areaA := rfl
@[simp] theorem putGrp_areaB (s : State) (g : Nat) (x : Grp) : (putGrp s g x).areaB = s.areaB := rfl
@[simp] theorem putGrp_acq (s : State) (g : Nat) (x : Grp) : (putGrp s g x).acq = s.acq := rfl
@[simp] theorem putGrp_sto (s : State) (g : Nat) (x : Grp) : (putGrp s g x).sto = s.sto := rfl
@[simp] theorem putGrp_cmb (s : State) (g : Nat) (x : Grp) : (putGrp s g x).cmb = s.cmb := rfl
@[simp] theorem putGrp_cyc (s : State) (g : Nat) (x : Grp) : (putGrp s g x).cyc = s.cyc := rfl
@[simp] theorem putGrp_hst (s : State) (g : Nat) (x : Grp) : (putGrp s g x).hst = s.hst := rfl
@[simp] theorem putGrp_fbk (s : State) (g : Nat) (x : Grp) : (putGrp s g x).fbk = s.fbk := rfl
@[simp] theorem putGrp_dor (s : State) (g : Nat) (x : Grp) : (putGrp s g x).dor = s.dor := rfl
@[simp] theorem putGrp_safA (s : State) (g : Nat) (x : Grp) : (putGrp s g x).safA = s.safA := rfl
@[simp] theorem putGrp_safB (s : State) (g : Nat) (x : Grp) : (putGrp s g x).safB = s.safB := rfl
@[simp] theorem putGrp_saf (s : State) (g : Nat) (x : Grp) : (putGrp s g x).saf = s.saf := rfl
@[simp] theorem putGrp_fio (s : State) (g : Nat) (x : Grp) : (putGrp s g x).fio = s.fio := rfl
@[simp] theorem putGrp_can (s : State) (g : Nat) (x : Grp) : (putGrp s g x).can = s.can := rfl
@[simp] theorem putGrp_net (s : State) (g : Nat) (x : Grp) : (putGrp s g x).net = s.net := rfl
@[simp] theorem putGrp_pending (s : State) (g : Nat) (x : Grp) : (putGrp s g x).pending = s.pending := rfl
@[simp] theorem putGrp_dsp_rights (s : State) (g : Nat) (x : Grp) : (putGrp s g x).dsp.rights = s.dsp.rights := rfl
@[simp] theorem putGrp_dsp_shafts (s : State) (g : Nat) (x : Grp) : (putGrp s g x).dsp.shafts = s.dsp.shafts := rfl
@[simp] theorem putGrp_dsp_regen (s : State) (g : Nat) (x : Grp) : (putGrp s g x).dsp.regen = s.dsp.regen := rfl
@[simp] theorem putGrp_dsp_released (s : State) (g : Nat) (x : Grp) : (putGrp s g x).dsp.released = s.dsp.released := rfl
@[simp] theorem grpOf_putGrp (s : State) (g j : Nat) (x : Grp) :
    grpOf (putGrp s g x) j = if j = g then x else grpOf s j := by simp [grpOf, putGrp]

/-! `putPend` writes `evt.pend`, nothing else. -/

@[simp] theorem putPend_now (s : State) (c : Nat) (q : PendQueue) : (putPend s c q).now = s.now := rfl
@[simp] theorem putPend_free (s : State) (c : Nat) (q : PendQueue) : (putPend s c q).free = s.free := rfl
@[simp] theorem putPend_ordering (s : State) (c : Nat) (q : PendQueue) : (putPend s c q).ordering = s.ordering := rfl
@[simp] theorem putPend_dies (s : State) (c : Nat) (q : PendQueue) : (putPend s c q).dies = s.dies := rfl
@[simp] theorem putPend_pins (s : State) (c : Nat) (q : PendQueue) : (putPend s c q).pins = s.pins := rfl
@[simp] theorem putPend_rst (s : State) (c : Nat) (q : PendQueue) : (putPend s c q).rst = s.rst := rfl
@[simp] theorem putPend_trs (s : State) (c : Nat) (q : PendQueue) : (putPend s c q).trs = s.trs := rfl
@[simp] theorem putPend_frm (s : State) (c : Nat) (q : PendQueue) : (putPend s c q).frm = s.frm := rfl
@[simp] theorem putPend_img (s : State) (c : Nat) (q : PendQueue) : (putPend s c q).img = s.img := rfl
@[simp] theorem putPend_kpr (s : State) (c : Nat) (q : PendQueue) : (putPend s c q).kpr = s.kpr := rfl
@[simp] theorem putPend_evr (s : State) (c : Nat) (q : PendQueue) : (putPend s c q).evr = s.evr := rfl
@[simp] theorem putPend_tmb (s : State) (c : Nat) (q : PendQueue) : (putPend s c q).tmb = s.tmb := rfl
@[simp] theorem putPend_ces (s : State) (c : Nat) (q : PendQueue) : (putPend s c q).ces = s.ces := rfl
@[simp] theorem putPend_mram (s : State) (c : Nat) (q : PendQueue) : (putPend s c q).mram = s.mram := rfl
@[simp] theorem putPend_areaA (s : State) (c : Nat) (q : PendQueue) : (putPend s c q).areaA = s.areaA := rfl
@[simp] theorem putPend_areaB (s : State) (c : Nat) (q : PendQueue) : (putPend s c q).areaB = s.areaB := rfl
@[simp] theorem putPend_acq (s : State) (c : Nat) (q : PendQueue) : (putPend s c q).acq = s.acq := rfl
@[simp] theorem putPend_sto (s : State) (c : Nat) (q : PendQueue) : (putPend s c q).sto = s.sto := rfl
@[simp] theorem putPend_cmb (s : State) (c : Nat) (q : PendQueue) : (putPend s c q).cmb = s.cmb := rfl
@[simp] theorem putPend_cyc (s : State) (c : Nat) (q : PendQueue) : (putPend s c q).cyc = s.cyc := rfl
@[simp] theorem putPend_hst (s : State) (c : Nat) (q : PendQueue) : (putPend s c q).hst = s.hst := rfl
@[simp] theorem putPend_fbk (s : State) (c : Nat) (q : PendQueue) : (putPend s c q).fbk = s.fbk := rfl
@[simp] theorem putPend_dor (s : State) (c : Nat) (q : PendQueue) : (putPend s c q).dor = s.dor := rfl
@[simp] theorem putPend_dsp (s : State) (c : Nat) (q : PendQueue) : (putPend s c q).dsp = s.dsp := rfl
@[simp] theorem putPend_safA (s : State) (c : Nat) (q : PendQueue) : (putPend s c q).safA = s.safA := rfl
@[simp] theorem putPend_safB (s : State) (c : Nat) (q : PendQueue) : (putPend s c q).safB = s.safB := rfl
@[simp] theorem putPend_saf (s : State) (c : Nat) (q : PendQueue) : (putPend s c q).saf = s.saf := rfl
@[simp] theorem putPend_fio (s : State) (c : Nat) (q : PendQueue) : (putPend s c q).fio = s.fio := rfl
@[simp] theorem putPend_can (s : State) (c : Nat) (q : PendQueue) : (putPend s c q).can = s.can := rfl
@[simp] theorem putPend_net (s : State) (c : Nat) (q : PendQueue) : (putPend s c q).net = s.net := rfl
@[simp] theorem putPend_pending (s : State) (c : Nat) (q : PendQueue) : (putPend s c q).pending = s.pending := rfl
@[simp] theorem putPend_evt_routes (s : State) (c : Nat) (q : PendQueue) : (putPend s c q).evt.routes = s.evt.routes := rfl
@[simp] theorem putPend_evt_counts (s : State) (c : Nat) (q : PendQueue) : (putPend s c q).evt.counts = s.evt.counts := rfl
@[simp] theorem putPend_evt_soft (s : State) (c : Nat) (q : PendQueue) : (putPend s c q).evt.soft = s.evt.soft := rfl
@[simp] theorem putPend_evt_badKind (s : State) (c : Nat) (q : PendQueue) : (putPend s c q).evt.badKind = s.evt.badKind := rfl
@[simp] theorem putPend_evt_badCause (s : State) (c : Nat) (q : PendQueue) : (putPend s c q).evt.badCause = s.evt.badCause := rfl
@[simp] theorem putPend_evt_badCount (s : State) (c : Nat) (q : PendQueue) : (putPend s c q).evt.badCount = s.evt.badCount := rfl
@[simp] theorem putPend_evt_badAddr (s : State) (c : Nat) (q : PendQueue) : (putPend s c q).evt.badAddr = s.evt.badAddr := rfl
@[simp] theorem putPend_evt_inFlight (s : State) (c : Nat) (q : PendQueue) : (putPend s c q).evt.inFlight = s.evt.inFlight := rfl
@[simp] theorem pendOf_putPend (s : State) (c j : Nat) (q : PendQueue) :
    pendOf (putPend s c q) j = if j = c then q else pendOf s j := by simp [pendOf, putPend]

/-! `putSoft` writes `evt.soft`, nothing else. -/

@[simp] theorem putSoft_now (s : State) (r : Nat) (x : SoftStage) : (putSoft s r x).now = s.now := rfl
@[simp] theorem putSoft_free (s : State) (r : Nat) (x : SoftStage) : (putSoft s r x).free = s.free := rfl
@[simp] theorem putSoft_ordering (s : State) (r : Nat) (x : SoftStage) : (putSoft s r x).ordering = s.ordering := rfl
@[simp] theorem putSoft_dies (s : State) (r : Nat) (x : SoftStage) : (putSoft s r x).dies = s.dies := rfl
@[simp] theorem putSoft_pins (s : State) (r : Nat) (x : SoftStage) : (putSoft s r x).pins = s.pins := rfl
@[simp] theorem putSoft_rst (s : State) (r : Nat) (x : SoftStage) : (putSoft s r x).rst = s.rst := rfl
@[simp] theorem putSoft_trs (s : State) (r : Nat) (x : SoftStage) : (putSoft s r x).trs = s.trs := rfl
@[simp] theorem putSoft_frm (s : State) (r : Nat) (x : SoftStage) : (putSoft s r x).frm = s.frm := rfl
@[simp] theorem putSoft_img (s : State) (r : Nat) (x : SoftStage) : (putSoft s r x).img = s.img := rfl
@[simp] theorem putSoft_kpr (s : State) (r : Nat) (x : SoftStage) : (putSoft s r x).kpr = s.kpr := rfl
@[simp] theorem putSoft_evr (s : State) (r : Nat) (x : SoftStage) : (putSoft s r x).evr = s.evr := rfl
@[simp] theorem putSoft_tmb (s : State) (r : Nat) (x : SoftStage) : (putSoft s r x).tmb = s.tmb := rfl
@[simp] theorem putSoft_ces (s : State) (r : Nat) (x : SoftStage) : (putSoft s r x).ces = s.ces := rfl
@[simp] theorem putSoft_mram (s : State) (r : Nat) (x : SoftStage) : (putSoft s r x).mram = s.mram := rfl
@[simp] theorem putSoft_areaA (s : State) (r : Nat) (x : SoftStage) : (putSoft s r x).areaA = s.areaA := rfl
@[simp] theorem putSoft_areaB (s : State) (r : Nat) (x : SoftStage) : (putSoft s r x).areaB = s.areaB := rfl
@[simp] theorem putSoft_acq (s : State) (r : Nat) (x : SoftStage) : (putSoft s r x).acq = s.acq := rfl
@[simp] theorem putSoft_sto (s : State) (r : Nat) (x : SoftStage) : (putSoft s r x).sto = s.sto := rfl
@[simp] theorem putSoft_cmb (s : State) (r : Nat) (x : SoftStage) : (putSoft s r x).cmb = s.cmb := rfl
@[simp] theorem putSoft_cyc (s : State) (r : Nat) (x : SoftStage) : (putSoft s r x).cyc = s.cyc := rfl
@[simp] theorem putSoft_hst (s : State) (r : Nat) (x : SoftStage) : (putSoft s r x).hst = s.hst := rfl
@[simp] theorem putSoft_fbk (s : State) (r : Nat) (x : SoftStage) : (putSoft s r x).fbk = s.fbk := rfl
@[simp] theorem putSoft_dor (s : State) (r : Nat) (x : SoftStage) : (putSoft s r x).dor = s.dor := rfl
@[simp] theorem putSoft_dsp (s : State) (r : Nat) (x : SoftStage) : (putSoft s r x).dsp = s.dsp := rfl
@[simp] theorem putSoft_safA (s : State) (r : Nat) (x : SoftStage) : (putSoft s r x).safA = s.safA := rfl
@[simp] theorem putSoft_safB (s : State) (r : Nat) (x : SoftStage) : (putSoft s r x).safB = s.safB := rfl
@[simp] theorem putSoft_saf (s : State) (r : Nat) (x : SoftStage) : (putSoft s r x).saf = s.saf := rfl
@[simp] theorem putSoft_fio (s : State) (r : Nat) (x : SoftStage) : (putSoft s r x).fio = s.fio := rfl
@[simp] theorem putSoft_can (s : State) (r : Nat) (x : SoftStage) : (putSoft s r x).can = s.can := rfl
@[simp] theorem putSoft_net (s : State) (r : Nat) (x : SoftStage) : (putSoft s r x).net = s.net := rfl
@[simp] theorem putSoft_pending (s : State) (r : Nat) (x : SoftStage) : (putSoft s r x).pending = s.pending := rfl
@[simp] theorem putSoft_evt_routes (s : State) (r : Nat) (x : SoftStage) : (putSoft s r x).evt.routes = s.evt.routes := rfl
@[simp] theorem putSoft_evt_counts (s : State) (r : Nat) (x : SoftStage) : (putSoft s r x).evt.counts = s.evt.counts := rfl
@[simp] theorem putSoft_evt_pend (s : State) (r : Nat) (x : SoftStage) : (putSoft s r x).evt.pend = s.evt.pend := rfl
@[simp] theorem putSoft_evt_badKind (s : State) (r : Nat) (x : SoftStage) : (putSoft s r x).evt.badKind = s.evt.badKind := rfl
@[simp] theorem putSoft_evt_badCause (s : State) (r : Nat) (x : SoftStage) : (putSoft s r x).evt.badCause = s.evt.badCause := rfl
@[simp] theorem putSoft_evt_badCount (s : State) (r : Nat) (x : SoftStage) : (putSoft s r x).evt.badCount = s.evt.badCount := rfl
@[simp] theorem putSoft_evt_badAddr (s : State) (r : Nat) (x : SoftStage) : (putSoft s r x).evt.badAddr = s.evt.badAddr := rfl
@[simp] theorem putSoft_evt_inFlight (s : State) (r : Nat) (x : SoftStage) : (putSoft s r x).evt.inFlight = s.evt.inFlight := rfl
@[simp] theorem softOf_putSoft (s : State) (r j : Nat) (x : SoftStage) :
    softOf (putSoft s r x) j = if j = r then x else softOf s j := by simp [softOf, putSoft]

/-! `putHst` writes `hst`, nothing else. -/

@[simp] theorem putHst_now (s : State) (c : Nat) (h : Hoist) : (putHst s c h).now = s.now := rfl
@[simp] theorem putHst_free (s : State) (c : Nat) (h : Hoist) : (putHst s c h).free = s.free := rfl
@[simp] theorem putHst_ordering (s : State) (c : Nat) (h : Hoist) : (putHst s c h).ordering = s.ordering := rfl
@[simp] theorem putHst_dies (s : State) (c : Nat) (h : Hoist) : (putHst s c h).dies = s.dies := rfl
@[simp] theorem putHst_pins (s : State) (c : Nat) (h : Hoist) : (putHst s c h).pins = s.pins := rfl
@[simp] theorem putHst_rst (s : State) (c : Nat) (h : Hoist) : (putHst s c h).rst = s.rst := rfl
@[simp] theorem putHst_trs (s : State) (c : Nat) (h : Hoist) : (putHst s c h).trs = s.trs := rfl
@[simp] theorem putHst_frm (s : State) (c : Nat) (h : Hoist) : (putHst s c h).frm = s.frm := rfl
@[simp] theorem putHst_img (s : State) (c : Nat) (h : Hoist) : (putHst s c h).img = s.img := rfl
@[simp] theorem putHst_kpr (s : State) (c : Nat) (h : Hoist) : (putHst s c h).kpr = s.kpr := rfl
@[simp] theorem putHst_evt (s : State) (c : Nat) (h : Hoist) : (putHst s c h).evt = s.evt := rfl
@[simp] theorem putHst_evr (s : State) (c : Nat) (h : Hoist) : (putHst s c h).evr = s.evr := rfl
@[simp] theorem putHst_tmb (s : State) (c : Nat) (h : Hoist) : (putHst s c h).tmb = s.tmb := rfl
@[simp] theorem putHst_ces (s : State) (c : Nat) (h : Hoist) : (putHst s c h).ces = s.ces := rfl
@[simp] theorem putHst_mram (s : State) (c : Nat) (h : Hoist) : (putHst s c h).mram = s.mram := rfl
@[simp] theorem putHst_areaA (s : State) (c : Nat) (h : Hoist) : (putHst s c h).areaA = s.areaA := rfl
@[simp] theorem putHst_areaB (s : State) (c : Nat) (h : Hoist) : (putHst s c h).areaB = s.areaB := rfl
@[simp] theorem putHst_acq (s : State) (c : Nat) (h : Hoist) : (putHst s c h).acq = s.acq := rfl
@[simp] theorem putHst_sto (s : State) (c : Nat) (h : Hoist) : (putHst s c h).sto = s.sto := rfl
@[simp] theorem putHst_cmb (s : State) (c : Nat) (h : Hoist) : (putHst s c h).cmb = s.cmb := rfl
@[simp] theorem putHst_cyc (s : State) (c : Nat) (h : Hoist) : (putHst s c h).cyc = s.cyc := rfl
@[simp] theorem putHst_fbk (s : State) (c : Nat) (h : Hoist) : (putHst s c h).fbk = s.fbk := rfl
@[simp] theorem putHst_dor (s : State) (c : Nat) (h : Hoist) : (putHst s c h).dor = s.dor := rfl
@[simp] theorem putHst_dsp (s : State) (c : Nat) (h : Hoist) : (putHst s c h).dsp = s.dsp := rfl
@[simp] theorem putHst_safA (s : State) (c : Nat) (h : Hoist) : (putHst s c h).safA = s.safA := rfl
@[simp] theorem putHst_safB (s : State) (c : Nat) (h : Hoist) : (putHst s c h).safB = s.safB := rfl
@[simp] theorem putHst_saf (s : State) (c : Nat) (h : Hoist) : (putHst s c h).saf = s.saf := rfl
@[simp] theorem putHst_fio (s : State) (c : Nat) (h : Hoist) : (putHst s c h).fio = s.fio := rfl
@[simp] theorem putHst_can (s : State) (c : Nat) (h : Hoist) : (putHst s c h).can = s.can := rfl
@[simp] theorem putHst_net (s : State) (c : Nat) (h : Hoist) : (putHst s c h).net = s.net := rfl
@[simp] theorem putHst_pending (s : State) (c : Nat) (h : Hoist) : (putHst s c h).pending = s.pending := rfl
@[simp] theorem hstOf_putHst (s : State) (c j : Nat) (h : Hoist) :
    hstOf (putHst s c h) j = if j = c then h else hstOf s j := by simp [hstOf, putHst]

/-! `putFbk` writes `fbk.cars`, nothing else. -/

@[simp] theorem putFbk_now (s : State) (c : Nat) (f : Fbk) : (putFbk s c f).now = s.now := rfl
@[simp] theorem putFbk_free (s : State) (c : Nat) (f : Fbk) : (putFbk s c f).free = s.free := rfl
@[simp] theorem putFbk_ordering (s : State) (c : Nat) (f : Fbk) : (putFbk s c f).ordering = s.ordering := rfl
@[simp] theorem putFbk_dies (s : State) (c : Nat) (f : Fbk) : (putFbk s c f).dies = s.dies := rfl
@[simp] theorem putFbk_pins (s : State) (c : Nat) (f : Fbk) : (putFbk s c f).pins = s.pins := rfl
@[simp] theorem putFbk_rst (s : State) (c : Nat) (f : Fbk) : (putFbk s c f).rst = s.rst := rfl
@[simp] theorem putFbk_trs (s : State) (c : Nat) (f : Fbk) : (putFbk s c f).trs = s.trs := rfl
@[simp] theorem putFbk_frm (s : State) (c : Nat) (f : Fbk) : (putFbk s c f).frm = s.frm := rfl
@[simp] theorem putFbk_img (s : State) (c : Nat) (f : Fbk) : (putFbk s c f).img = s.img := rfl
@[simp] theorem putFbk_kpr (s : State) (c : Nat) (f : Fbk) : (putFbk s c f).kpr = s.kpr := rfl
@[simp] theorem putFbk_evt (s : State) (c : Nat) (f : Fbk) : (putFbk s c f).evt = s.evt := rfl
@[simp] theorem putFbk_evr (s : State) (c : Nat) (f : Fbk) : (putFbk s c f).evr = s.evr := rfl
@[simp] theorem putFbk_tmb (s : State) (c : Nat) (f : Fbk) : (putFbk s c f).tmb = s.tmb := rfl
@[simp] theorem putFbk_ces (s : State) (c : Nat) (f : Fbk) : (putFbk s c f).ces = s.ces := rfl
@[simp] theorem putFbk_mram (s : State) (c : Nat) (f : Fbk) : (putFbk s c f).mram = s.mram := rfl
@[simp] theorem putFbk_areaA (s : State) (c : Nat) (f : Fbk) : (putFbk s c f).areaA = s.areaA := rfl
@[simp] theorem putFbk_areaB (s : State) (c : Nat) (f : Fbk) : (putFbk s c f).areaB = s.areaB := rfl
@[simp] theorem putFbk_acq (s : State) (c : Nat) (f : Fbk) : (putFbk s c f).acq = s.acq := rfl
@[simp] theorem putFbk_sto (s : State) (c : Nat) (f : Fbk) : (putFbk s c f).sto = s.sto := rfl
@[simp] theorem putFbk_cmb (s : State) (c : Nat) (f : Fbk) : (putFbk s c f).cmb = s.cmb := rfl
@[simp] theorem putFbk_cyc (s : State) (c : Nat) (f : Fbk) : (putFbk s c f).cyc = s.cyc := rfl
@[simp] theorem putFbk_hst (s : State) (c : Nat) (f : Fbk) : (putFbk s c f).hst = s.hst := rfl
@[simp] theorem putFbk_dor (s : State) (c : Nat) (f : Fbk) : (putFbk s c f).dor = s.dor := rfl
@[simp] theorem putFbk_dsp (s : State) (c : Nat) (f : Fbk) : (putFbk s c f).dsp = s.dsp := rfl
@[simp] theorem putFbk_safA (s : State) (c : Nat) (f : Fbk) : (putFbk s c f).safA = s.safA := rfl
@[simp] theorem putFbk_safB (s : State) (c : Nat) (f : Fbk) : (putFbk s c f).safB = s.safB := rfl
@[simp] theorem putFbk_saf (s : State) (c : Nat) (f : Fbk) : (putFbk s c f).saf = s.saf := rfl
@[simp] theorem putFbk_fio (s : State) (c : Nat) (f : Fbk) : (putFbk s c f).fio = s.fio := rfl
@[simp] theorem putFbk_can (s : State) (c : Nat) (f : Fbk) : (putFbk s c f).can = s.can := rfl
@[simp] theorem putFbk_net (s : State) (c : Nat) (f : Fbk) : (putFbk s c f).net = s.net := rfl
@[simp] theorem putFbk_pending (s : State) (c : Nat) (f : Fbk) : (putFbk s c f).pending = s.pending := rfl
@[simp] theorem putFbk_fbk_ssi (s : State) (c : Nat) (f : Fbk) : (putFbk s c f).fbk.ssi = s.fbk.ssi := rfl
@[simp] theorem putFbk_fbk_qe (s : State) (c : Nat) (f : Fbk) : (putFbk s c f).fbk.qe = s.fbk.qe := rfl
@[simp] theorem putFbk_fbk_cmp (s : State) (c : Nat) (f : Fbk) : (putFbk s c f).fbk.cmp = s.fbk.cmp := rfl
@[simp] theorem fbkOf_putFbk (s : State) (c j : Nat) (f : Fbk) :
    fbkOf (putFbk s c f) j = if j = c then f else fbkOf s j := by simp [fbkOf, putFbk]

/-! `putSsi` writes `fbk.ssi`, nothing else. -/

@[simp] theorem putSsi_now (s : State) (n : Nat) (x : Ssi) : (putSsi s n x).now = s.now := rfl
@[simp] theorem putSsi_free (s : State) (n : Nat) (x : Ssi) : (putSsi s n x).free = s.free := rfl
@[simp] theorem putSsi_ordering (s : State) (n : Nat) (x : Ssi) : (putSsi s n x).ordering = s.ordering := rfl
@[simp] theorem putSsi_dies (s : State) (n : Nat) (x : Ssi) : (putSsi s n x).dies = s.dies := rfl
@[simp] theorem putSsi_pins (s : State) (n : Nat) (x : Ssi) : (putSsi s n x).pins = s.pins := rfl
@[simp] theorem putSsi_rst (s : State) (n : Nat) (x : Ssi) : (putSsi s n x).rst = s.rst := rfl
@[simp] theorem putSsi_trs (s : State) (n : Nat) (x : Ssi) : (putSsi s n x).trs = s.trs := rfl
@[simp] theorem putSsi_frm (s : State) (n : Nat) (x : Ssi) : (putSsi s n x).frm = s.frm := rfl
@[simp] theorem putSsi_img (s : State) (n : Nat) (x : Ssi) : (putSsi s n x).img = s.img := rfl
@[simp] theorem putSsi_kpr (s : State) (n : Nat) (x : Ssi) : (putSsi s n x).kpr = s.kpr := rfl
@[simp] theorem putSsi_evt (s : State) (n : Nat) (x : Ssi) : (putSsi s n x).evt = s.evt := rfl
@[simp] theorem putSsi_evr (s : State) (n : Nat) (x : Ssi) : (putSsi s n x).evr = s.evr := rfl
@[simp] theorem putSsi_tmb (s : State) (n : Nat) (x : Ssi) : (putSsi s n x).tmb = s.tmb := rfl
@[simp] theorem putSsi_ces (s : State) (n : Nat) (x : Ssi) : (putSsi s n x).ces = s.ces := rfl
@[simp] theorem putSsi_mram (s : State) (n : Nat) (x : Ssi) : (putSsi s n x).mram = s.mram := rfl
@[simp] theorem putSsi_areaA (s : State) (n : Nat) (x : Ssi) : (putSsi s n x).areaA = s.areaA := rfl
@[simp] theorem putSsi_areaB (s : State) (n : Nat) (x : Ssi) : (putSsi s n x).areaB = s.areaB := rfl
@[simp] theorem putSsi_acq (s : State) (n : Nat) (x : Ssi) : (putSsi s n x).acq = s.acq := rfl
@[simp] theorem putSsi_sto (s : State) (n : Nat) (x : Ssi) : (putSsi s n x).sto = s.sto := rfl
@[simp] theorem putSsi_cmb (s : State) (n : Nat) (x : Ssi) : (putSsi s n x).cmb = s.cmb := rfl
@[simp] theorem putSsi_cyc (s : State) (n : Nat) (x : Ssi) : (putSsi s n x).cyc = s.cyc := rfl
@[simp] theorem putSsi_hst (s : State) (n : Nat) (x : Ssi) : (putSsi s n x).hst = s.hst := rfl
@[simp] theorem putSsi_dor (s : State) (n : Nat) (x : Ssi) : (putSsi s n x).dor = s.dor := rfl
@[simp] theorem putSsi_dsp (s : State) (n : Nat) (x : Ssi) : (putSsi s n x).dsp = s.dsp := rfl
@[simp] theorem putSsi_safA (s : State) (n : Nat) (x : Ssi) : (putSsi s n x).safA = s.safA := rfl
@[simp] theorem putSsi_safB (s : State) (n : Nat) (x : Ssi) : (putSsi s n x).safB = s.safB := rfl
@[simp] theorem putSsi_saf (s : State) (n : Nat) (x : Ssi) : (putSsi s n x).saf = s.saf := rfl
@[simp] theorem putSsi_fio (s : State) (n : Nat) (x : Ssi) : (putSsi s n x).fio = s.fio := rfl
@[simp] theorem putSsi_can (s : State) (n : Nat) (x : Ssi) : (putSsi s n x).can = s.can := rfl
@[simp] theorem putSsi_net (s : State) (n : Nat) (x : Ssi) : (putSsi s n x).net = s.net := rfl
@[simp] theorem putSsi_pending (s : State) (n : Nat) (x : Ssi) : (putSsi s n x).pending = s.pending := rfl
@[simp] theorem putSsi_fbk_cars (s : State) (n : Nat) (x : Ssi) : (putSsi s n x).fbk.cars = s.fbk.cars := rfl
@[simp] theorem putSsi_fbk_qe (s : State) (n : Nat) (x : Ssi) : (putSsi s n x).fbk.qe = s.fbk.qe := rfl
@[simp] theorem putSsi_fbk_cmp (s : State) (n : Nat) (x : Ssi) : (putSsi s n x).fbk.cmp = s.fbk.cmp := rfl
@[simp] theorem ssiOf_putSsi (s : State) (n j : Nat) (x : Ssi) :
    ssiOf (putSsi s n x) j = if j = n then x else ssiOf s j := by simp [ssiOf, putSsi]

/-! `putQe` writes `fbk.qe`, nothing else. -/

@[simp] theorem putQe_now (s : State) (n : Nat) (x : Qe) : (putQe s n x).now = s.now := rfl
@[simp] theorem putQe_free (s : State) (n : Nat) (x : Qe) : (putQe s n x).free = s.free := rfl
@[simp] theorem putQe_ordering (s : State) (n : Nat) (x : Qe) : (putQe s n x).ordering = s.ordering := rfl
@[simp] theorem putQe_dies (s : State) (n : Nat) (x : Qe) : (putQe s n x).dies = s.dies := rfl
@[simp] theorem putQe_pins (s : State) (n : Nat) (x : Qe) : (putQe s n x).pins = s.pins := rfl
@[simp] theorem putQe_rst (s : State) (n : Nat) (x : Qe) : (putQe s n x).rst = s.rst := rfl
@[simp] theorem putQe_trs (s : State) (n : Nat) (x : Qe) : (putQe s n x).trs = s.trs := rfl
@[simp] theorem putQe_frm (s : State) (n : Nat) (x : Qe) : (putQe s n x).frm = s.frm := rfl
@[simp] theorem putQe_img (s : State) (n : Nat) (x : Qe) : (putQe s n x).img = s.img := rfl
@[simp] theorem putQe_kpr (s : State) (n : Nat) (x : Qe) : (putQe s n x).kpr = s.kpr := rfl
@[simp] theorem putQe_evt (s : State) (n : Nat) (x : Qe) : (putQe s n x).evt = s.evt := rfl
@[simp] theorem putQe_evr (s : State) (n : Nat) (x : Qe) : (putQe s n x).evr = s.evr := rfl
@[simp] theorem putQe_tmb (s : State) (n : Nat) (x : Qe) : (putQe s n x).tmb = s.tmb := rfl
@[simp] theorem putQe_ces (s : State) (n : Nat) (x : Qe) : (putQe s n x).ces = s.ces := rfl
@[simp] theorem putQe_mram (s : State) (n : Nat) (x : Qe) : (putQe s n x).mram = s.mram := rfl
@[simp] theorem putQe_areaA (s : State) (n : Nat) (x : Qe) : (putQe s n x).areaA = s.areaA := rfl
@[simp] theorem putQe_areaB (s : State) (n : Nat) (x : Qe) : (putQe s n x).areaB = s.areaB := rfl
@[simp] theorem putQe_acq (s : State) (n : Nat) (x : Qe) : (putQe s n x).acq = s.acq := rfl
@[simp] theorem putQe_sto (s : State) (n : Nat) (x : Qe) : (putQe s n x).sto = s.sto := rfl
@[simp] theorem putQe_cmb (s : State) (n : Nat) (x : Qe) : (putQe s n x).cmb = s.cmb := rfl
@[simp] theorem putQe_cyc (s : State) (n : Nat) (x : Qe) : (putQe s n x).cyc = s.cyc := rfl
@[simp] theorem putQe_hst (s : State) (n : Nat) (x : Qe) : (putQe s n x).hst = s.hst := rfl
@[simp] theorem putQe_dor (s : State) (n : Nat) (x : Qe) : (putQe s n x).dor = s.dor := rfl
@[simp] theorem putQe_dsp (s : State) (n : Nat) (x : Qe) : (putQe s n x).dsp = s.dsp := rfl
@[simp] theorem putQe_safA (s : State) (n : Nat) (x : Qe) : (putQe s n x).safA = s.safA := rfl
@[simp] theorem putQe_safB (s : State) (n : Nat) (x : Qe) : (putQe s n x).safB = s.safB := rfl
@[simp] theorem putQe_saf (s : State) (n : Nat) (x : Qe) : (putQe s n x).saf = s.saf := rfl
@[simp] theorem putQe_fio (s : State) (n : Nat) (x : Qe) : (putQe s n x).fio = s.fio := rfl
@[simp] theorem putQe_can (s : State) (n : Nat) (x : Qe) : (putQe s n x).can = s.can := rfl
@[simp] theorem putQe_net (s : State) (n : Nat) (x : Qe) : (putQe s n x).net = s.net := rfl
@[simp] theorem putQe_pending (s : State) (n : Nat) (x : Qe) : (putQe s n x).pending = s.pending := rfl
@[simp] theorem putQe_fbk_cars (s : State) (n : Nat) (x : Qe) : (putQe s n x).fbk.cars = s.fbk.cars := rfl
@[simp] theorem putQe_fbk_ssi (s : State) (n : Nat) (x : Qe) : (putQe s n x).fbk.ssi = s.fbk.ssi := rfl
@[simp] theorem putQe_fbk_cmp (s : State) (n : Nat) (x : Qe) : (putQe s n x).fbk.cmp = s.fbk.cmp := rfl
@[simp] theorem qeOf_putQe (s : State) (n j : Nat) (x : Qe) :
    qeOf (putQe s n x) j = if j = n then x else qeOf s j := by simp [qeOf, putQe]

/-! `putCmp` writes `fbk.cmp`, nothing else. -/

@[simp] theorem putCmp_now (s : State) (u : Nat) (x : Compare) : (putCmp s u x).now = s.now := rfl
@[simp] theorem putCmp_free (s : State) (u : Nat) (x : Compare) : (putCmp s u x).free = s.free := rfl
@[simp] theorem putCmp_ordering (s : State) (u : Nat) (x : Compare) : (putCmp s u x).ordering = s.ordering := rfl
@[simp] theorem putCmp_dies (s : State) (u : Nat) (x : Compare) : (putCmp s u x).dies = s.dies := rfl
@[simp] theorem putCmp_pins (s : State) (u : Nat) (x : Compare) : (putCmp s u x).pins = s.pins := rfl
@[simp] theorem putCmp_rst (s : State) (u : Nat) (x : Compare) : (putCmp s u x).rst = s.rst := rfl
@[simp] theorem putCmp_trs (s : State) (u : Nat) (x : Compare) : (putCmp s u x).trs = s.trs := rfl
@[simp] theorem putCmp_frm (s : State) (u : Nat) (x : Compare) : (putCmp s u x).frm = s.frm := rfl
@[simp] theorem putCmp_img (s : State) (u : Nat) (x : Compare) : (putCmp s u x).img = s.img := rfl
@[simp] theorem putCmp_kpr (s : State) (u : Nat) (x : Compare) : (putCmp s u x).kpr = s.kpr := rfl
@[simp] theorem putCmp_evt (s : State) (u : Nat) (x : Compare) : (putCmp s u x).evt = s.evt := rfl
@[simp] theorem putCmp_evr (s : State) (u : Nat) (x : Compare) : (putCmp s u x).evr = s.evr := rfl
@[simp] theorem putCmp_tmb (s : State) (u : Nat) (x : Compare) : (putCmp s u x).tmb = s.tmb := rfl
@[simp] theorem putCmp_ces (s : State) (u : Nat) (x : Compare) : (putCmp s u x).ces = s.ces := rfl
@[simp] theorem putCmp_mram (s : State) (u : Nat) (x : Compare) : (putCmp s u x).mram = s.mram := rfl
@[simp] theorem putCmp_areaA (s : State) (u : Nat) (x : Compare) : (putCmp s u x).areaA = s.areaA := rfl
@[simp] theorem putCmp_areaB (s : State) (u : Nat) (x : Compare) : (putCmp s u x).areaB = s.areaB := rfl
@[simp] theorem putCmp_acq (s : State) (u : Nat) (x : Compare) : (putCmp s u x).acq = s.acq := rfl
@[simp] theorem putCmp_sto (s : State) (u : Nat) (x : Compare) : (putCmp s u x).sto = s.sto := rfl
@[simp] theorem putCmp_cmb (s : State) (u : Nat) (x : Compare) : (putCmp s u x).cmb = s.cmb := rfl
@[simp] theorem putCmp_cyc (s : State) (u : Nat) (x : Compare) : (putCmp s u x).cyc = s.cyc := rfl
@[simp] theorem putCmp_hst (s : State) (u : Nat) (x : Compare) : (putCmp s u x).hst = s.hst := rfl
@[simp] theorem putCmp_dor (s : State) (u : Nat) (x : Compare) : (putCmp s u x).dor = s.dor := rfl
@[simp] theorem putCmp_dsp (s : State) (u : Nat) (x : Compare) : (putCmp s u x).dsp = s.dsp := rfl
@[simp] theorem putCmp_safA (s : State) (u : Nat) (x : Compare) : (putCmp s u x).safA = s.safA := rfl
@[simp] theorem putCmp_safB (s : State) (u : Nat) (x : Compare) : (putCmp s u x).safB = s.safB := rfl
@[simp] theorem putCmp_saf (s : State) (u : Nat) (x : Compare) : (putCmp s u x).saf = s.saf := rfl
@[simp] theorem putCmp_fio (s : State) (u : Nat) (x : Compare) : (putCmp s u x).fio = s.fio := rfl
@[simp] theorem putCmp_can (s : State) (u : Nat) (x : Compare) : (putCmp s u x).can = s.can := rfl
@[simp] theorem putCmp_net (s : State) (u : Nat) (x : Compare) : (putCmp s u x).net = s.net := rfl
@[simp] theorem putCmp_pending (s : State) (u : Nat) (x : Compare) : (putCmp s u x).pending = s.pending := rfl
@[simp] theorem putCmp_fbk_cars (s : State) (u : Nat) (x : Compare) : (putCmp s u x).fbk.cars = s.fbk.cars := rfl
@[simp] theorem putCmp_fbk_ssi (s : State) (u : Nat) (x : Compare) : (putCmp s u x).fbk.ssi = s.fbk.ssi := rfl
@[simp] theorem putCmp_fbk_qe (s : State) (u : Nat) (x : Compare) : (putCmp s u x).fbk.qe = s.fbk.qe := rfl
@[simp] theorem cmpOf_putCmp (s : State) (u j : Nat) (x : Compare) :
    cmpOf (putCmp s u x) j = if j = u then x else cmpOf s j := by simp [cmpOf, putCmp]

/-! `putIn` writes `fio.ins`, nothing else. -/

@[simp] theorem putIn_now (s : State) (k : Nat) (x : FieldIn) : (putIn s k x).now = s.now := rfl
@[simp] theorem putIn_free (s : State) (k : Nat) (x : FieldIn) : (putIn s k x).free = s.free := rfl
@[simp] theorem putIn_ordering (s : State) (k : Nat) (x : FieldIn) : (putIn s k x).ordering = s.ordering := rfl
@[simp] theorem putIn_dies (s : State) (k : Nat) (x : FieldIn) : (putIn s k x).dies = s.dies := rfl
@[simp] theorem putIn_pins (s : State) (k : Nat) (x : FieldIn) : (putIn s k x).pins = s.pins := rfl
@[simp] theorem putIn_rst (s : State) (k : Nat) (x : FieldIn) : (putIn s k x).rst = s.rst := rfl
@[simp] theorem putIn_trs (s : State) (k : Nat) (x : FieldIn) : (putIn s k x).trs = s.trs := rfl
@[simp] theorem putIn_frm (s : State) (k : Nat) (x : FieldIn) : (putIn s k x).frm = s.frm := rfl
@[simp] theorem putIn_img (s : State) (k : Nat) (x : FieldIn) : (putIn s k x).img = s.img := rfl
@[simp] theorem putIn_kpr (s : State) (k : Nat) (x : FieldIn) : (putIn s k x).kpr = s.kpr := rfl
@[simp] theorem putIn_evt (s : State) (k : Nat) (x : FieldIn) : (putIn s k x).evt = s.evt := rfl
@[simp] theorem putIn_evr (s : State) (k : Nat) (x : FieldIn) : (putIn s k x).evr = s.evr := rfl
@[simp] theorem putIn_tmb (s : State) (k : Nat) (x : FieldIn) : (putIn s k x).tmb = s.tmb := rfl
@[simp] theorem putIn_ces (s : State) (k : Nat) (x : FieldIn) : (putIn s k x).ces = s.ces := rfl
@[simp] theorem putIn_mram (s : State) (k : Nat) (x : FieldIn) : (putIn s k x).mram = s.mram := rfl
@[simp] theorem putIn_areaA (s : State) (k : Nat) (x : FieldIn) : (putIn s k x).areaA = s.areaA := rfl
@[simp] theorem putIn_areaB (s : State) (k : Nat) (x : FieldIn) : (putIn s k x).areaB = s.areaB := rfl
@[simp] theorem putIn_acq (s : State) (k : Nat) (x : FieldIn) : (putIn s k x).acq = s.acq := rfl
@[simp] theorem putIn_sto (s : State) (k : Nat) (x : FieldIn) : (putIn s k x).sto = s.sto := rfl
@[simp] theorem putIn_cmb (s : State) (k : Nat) (x : FieldIn) : (putIn s k x).cmb = s.cmb := rfl
@[simp] theorem putIn_cyc (s : State) (k : Nat) (x : FieldIn) : (putIn s k x).cyc = s.cyc := rfl
@[simp] theorem putIn_hst (s : State) (k : Nat) (x : FieldIn) : (putIn s k x).hst = s.hst := rfl
@[simp] theorem putIn_fbk (s : State) (k : Nat) (x : FieldIn) : (putIn s k x).fbk = s.fbk := rfl
@[simp] theorem putIn_dor (s : State) (k : Nat) (x : FieldIn) : (putIn s k x).dor = s.dor := rfl
@[simp] theorem putIn_dsp (s : State) (k : Nat) (x : FieldIn) : (putIn s k x).dsp = s.dsp := rfl
@[simp] theorem putIn_safA (s : State) (k : Nat) (x : FieldIn) : (putIn s k x).safA = s.safA := rfl
@[simp] theorem putIn_safB (s : State) (k : Nat) (x : FieldIn) : (putIn s k x).safB = s.safB := rfl
@[simp] theorem putIn_saf (s : State) (k : Nat) (x : FieldIn) : (putIn s k x).saf = s.saf := rfl
@[simp] theorem putIn_can (s : State) (k : Nat) (x : FieldIn) : (putIn s k x).can = s.can := rfl
@[simp] theorem putIn_net (s : State) (k : Nat) (x : FieldIn) : (putIn s k x).net = s.net := rfl
@[simp] theorem putIn_pending (s : State) (k : Nat) (x : FieldIn) : (putIn s k x).pending = s.pending := rfl
@[simp] theorem putIn_fio_loaded (s : State) (k : Nat) (x : FieldIn) : (putIn s k x).fio.loaded = s.fio.loaded := rfl
@[simp] theorem putIn_fio_g1 (s : State) (k : Nat) (x : FieldIn) : (putIn s k x).fio.g1 = s.fio.g1 := rfl
@[simp] theorem putIn_fio_g2 (s : State) (k : Nat) (x : FieldIn) : (putIn s k x).fio.g2 = s.fio.g2 := rfl
@[simp] theorem putIn_fio_filled (s : State) (k : Nat) (x : FieldIn) : (putIn s k x).fio.filled = s.fio.filled := rfl
@[simp] theorem putIn_fio_temp (s : State) (k : Nat) (x : FieldIn) : (putIn s k x).fio.temp = s.fio.temp := rfl
@[simp] theorem putIn_fio_warm (s : State) (k : Nat) (x : FieldIn) : (putIn s k x).fio.warm = s.fio.warm := rfl
@[simp] theorem putIn_fio_hot (s : State) (k : Nat) (x : FieldIn) : (putIn s k x).fio.hot = s.fio.hot := rfl
@[simp] theorem putIn_fio_outs (s : State) (k : Nat) (x : FieldIn) : (putIn s k x).fio.outs = s.fio.outs := rfl
@[simp] theorem putIn_fio_coils (s : State) (k : Nat) (x : FieldIn) : (putIn s k x).fio.coils = s.fio.coils := rfl
@[simp] theorem putIn_fio_adcs (s : State) (k : Nat) (x : FieldIn) : (putIn s k x).fio.adcs = s.fio.adcs := rfl
@[simp] theorem putIn_fio_gateA (s : State) (k : Nat) (x : FieldIn) : (putIn s k x).fio.gateA = s.fio.gateA := rfl
@[simp] theorem putIn_fio_gateB (s : State) (k : Nat) (x : FieldIn) : (putIn s k x).fio.gateB = s.fio.gateB := rfl
@[simp] theorem putIn_fio_coilA (s : State) (k : Nat) (x : FieldIn) : (putIn s k x).fio.coilA = s.fio.coilA := rfl
@[simp] theorem putIn_fio_coilB (s : State) (k : Nat) (x : FieldIn) : (putIn s k x).fio.coilB = s.fio.coilB := rfl
@[simp] theorem putIn_fio_ref0Bad (s : State) (k : Nat) (x : FieldIn) : (putIn s k x).fio.ref0Bad = s.fio.ref0Bad := rfl
@[simp] theorem putIn_fio_ref1Bad (s : State) (k : Nat) (x : FieldIn) : (putIn s k x).fio.ref1Bad = s.fio.ref1Bad := rfl
@[simp] theorem putIn_fio_keeperSilent (s : State) (k : Nat) (x : FieldIn) : (putIn s k x).fio.keeperSilent = s.fio.keeperSilent := rfl
@[simp] theorem fieldIn_putIn (s : State) (k j : Nat) (x : FieldIn) :
    fieldIn (putIn s k x) j = if j = k then x else fieldIn s j := by simp [fieldIn, putIn]

/-! `putOut` writes `fio.outs`, nothing else. -/

@[simp] theorem putOut_now (s : State) (o : Nat) (x : FieldOut) : (putOut s o x).now = s.now := rfl
@[simp] theorem putOut_free (s : State) (o : Nat) (x : FieldOut) : (putOut s o x).free = s.free := rfl
@[simp] theorem putOut_ordering (s : State) (o : Nat) (x : FieldOut) : (putOut s o x).ordering = s.ordering := rfl
@[simp] theorem putOut_dies (s : State) (o : Nat) (x : FieldOut) : (putOut s o x).dies = s.dies := rfl
@[simp] theorem putOut_pins (s : State) (o : Nat) (x : FieldOut) : (putOut s o x).pins = s.pins := rfl
@[simp] theorem putOut_rst (s : State) (o : Nat) (x : FieldOut) : (putOut s o x).rst = s.rst := rfl
@[simp] theorem putOut_trs (s : State) (o : Nat) (x : FieldOut) : (putOut s o x).trs = s.trs := rfl
@[simp] theorem putOut_frm (s : State) (o : Nat) (x : FieldOut) : (putOut s o x).frm = s.frm := rfl
@[simp] theorem putOut_img (s : State) (o : Nat) (x : FieldOut) : (putOut s o x).img = s.img := rfl
@[simp] theorem putOut_kpr (s : State) (o : Nat) (x : FieldOut) : (putOut s o x).kpr = s.kpr := rfl
@[simp] theorem putOut_evt (s : State) (o : Nat) (x : FieldOut) : (putOut s o x).evt = s.evt := rfl
@[simp] theorem putOut_evr (s : State) (o : Nat) (x : FieldOut) : (putOut s o x).evr = s.evr := rfl
@[simp] theorem putOut_tmb (s : State) (o : Nat) (x : FieldOut) : (putOut s o x).tmb = s.tmb := rfl
@[simp] theorem putOut_ces (s : State) (o : Nat) (x : FieldOut) : (putOut s o x).ces = s.ces := rfl
@[simp] theorem putOut_mram (s : State) (o : Nat) (x : FieldOut) : (putOut s o x).mram = s.mram := rfl
@[simp] theorem putOut_areaA (s : State) (o : Nat) (x : FieldOut) : (putOut s o x).areaA = s.areaA := rfl
@[simp] theorem putOut_areaB (s : State) (o : Nat) (x : FieldOut) : (putOut s o x).areaB = s.areaB := rfl
@[simp] theorem putOut_acq (s : State) (o : Nat) (x : FieldOut) : (putOut s o x).acq = s.acq := rfl
@[simp] theorem putOut_sto (s : State) (o : Nat) (x : FieldOut) : (putOut s o x).sto = s.sto := rfl
@[simp] theorem putOut_cmb (s : State) (o : Nat) (x : FieldOut) : (putOut s o x).cmb = s.cmb := rfl
@[simp] theorem putOut_cyc (s : State) (o : Nat) (x : FieldOut) : (putOut s o x).cyc = s.cyc := rfl
@[simp] theorem putOut_hst (s : State) (o : Nat) (x : FieldOut) : (putOut s o x).hst = s.hst := rfl
@[simp] theorem putOut_fbk (s : State) (o : Nat) (x : FieldOut) : (putOut s o x).fbk = s.fbk := rfl
@[simp] theorem putOut_dor (s : State) (o : Nat) (x : FieldOut) : (putOut s o x).dor = s.dor := rfl
@[simp] theorem putOut_dsp (s : State) (o : Nat) (x : FieldOut) : (putOut s o x).dsp = s.dsp := rfl
@[simp] theorem putOut_safA (s : State) (o : Nat) (x : FieldOut) : (putOut s o x).safA = s.safA := rfl
@[simp] theorem putOut_safB (s : State) (o : Nat) (x : FieldOut) : (putOut s o x).safB = s.safB := rfl
@[simp] theorem putOut_saf (s : State) (o : Nat) (x : FieldOut) : (putOut s o x).saf = s.saf := rfl
@[simp] theorem putOut_can (s : State) (o : Nat) (x : FieldOut) : (putOut s o x).can = s.can := rfl
@[simp] theorem putOut_net (s : State) (o : Nat) (x : FieldOut) : (putOut s o x).net = s.net := rfl
@[simp] theorem putOut_pending (s : State) (o : Nat) (x : FieldOut) : (putOut s o x).pending = s.pending := rfl
@[simp] theorem putOut_fio_loaded (s : State) (o : Nat) (x : FieldOut) : (putOut s o x).fio.loaded = s.fio.loaded := rfl
@[simp] theorem putOut_fio_g1 (s : State) (o : Nat) (x : FieldOut) : (putOut s o x).fio.g1 = s.fio.g1 := rfl
@[simp] theorem putOut_fio_g2 (s : State) (o : Nat) (x : FieldOut) : (putOut s o x).fio.g2 = s.fio.g2 := rfl
@[simp] theorem putOut_fio_filled (s : State) (o : Nat) (x : FieldOut) : (putOut s o x).fio.filled = s.fio.filled := rfl
@[simp] theorem putOut_fio_temp (s : State) (o : Nat) (x : FieldOut) : (putOut s o x).fio.temp = s.fio.temp := rfl
@[simp] theorem putOut_fio_warm (s : State) (o : Nat) (x : FieldOut) : (putOut s o x).fio.warm = s.fio.warm := rfl
@[simp] theorem putOut_fio_hot (s : State) (o : Nat) (x : FieldOut) : (putOut s o x).fio.hot = s.fio.hot := rfl
@[simp] theorem putOut_fio_ins (s : State) (o : Nat) (x : FieldOut) : (putOut s o x).fio.ins = s.fio.ins := rfl
@[simp] theorem putOut_fio_coils (s : State) (o : Nat) (x : FieldOut) : (putOut s o x).fio.coils = s.fio.coils := rfl
@[simp] theorem putOut_fio_adcs (s : State) (o : Nat) (x : FieldOut) : (putOut s o x).fio.adcs = s.fio.adcs := rfl
@[simp] theorem putOut_fio_gateA (s : State) (o : Nat) (x : FieldOut) : (putOut s o x).fio.gateA = s.fio.gateA := rfl
@[simp] theorem putOut_fio_gateB (s : State) (o : Nat) (x : FieldOut) : (putOut s o x).fio.gateB = s.fio.gateB := rfl
@[simp] theorem putOut_fio_coilA (s : State) (o : Nat) (x : FieldOut) : (putOut s o x).fio.coilA = s.fio.coilA := rfl
@[simp] theorem putOut_fio_coilB (s : State) (o : Nat) (x : FieldOut) : (putOut s o x).fio.coilB = s.fio.coilB := rfl
@[simp] theorem putOut_fio_ref0Bad (s : State) (o : Nat) (x : FieldOut) : (putOut s o x).fio.ref0Bad = s.fio.ref0Bad := rfl
@[simp] theorem putOut_fio_ref1Bad (s : State) (o : Nat) (x : FieldOut) : (putOut s o x).fio.ref1Bad = s.fio.ref1Bad := rfl
@[simp] theorem putOut_fio_keeperSilent (s : State) (o : Nat) (x : FieldOut) : (putOut s o x).fio.keeperSilent = s.fio.keeperSilent := rfl
@[simp] theorem fieldOut_putOut (s : State) (o j : Nat) (x : FieldOut) :
    fieldOut (putOut s o x) j = if j = o then x else fieldOut s j := by simp [fieldOut, putOut]

/-! `putCoil` writes `fio.coils`, nothing else. -/

@[simp] theorem putCoil_now (s : State) (k : Nat) (x : Coil) : (putCoil s k x).now = s.now := rfl
@[simp] theorem putCoil_free (s : State) (k : Nat) (x : Coil) : (putCoil s k x).free = s.free := rfl
@[simp] theorem putCoil_ordering (s : State) (k : Nat) (x : Coil) : (putCoil s k x).ordering = s.ordering := rfl
@[simp] theorem putCoil_dies (s : State) (k : Nat) (x : Coil) : (putCoil s k x).dies = s.dies := rfl
@[simp] theorem putCoil_pins (s : State) (k : Nat) (x : Coil) : (putCoil s k x).pins = s.pins := rfl
@[simp] theorem putCoil_rst (s : State) (k : Nat) (x : Coil) : (putCoil s k x).rst = s.rst := rfl
@[simp] theorem putCoil_trs (s : State) (k : Nat) (x : Coil) : (putCoil s k x).trs = s.trs := rfl
@[simp] theorem putCoil_frm (s : State) (k : Nat) (x : Coil) : (putCoil s k x).frm = s.frm := rfl
@[simp] theorem putCoil_img (s : State) (k : Nat) (x : Coil) : (putCoil s k x).img = s.img := rfl
@[simp] theorem putCoil_kpr (s : State) (k : Nat) (x : Coil) : (putCoil s k x).kpr = s.kpr := rfl
@[simp] theorem putCoil_evt (s : State) (k : Nat) (x : Coil) : (putCoil s k x).evt = s.evt := rfl
@[simp] theorem putCoil_evr (s : State) (k : Nat) (x : Coil) : (putCoil s k x).evr = s.evr := rfl
@[simp] theorem putCoil_tmb (s : State) (k : Nat) (x : Coil) : (putCoil s k x).tmb = s.tmb := rfl
@[simp] theorem putCoil_ces (s : State) (k : Nat) (x : Coil) : (putCoil s k x).ces = s.ces := rfl
@[simp] theorem putCoil_mram (s : State) (k : Nat) (x : Coil) : (putCoil s k x).mram = s.mram := rfl
@[simp] theorem putCoil_areaA (s : State) (k : Nat) (x : Coil) : (putCoil s k x).areaA = s.areaA := rfl
@[simp] theorem putCoil_areaB (s : State) (k : Nat) (x : Coil) : (putCoil s k x).areaB = s.areaB := rfl
@[simp] theorem putCoil_acq (s : State) (k : Nat) (x : Coil) : (putCoil s k x).acq = s.acq := rfl
@[simp] theorem putCoil_sto (s : State) (k : Nat) (x : Coil) : (putCoil s k x).sto = s.sto := rfl
@[simp] theorem putCoil_cmb (s : State) (k : Nat) (x : Coil) : (putCoil s k x).cmb = s.cmb := rfl
@[simp] theorem putCoil_cyc (s : State) (k : Nat) (x : Coil) : (putCoil s k x).cyc = s.cyc := rfl
@[simp] theorem putCoil_hst (s : State) (k : Nat) (x : Coil) : (putCoil s k x).hst = s.hst := rfl
@[simp] theorem putCoil_fbk (s : State) (k : Nat) (x : Coil) : (putCoil s k x).fbk = s.fbk := rfl
@[simp] theorem putCoil_dor (s : State) (k : Nat) (x : Coil) : (putCoil s k x).dor = s.dor := rfl
@[simp] theorem putCoil_dsp (s : State) (k : Nat) (x : Coil) : (putCoil s k x).dsp = s.dsp := rfl
@[simp] theorem putCoil_safA (s : State) (k : Nat) (x : Coil) : (putCoil s k x).safA = s.safA := rfl
@[simp] theorem putCoil_safB (s : State) (k : Nat) (x : Coil) : (putCoil s k x).safB = s.safB := rfl
@[simp] theorem putCoil_saf (s : State) (k : Nat) (x : Coil) : (putCoil s k x).saf = s.saf := rfl
@[simp] theorem putCoil_can (s : State) (k : Nat) (x : Coil) : (putCoil s k x).can = s.can := rfl
@[simp] theorem putCoil_net (s : State) (k : Nat) (x : Coil) : (putCoil s k x).net = s.net := rfl
@[simp] theorem putCoil_pending (s : State) (k : Nat) (x : Coil) : (putCoil s k x).pending = s.pending := rfl
@[simp] theorem putCoil_fio_loaded (s : State) (k : Nat) (x : Coil) : (putCoil s k x).fio.loaded = s.fio.loaded := rfl
@[simp] theorem putCoil_fio_g1 (s : State) (k : Nat) (x : Coil) : (putCoil s k x).fio.g1 = s.fio.g1 := rfl
@[simp] theorem putCoil_fio_g2 (s : State) (k : Nat) (x : Coil) : (putCoil s k x).fio.g2 = s.fio.g2 := rfl
@[simp] theorem putCoil_fio_filled (s : State) (k : Nat) (x : Coil) : (putCoil s k x).fio.filled = s.fio.filled := rfl
@[simp] theorem putCoil_fio_temp (s : State) (k : Nat) (x : Coil) : (putCoil s k x).fio.temp = s.fio.temp := rfl
@[simp] theorem putCoil_fio_warm (s : State) (k : Nat) (x : Coil) : (putCoil s k x).fio.warm = s.fio.warm := rfl
@[simp] theorem putCoil_fio_hot (s : State) (k : Nat) (x : Coil) : (putCoil s k x).fio.hot = s.fio.hot := rfl
@[simp] theorem putCoil_fio_ins (s : State) (k : Nat) (x : Coil) : (putCoil s k x).fio.ins = s.fio.ins := rfl
@[simp] theorem putCoil_fio_outs (s : State) (k : Nat) (x : Coil) : (putCoil s k x).fio.outs = s.fio.outs := rfl
@[simp] theorem putCoil_fio_adcs (s : State) (k : Nat) (x : Coil) : (putCoil s k x).fio.adcs = s.fio.adcs := rfl
@[simp] theorem putCoil_fio_gateA (s : State) (k : Nat) (x : Coil) : (putCoil s k x).fio.gateA = s.fio.gateA := rfl
@[simp] theorem putCoil_fio_gateB (s : State) (k : Nat) (x : Coil) : (putCoil s k x).fio.gateB = s.fio.gateB := rfl
@[simp] theorem putCoil_fio_coilA (s : State) (k : Nat) (x : Coil) : (putCoil s k x).fio.coilA = s.fio.coilA := rfl
@[simp] theorem putCoil_fio_coilB (s : State) (k : Nat) (x : Coil) : (putCoil s k x).fio.coilB = s.fio.coilB := rfl
@[simp] theorem putCoil_fio_ref0Bad (s : State) (k : Nat) (x : Coil) : (putCoil s k x).fio.ref0Bad = s.fio.ref0Bad := rfl
@[simp] theorem putCoil_fio_ref1Bad (s : State) (k : Nat) (x : Coil) : (putCoil s k x).fio.ref1Bad = s.fio.ref1Bad := rfl
@[simp] theorem putCoil_fio_keeperSilent (s : State) (k : Nat) (x : Coil) : (putCoil s k x).fio.keeperSilent = s.fio.keeperSilent := rfl
@[simp] theorem coilOf_putCoil (s : State) (k j : Nat) (x : Coil) :
    coilOf (putCoil s k x) j = if j = k then x else coilOf s j := by simp [coilOf, putCoil]

/-! `putAdc` writes `fio.adcs`, nothing else. -/

@[simp] theorem putAdc_now (s : State) (a : Nat) (x : Adc) : (putAdc s a x).now = s.now := rfl
@[simp] theorem putAdc_free (s : State) (a : Nat) (x : Adc) : (putAdc s a x).free = s.free := rfl
@[simp] theorem putAdc_ordering (s : State) (a : Nat) (x : Adc) : (putAdc s a x).ordering = s.ordering := rfl
@[simp] theorem putAdc_dies (s : State) (a : Nat) (x : Adc) : (putAdc s a x).dies = s.dies := rfl
@[simp] theorem putAdc_pins (s : State) (a : Nat) (x : Adc) : (putAdc s a x).pins = s.pins := rfl
@[simp] theorem putAdc_rst (s : State) (a : Nat) (x : Adc) : (putAdc s a x).rst = s.rst := rfl
@[simp] theorem putAdc_trs (s : State) (a : Nat) (x : Adc) : (putAdc s a x).trs = s.trs := rfl
@[simp] theorem putAdc_frm (s : State) (a : Nat) (x : Adc) : (putAdc s a x).frm = s.frm := rfl
@[simp] theorem putAdc_img (s : State) (a : Nat) (x : Adc) : (putAdc s a x).img = s.img := rfl
@[simp] theorem putAdc_kpr (s : State) (a : Nat) (x : Adc) : (putAdc s a x).kpr = s.kpr := rfl
@[simp] theorem putAdc_evt (s : State) (a : Nat) (x : Adc) : (putAdc s a x).evt = s.evt := rfl
@[simp] theorem putAdc_evr (s : State) (a : Nat) (x : Adc) : (putAdc s a x).evr = s.evr := rfl
@[simp] theorem putAdc_tmb (s : State) (a : Nat) (x : Adc) : (putAdc s a x).tmb = s.tmb := rfl
@[simp] theorem putAdc_ces (s : State) (a : Nat) (x : Adc) : (putAdc s a x).ces = s.ces := rfl
@[simp] theorem putAdc_mram (s : State) (a : Nat) (x : Adc) : (putAdc s a x).mram = s.mram := rfl
@[simp] theorem putAdc_areaA (s : State) (a : Nat) (x : Adc) : (putAdc s a x).areaA = s.areaA := rfl
@[simp] theorem putAdc_areaB (s : State) (a : Nat) (x : Adc) : (putAdc s a x).areaB = s.areaB := rfl
@[simp] theorem putAdc_acq (s : State) (a : Nat) (x : Adc) : (putAdc s a x).acq = s.acq := rfl
@[simp] theorem putAdc_sto (s : State) (a : Nat) (x : Adc) : (putAdc s a x).sto = s.sto := rfl
@[simp] theorem putAdc_cmb (s : State) (a : Nat) (x : Adc) : (putAdc s a x).cmb = s.cmb := rfl
@[simp] theorem putAdc_cyc (s : State) (a : Nat) (x : Adc) : (putAdc s a x).cyc = s.cyc := rfl
@[simp] theorem putAdc_hst (s : State) (a : Nat) (x : Adc) : (putAdc s a x).hst = s.hst := rfl
@[simp] theorem putAdc_fbk (s : State) (a : Nat) (x : Adc) : (putAdc s a x).fbk = s.fbk := rfl
@[simp] theorem putAdc_dor (s : State) (a : Nat) (x : Adc) : (putAdc s a x).dor = s.dor := rfl
@[simp] theorem putAdc_dsp (s : State) (a : Nat) (x : Adc) : (putAdc s a x).dsp = s.dsp := rfl
@[simp] theorem putAdc_safA (s : State) (a : Nat) (x : Adc) : (putAdc s a x).safA = s.safA := rfl
@[simp] theorem putAdc_safB (s : State) (a : Nat) (x : Adc) : (putAdc s a x).safB = s.safB := rfl
@[simp] theorem putAdc_saf (s : State) (a : Nat) (x : Adc) : (putAdc s a x).saf = s.saf := rfl
@[simp] theorem putAdc_can (s : State) (a : Nat) (x : Adc) : (putAdc s a x).can = s.can := rfl
@[simp] theorem putAdc_net (s : State) (a : Nat) (x : Adc) : (putAdc s a x).net = s.net := rfl
@[simp] theorem putAdc_pending (s : State) (a : Nat) (x : Adc) : (putAdc s a x).pending = s.pending := rfl
@[simp] theorem putAdc_fio_loaded (s : State) (a : Nat) (x : Adc) : (putAdc s a x).fio.loaded = s.fio.loaded := rfl
@[simp] theorem putAdc_fio_g1 (s : State) (a : Nat) (x : Adc) : (putAdc s a x).fio.g1 = s.fio.g1 := rfl
@[simp] theorem putAdc_fio_g2 (s : State) (a : Nat) (x : Adc) : (putAdc s a x).fio.g2 = s.fio.g2 := rfl
@[simp] theorem putAdc_fio_filled (s : State) (a : Nat) (x : Adc) : (putAdc s a x).fio.filled = s.fio.filled := rfl
@[simp] theorem putAdc_fio_temp (s : State) (a : Nat) (x : Adc) : (putAdc s a x).fio.temp = s.fio.temp := rfl
@[simp] theorem putAdc_fio_warm (s : State) (a : Nat) (x : Adc) : (putAdc s a x).fio.warm = s.fio.warm := rfl
@[simp] theorem putAdc_fio_hot (s : State) (a : Nat) (x : Adc) : (putAdc s a x).fio.hot = s.fio.hot := rfl
@[simp] theorem putAdc_fio_ins (s : State) (a : Nat) (x : Adc) : (putAdc s a x).fio.ins = s.fio.ins := rfl
@[simp] theorem putAdc_fio_outs (s : State) (a : Nat) (x : Adc) : (putAdc s a x).fio.outs = s.fio.outs := rfl
@[simp] theorem putAdc_fio_coils (s : State) (a : Nat) (x : Adc) : (putAdc s a x).fio.coils = s.fio.coils := rfl
@[simp] theorem putAdc_fio_gateA (s : State) (a : Nat) (x : Adc) : (putAdc s a x).fio.gateA = s.fio.gateA := rfl
@[simp] theorem putAdc_fio_gateB (s : State) (a : Nat) (x : Adc) : (putAdc s a x).fio.gateB = s.fio.gateB := rfl
@[simp] theorem putAdc_fio_coilA (s : State) (a : Nat) (x : Adc) : (putAdc s a x).fio.coilA = s.fio.coilA := rfl
@[simp] theorem putAdc_fio_coilB (s : State) (a : Nat) (x : Adc) : (putAdc s a x).fio.coilB = s.fio.coilB := rfl
@[simp] theorem putAdc_fio_ref0Bad (s : State) (a : Nat) (x : Adc) : (putAdc s a x).fio.ref0Bad = s.fio.ref0Bad := rfl
@[simp] theorem putAdc_fio_ref1Bad (s : State) (a : Nat) (x : Adc) : (putAdc s a x).fio.ref1Bad = s.fio.ref1Bad := rfl
@[simp] theorem putAdc_fio_keeperSilent (s : State) (a : Nat) (x : Adc) : (putAdc s a x).fio.keeperSilent = s.fio.keeperSilent := rfl
@[simp] theorem adcOf_putAdc (s : State) (a j : Nat) (x : Adc) :
    adcOf (putAdc s a x) j = if j = a then x else adcOf s j := by simp [adcOf, putAdc]

/-! `putStage` writes `sto.stages`, nothing else. -/

@[simp] theorem putStage_now (s : State) (st : Nat) (g : Stage) : (putStage s st g).now = s.now := rfl
@[simp] theorem putStage_free (s : State) (st : Nat) (g : Stage) : (putStage s st g).free = s.free := rfl
@[simp] theorem putStage_ordering (s : State) (st : Nat) (g : Stage) : (putStage s st g).ordering = s.ordering := rfl
@[simp] theorem putStage_dies (s : State) (st : Nat) (g : Stage) : (putStage s st g).dies = s.dies := rfl
@[simp] theorem putStage_pins (s : State) (st : Nat) (g : Stage) : (putStage s st g).pins = s.pins := rfl
@[simp] theorem putStage_rst (s : State) (st : Nat) (g : Stage) : (putStage s st g).rst = s.rst := rfl
@[simp] theorem putStage_trs (s : State) (st : Nat) (g : Stage) : (putStage s st g).trs = s.trs := rfl
@[simp] theorem putStage_frm (s : State) (st : Nat) (g : Stage) : (putStage s st g).frm = s.frm := rfl
@[simp] theorem putStage_img (s : State) (st : Nat) (g : Stage) : (putStage s st g).img = s.img := rfl
@[simp] theorem putStage_kpr (s : State) (st : Nat) (g : Stage) : (putStage s st g).kpr = s.kpr := rfl
@[simp] theorem putStage_evt (s : State) (st : Nat) (g : Stage) : (putStage s st g).evt = s.evt := rfl
@[simp] theorem putStage_evr (s : State) (st : Nat) (g : Stage) : (putStage s st g).evr = s.evr := rfl
@[simp] theorem putStage_tmb (s : State) (st : Nat) (g : Stage) : (putStage s st g).tmb = s.tmb := rfl
@[simp] theorem putStage_ces (s : State) (st : Nat) (g : Stage) : (putStage s st g).ces = s.ces := rfl
@[simp] theorem putStage_mram (s : State) (st : Nat) (g : Stage) : (putStage s st g).mram = s.mram := rfl
@[simp] theorem putStage_areaA (s : State) (st : Nat) (g : Stage) : (putStage s st g).areaA = s.areaA := rfl
@[simp] theorem putStage_areaB (s : State) (st : Nat) (g : Stage) : (putStage s st g).areaB = s.areaB := rfl
@[simp] theorem putStage_acq (s : State) (st : Nat) (g : Stage) : (putStage s st g).acq = s.acq := rfl
@[simp] theorem putStage_cmb (s : State) (st : Nat) (g : Stage) : (putStage s st g).cmb = s.cmb := rfl
@[simp] theorem putStage_cyc (s : State) (st : Nat) (g : Stage) : (putStage s st g).cyc = s.cyc := rfl
@[simp] theorem putStage_hst (s : State) (st : Nat) (g : Stage) : (putStage s st g).hst = s.hst := rfl
@[simp] theorem putStage_fbk (s : State) (st : Nat) (g : Stage) : (putStage s st g).fbk = s.fbk := rfl
@[simp] theorem putStage_dor (s : State) (st : Nat) (g : Stage) : (putStage s st g).dor = s.dor := rfl
@[simp] theorem putStage_dsp (s : State) (st : Nat) (g : Stage) : (putStage s st g).dsp = s.dsp := rfl
@[simp] theorem putStage_safA (s : State) (st : Nat) (g : Stage) : (putStage s st g).safA = s.safA := rfl
@[simp] theorem putStage_safB (s : State) (st : Nat) (g : Stage) : (putStage s st g).safB = s.safB := rfl
@[simp] theorem putStage_saf (s : State) (st : Nat) (g : Stage) : (putStage s st g).saf = s.saf := rfl
@[simp] theorem putStage_fio (s : State) (st : Nat) (g : Stage) : (putStage s st g).fio = s.fio := rfl
@[simp] theorem putStage_can (s : State) (st : Nat) (g : Stage) : (putStage s st g).can = s.can := rfl
@[simp] theorem putStage_net (s : State) (st : Nat) (g : Stage) : (putStage s st g).net = s.net := rfl
@[simp] theorem putStage_pending (s : State) (st : Nat) (g : Stage) : (putStage s st g).pending = s.pending := rfl
@[simp] theorem putStage_sto_state (s : State) (st : Nat) (g : Stage) : (putStage s st g).sto.state = s.sto.state := rfl
@[simp] theorem putStage_sto_mirror (s : State) (st : Nat) (g : Stage) : (putStage s st g).sto.mirror = s.sto.mirror := rfl
@[simp] theorem putStage_sto_degraded (s : State) (st : Nat) (g : Stage) : (putStage s st g).sto.degraded = s.sto.degraded := rfl
@[simp] theorem putStage_sto_rebuild (s : State) (st : Nat) (g : Stage) : (putStage s st g).sto.rebuild = s.sto.rebuild := rfl
@[simp] theorem putStage_sto_rate (s : State) (st : Nat) (g : Stage) : (putStage s st g).sto.rate = s.sto.rate := rfl
@[simp] theorem putStage_sto_port0 (s : State) (st : Nat) (g : Stage) : (putStage s st g).sto.port0 = s.sto.port0 := rfl
@[simp] theorem putStage_sto_port1 (s : State) (st : Nat) (g : Stage) : (putStage s st g).sto.port1 = s.sto.port1 := rfl
@[simp] theorem putStage_sto_result (s : State) (st : Nat) (g : Stage) : (putStage s st g).sto.result = s.sto.result := rfl
@[simp] theorem putStage_sto_formatted (s : State) (st : Nat) (g : Stage) : (putStage s st g).sto.formatted = s.sto.formatted := rfl
@[simp] theorem putStage_sto_formatTag (s : State) (st : Nat) (g : Stage) : (putStage s st g).sto.formatTag = s.sto.formatTag := rfl
@[simp] theorem putStage_sto_blocks (s : State) (st : Nat) (g : Stage) : (putStage s st g).sto.blocks = s.sto.blocks := rfl
@[simp] theorem putStage_sto_shares (s : State) (st : Nat) (g : Stage) : (putStage s st g).sto.shares = s.sto.shares := rfl
@[simp] theorem putStage_sto_rebuildPort (s : State) (st : Nat) (g : Stage) : (putStage s st g).sto.rebuildPort = s.sto.rebuildPort := rfl
@[simp] theorem putStage_sto_rings (s : State) (st : Nat) (g : Stage) : (putStage s st g).sto.rings = s.sto.rings := rfl
@[simp] theorem putStage_sto_cons (s : State) (st : Nat) (g : Stage) : (putStage s st g).sto.cons = s.sto.cons := rfl
@[simp] theorem putStage_sto_halted (s : State) (st : Nat) (g : Stage) : (putStage s st g).sto.halted = s.sto.halted := rfl
@[simp] theorem stageOf_putStage (s : State) (st j : Nat) (g : Stage) :
    stageOf (putStage s st g) j = if j = st then g else stageOf s j := by simp [stageOf, putStage]

/-! `putUnit` writes `acq.units`, nothing else. -/

@[simp] theorem putUnit_now (s : State) (u : Nat) (a : AcqUnit) : (putUnit s u a).now = s.now := rfl
@[simp] theorem putUnit_free (s : State) (u : Nat) (a : AcqUnit) : (putUnit s u a).free = s.free := rfl
@[simp] theorem putUnit_ordering (s : State) (u : Nat) (a : AcqUnit) : (putUnit s u a).ordering = s.ordering := rfl
@[simp] theorem putUnit_dies (s : State) (u : Nat) (a : AcqUnit) : (putUnit s u a).dies = s.dies := rfl
@[simp] theorem putUnit_pins (s : State) (u : Nat) (a : AcqUnit) : (putUnit s u a).pins = s.pins := rfl
@[simp] theorem putUnit_rst (s : State) (u : Nat) (a : AcqUnit) : (putUnit s u a).rst = s.rst := rfl
@[simp] theorem putUnit_trs (s : State) (u : Nat) (a : AcqUnit) : (putUnit s u a).trs = s.trs := rfl
@[simp] theorem putUnit_frm (s : State) (u : Nat) (a : AcqUnit) : (putUnit s u a).frm = s.frm := rfl
@[simp] theorem putUnit_img (s : State) (u : Nat) (a : AcqUnit) : (putUnit s u a).img = s.img := rfl
@[simp] theorem putUnit_kpr (s : State) (u : Nat) (a : AcqUnit) : (putUnit s u a).kpr = s.kpr := rfl
@[simp] theorem putUnit_evt (s : State) (u : Nat) (a : AcqUnit) : (putUnit s u a).evt = s.evt := rfl
@[simp] theorem putUnit_evr (s : State) (u : Nat) (a : AcqUnit) : (putUnit s u a).evr = s.evr := rfl
@[simp] theorem putUnit_tmb (s : State) (u : Nat) (a : AcqUnit) : (putUnit s u a).tmb = s.tmb := rfl
@[simp] theorem putUnit_ces (s : State) (u : Nat) (a : AcqUnit) : (putUnit s u a).ces = s.ces := rfl
@[simp] theorem putUnit_mram (s : State) (u : Nat) (a : AcqUnit) : (putUnit s u a).mram = s.mram := rfl
@[simp] theorem putUnit_areaA (s : State) (u : Nat) (a : AcqUnit) : (putUnit s u a).areaA = s.areaA := rfl
@[simp] theorem putUnit_areaB (s : State) (u : Nat) (a : AcqUnit) : (putUnit s u a).areaB = s.areaB := rfl
@[simp] theorem putUnit_sto (s : State) (u : Nat) (a : AcqUnit) : (putUnit s u a).sto = s.sto := rfl
@[simp] theorem putUnit_cmb (s : State) (u : Nat) (a : AcqUnit) : (putUnit s u a).cmb = s.cmb := rfl
@[simp] theorem putUnit_cyc (s : State) (u : Nat) (a : AcqUnit) : (putUnit s u a).cyc = s.cyc := rfl
@[simp] theorem putUnit_hst (s : State) (u : Nat) (a : AcqUnit) : (putUnit s u a).hst = s.hst := rfl
@[simp] theorem putUnit_fbk (s : State) (u : Nat) (a : AcqUnit) : (putUnit s u a).fbk = s.fbk := rfl
@[simp] theorem putUnit_dor (s : State) (u : Nat) (a : AcqUnit) : (putUnit s u a).dor = s.dor := rfl
@[simp] theorem putUnit_dsp (s : State) (u : Nat) (a : AcqUnit) : (putUnit s u a).dsp = s.dsp := rfl
@[simp] theorem putUnit_safA (s : State) (u : Nat) (a : AcqUnit) : (putUnit s u a).safA = s.safA := rfl
@[simp] theorem putUnit_safB (s : State) (u : Nat) (a : AcqUnit) : (putUnit s u a).safB = s.safB := rfl
@[simp] theorem putUnit_saf (s : State) (u : Nat) (a : AcqUnit) : (putUnit s u a).saf = s.saf := rfl
@[simp] theorem putUnit_fio (s : State) (u : Nat) (a : AcqUnit) : (putUnit s u a).fio = s.fio := rfl
@[simp] theorem putUnit_can (s : State) (u : Nat) (a : AcqUnit) : (putUnit s u a).can = s.can := rfl
@[simp] theorem putUnit_net (s : State) (u : Nat) (a : AcqUnit) : (putUnit s u a).net = s.net := rfl
@[simp] theorem putUnit_pending (s : State) (u : Nat) (a : AcqUnit) : (putUnit s u a).pending = s.pending := rfl
@[simp] theorem putUnit_acq_trigs (s : State) (u : Nat) (a : AcqUnit) : (putUnit s u a).acq.trigs = s.acq.trigs := rfl
@[simp] theorem putUnit_acq_ints (s : State) (u : Nat) (a : AcqUnit) : (putUnit s u a).acq.ints = s.acq.ints := rfl
@[simp] theorem acqUnit_putUnit (s : State) (u j : Nat) (a : AcqUnit) :
    acqUnit (putUnit s u a) j = if j = u then a else acqUnit s j := by simp [acqUnit, putUnit]

/-! `putConsumer` writes `sto.cons`, nothing else. -/

@[simp] theorem putConsumer_now (s : State) (k : Nat) (c : Consumer) : (putConsumer s k c).now = s.now := rfl
@[simp] theorem putConsumer_free (s : State) (k : Nat) (c : Consumer) : (putConsumer s k c).free = s.free := rfl
@[simp] theorem putConsumer_ordering (s : State) (k : Nat) (c : Consumer) : (putConsumer s k c).ordering = s.ordering := rfl
@[simp] theorem putConsumer_dies (s : State) (k : Nat) (c : Consumer) : (putConsumer s k c).dies = s.dies := rfl
@[simp] theorem putConsumer_pins (s : State) (k : Nat) (c : Consumer) : (putConsumer s k c).pins = s.pins := rfl
@[simp] theorem putConsumer_rst (s : State) (k : Nat) (c : Consumer) : (putConsumer s k c).rst = s.rst := rfl
@[simp] theorem putConsumer_trs (s : State) (k : Nat) (c : Consumer) : (putConsumer s k c).trs = s.trs := rfl
@[simp] theorem putConsumer_frm (s : State) (k : Nat) (c : Consumer) : (putConsumer s k c).frm = s.frm := rfl
@[simp] theorem putConsumer_img (s : State) (k : Nat) (c : Consumer) : (putConsumer s k c).img = s.img := rfl
@[simp] theorem putConsumer_kpr (s : State) (k : Nat) (c : Consumer) : (putConsumer s k c).kpr = s.kpr := rfl
@[simp] theorem putConsumer_evt (s : State) (k : Nat) (c : Consumer) : (putConsumer s k c).evt = s.evt := rfl
@[simp] theorem putConsumer_evr (s : State) (k : Nat) (c : Consumer) : (putConsumer s k c).evr = s.evr := rfl
@[simp] theorem putConsumer_tmb (s : State) (k : Nat) (c : Consumer) : (putConsumer s k c).tmb = s.tmb := rfl
@[simp] theorem putConsumer_ces (s : State) (k : Nat) (c : Consumer) : (putConsumer s k c).ces = s.ces := rfl
@[simp] theorem putConsumer_mram (s : State) (k : Nat) (c : Consumer) : (putConsumer s k c).mram = s.mram := rfl
@[simp] theorem putConsumer_areaA (s : State) (k : Nat) (c : Consumer) : (putConsumer s k c).areaA = s.areaA := rfl
@[simp] theorem putConsumer_areaB (s : State) (k : Nat) (c : Consumer) : (putConsumer s k c).areaB = s.areaB := rfl
@[simp] theorem putConsumer_acq (s : State) (k : Nat) (c : Consumer) : (putConsumer s k c).acq = s.acq := rfl
@[simp] theorem putConsumer_cmb (s : State) (k : Nat) (c : Consumer) : (putConsumer s k c).cmb = s.cmb := rfl
@[simp] theorem putConsumer_cyc (s : State) (k : Nat) (c : Consumer) : (putConsumer s k c).cyc = s.cyc := rfl
@[simp] theorem putConsumer_hst (s : State) (k : Nat) (c : Consumer) : (putConsumer s k c).hst = s.hst := rfl
@[simp] theorem putConsumer_fbk (s : State) (k : Nat) (c : Consumer) : (putConsumer s k c).fbk = s.fbk := rfl
@[simp] theorem putConsumer_dor (s : State) (k : Nat) (c : Consumer) : (putConsumer s k c).dor = s.dor := rfl
@[simp] theorem putConsumer_dsp (s : State) (k : Nat) (c : Consumer) : (putConsumer s k c).dsp = s.dsp := rfl
@[simp] theorem putConsumer_safA (s : State) (k : Nat) (c : Consumer) : (putConsumer s k c).safA = s.safA := rfl
@[simp] theorem putConsumer_safB (s : State) (k : Nat) (c : Consumer) : (putConsumer s k c).safB = s.safB := rfl
@[simp] theorem putConsumer_saf (s : State) (k : Nat) (c : Consumer) : (putConsumer s k c).saf = s.saf := rfl
@[simp] theorem putConsumer_fio (s : State) (k : Nat) (c : Consumer) : (putConsumer s k c).fio = s.fio := rfl
@[simp] theorem putConsumer_can (s : State) (k : Nat) (c : Consumer) : (putConsumer s k c).can = s.can := rfl
@[simp] theorem putConsumer_net (s : State) (k : Nat) (c : Consumer) : (putConsumer s k c).net = s.net := rfl
@[simp] theorem putConsumer_pending (s : State) (k : Nat) (c : Consumer) : (putConsumer s k c).pending = s.pending := rfl
@[simp] theorem putConsumer_sto_state (s : State) (k : Nat) (c : Consumer) : (putConsumer s k c).sto.state = s.sto.state := rfl
@[simp] theorem putConsumer_sto_mirror (s : State) (k : Nat) (c : Consumer) : (putConsumer s k c).sto.mirror = s.sto.mirror := rfl
@[simp] theorem putConsumer_sto_degraded (s : State) (k : Nat) (c : Consumer) : (putConsumer s k c).sto.degraded = s.sto.degraded := rfl
@[simp] theorem putConsumer_sto_rebuild (s : State) (k : Nat) (c : Consumer) : (putConsumer s k c).sto.rebuild = s.sto.rebuild := rfl
@[simp] theorem putConsumer_sto_rate (s : State) (k : Nat) (c : Consumer) : (putConsumer s k c).sto.rate = s.sto.rate := rfl
@[simp] theorem putConsumer_sto_port0 (s : State) (k : Nat) (c : Consumer) : (putConsumer s k c).sto.port0 = s.sto.port0 := rfl
@[simp] theorem putConsumer_sto_port1 (s : State) (k : Nat) (c : Consumer) : (putConsumer s k c).sto.port1 = s.sto.port1 := rfl
@[simp] theorem putConsumer_sto_result (s : State) (k : Nat) (c : Consumer) : (putConsumer s k c).sto.result = s.sto.result := rfl
@[simp] theorem putConsumer_sto_formatted (s : State) (k : Nat) (c : Consumer) : (putConsumer s k c).sto.formatted = s.sto.formatted := rfl
@[simp] theorem putConsumer_sto_formatTag (s : State) (k : Nat) (c : Consumer) : (putConsumer s k c).sto.formatTag = s.sto.formatTag := rfl
@[simp] theorem putConsumer_sto_blocks (s : State) (k : Nat) (c : Consumer) : (putConsumer s k c).sto.blocks = s.sto.blocks := rfl
@[simp] theorem putConsumer_sto_shares (s : State) (k : Nat) (c : Consumer) : (putConsumer s k c).sto.shares = s.sto.shares := rfl
@[simp] theorem putConsumer_sto_rebuildPort (s : State) (k : Nat) (c : Consumer) : (putConsumer s k c).sto.rebuildPort = s.sto.rebuildPort := rfl
@[simp] theorem putConsumer_sto_rings (s : State) (k : Nat) (c : Consumer) : (putConsumer s k c).sto.rings = s.sto.rings := rfl
@[simp] theorem putConsumer_sto_stages (s : State) (k : Nat) (c : Consumer) : (putConsumer s k c).sto.stages = s.sto.stages := rfl
@[simp] theorem putConsumer_sto_halted (s : State) (k : Nat) (c : Consumer) : (putConsumer s k c).sto.halted = s.sto.halted := rfl
@[simp] theorem consumer_putConsumer (s : State) (k j : Nat) (c : Consumer) :
    consumer (putConsumer s k c) j = if j = k then c else consumer s j := by simp [consumer, putConsumer]

/-! `putRing` writes `sto.rings`, nothing else. -/

@[simp] theorem putRing_now (s : State) (st : Nat) (r : Ring) : (putRing s st r).now = s.now := rfl
@[simp] theorem putRing_free (s : State) (st : Nat) (r : Ring) : (putRing s st r).free = s.free := rfl
@[simp] theorem putRing_ordering (s : State) (st : Nat) (r : Ring) : (putRing s st r).ordering = s.ordering := rfl
@[simp] theorem putRing_dies (s : State) (st : Nat) (r : Ring) : (putRing s st r).dies = s.dies := rfl
@[simp] theorem putRing_pins (s : State) (st : Nat) (r : Ring) : (putRing s st r).pins = s.pins := rfl
@[simp] theorem putRing_rst (s : State) (st : Nat) (r : Ring) : (putRing s st r).rst = s.rst := rfl
@[simp] theorem putRing_trs (s : State) (st : Nat) (r : Ring) : (putRing s st r).trs = s.trs := rfl
@[simp] theorem putRing_frm (s : State) (st : Nat) (r : Ring) : (putRing s st r).frm = s.frm := rfl
@[simp] theorem putRing_img (s : State) (st : Nat) (r : Ring) : (putRing s st r).img = s.img := rfl
@[simp] theorem putRing_kpr (s : State) (st : Nat) (r : Ring) : (putRing s st r).kpr = s.kpr := rfl
@[simp] theorem putRing_evt (s : State) (st : Nat) (r : Ring) : (putRing s st r).evt = s.evt := rfl
@[simp] theorem putRing_evr (s : State) (st : Nat) (r : Ring) : (putRing s st r).evr = s.evr := rfl
@[simp] theorem putRing_tmb (s : State) (st : Nat) (r : Ring) : (putRing s st r).tmb = s.tmb := rfl
@[simp] theorem putRing_ces (s : State) (st : Nat) (r : Ring) : (putRing s st r).ces = s.ces := rfl
@[simp] theorem putRing_mram (s : State) (st : Nat) (r : Ring) : (putRing s st r).mram = s.mram := rfl
@[simp] theorem putRing_areaA (s : State) (st : Nat) (r : Ring) : (putRing s st r).areaA = s.areaA := rfl
@[simp] theorem putRing_areaB (s : State) (st : Nat) (r : Ring) : (putRing s st r).areaB = s.areaB := rfl
@[simp] theorem putRing_acq (s : State) (st : Nat) (r : Ring) : (putRing s st r).acq = s.acq := rfl
@[simp] theorem putRing_cmb (s : State) (st : Nat) (r : Ring) : (putRing s st r).cmb = s.cmb := rfl
@[simp] theorem putRing_cyc (s : State) (st : Nat) (r : Ring) : (putRing s st r).cyc = s.cyc := rfl
@[simp] theorem putRing_hst (s : State) (st : Nat) (r : Ring) : (putRing s st r).hst = s.hst := rfl
@[simp] theorem putRing_fbk (s : State) (st : Nat) (r : Ring) : (putRing s st r).fbk = s.fbk := rfl
@[simp] theorem putRing_dor (s : State) (st : Nat) (r : Ring) : (putRing s st r).dor = s.dor := rfl
@[simp] theorem putRing_dsp (s : State) (st : Nat) (r : Ring) : (putRing s st r).dsp = s.dsp := rfl
@[simp] theorem putRing_safA (s : State) (st : Nat) (r : Ring) : (putRing s st r).safA = s.safA := rfl
@[simp] theorem putRing_safB (s : State) (st : Nat) (r : Ring) : (putRing s st r).safB = s.safB := rfl
@[simp] theorem putRing_saf (s : State) (st : Nat) (r : Ring) : (putRing s st r).saf = s.saf := rfl
@[simp] theorem putRing_fio (s : State) (st : Nat) (r : Ring) : (putRing s st r).fio = s.fio := rfl
@[simp] theorem putRing_can (s : State) (st : Nat) (r : Ring) : (putRing s st r).can = s.can := rfl
@[simp] theorem putRing_net (s : State) (st : Nat) (r : Ring) : (putRing s st r).net = s.net := rfl
@[simp] theorem putRing_pending (s : State) (st : Nat) (r : Ring) : (putRing s st r).pending = s.pending := rfl
@[simp] theorem putRing_sto_state (s : State) (st : Nat) (r : Ring) : (putRing s st r).sto.state = s.sto.state := rfl
@[simp] theorem putRing_sto_mirror (s : State) (st : Nat) (r : Ring) : (putRing s st r).sto.mirror = s.sto.mirror := rfl
@[simp] theorem putRing_sto_degraded (s : State) (st : Nat) (r : Ring) : (putRing s st r).sto.degraded = s.sto.degraded := rfl
@[simp] theorem putRing_sto_rebuild (s : State) (st : Nat) (r : Ring) : (putRing s st r).sto.rebuild = s.sto.rebuild := rfl
@[simp] theorem putRing_sto_rate (s : State) (st : Nat) (r : Ring) : (putRing s st r).sto.rate = s.sto.rate := rfl
@[simp] theorem putRing_sto_port0 (s : State) (st : Nat) (r : Ring) : (putRing s st r).sto.port0 = s.sto.port0 := rfl
@[simp] theorem putRing_sto_port1 (s : State) (st : Nat) (r : Ring) : (putRing s st r).sto.port1 = s.sto.port1 := rfl
@[simp] theorem putRing_sto_result (s : State) (st : Nat) (r : Ring) : (putRing s st r).sto.result = s.sto.result := rfl
@[simp] theorem putRing_sto_formatted (s : State) (st : Nat) (r : Ring) : (putRing s st r).sto.formatted = s.sto.formatted := rfl
@[simp] theorem putRing_sto_formatTag (s : State) (st : Nat) (r : Ring) : (putRing s st r).sto.formatTag = s.sto.formatTag := rfl
@[simp] theorem putRing_sto_blocks (s : State) (st : Nat) (r : Ring) : (putRing s st r).sto.blocks = s.sto.blocks := rfl
@[simp] theorem putRing_sto_shares (s : State) (st : Nat) (r : Ring) : (putRing s st r).sto.shares = s.sto.shares := rfl
@[simp] theorem putRing_sto_rebuildPort (s : State) (st : Nat) (r : Ring) : (putRing s st r).sto.rebuildPort = s.sto.rebuildPort := rfl
@[simp] theorem putRing_sto_stages (s : State) (st : Nat) (r : Ring) : (putRing s st r).sto.stages = s.sto.stages := rfl
@[simp] theorem putRing_sto_cons (s : State) (st : Nat) (r : Ring) : (putRing s st r).sto.cons = s.sto.cons := rfl
@[simp] theorem putRing_sto_halted (s : State) (st : Nat) (r : Ring) : (putRing s st r).sto.halted = s.sto.halted := rfl
@[simp] theorem ringOf_putRing (s : State) (st j : Nat) (r : Ring) :
    ringOf (putRing s st r) j = if j = st then r else ringOf s j := by simp [ringOf, putRing]

/-! `putSession` writes `kpr.sessions`, nothing else. -/

@[simp] theorem putSession_now (s : State) (n : Nat) (x : Session) : (putSession s n x).now = s.now := rfl
@[simp] theorem putSession_free (s : State) (n : Nat) (x : Session) : (putSession s n x).free = s.free := rfl
@[simp] theorem putSession_ordering (s : State) (n : Nat) (x : Session) : (putSession s n x).ordering = s.ordering := rfl
@[simp] theorem putSession_dies (s : State) (n : Nat) (x : Session) : (putSession s n x).dies = s.dies := rfl
@[simp] theorem putSession_pins (s : State) (n : Nat) (x : Session) : (putSession s n x).pins = s.pins := rfl
@[simp] theorem putSession_rst (s : State) (n : Nat) (x : Session) : (putSession s n x).rst = s.rst := rfl
@[simp] theorem putSession_trs (s : State) (n : Nat) (x : Session) : (putSession s n x).trs = s.trs := rfl
@[simp] theorem putSession_frm (s : State) (n : Nat) (x : Session) : (putSession s n x).frm = s.frm := rfl
@[simp] theorem putSession_img (s : State) (n : Nat) (x : Session) : (putSession s n x).img = s.img := rfl
@[simp] theorem putSession_evt (s : State) (n : Nat) (x : Session) : (putSession s n x).evt = s.evt := rfl
@[simp] theorem putSession_evr (s : State) (n : Nat) (x : Session) : (putSession s n x).evr = s.evr := rfl
@[simp] theorem putSession_tmb (s : State) (n : Nat) (x : Session) : (putSession s n x).tmb = s.tmb := rfl
@[simp] theorem putSession_ces (s : State) (n : Nat) (x : Session) : (putSession s n x).ces = s.ces := rfl
@[simp] theorem putSession_mram (s : State) (n : Nat) (x : Session) : (putSession s n x).mram = s.mram := rfl
@[simp] theorem putSession_areaA (s : State) (n : Nat) (x : Session) : (putSession s n x).areaA = s.areaA := rfl
@[simp] theorem putSession_areaB (s : State) (n : Nat) (x : Session) : (putSession s n x).areaB = s.areaB := rfl
@[simp] theorem putSession_acq (s : State) (n : Nat) (x : Session) : (putSession s n x).acq = s.acq := rfl
@[simp] theorem putSession_sto (s : State) (n : Nat) (x : Session) : (putSession s n x).sto = s.sto := rfl
@[simp] theorem putSession_cmb (s : State) (n : Nat) (x : Session) : (putSession s n x).cmb = s.cmb := rfl
@[simp] theorem putSession_cyc (s : State) (n : Nat) (x : Session) : (putSession s n x).cyc = s.cyc := rfl
@[simp] theorem putSession_hst (s : State) (n : Nat) (x : Session) : (putSession s n x).hst = s.hst := rfl
@[simp] theorem putSession_fbk (s : State) (n : Nat) (x : Session) : (putSession s n x).fbk = s.fbk := rfl
@[simp] theorem putSession_dor (s : State) (n : Nat) (x : Session) : (putSession s n x).dor = s.dor := rfl
@[simp] theorem putSession_dsp (s : State) (n : Nat) (x : Session) : (putSession s n x).dsp = s.dsp := rfl
@[simp] theorem putSession_safA (s : State) (n : Nat) (x : Session) : (putSession s n x).safA = s.safA := rfl
@[simp] theorem putSession_safB (s : State) (n : Nat) (x : Session) : (putSession s n x).safB = s.safB := rfl
@[simp] theorem putSession_saf (s : State) (n : Nat) (x : Session) : (putSession s n x).saf = s.saf := rfl
@[simp] theorem putSession_fio (s : State) (n : Nat) (x : Session) : (putSession s n x).fio = s.fio := rfl
@[simp] theorem putSession_can (s : State) (n : Nat) (x : Session) : (putSession s n x).can = s.can := rfl
@[simp] theorem putSession_net (s : State) (n : Nat) (x : Session) : (putSession s n x).net = s.net := rfl
@[simp] theorem putSession_pending (s : State) (n : Nat) (x : Session) : (putSession s n x).pending = s.pending := rfl
@[simp] theorem putSession_kpr_fwResult (s : State) (n : Nat) (x : Session) : (putSession s n x).kpr.fwResult = s.kpr.fwResult := rfl
@[simp] theorem putSession_kpr_running (s : State) (n : Nat) (x : Session) : (putSession s n x).kpr.running = s.kpr.running := rfl
@[simp] theorem putSession_kpr_selected (s : State) (n : Nat) (x : Session) : (putSession s n x).kpr.selected = s.kpr.selected := rfl
@[simp] theorem putSession_kpr_fallback (s : State) (n : Nat) (x : Session) : (putSession s n x).kpr.fallback = s.kpr.fallback := rfl
@[simp] theorem putSession_kpr_slotState (s : State) (n : Nat) (x : Session) : (putSession s n x).kpr.slotState = s.kpr.slotState := rfl
@[simp] theorem putSession_kpr_minSvn (s : State) (n : Nat) (x : Session) : (putSession s n x).kpr.minSvn = s.kpr.minSvn := rfl
@[simp] theorem putSession_kpr_svn (s : State) (n : Nat) (x : Session) : (putSession s n x).kpr.svn = s.kpr.svn := rfl
@[simp] theorem putSession_kpr_noFirmware (s : State) (n : Nat) (x : Session) : (putSession s n x).kpr.noFirmware = s.kpr.noFirmware := rfl
@[simp] theorem putSession_kpr_slotA (s : State) (n : Nat) (x : Session) : (putSession s n x).kpr.slotA = s.kpr.slotA := rfl
@[simp] theorem putSession_kpr_slotB (s : State) (n : Nat) (x : Session) : (putSession s n x).kpr.slotB = s.kpr.slotB := rfl
@[simp] theorem putSession_kpr_fwLen (s : State) (n : Nat) (x : Session) : (putSession s n x).kpr.fwLen = s.kpr.fwLen := rfl
@[simp] theorem putSession_kpr_fwGot (s : State) (n : Nat) (x : Session) : (putSession s n x).kpr.fwGot = s.kpr.fwGot := rfl
@[simp] theorem putSession_kpr_fwDigest (s : State) (n : Nat) (x : Session) : (putSession s n x).kpr.fwDigest = s.kpr.fwDigest := rfl
@[simp] theorem putSession_kpr_smoke (s : State) (n : Nat) (x : Session) : (putSession s n x).kpr.smoke = s.kpr.smoke := rfl
@[simp] theorem putSession_kpr_smokePin (s : State) (n : Nat) (x : Session) : (putSession s n x).kpr.smokePin = s.kpr.smokePin := rfl
@[simp] theorem putSession_kpr_smokeSince (s : State) (n : Nat) (x : Session) : (putSession s n x).kpr.smokeSince = s.kpr.smokeSince := rfl
@[simp] theorem putSession_kpr_smokeWaited (s : State) (n : Nat) (x : Session) : (putSession s n x).kpr.smokeWaited = s.kpr.smokeWaited := rfl
@[simp] theorem putSession_kpr_vsense (s : State) (n : Nat) (x : Session) : (putSession s n x).kpr.vsense = s.kpr.vsense := rfl
@[simp] theorem putSession_kpr_vOut (s : State) (n : Nat) (x : Session) : (putSession s n x).kpr.vOut = s.kpr.vOut := rfl
@[simp] theorem putSession_kpr_fanMin (s : State) (n : Nat) (x : Session) : (putSession s n x).kpr.fanMin = s.kpr.fanMin := rfl
@[simp] theorem putSession_kpr_fanSpeed (s : State) (n : Nat) (x : Session) : (putSession s n x).kpr.fanSpeed = s.kpr.fanSpeed := rfl
@[simp] theorem putSession_kpr_temps (s : State) (n : Nat) (x : Session) : (putSession s n x).kpr.temps = s.kpr.temps := rfl
@[simp] theorem putSession_kpr_relays (s : State) (n : Nat) (x : Session) : (putSession s n x).kpr.relays = s.kpr.relays := rfl
@[simp] theorem putSession_kpr_sealedA (s : State) (n : Nat) (x : Session) : (putSession s n x).kpr.sealedA = s.kpr.sealedA := rfl
@[simp] theorem putSession_kpr_sealedB (s : State) (n : Nat) (x : Session) : (putSession s n x).kpr.sealedB = s.kpr.sealedB := rfl
@[simp] theorem putSession_kpr_calSec (s : State) (n : Nat) (x : Session) : (putSession s n x).kpr.calSec = s.kpr.calSec := rfl
@[simp] theorem putSession_kpr_calValid (s : State) (n : Nat) (x : Session) : (putSession s n x).kpr.calValid = s.kpr.calValid := rfl
@[simp] theorem putSession_kpr_calEnd (s : State) (n : Nat) (x : Session) : (putSession s n x).kpr.calEnd = s.kpr.calEnd := rfl
@[simp] theorem putSession_kpr_stageDate (s : State) (n : Nat) (x : Session) : (putSession s n x).kpr.stageDate = s.kpr.stageDate := rfl
@[simp] theorem putSession_kpr_stageTime (s : State) (n : Nat) (x : Session) : (putSession s n x).kpr.stageTime = s.kpr.stageTime := rfl
@[simp] theorem putSession_kpr_calResult (s : State) (n : Nat) (x : Session) : (putSession s n x).kpr.calResult = s.kpr.calResult := rfl
@[simp] theorem putSession_kpr_calHeld (s : State) (n : Nat) (x : Session) : (putSession s n x).kpr.calHeld = s.kpr.calHeld := rfl
@[simp] theorem putSession_kpr_taiUtc (s : State) (n : Nat) (x : Session) : (putSession s n x).kpr.taiUtc = s.kpr.taiUtc := rfl
@[simp] theorem putSession_kpr_vkeepLost (s : State) (n : Nat) (x : Session) : (putSession s n x).kpr.vkeepLost = s.kpr.vkeepLost := rfl
@[simp] theorem putSession_kpr_dbgInstr (s : State) (n : Nat) (x : Session) : (putSession s n x).kpr.dbgInstr = s.kpr.dbgInstr := rfl
@[simp] theorem putSession_kpr_dbgOut (s : State) (n : Nat) (x : Session) : (putSession s n x).kpr.dbgOut = s.kpr.dbgOut := rfl
@[simp] theorem putSession_kpr_dbgBypass (s : State) (n : Nat) (x : Session) : (putSession s n x).kpr.dbgBypass = s.kpr.dbgBypass := rfl
@[simp] theorem putSession_kpr_dbgAuth (s : State) (n : Nat) (x : Session) : (putSession s n x).kpr.dbgAuth = s.kpr.dbgAuth := rfl
@[simp] theorem putSession_kpr_dbgChallenge (s : State) (n : Nat) (x : Session) : (putSession s n x).kpr.dbgChallenge = s.kpr.dbgChallenge := rfl
@[simp] theorem putSession_kpr_dbgCells (s : State) (n : Nat) (x : Session) : (putSession s n x).kpr.dbgCells = s.kpr.dbgCells := rfl
@[simp] theorem putSession_kpr_dbgPreload (s : State) (n : Nat) (x : Session) : (putSession s n x).kpr.dbgPreload = s.kpr.dbgPreload := rfl
@[simp] theorem putSession_kpr_dbgDrives (s : State) (n : Nat) (x : Session) : (putSession s n x).kpr.dbgDrives = s.kpr.dbgDrives := rfl
@[simp] theorem putSession_kpr_strobe (s : State) (n : Nat) (x : Session) : (putSession s n x).kpr.strobe = s.kpr.strobe := rfl
@[simp] theorem putSession_kpr_scKeys (s : State) (n : Nat) (x : Session) : (putSession s n x).kpr.scKeys = s.kpr.scKeys := rfl
@[simp] theorem session_putSession (s : State) (n j : Nat) (x : Session) :
    session (putSession s n x) j = if j = n then x else session s j := by simp [session, putSession]

/-! `putNetPort` writes `net.ports`, nothing else. -/

@[simp] theorem putNetPort_now (s : State) (p : Nat) (x : NetPort) : (putNetPort s p x).now = s.now := rfl
@[simp] theorem putNetPort_free (s : State) (p : Nat) (x : NetPort) : (putNetPort s p x).free = s.free := rfl
@[simp] theorem putNetPort_ordering (s : State) (p : Nat) (x : NetPort) : (putNetPort s p x).ordering = s.ordering := rfl
@[simp] theorem putNetPort_dies (s : State) (p : Nat) (x : NetPort) : (putNetPort s p x).dies = s.dies := rfl
@[simp] theorem putNetPort_pins (s : State) (p : Nat) (x : NetPort) : (putNetPort s p x).pins = s.pins := rfl
@[simp] theorem putNetPort_rst (s : State) (p : Nat) (x : NetPort) : (putNetPort s p x).rst = s.rst := rfl
@[simp] theorem putNetPort_trs (s : State) (p : Nat) (x : NetPort) : (putNetPort s p x).trs = s.trs := rfl
@[simp] theorem putNetPort_frm (s : State) (p : Nat) (x : NetPort) : (putNetPort s p x).frm = s.frm := rfl
@[simp] theorem putNetPort_img (s : State) (p : Nat) (x : NetPort) : (putNetPort s p x).img = s.img := rfl
@[simp] theorem putNetPort_kpr (s : State) (p : Nat) (x : NetPort) : (putNetPort s p x).kpr = s.kpr := rfl
@[simp] theorem putNetPort_evt (s : State) (p : Nat) (x : NetPort) : (putNetPort s p x).evt = s.evt := rfl
@[simp] theorem putNetPort_evr (s : State) (p : Nat) (x : NetPort) : (putNetPort s p x).evr = s.evr := rfl
@[simp] theorem putNetPort_tmb (s : State) (p : Nat) (x : NetPort) : (putNetPort s p x).tmb = s.tmb := rfl
@[simp] theorem putNetPort_ces (s : State) (p : Nat) (x : NetPort) : (putNetPort s p x).ces = s.ces := rfl
@[simp] theorem putNetPort_mram (s : State) (p : Nat) (x : NetPort) : (putNetPort s p x).mram = s.mram := rfl
@[simp] theorem putNetPort_areaA (s : State) (p : Nat) (x : NetPort) : (putNetPort s p x).areaA = s.areaA := rfl
@[simp] theorem putNetPort_areaB (s : State) (p : Nat) (x : NetPort) : (putNetPort s p x).areaB = s.areaB := rfl
@[simp] theorem putNetPort_acq (s : State) (p : Nat) (x : NetPort) : (putNetPort s p x).acq = s.acq := rfl
@[simp] theorem putNetPort_sto (s : State) (p : Nat) (x : NetPort) : (putNetPort s p x).sto = s.sto := rfl
@[simp] theorem putNetPort_cmb (s : State) (p : Nat) (x : NetPort) : (putNetPort s p x).cmb = s.cmb := rfl
@[simp] theorem putNetPort_cyc (s : State) (p : Nat) (x : NetPort) : (putNetPort s p x).cyc = s.cyc := rfl
@[simp] theorem putNetPort_hst (s : State) (p : Nat) (x : NetPort) : (putNetPort s p x).hst = s.hst := rfl
@[simp] theorem putNetPort_fbk (s : State) (p : Nat) (x : NetPort) : (putNetPort s p x).fbk = s.fbk := rfl
@[simp] theorem putNetPort_dor (s : State) (p : Nat) (x : NetPort) : (putNetPort s p x).dor = s.dor := rfl
@[simp] theorem putNetPort_dsp (s : State) (p : Nat) (x : NetPort) : (putNetPort s p x).dsp = s.dsp := rfl
@[simp] theorem putNetPort_safA (s : State) (p : Nat) (x : NetPort) : (putNetPort s p x).safA = s.safA := rfl
@[simp] theorem putNetPort_safB (s : State) (p : Nat) (x : NetPort) : (putNetPort s p x).safB = s.safB := rfl
@[simp] theorem putNetPort_saf (s : State) (p : Nat) (x : NetPort) : (putNetPort s p x).saf = s.saf := rfl
@[simp] theorem putNetPort_fio (s : State) (p : Nat) (x : NetPort) : (putNetPort s p x).fio = s.fio := rfl
@[simp] theorem putNetPort_can (s : State) (p : Nat) (x : NetPort) : (putNetPort s p x).can = s.can := rfl
@[simp] theorem putNetPort_pending (s : State) (p : Nat) (x : NetPort) : (putNetPort s p x).pending = s.pending := rfl
@[simp] theorem putNetPort_net_queue (s : State) (p : Nat) (x : NetPort) : (putNetPort s p x).net.queue = s.net.queue := rfl
@[simp] theorem putNetPort_net_nodes (s : State) (p : Nat) (x : NetPort) : (putNetPort s p x).net.nodes = s.net.nodes := rfl
@[simp] theorem putNetPort_net_superSeq (s : State) (p : Nat) (x : NetPort) : (putNetPort s p x).net.superSeq = s.net.superSeq := rfl
@[simp] theorem putNetPort_net_rct (s : State) (p : Nat) (x : NetPort) : (putNetPort s p x).net.rct = s.net.rct := rfl
@[simp] theorem putNetPort_net_stations (s : State) (p : Nat) (x : NetPort) : (putNetPort s p x).net.stations = s.net.stations := rfl
@[simp] theorem putNetPort_net_forwarded (s : State) (p : Nat) (x : NetPort) : (putNetPort s p x).net.forwarded = s.net.forwarded := rfl
@[simp] theorem putNetPort_net_selection (s : State) (p : Nat) (x : NetPort) : (putNetPort s p x).net.selection = s.net.selection := rfl
@[simp] theorem putNetPort_net_ordered (s : State) (p : Nat) (x : NetPort) : (putNetPort s p x).net.ordered = s.net.ordered := rfl
@[simp] theorem putNetPort_net_tickDue (s : State) (p : Nat) (x : NetPort) : (putNetPort s p x).net.tickDue = s.net.tickDue := rfl
@[simp] theorem putNetPort_net_holder (s : State) (p : Nat) (x : NetPort) : (putNetPort s p x).net.holder = s.net.holder := rfl
@[simp] theorem putNetPort_net_release (s : State) (p : Nat) (x : NetPort) : (putNetPort s p x).net.release = s.net.release := rfl
@[simp] theorem putNetPort_net_releaseAt (s : State) (p : Nat) (x : NetPort) : (putNetPort s p x).net.releaseAt = s.net.releaseAt := rfl
@[simp] theorem putNetPort_net_take (s : State) (p : Nat) (x : NetPort) : (putNetPort s p x).net.take = s.net.take := rfl
@[simp] theorem putNetPort_net_lastSet (s : State) (p : Nat) (x : NetPort) : (putNetPort s p x).net.lastSet = s.net.lastSet := rfl
@[simp] theorem putNetPort_net_wasFit (s : State) (p : Nat) (x : NetPort) : (putNetPort s p x).net.wasFit = s.net.wasFit := rfl
@[simp] theorem putNetPort_net_gone (s : State) (p : Nat) (x : NetPort) : (putNetPort s p x).net.gone = s.net.gone := rfl
@[simp] theorem putNetPort_net_partner (s : State) (p : Nat) (x : NetPort) : (putNetPort s p x).net.partner = s.net.partner := rfl
@[simp] theorem putNetPort_net_lualasOk (s : State) (p : Nat) (x : NetPort) : (putNetPort s p x).net.lualasOk = s.net.lualasOk := rfl
@[simp] theorem putNetPort_net_netOk (s : State) (p : Nat) (x : NetPort) : (putNetPort s p x).net.netOk = s.net.netOk := rfl
@[simp] theorem putNetPort_net_netAt (s : State) (p : Nat) (x : NetPort) : (putNetPort s p x).net.netAt = s.net.netAt := rfl
@[simp] theorem putNetPort_net_silent (s : State) (p : Nat) (x : NetPort) : (putNetPort s p x).net.silent = s.net.silent := rfl
@[simp] theorem putNetPort_net_clash (s : State) (p : Nat) (x : NetPort) : (putNetPort s p x).net.clash = s.net.clash := rfl
@[simp] theorem putNetPort_net_clashHeld (s : State) (p : Nat) (x : NetPort) : (putNetPort s p x).net.clashHeld = s.net.clashHeld := rfl
@[simp] theorem putNetPort_net_mixed (s : State) (p : Nat) (x : NetPort) : (putNetPort s p x).net.mixed = s.net.mixed := rfl
@[simp] theorem putNetPort_net_cause (s : State) (p : Nat) (x : NetPort) : (putNetPort s p x).net.cause = s.net.cause := rfl
@[simp] theorem putNetPort_net_handovers (s : State) (p : Nat) (x : NetPort) : (putNetPort s p x).net.handovers = s.net.handovers := rfl
@[simp] theorem putNetPort_net_result (s : State) (p : Nat) (x : NetPort) : (putNetPort s p x).net.result = s.net.result := rfl
@[simp] theorem putNetPort_net_heldCmd (s : State) (p : Nat) (x : NetPort) : (putNetPort s p x).net.heldCmd = s.net.heldCmd := rfl
@[simp] theorem putNetPort_net_synced (s : State) (p : Nat) (x : NetPort) : (putNetPort s p x).net.synced = s.net.synced := rfl
@[simp] theorem putNetPort_net_resyncing (s : State) (p : Nat) (x : NetPort) : (putNetPort s p x).net.resyncing = s.net.resyncing := rfl
@[simp] theorem putNetPort_net_stale (s : State) (p : Nat) (x : NetPort) : (putNetPort s p x).net.stale = s.net.stale := rfl
@[simp] theorem putNetPort_net_count (s : State) (p : Nat) (x : NetPort) : (putNetPort s p x).net.count = s.net.count := rfl
@[simp] theorem putNetPort_net_lastCount (s : State) (p : Nat) (x : NetPort) : (putNetPort s p x).net.lastCount = s.net.lastCount := rfl
@[simp] theorem putNetPort_net_sent (s : State) (p : Nat) (x : NetPort) : (putNetPort s p x).net.sent = s.net.sent := rfl
@[simp] theorem putNetPort_net_lanes (s : State) (p : Nat) (x : NetPort) : (putNetPort s p x).net.lanes = s.net.lanes := rfl
@[simp] theorem putNetPort_net_miss (s : State) (p : Nat) (x : NetPort) : (putNetPort s p x).net.miss = s.net.miss := rfl
@[simp] theorem putNetPort_net_diverge (s : State) (p : Nat) (x : NetPort) : (putNetPort s p x).net.diverge = s.net.diverge := rfl
@[simp] theorem putNetPort_net_outDigest (s : State) (p : Nat) (x : NetPort) : (putNetPort s p x).net.outDigest = s.net.outDigest := rfl
@[simp] theorem putNetPort_net_compared (s : State) (p : Nat) (x : NetPort) : (putNetPort s p x).net.compared = s.net.compared := rfl
@[simp] theorem putNetPort_net_verdict (s : State) (p : Nat) (x : NetPort) : (putNetPort s p x).net.verdict = s.net.verdict := rfl
@[simp] theorem putNetPort_net_failed (s : State) (p : Nat) (x : NetPort) : (putNetPort s p x).net.failed = s.net.failed := rfl
@[simp] theorem putNetPort_net_verdictAt (s : State) (p : Nat) (x : NetPort) : (putNetPort s p x).net.verdictAt = s.net.verdictAt := rfl
@[simp] theorem putNetPort_net_failing (s : State) (p : Nat) (x : NetPort) : (putNetPort s p x).net.failing = s.net.failing := rfl
@[simp] theorem putNetPort_net_failRun (s : State) (p : Nat) (x : NetPort) : (putNetPort s p x).net.failRun = s.net.failRun := rfl
@[simp] theorem netPort_putNetPort (s : State) (p j : Nat) (x : NetPort) :
    netPort (putNetPort s p x) j = if j = p then x else netPort s j := by simp [netPort, putNetPort]

/-! `putStn` writes `net.stations`, nothing else. -/

@[simp] theorem putStn_now (s : State) (n : Nat) (x : Station) : (putStn s n x).now = s.now := rfl
@[simp] theorem putStn_free (s : State) (n : Nat) (x : Station) : (putStn s n x).free = s.free := rfl
@[simp] theorem putStn_ordering (s : State) (n : Nat) (x : Station) : (putStn s n x).ordering = s.ordering := rfl
@[simp] theorem putStn_dies (s : State) (n : Nat) (x : Station) : (putStn s n x).dies = s.dies := rfl
@[simp] theorem putStn_pins (s : State) (n : Nat) (x : Station) : (putStn s n x).pins = s.pins := rfl
@[simp] theorem putStn_rst (s : State) (n : Nat) (x : Station) : (putStn s n x).rst = s.rst := rfl
@[simp] theorem putStn_trs (s : State) (n : Nat) (x : Station) : (putStn s n x).trs = s.trs := rfl
@[simp] theorem putStn_frm (s : State) (n : Nat) (x : Station) : (putStn s n x).frm = s.frm := rfl
@[simp] theorem putStn_img (s : State) (n : Nat) (x : Station) : (putStn s n x).img = s.img := rfl
@[simp] theorem putStn_kpr (s : State) (n : Nat) (x : Station) : (putStn s n x).kpr = s.kpr := rfl
@[simp] theorem putStn_evt (s : State) (n : Nat) (x : Station) : (putStn s n x).evt = s.evt := rfl
@[simp] theorem putStn_evr (s : State) (n : Nat) (x : Station) : (putStn s n x).evr = s.evr := rfl
@[simp] theorem putStn_tmb (s : State) (n : Nat) (x : Station) : (putStn s n x).tmb = s.tmb := rfl
@[simp] theorem putStn_ces (s : State) (n : Nat) (x : Station) : (putStn s n x).ces = s.ces := rfl
@[simp] theorem putStn_mram (s : State) (n : Nat) (x : Station) : (putStn s n x).mram = s.mram := rfl
@[simp] theorem putStn_areaA (s : State) (n : Nat) (x : Station) : (putStn s n x).areaA = s.areaA := rfl
@[simp] theorem putStn_areaB (s : State) (n : Nat) (x : Station) : (putStn s n x).areaB = s.areaB := rfl
@[simp] theorem putStn_acq (s : State) (n : Nat) (x : Station) : (putStn s n x).acq = s.acq := rfl
@[simp] theorem putStn_sto (s : State) (n : Nat) (x : Station) : (putStn s n x).sto = s.sto := rfl
@[simp] theorem putStn_cmb (s : State) (n : Nat) (x : Station) : (putStn s n x).cmb = s.cmb := rfl
@[simp] theorem putStn_cyc (s : State) (n : Nat) (x : Station) : (putStn s n x).cyc = s.cyc := rfl
@[simp] theorem putStn_hst (s : State) (n : Nat) (x : Station) : (putStn s n x).hst = s.hst := rfl
@[simp] theorem putStn_fbk (s : State) (n : Nat) (x : Station) : (putStn s n x).fbk = s.fbk := rfl
@[simp] theorem putStn_dor (s : State) (n : Nat) (x : Station) : (putStn s n x).dor = s.dor := rfl
@[simp] theorem putStn_dsp (s : State) (n : Nat) (x : Station) : (putStn s n x).dsp = s.dsp := rfl
@[simp] theorem putStn_safA (s : State) (n : Nat) (x : Station) : (putStn s n x).safA = s.safA := rfl
@[simp] theorem putStn_safB (s : State) (n : Nat) (x : Station) : (putStn s n x).safB = s.safB := rfl
@[simp] theorem putStn_saf (s : State) (n : Nat) (x : Station) : (putStn s n x).saf = s.saf := rfl
@[simp] theorem putStn_fio (s : State) (n : Nat) (x : Station) : (putStn s n x).fio = s.fio := rfl
@[simp] theorem putStn_can (s : State) (n : Nat) (x : Station) : (putStn s n x).can = s.can := rfl
@[simp] theorem putStn_pending (s : State) (n : Nat) (x : Station) : (putStn s n x).pending = s.pending := rfl
@[simp] theorem putStn_net_ports (s : State) (n : Nat) (x : Station) : (putStn s n x).net.ports = s.net.ports := rfl
@[simp] theorem putStn_net_queue (s : State) (n : Nat) (x : Station) : (putStn s n x).net.queue = s.net.queue := rfl
@[simp] theorem putStn_net_nodes (s : State) (n : Nat) (x : Station) : (putStn s n x).net.nodes = s.net.nodes := rfl
@[simp] theorem putStn_net_superSeq (s : State) (n : Nat) (x : Station) : (putStn s n x).net.superSeq = s.net.superSeq := rfl
@[simp] theorem putStn_net_rct (s : State) (n : Nat) (x : Station) : (putStn s n x).net.rct = s.net.rct := rfl
@[simp] theorem putStn_net_forwarded (s : State) (n : Nat) (x : Station) : (putStn s n x).net.forwarded = s.net.forwarded := rfl
@[simp] theorem putStn_net_selection (s : State) (n : Nat) (x : Station) : (putStn s n x).net.selection = s.net.selection := rfl
@[simp] theorem putStn_net_ordered (s : State) (n : Nat) (x : Station) : (putStn s n x).net.ordered = s.net.ordered := rfl
@[simp] theorem putStn_net_tickDue (s : State) (n : Nat) (x : Station) : (putStn s n x).net.tickDue = s.net.tickDue := rfl
@[simp] theorem putStn_net_holder (s : State) (n : Nat) (x : Station) : (putStn s n x).net.holder = s.net.holder := rfl
@[simp] theorem putStn_net_release (s : State) (n : Nat) (x : Station) : (putStn s n x).net.release = s.net.release := rfl
@[simp] theorem putStn_net_releaseAt (s : State) (n : Nat) (x : Station) : (putStn s n x).net.releaseAt = s.net.releaseAt := rfl
@[simp] theorem putStn_net_take (s : State) (n : Nat) (x : Station) : (putStn s n x).net.take = s.net.take := rfl
@[simp] theorem putStn_net_lastSet (s : State) (n : Nat) (x : Station) : (putStn s n x).net.lastSet = s.net.lastSet := rfl
@[simp] theorem putStn_net_wasFit (s : State) (n : Nat) (x : Station) : (putStn s n x).net.wasFit = s.net.wasFit := rfl
@[simp] theorem putStn_net_gone (s : State) (n : Nat) (x : Station) : (putStn s n x).net.gone = s.net.gone := rfl
@[simp] theorem putStn_net_partner (s : State) (n : Nat) (x : Station) : (putStn s n x).net.partner = s.net.partner := rfl
@[simp] theorem putStn_net_lualasOk (s : State) (n : Nat) (x : Station) : (putStn s n x).net.lualasOk = s.net.lualasOk := rfl
@[simp] theorem putStn_net_netOk (s : State) (n : Nat) (x : Station) : (putStn s n x).net.netOk = s.net.netOk := rfl
@[simp] theorem putStn_net_netAt (s : State) (n : Nat) (x : Station) : (putStn s n x).net.netAt = s.net.netAt := rfl
@[simp] theorem putStn_net_silent (s : State) (n : Nat) (x : Station) : (putStn s n x).net.silent = s.net.silent := rfl
@[simp] theorem putStn_net_clash (s : State) (n : Nat) (x : Station) : (putStn s n x).net.clash = s.net.clash := rfl
@[simp] theorem putStn_net_clashHeld (s : State) (n : Nat) (x : Station) : (putStn s n x).net.clashHeld = s.net.clashHeld := rfl
@[simp] theorem putStn_net_mixed (s : State) (n : Nat) (x : Station) : (putStn s n x).net.mixed = s.net.mixed := rfl
@[simp] theorem putStn_net_cause (s : State) (n : Nat) (x : Station) : (putStn s n x).net.cause = s.net.cause := rfl
@[simp] theorem putStn_net_handovers (s : State) (n : Nat) (x : Station) : (putStn s n x).net.handovers = s.net.handovers := rfl
@[simp] theorem putStn_net_result (s : State) (n : Nat) (x : Station) : (putStn s n x).net.result = s.net.result := rfl
@[simp] theorem putStn_net_heldCmd (s : State) (n : Nat) (x : Station) : (putStn s n x).net.heldCmd = s.net.heldCmd := rfl
@[simp] theorem putStn_net_synced (s : State) (n : Nat) (x : Station) : (putStn s n x).net.synced = s.net.synced := rfl
@[simp] theorem putStn_net_resyncing (s : State) (n : Nat) (x : Station) : (putStn s n x).net.resyncing = s.net.resyncing := rfl
@[simp] theorem putStn_net_stale (s : State) (n : Nat) (x : Station) : (putStn s n x).net.stale = s.net.stale := rfl
@[simp] theorem putStn_net_count (s : State) (n : Nat) (x : Station) : (putStn s n x).net.count = s.net.count := rfl
@[simp] theorem putStn_net_lastCount (s : State) (n : Nat) (x : Station) : (putStn s n x).net.lastCount = s.net.lastCount := rfl
@[simp] theorem putStn_net_sent (s : State) (n : Nat) (x : Station) : (putStn s n x).net.sent = s.net.sent := rfl
@[simp] theorem putStn_net_lanes (s : State) (n : Nat) (x : Station) : (putStn s n x).net.lanes = s.net.lanes := rfl
@[simp] theorem putStn_net_miss (s : State) (n : Nat) (x : Station) : (putStn s n x).net.miss = s.net.miss := rfl
@[simp] theorem putStn_net_diverge (s : State) (n : Nat) (x : Station) : (putStn s n x).net.diverge = s.net.diverge := rfl
@[simp] theorem putStn_net_outDigest (s : State) (n : Nat) (x : Station) : (putStn s n x).net.outDigest = s.net.outDigest := rfl
@[simp] theorem putStn_net_compared (s : State) (n : Nat) (x : Station) : (putStn s n x).net.compared = s.net.compared := rfl
@[simp] theorem putStn_net_verdict (s : State) (n : Nat) (x : Station) : (putStn s n x).net.verdict = s.net.verdict := rfl
@[simp] theorem putStn_net_failed (s : State) (n : Nat) (x : Station) : (putStn s n x).net.failed = s.net.failed := rfl
@[simp] theorem putStn_net_verdictAt (s : State) (n : Nat) (x : Station) : (putStn s n x).net.verdictAt = s.net.verdictAt := rfl
@[simp] theorem putStn_net_failing (s : State) (n : Nat) (x : Station) : (putStn s n x).net.failing = s.net.failing := rfl
@[simp] theorem putStn_net_failRun (s : State) (n : Nat) (x : Station) : (putStn s n x).net.failRun = s.net.failRun := rfl
@[simp] theorem stnOf_putStn (s : State) (n j : Nat) (x : Station) :
    stnOf (putStn s n x) j = if j = n then x else stnOf s j := by simp [stnOf, putStn]

/-! `putSaf` writes one safety die. -/

@[simp] theorem putSaf_now (s : State) (ch : Channel) (d : SafDie) : (putSaf s ch d).now = s.now := by cases ch <;> rfl
@[simp] theorem putSaf_free (s : State) (ch : Channel) (d : SafDie) : (putSaf s ch d).free = s.free := by cases ch <;> rfl
@[simp] theorem putSaf_ordering (s : State) (ch : Channel) (d : SafDie) : (putSaf s ch d).ordering = s.ordering := by cases ch <;> rfl
@[simp] theorem putSaf_dies (s : State) (ch : Channel) (d : SafDie) : (putSaf s ch d).dies = s.dies := by cases ch <;> rfl
@[simp] theorem putSaf_pins (s : State) (ch : Channel) (d : SafDie) : (putSaf s ch d).pins = s.pins := by cases ch <;> rfl
@[simp] theorem putSaf_rst (s : State) (ch : Channel) (d : SafDie) : (putSaf s ch d).rst = s.rst := by cases ch <;> rfl
@[simp] theorem putSaf_trs (s : State) (ch : Channel) (d : SafDie) : (putSaf s ch d).trs = s.trs := by cases ch <;> rfl
@[simp] theorem putSaf_frm (s : State) (ch : Channel) (d : SafDie) : (putSaf s ch d).frm = s.frm := by cases ch <;> rfl
@[simp] theorem putSaf_img (s : State) (ch : Channel) (d : SafDie) : (putSaf s ch d).img = s.img := by cases ch <;> rfl
@[simp] theorem putSaf_kpr (s : State) (ch : Channel) (d : SafDie) : (putSaf s ch d).kpr = s.kpr := by cases ch <;> rfl
@[simp] theorem putSaf_evt (s : State) (ch : Channel) (d : SafDie) : (putSaf s ch d).evt = s.evt := by cases ch <;> rfl
@[simp] theorem putSaf_evr (s : State) (ch : Channel) (d : SafDie) : (putSaf s ch d).evr = s.evr := by cases ch <;> rfl
@[simp] theorem putSaf_tmb (s : State) (ch : Channel) (d : SafDie) : (putSaf s ch d).tmb = s.tmb := by cases ch <;> rfl
@[simp] theorem putSaf_ces (s : State) (ch : Channel) (d : SafDie) : (putSaf s ch d).ces = s.ces := by cases ch <;> rfl
@[simp] theorem putSaf_mram (s : State) (ch : Channel) (d : SafDie) : (putSaf s ch d).mram = s.mram := by cases ch <;> rfl
@[simp] theorem putSaf_areaA (s : State) (ch : Channel) (d : SafDie) : (putSaf s ch d).areaA = s.areaA := by cases ch <;> rfl
@[simp] theorem putSaf_areaB (s : State) (ch : Channel) (d : SafDie) : (putSaf s ch d).areaB = s.areaB := by cases ch <;> rfl
@[simp] theorem putSaf_acq (s : State) (ch : Channel) (d : SafDie) : (putSaf s ch d).acq = s.acq := by cases ch <;> rfl
@[simp] theorem putSaf_sto (s : State) (ch : Channel) (d : SafDie) : (putSaf s ch d).sto = s.sto := by cases ch <;> rfl
@[simp] theorem putSaf_cmb (s : State) (ch : Channel) (d : SafDie) : (putSaf s ch d).cmb = s.cmb := by cases ch <;> rfl
@[simp] theorem putSaf_cyc (s : State) (ch : Channel) (d : SafDie) : (putSaf s ch d).cyc = s.cyc := by cases ch <;> rfl
@[simp] theorem putSaf_hst (s : State) (ch : Channel) (d : SafDie) : (putSaf s ch d).hst = s.hst := by cases ch <;> rfl
@[simp] theorem putSaf_fbk (s : State) (ch : Channel) (d : SafDie) : (putSaf s ch d).fbk = s.fbk := by cases ch <;> rfl
@[simp] theorem putSaf_dor (s : State) (ch : Channel) (d : SafDie) : (putSaf s ch d).dor = s.dor := by cases ch <;> rfl
@[simp] theorem putSaf_dsp (s : State) (ch : Channel) (d : SafDie) : (putSaf s ch d).dsp = s.dsp := by cases ch <;> rfl
@[simp] theorem putSaf_saf (s : State) (ch : Channel) (d : SafDie) : (putSaf s ch d).saf = s.saf := by cases ch <;> rfl
@[simp] theorem putSaf_fio (s : State) (ch : Channel) (d : SafDie) : (putSaf s ch d).fio = s.fio := by cases ch <;> rfl
@[simp] theorem putSaf_can (s : State) (ch : Channel) (d : SafDie) : (putSaf s ch d).can = s.can := by cases ch <;> rfl
@[simp] theorem putSaf_net (s : State) (ch : Channel) (d : SafDie) : (putSaf s ch d).net = s.net := by cases ch <;> rfl
@[simp] theorem putSaf_pending (s : State) (ch : Channel) (d : SafDie) : (putSaf s ch d).pending = s.pending := by cases ch <;> rfl
@[simp] theorem safOf_putSaf (s : State) (ch c : Channel) (d : SafDie) :
    safOf (putSaf s ch d) c = if c = ch then d else safOf s c := by cases ch <;> cases c <;> rfl
@[simp] theorem safCar_putSafCar (d : SafDie) (c j : Nat) (x : SafCar) :
    safCar (putSafCar d c x) j = if j = c then x else safCar d j := by simp [safCar, putSafCar]

/-! A free value drawn moves the counter alone. -/

@[simp] theorem drawn_free (s : State) : (drawn s).free = s.free + 1 := rfl
@[simp] theorem drawn_now (s : State) : (drawn s).now = s.now := rfl
@[simp] theorem drawn_ordering (s : State) : (drawn s).ordering = s.ordering := rfl
@[simp] theorem drawn_dies (s : State) : (drawn s).dies = s.dies := rfl
@[simp] theorem drawn_pins (s : State) : (drawn s).pins = s.pins := rfl
@[simp] theorem drawn_rst (s : State) : (drawn s).rst = s.rst := rfl
@[simp] theorem drawn_trs (s : State) : (drawn s).trs = s.trs := rfl
@[simp] theorem drawn_frm (s : State) : (drawn s).frm = s.frm := rfl
@[simp] theorem drawn_img (s : State) : (drawn s).img = s.img := rfl
@[simp] theorem drawn_kpr (s : State) : (drawn s).kpr = s.kpr := rfl
@[simp] theorem drawn_evt (s : State) : (drawn s).evt = s.evt := rfl
@[simp] theorem drawn_evr (s : State) : (drawn s).evr = s.evr := rfl
@[simp] theorem drawn_tmb (s : State) : (drawn s).tmb = s.tmb := rfl
@[simp] theorem drawn_ces (s : State) : (drawn s).ces = s.ces := rfl
@[simp] theorem drawn_mram (s : State) : (drawn s).mram = s.mram := rfl
@[simp] theorem drawn_areaA (s : State) : (drawn s).areaA = s.areaA := rfl
@[simp] theorem drawn_areaB (s : State) : (drawn s).areaB = s.areaB := rfl
@[simp] theorem drawn_acq (s : State) : (drawn s).acq = s.acq := rfl
@[simp] theorem drawn_sto (s : State) : (drawn s).sto = s.sto := rfl
@[simp] theorem drawn_cmb (s : State) : (drawn s).cmb = s.cmb := rfl
@[simp] theorem drawn_cyc (s : State) : (drawn s).cyc = s.cyc := rfl
@[simp] theorem drawn_hst (s : State) : (drawn s).hst = s.hst := rfl
@[simp] theorem drawn_fbk (s : State) : (drawn s).fbk = s.fbk := rfl
@[simp] theorem drawn_dor (s : State) : (drawn s).dor = s.dor := rfl
@[simp] theorem drawn_dsp (s : State) : (drawn s).dsp = s.dsp := rfl
@[simp] theorem drawn_safA (s : State) : (drawn s).safA = s.safA := rfl
@[simp] theorem drawn_safB (s : State) : (drawn s).safB = s.safB := rfl
@[simp] theorem drawn_saf (s : State) : (drawn s).saf = s.saf := rfl
@[simp] theorem drawn_fio (s : State) : (drawn s).fio = s.fio := rfl
@[simp] theorem drawn_can (s : State) : (drawn s).can = s.can := rfl
@[simp] theorem drawn_net (s : State) : (drawn s).net = s.net := rfl
@[simp] theorem drawn_pending (s : State) : (drawn s).pending = s.pending := rfl

/-! Registers of a control engine, and words of a point slot. -/

@[simp] theorem greg_putG (c : Ce) (r k : Nat) (w : Word) : greg (putG c r w) k = if k = 0 then 0 else if k = r then w else greg c k := by
  unfold greg putG; by_cases h : r = 0 <;> by_cases h2 : k = 0 <;> simp_all
@[simp] theorem pword_putWord (p : Point) (k j : Nat) (w : Word) : pword (putWord p k w) j = if j = k then w else pword p j := by
  simp [pword, putWord]

@[simp] theorem putG_st (c : Ce) (r : Nat) (w : Word) : (putG c r w).st = c.st := by unfold putG; split <;> rfl
@[simp] theorem putG_prev (c : Ce) (r : Nat) (w : Word) : (putG c r w).prev = c.prev := by unfold putG; split <;> rfl
@[simp] theorem putG_hsrc (c : Ce) (r : Nat) (w : Word) : (putG c r w).hsrc = c.hsrc := by unfold putG; split <;> rfl
@[simp] theorem putG_haltReq (c : Ce) (r : Nat) (w : Word) : (putG c r w).haltReq = c.haltReq := by unfold putG; split <;> rfl
@[simp] theorem putG_resumeElem (c : Ce) (r : Nat) (w : Word) : (putG c r w).resumeElem = c.resumeElem := by unfold putG; split <;> rfl
@[simp] theorem putG_v (c : Ce) (r : Nat) (w : Word) : (putG c r w).v = c.v := by unfold putG; split <;> rfl
@[simp] theorem putG_p (c : Ce) (r : Nat) (w : Word) : (putG c r w).p = c.p := by unfold putG; split <;> rfl
@[simp] theorem putG_pc (c : Ce) (r : Nat) (w : Word) : (putG c r w).pc = c.pc := by unfold putG; split <;> rfl
@[simp] theorem putG_slot (c : Ce) (r : Nat) (w : Word) : (putG c r w).slot = c.slot := by unfold putG; split <;> rfl
@[simp] theorem putG_shadow (c : Ce) (r : Nat) (w : Word) : (putG c r w).shadow = c.shadow := by unfold putG; split <;> rfl
@[simp] theorem putG_priv (c : Ce) (r : Nat) (w : Word) : (putG c r w).priv = c.priv := by unfold putG; split <;> rfl
@[simp] theorem putG_tctx (c : Ce) (r : Nat) (w : Word) : (putG c r w).tctx = c.tctx := by unfold putG; split <;> rfl
@[simp] theorem putG_loopen (c : Ce) (r : Nat) (w : Word) : (putG c r w).loopen = c.loopen := by unfold putG; split <;> rfl
@[simp] theorem putG_ls0 (c : Ce) (r : Nat) (w : Word) : (putG c r w).ls0 = c.ls0 := by unfold putG; split <;> rfl
@[simp] theorem putG_le0 (c : Ce) (r : Nat) (w : Word) : (putG c r w).le0 = c.le0 := by unfold putG; split <;> rfl
@[simp] theorem putG_lc0 (c : Ce) (r : Nat) (w : Word) : (putG c r w).lc0 = c.lc0 := by unfold putG; split <;> rfl
@[simp] theorem putG_ls1 (c : Ce) (r : Nat) (w : Word) : (putG c r w).ls1 = c.ls1 := by unfold putG; split <;> rfl
@[simp] theorem putG_le1 (c : Ce) (r : Nat) (w : Word) : (putG c r w).le1 = c.le1 := by unfold putG; split <;> rfl
@[simp] theorem putG_lc1 (c : Ce) (r : Nat) (w : Word) : (putG c r w).lc1 = c.lc1 := by unfold putG; split <;> rfl
@[simp] theorem putG_epc (c : Ce) (r : Nat) (w : Word) : (putG c r w).epc = c.epc := by unfold putG; split <;> rfl
@[simp] theorem putG_xstatus (c : Ce) (r : Nat) (w : Word) : (putG c r w).xstatus = c.xstatus := by unfold putG; split <;> rfl
@[simp] theorem putG_xinfo (c : Ce) (r : Nat) (w : Word) : (putG c r w).xinfo = c.xinfo := by unfold putG; split <;> rfl
@[simp] theorem putG_xaddr (c : Ce) (r : Nat) (w : Word) : (putG c r w).xaddr = c.xaddr := by unfold putG; split <;> rfl
@[simp] theorem putG_xtarget (c : Ce) (r : Nat) (w : Word) : (putG c r w).xtarget = c.xtarget := by unfold putG; split <;> rfl
@[simp] theorem putG_xvec (c : Ce) (r : Nat) (w : Word) : (putG c r w).xvec = c.xvec := by unfold putG; split <;> rfl
@[simp] theorem putG_elem (c : Ce) (r : Nat) (w : Word) : (putG c r w).elem = c.elem := by unfold putG; split <;> rfl
@[simp] theorem putG_split (c : Ce) (r : Nat) (w : Word) : (putG c r w).split = c.split := by unfold putG; split <;> rfl
@[simp] theorem putG_sram (c : Ce) (r : Nat) (w : Word) : (putG c r w).sram = c.sram := by unfold putG; split <;> rfl
@[simp] theorem putG_psRefuse (c : Ce) (r : Nat) (w : Word) : (putG c r w).psRefuse = c.psRefuse := by unfold putG; split <;> rfl
@[simp] theorem putG_icPar (c : Ce) (r : Nat) (w : Word) : (putG c r w).icPar = c.icPar := by unfold putG; split <;> rfl
@[simp] theorem putG_sramCe (c : Ce) (r : Nat) (w : Word) : (putG c r w).sramCe = c.sramCe := by unfold putG; split <;> rfl
@[simp] theorem putG_lines (c : Ce) (r : Nat) (w : Word) : (putG c r w).lines = c.lines := by unfold putG; split <;> rfl
@[simp] theorem putG_badLine (c : Ce) (r : Nat) (w : Word) : (putG c r w).badLine = c.badLine := by unfold putG; split <;> rfl
@[simp] theorem putG_set (c : Ce) (r : Nat) (w : Word) : (putG c r w).set = c.set := by unfold putG; split <;> rfl
@[simp] theorem putG_budget (c : Ce) (r : Nat) (w : Word) : (putG c r w).budget = c.budget := by unfold putG; split <;> rfl
@[simp] theorem putG_waited (c : Ce) (r : Nat) (w : Word) : (putG c r w).waited = c.waited := by unfold putG; split <;> rfl
@[simp] theorem putP_st (c : Ce) (r m : Nat) : (putP c r m).st = c.st := by unfold putP; split <;> rfl
@[simp] theorem putP_prev (c : Ce) (r m : Nat) : (putP c r m).prev = c.prev := by unfold putP; split <;> rfl
@[simp] theorem putP_hsrc (c : Ce) (r m : Nat) : (putP c r m).hsrc = c.hsrc := by unfold putP; split <;> rfl
@[simp] theorem putP_haltReq (c : Ce) (r m : Nat) : (putP c r m).haltReq = c.haltReq := by unfold putP; split <;> rfl
@[simp] theorem putP_resumeElem (c : Ce) (r m : Nat) : (putP c r m).resumeElem = c.resumeElem := by unfold putP; split <;> rfl
@[simp] theorem putP_g (c : Ce) (r m : Nat) : (putP c r m).g = c.g := by unfold putP; split <;> rfl
@[simp] theorem putP_v (c : Ce) (r m : Nat) : (putP c r m).v = c.v := by unfold putP; split <;> rfl
@[simp] theorem putP_pc (c : Ce) (r m : Nat) : (putP c r m).pc = c.pc := by unfold putP; split <;> rfl
@[simp] theorem putP_slot (c : Ce) (r m : Nat) : (putP c r m).slot = c.slot := by unfold putP; split <;> rfl
@[simp] theorem putP_shadow (c : Ce) (r m : Nat) : (putP c r m).shadow = c.shadow := by unfold putP; split <;> rfl
@[simp] theorem putP_priv (c : Ce) (r m : Nat) : (putP c r m).priv = c.priv := by unfold putP; split <;> rfl
@[simp] theorem putP_tctx (c : Ce) (r m : Nat) : (putP c r m).tctx = c.tctx := by unfold putP; split <;> rfl
@[simp] theorem putP_loopen (c : Ce) (r m : Nat) : (putP c r m).loopen = c.loopen := by unfold putP; split <;> rfl
@[simp] theorem putP_ls0 (c : Ce) (r m : Nat) : (putP c r m).ls0 = c.ls0 := by unfold putP; split <;> rfl
@[simp] theorem putP_le0 (c : Ce) (r m : Nat) : (putP c r m).le0 = c.le0 := by unfold putP; split <;> rfl
@[simp] theorem putP_lc0 (c : Ce) (r m : Nat) : (putP c r m).lc0 = c.lc0 := by unfold putP; split <;> rfl
@[simp] theorem putP_ls1 (c : Ce) (r m : Nat) : (putP c r m).ls1 = c.ls1 := by unfold putP; split <;> rfl
@[simp] theorem putP_le1 (c : Ce) (r m : Nat) : (putP c r m).le1 = c.le1 := by unfold putP; split <;> rfl
@[simp] theorem putP_lc1 (c : Ce) (r m : Nat) : (putP c r m).lc1 = c.lc1 := by unfold putP; split <;> rfl
@[simp] theorem putP_epc (c : Ce) (r m : Nat) : (putP c r m).epc = c.epc := by unfold putP; split <;> rfl
@[simp] theorem putP_xstatus (c : Ce) (r m : Nat) : (putP c r m).xstatus = c.xstatus := by unfold putP; split <;> rfl
@[simp] theorem putP_xinfo (c : Ce) (r m : Nat) : (putP c r m).xinfo = c.xinfo := by unfold putP; split <;> rfl
@[simp] theorem putP_xaddr (c : Ce) (r m : Nat) : (putP c r m).xaddr = c.xaddr := by unfold putP; split <;> rfl
@[simp] theorem putP_xtarget (c : Ce) (r m : Nat) : (putP c r m).xtarget = c.xtarget := by unfold putP; split <;> rfl
@[simp] theorem putP_xvec (c : Ce) (r m : Nat) : (putP c r m).xvec = c.xvec := by unfold putP; split <;> rfl
@[simp] theorem putP_elem (c : Ce) (r m : Nat) : (putP c r m).elem = c.elem := by unfold putP; split <;> rfl
@[simp] theorem putP_split (c : Ce) (r m : Nat) : (putP c r m).split = c.split := by unfold putP; split <;> rfl
@[simp] theorem putP_sram (c : Ce) (r m : Nat) : (putP c r m).sram = c.sram := by unfold putP; split <;> rfl
@[simp] theorem putP_psRefuse (c : Ce) (r m : Nat) : (putP c r m).psRefuse = c.psRefuse := by unfold putP; split <;> rfl
@[simp] theorem putP_icPar (c : Ce) (r m : Nat) : (putP c r m).icPar = c.icPar := by unfold putP; split <;> rfl
@[simp] theorem putP_sramCe (c : Ce) (r m : Nat) : (putP c r m).sramCe = c.sramCe := by unfold putP; split <;> rfl
@[simp] theorem putP_lines (c : Ce) (r m : Nat) : (putP c r m).lines = c.lines := by unfold putP; split <;> rfl
@[simp] theorem putP_badLine (c : Ce) (r m : Nat) : (putP c r m).badLine = c.badLine := by unfold putP; split <;> rfl
@[simp] theorem putP_set (c : Ce) (r m : Nat) : (putP c r m).set = c.set := by unfold putP; split <;> rfl
@[simp] theorem putP_budget (c : Ce) (r m : Nat) : (putP c r m).budget = c.budget := by unfold putP; split <;> rfl
@[simp] theorem putP_waited (c : Ce) (r m : Nat) : (putP c r m).waited = c.waited := by unfold putP; split <;> rfl
@[simp] theorem putLane_st (c : Ce) (j k : Nat) (w : Word) : (putLane c j k w).st = c.st := rfl
@[simp] theorem putLane_prev (c : Ce) (j k : Nat) (w : Word) : (putLane c j k w).prev = c.prev := rfl
@[simp] theorem putLane_hsrc (c : Ce) (j k : Nat) (w : Word) : (putLane c j k w).hsrc = c.hsrc := rfl
@[simp] theorem putLane_haltReq (c : Ce) (j k : Nat) (w : Word) : (putLane c j k w).haltReq = c.haltReq := rfl
@[simp] theorem putLane_resumeElem (c : Ce) (j k : Nat) (w : Word) : (putLane c j k w).resumeElem = c.resumeElem := rfl
@[simp] theorem putLane_g (c : Ce) (j k : Nat) (w : Word) : (putLane c j k w).g = c.g := rfl
@[simp] theorem putLane_p (c : Ce) (j k : Nat) (w : Word) : (putLane c j k w).p = c.p := rfl
@[simp] theorem putLane_pc (c : Ce) (j k : Nat) (w : Word) : (putLane c j k w).pc = c.pc := rfl
@[simp] theorem putLane_slot (c : Ce) (j k : Nat) (w : Word) : (putLane c j k w).slot = c.slot := rfl
@[simp] theorem putLane_shadow (c : Ce) (j k : Nat) (w : Word) : (putLane c j k w).shadow = c.shadow := rfl
@[simp] theorem putLane_priv (c : Ce) (j k : Nat) (w : Word) : (putLane c j k w).priv = c.priv := rfl
@[simp] theorem putLane_tctx (c : Ce) (j k : Nat) (w : Word) : (putLane c j k w).tctx = c.tctx := rfl
@[simp] theorem putLane_loopen (c : Ce) (j k : Nat) (w : Word) : (putLane c j k w).loopen = c.loopen := rfl
@[simp] theorem putLane_ls0 (c : Ce) (j k : Nat) (w : Word) : (putLane c j k w).ls0 = c.ls0 := rfl
@[simp] theorem putLane_le0 (c : Ce) (j k : Nat) (w : Word) : (putLane c j k w).le0 = c.le0 := rfl
@[simp] theorem putLane_lc0 (c : Ce) (j k : Nat) (w : Word) : (putLane c j k w).lc0 = c.lc0 := rfl
@[simp] theorem putLane_ls1 (c : Ce) (j k : Nat) (w : Word) : (putLane c j k w).ls1 = c.ls1 := rfl
@[simp] theorem putLane_le1 (c : Ce) (j k : Nat) (w : Word) : (putLane c j k w).le1 = c.le1 := rfl
@[simp] theorem putLane_lc1 (c : Ce) (j k : Nat) (w : Word) : (putLane c j k w).lc1 = c.lc1 := rfl
@[simp] theorem putLane_epc (c : Ce) (j k : Nat) (w : Word) : (putLane c j k w).epc = c.epc := rfl
@[simp] theorem putLane_xstatus (c : Ce) (j k : Nat) (w : Word) : (putLane c j k w).xstatus = c.xstatus := rfl
@[simp] theorem putLane_xinfo (c : Ce) (j k : Nat) (w : Word) : (putLane c j k w).xinfo = c.xinfo := rfl
@[simp] theorem putLane_xaddr (c : Ce) (j k : Nat) (w : Word) : (putLane c j k w).xaddr = c.xaddr := rfl
@[simp] theorem putLane_xtarget (c : Ce) (j k : Nat) (w : Word) : (putLane c j k w).xtarget = c.xtarget := rfl
@[simp] theorem putLane_xvec (c : Ce) (j k : Nat) (w : Word) : (putLane c j k w).xvec = c.xvec := rfl
@[simp] theorem putLane_elem (c : Ce) (j k : Nat) (w : Word) : (putLane c j k w).elem = c.elem := rfl
@[simp] theorem putLane_split (c : Ce) (j k : Nat) (w : Word) : (putLane c j k w).split = c.split := rfl
@[simp] theorem putLane_sram (c : Ce) (j k : Nat) (w : Word) : (putLane c j k w).sram = c.sram := rfl
@[simp] theorem putLane_psRefuse (c : Ce) (j k : Nat) (w : Word) : (putLane c j k w).psRefuse = c.psRefuse := rfl
@[simp] theorem putLane_icPar (c : Ce) (j k : Nat) (w : Word) : (putLane c j k w).icPar = c.icPar := rfl
@[simp] theorem putLane_sramCe (c : Ce) (j k : Nat) (w : Word) : (putLane c j k w).sramCe = c.sramCe := rfl
@[simp] theorem putLane_lines (c : Ce) (j k : Nat) (w : Word) : (putLane c j k w).lines = c.lines := rfl
@[simp] theorem putLane_badLine (c : Ce) (j k : Nat) (w : Word) : (putLane c j k w).badLine = c.badLine := rfl
@[simp] theorem putLane_set (c : Ce) (j k : Nat) (w : Word) : (putLane c j k w).set = c.set := rfl
@[simp] theorem putLane_budget (c : Ce) (j k : Nat) (w : Word) : (putLane c j k w).budget = c.budget := rfl
@[simp] theorem putLane_waited (c : Ce) (j k : Nat) (w : Word) : (putLane c j k w).waited = c.waited := rfl

end Sys2Proof.Machine
end

