-- ==== Sys2Proof/Laws/ControlEngines.lean ====
section
/-! SUPPORT. Control engines: what retiring an instruction, entering an exception and returning from one do to an engine. -/
namespace Sys2Proof.Machine

/-- An instruction that retires moves the pc, the shadow and the loop counts; no register changes. -/
@[simp] theorem retire_g (c : Ce) : (retire c).g = c.g := by
  unfold retire shadowStep loopStep
  (repeat' (first | split | dsimp only))
@[simp] theorem retire_p (c : Ce) : (retire c).p = c.p := by
  unfold retire shadowStep loopStep
  (repeat' (first | split | dsimp only))
@[simp] theorem retire_v (c : Ce) : (retire c).v = c.v := by
  unfold retire shadowStep loopStep
  (repeat' (first | split | dsimp only))
@[simp] theorem greg_retire (c : Ce) (k : Nat) : greg (retire c) k = greg c k := by simp [greg]

/-- Exception entry (R168 to R170): where execution goes on, what is saved, and the mode. -/
theorem enterException_spec (cause sub : Nat) (xaddr : Word) (elem : Nat) (c : Ce) :
    let t := enterException cause sub xaddr elem c
    t.pc = c.xvec + wordN (16 * cause) ∧ t.epc = (match c.slot with | some d => d.branch | none => c.pc)
    ∧ t.xtarget = (match c.slot with | some d => d.target | none => c.xtarget) ∧ t.xaddr = xaddr
    ∧ t.priv = true ∧ t.tctx = 0 ∧ t.shadow = none ∧ t.slot = none ∧ t.loopen = false ∧ t.elem = 0
    ∧ t.g = c.g ∧ t.p = c.p ∧ t.v = c.v := by
  exact ⟨rfl, rfl, rfl, rfl, rfl, rfl, rfl, rfl, rfl, rfl, rfl, rfl, rfl⟩

end Sys2Proof.Machine
end

