-- ==== Sys2Proof/Laws/Frames.lean ====
section
/-! SUPPORT. What the shared operations leave as it was: the ordering code, the MRAM of the image, the queue, the two safety dies, the event
recorder, the save areas and the control engines, each where the operation does not write it. -/
namespace Sys2Proof.Machine

@[simp] theorem foldl_ordering {γ : Type} (g : State → γ → State) (h : ∀ s a, (g s a).ordering = s.ordering) (l : List γ) (s : State) : (l.foldl g s).ordering = s.ordering := by
  induction l generalizing s with
  | nil => rfl
  | cons a l ih => rw [List.foldl_cons, ih, h]
@[simp] theorem foldl_evr {γ : Type} (g : State → γ → State) (h : ∀ s a, (g s a).evr = s.evr) (l : List γ) (s : State) : (l.foldl g s).evr = s.evr := by
  induction l generalizing s with
  | nil => rfl
  | cons a l ih => rw [List.foldl_cons, ih, h]
@[simp] theorem foldl_ces {γ : Type} (g : State → γ → State) (h : ∀ s a, (g s a).ces = s.ces) (l : List γ) (s : State) : (l.foldl g s).ces = s.ces := by
  induction l generalizing s with
  | nil => rfl
  | cons a l ih => rw [List.foldl_cons, ih, h]
@[simp] theorem foldl_mram {γ : Type} (g : State → γ → State) (h : ∀ s a, (g s a).mram = s.mram) (l : List γ) (s : State) : (l.foldl g s).mram = s.mram := by
  induction l generalizing s with
  | nil => rfl
  | cons a l ih => rw [List.foldl_cons, ih, h]
@[simp] theorem foldl_areaA {γ : Type} (g : State → γ → State) (h : ∀ s a, (g s a).areaA = s.areaA) (l : List γ) (s : State) : (l.foldl g s).areaA = s.areaA := by
  induction l generalizing s with
  | nil => rfl
  | cons a l ih => rw [List.foldl_cons, ih, h]
@[simp] theorem foldl_areaB {γ : Type} (g : State → γ → State) (h : ∀ s a, (g s a).areaB = s.areaB) (l : List γ) (s : State) : (l.foldl g s).areaB = s.areaB := by
  induction l generalizing s with
  | nil => rfl
  | cons a l ih => rw [List.foldl_cons, ih, h]
@[simp] theorem foldl_safA {γ : Type} (g : State → γ → State) (h : ∀ s a, (g s a).safA = s.safA) (l : List γ) (s : State) : (l.foldl g s).safA = s.safA := by
  induction l generalizing s with
  | nil => rfl
  | cons a l ih => rw [List.foldl_cons, ih, h]
@[simp] theorem foldl_safB {γ : Type} (g : State → γ → State) (h : ∀ s a, (g s a).safB = s.safB) (l : List γ) (s : State) : (l.foldl g s).safB = s.safB := by
  induction l generalizing s with
  | nil => rfl
  | cons a l ih => rw [List.foldl_cons, ih, h]
@[simp] theorem foldl_pending {γ : Type} (g : State → γ → State) (h : ∀ s a, (g s a).pending = s.pending) (l : List γ) (s : State) : (l.foldl g s).pending = s.pending := by
  induction l generalizing s with
  | nil => rfl
  | cons a l ih => rw [List.foldl_cons, ih, h]

@[simp] theorem raise_keeps (src : Nat) (data : List Word) (s : State) :
    (raise src data s).ordering = s.ordering ∧ (raise src data s).mram = s.mram ∧ (raise src data s).pending = s.pending
    ∧ (raise src data s).safA = s.safA ∧ (raise src data s).safB = s.safB ∧ (raise src data s).evr = s.evr
    ∧ (raise src data s).areaA = s.areaA ∧ (raise src data s).areaB = s.areaB ∧ (raise src data s).ces = s.ces := by
  unfold raise
  split <;> simp

@[simp] theorem raiseIf_keeps (b : Bool) (src : Nat) (data : List Word) (s : State) :
    (raiseIf b src data s).ordering = s.ordering ∧ (raiseIf b src data s).mram = s.mram
    ∧ (raiseIf b src data s).pending = s.pending ∧ (raiseIf b src data s).safA = s.safA ∧ (raiseIf b src data s).safB = s.safB
    ∧ (raiseIf b src data s).evr = s.evr ∧ (raiseIf b src data s).areaA = s.areaA ∧ (raiseIf b src data s).areaB = s.areaB
    ∧ (raiseIf b src data s).ces = s.ces := by
  unfold raiseIf
  split <;> simp

@[simp] theorem badAccess_keeps (req : Requester) (cause : Nat) (addr : Word) (s : State) :
    (badAccess req cause addr s).ordering = s.ordering ∧ (badAccess req cause addr s).mram = s.mram
    ∧ (badAccess req cause addr s).pending = s.pending ∧ (badAccess req cause addr s).safA = s.safA
    ∧ (badAccess req cause addr s).safB = s.safB ∧ (badAccess req cause addr s).evr = s.evr
    ∧ (badAccess req cause addr s).areaA = s.areaA ∧ (badAccess req cause addr s).areaB = s.areaB
    ∧ (badAccess req cause addr s).ces = s.ces := by
  unfold badAccess
  exact ⟨rfl, rfl, rfl, rfl, rfl, rfl, rfl, rfl, rfl⟩

@[simp] theorem canRaise_keeps (n : Nat) (k : Nat) (data : List Word) (s : State) :
    (canRaise n k data s).ordering = s.ordering ∧ (canRaise n k data s).mram = s.mram ∧ (canRaise n k data s).pending = s.pending
    ∧ (canRaise n k data s).safA = s.safA ∧ (canRaise n k data s).safB = s.safB ∧ (canRaise n k data s).evr = s.evr
    ∧ (canRaise n k data s).areaA = s.areaA ∧ (canRaise n k data s).areaB = s.areaB ∧ (canRaise n k data s).ces = s.ces := by
  unfold canRaise
  simp

@[simp] theorem ringWrite_keeps (n : Nat) (own : Bool) (f : CanFrame) (time : Nat) (s : State) :
    (ringWrite n own f time s).ordering = s.ordering ∧ (ringWrite n own f time s).mram = s.mram
    ∧ (ringWrite n own f time s).pending = s.pending ∧ (ringWrite n own f time s).safA = s.safA
    ∧ (ringWrite n own f time s).safB = s.safB ∧ (ringWrite n own f time s).evr = s.evr
    ∧ (ringWrite n own f time s).areaA = s.areaA ∧ (ringWrite n own f time s).areaB = s.areaB
    ∧ (ringWrite n own f time s).ces = s.ces := by
  unfold ringWrite
  dsimp only; (repeat' split) <;> simp

@[simp] theorem canCounts_keeps (n : Nat) (tec : Nat) (rcv : Nat) (s : State) :
    (canCounts n tec rcv s).ordering = s.ordering ∧ (canCounts n tec rcv s).mram = s.mram
    ∧ (canCounts n tec rcv s).pending = s.pending ∧ (canCounts n tec rcv s).safA = s.safA ∧ (canCounts n tec rcv s).safB = s.safB
    ∧ (canCounts n tec rcv s).evr = s.evr ∧ (canCounts n tec rcv s).areaA = s.areaA ∧ (canCounts n tec rcv s).areaB = s.areaB
    ∧ (canCounts n tec rcv s).ces = s.ces := by
  unfold canCounts
  dsimp only; (repeat' split) <;> simp

@[simp] theorem recAfterGood_keeps (n : Nat) (s : State) :
    (recAfterGood n s).ordering = s.ordering ∧ (recAfterGood n s).mram = s.mram ∧ (recAfterGood n s).pending = s.pending
    ∧ (recAfterGood n s).safA = s.safA ∧ (recAfterGood n s).safB = s.safB ∧ (recAfterGood n s).evr = s.evr
    ∧ (recAfterGood n s).areaA = s.areaA ∧ (recAfterGood n s).areaB = s.areaB ∧ (recAfterGood n s).ces = s.ces := by
  unfold recAfterGood
  dsimp only; (repeat' split) <;> simp

@[simp] theorem canReceive_keeps (n : Nat) (f : CanFrame) (time : Nat) (s : State) :
    (canReceive n f time s).ordering = s.ordering ∧ (canReceive n f time s).mram = s.mram
    ∧ (canReceive n f time s).pending = s.pending ∧ (canReceive n f time s).safA = s.safA ∧ (canReceive n f time s).safB = s.safB
    ∧ (canReceive n f time s).evr = s.evr ∧ (canReceive n f time s).areaA = s.areaA ∧ (canReceive n f time s).areaB = s.areaB
    ∧ (canReceive n f time s).ces = s.ces := by
  unfold canReceive
  split <;> simp

@[simp] theorem suppressUpdate_keeps (n : Nat) (s : State) :
    (suppressUpdate n s).ordering = s.ordering ∧ (suppressUpdate n s).mram = s.mram ∧ (suppressUpdate n s).pending = s.pending
    ∧ (suppressUpdate n s).safA = s.safA ∧ (suppressUpdate n s).safB = s.safB ∧ (suppressUpdate n s).evr = s.evr
    ∧ (suppressUpdate n s).areaA = s.areaA ∧ (suppressUpdate n s).areaB = s.areaB ∧ (suppressUpdate n s).ces = s.ces := by
  unfold suppressUpdate
  dsimp only; (repeat' split) <;> simp

@[simp] theorem suppressAll_keeps (s : State) :
    (suppressAll s).ordering = s.ordering ∧ (suppressAll s).mram = s.mram ∧ (suppressAll s).pending = s.pending
    ∧ (suppressAll s).safA = s.safA ∧ (suppressAll s).safB = s.safB ∧ (suppressAll s).evr = s.evr ∧ (suppressAll s).areaA = s.areaA
    ∧ (suppressAll s).areaB = s.areaB ∧ (suppressAll s).ces = s.ces := by
  unfold suppressAll
  simp

@[simp] theorem canPush_keeps (n : Nat) (st : CanStage) (s : State) :
    (canPush n st s).ordering = s.ordering ∧ (canPush n st s).mram = s.mram ∧ (canPush n st s).pending = s.pending
    ∧ (canPush n st s).safA = s.safA ∧ (canPush n st s).safB = s.safB ∧ (canPush n st s).evr = s.evr
    ∧ (canPush n st s).areaA = s.areaA ∧ (canPush n st s).areaB = s.areaB ∧ (canPush n st s).ces = s.ces := by
  unfold canPush
  dsimp only; (repeat' split) <;> simp

@[simp] theorem removeHead_keeps (n : Nat) (why : CanRemoval) (s : State) :
    (removeHead n why s).ordering = s.ordering ∧ (removeHead n why s).mram = s.mram ∧ (removeHead n why s).pending = s.pending
    ∧ (removeHead n why s).safA = s.safA ∧ (removeHead n why s).safB = s.safB ∧ (removeHead n why s).evr = s.evr
    ∧ (removeHead n why s).areaA = s.areaA ∧ (removeHead n why s).areaB = s.areaB ∧ (removeHead n why s).ces = s.ces := by
  unfold removeHead
  split <;> simp

@[simp] theorem headRemoval_keeps (n : Nat) (why : CanRemoval) (onBus : Bool) (s : State) :
    (headRemoval n why onBus s).ordering = s.ordering ∧ (headRemoval n why onBus s).mram = s.mram
    ∧ (headRemoval n why onBus s).pending = s.pending ∧ (headRemoval n why onBus s).safA = s.safA
    ∧ (headRemoval n why onBus s).safB = s.safB ∧ (headRemoval n why onBus s).evr = s.evr
    ∧ (headRemoval n why onBus s).areaA = s.areaA ∧ (headRemoval n why onBus s).areaB = s.areaB
    ∧ (headRemoval n why onBus s).ces = s.ces := by
  unfold headRemoval
  dsimp only; (repeat' split) <;> simp

@[simp] theorem canAbort_keeps (n : Nat) (onBus : Bool) (s : State) :
    (canAbort n onBus s).ordering = s.ordering ∧ (canAbort n onBus s).mram = s.mram ∧ (canAbort n onBus s).pending = s.pending
    ∧ (canAbort n onBus s).safA = s.safA ∧ (canAbort n onBus s).safB = s.safB ∧ (canAbort n onBus s).evr = s.evr
    ∧ (canAbort n onBus s).areaA = s.areaA ∧ (canAbort n onBus s).areaB = s.areaB ∧ (canAbort n onBus s).ces = s.ces := by
  unfold canAbort
  dsimp only; (repeat' split) <;> simp

@[simp] theorem canFlush_keeps (n : Nat) (onBus : Bool) (s : State) :
    (canFlush n onBus s).ordering = s.ordering ∧ (canFlush n onBus s).mram = s.mram ∧ (canFlush n onBus s).pending = s.pending
    ∧ (canFlush n onBus s).safA = s.safA ∧ (canFlush n onBus s).safB = s.safB ∧ (canFlush n onBus s).evr = s.evr
    ∧ (canFlush n onBus s).areaA = s.areaA ∧ (canFlush n onBus s).areaB = s.areaB ∧ (canFlush n onBus s).ces = s.ces := by
  unfold canFlush
  split <;> simp

@[simp] theorem canSent_keeps (n : Nat) (time : Nat) (s : State) :
    (canSent n time s).ordering = s.ordering ∧ (canSent n time s).mram = s.mram ∧ (canSent n time s).pending = s.pending
    ∧ (canSent n time s).safA = s.safA ∧ (canSent n time s).safB = s.safB ∧ (canSent n time s).evr = s.evr
    ∧ (canSent n time s).areaA = s.areaA ∧ (canSent n time s).areaB = s.areaB ∧ (canSent n time s).ces = s.ces := by
  unfold canSent
  dsimp only; (repeat' split) <;> simp

@[simp] theorem errorFrame_keeps (n : Nat) (lec : Nat) (dataPhase : Bool) (s : State) :
    (errorFrame n lec dataPhase s).ordering = s.ordering ∧ (errorFrame n lec dataPhase s).mram = s.mram
    ∧ (errorFrame n lec dataPhase s).pending = s.pending ∧ (errorFrame n lec dataPhase s).safA = s.safA
    ∧ (errorFrame n lec dataPhase s).safB = s.safB ∧ (errorFrame n lec dataPhase s).evr = s.evr
    ∧ (errorFrame n lec dataPhase s).areaA = s.areaA ∧ (errorFrame n lec dataPhase s).areaB = s.areaB
    ∧ (errorFrame n lec dataPhase s).ces = s.ces := by
  unfold errorFrame
  exact ⟨rfl, rfl, rfl, rfl, rfl, rfl, rfl, rfl, rfl⟩

@[simp] theorem headFailed_keeps (n : Nat) (s : State) :
    (headFailed n s).ordering = s.ordering ∧ (headFailed n s).mram = s.mram ∧ (headFailed n s).pending = s.pending
    ∧ (headFailed n s).safA = s.safA ∧ (headFailed n s).safB = s.safB ∧ (headFailed n s).evr = s.evr
    ∧ (headFailed n s).areaA = s.areaA ∧ (headFailed n s).areaB = s.areaB ∧ (headFailed n s).ces = s.ces := by
  unfold headFailed
  split <;> simp

@[simp] theorem canBusEvent_keeps (n : Nat) (e : CanEvent) (s : State) :
    (canBusEvent n e s).ordering = s.ordering ∧ (canBusEvent n e s).mram = s.mram ∧ (canBusEvent n e s).pending = s.pending
    ∧ (canBusEvent n e s).safA = s.safA ∧ (canBusEvent n e s).safB = s.safB ∧ (canBusEvent n e s).evr = s.evr
    ∧ (canBusEvent n e s).areaA = s.areaA ∧ (canBusEvent n e s).areaB = s.areaB ∧ (canBusEvent n e s).ces = s.ces := by
  unfold canBusEvent
  dsimp only; (repeat' split) <;> simp

@[simp] theorem headTimeout_keeps (n : Nat) (onBus : Bool) (s : State) :
    (headTimeout n onBus s).ordering = s.ordering ∧ (headTimeout n onBus s).mram = s.mram
    ∧ (headTimeout n onBus s).pending = s.pending ∧ (headTimeout n onBus s).safA = s.safA ∧ (headTimeout n onBus s).safB = s.safB
    ∧ (headTimeout n onBus s).evr = s.evr ∧ (headTimeout n onBus s).areaA = s.areaA ∧ (headTimeout n onBus s).areaB = s.areaB
    ∧ (headTimeout n onBus s).ces = s.ces := by
  unfold headTimeout
  split <;> simp

@[simp] theorem canRecover_keeps (n : Nat) (s : State) :
    (canRecover n s).ordering = s.ordering ∧ (canRecover n s).mram = s.mram ∧ (canRecover n s).pending = s.pending
    ∧ (canRecover n s).safA = s.safA ∧ (canRecover n s).safB = s.safB ∧ (canRecover n s).evr = s.evr
    ∧ (canRecover n s).areaA = s.areaA ∧ (canRecover n s).areaB = s.areaB ∧ (canRecover n s).ces = s.ces := by
  unfold canRecover
  split <;> simp

@[simp] theorem canApply_keeps (n : Nat) (c : CanCmd) (s : State) :
    (canApply n c s).ordering = s.ordering ∧ (canApply n c s).mram = s.mram ∧ (canApply n c s).pending = s.pending
    ∧ (canApply n c s).safA = s.safA ∧ (canApply n c s).safB = s.safB ∧ (canApply n c s).evr = s.evr
    ∧ (canApply n c s).areaA = s.areaA ∧ (canApply n c s).areaB = s.areaB ∧ (canApply n c s).ces = s.ces := by
  unfold canApply
  dsimp only; (repeat' split) <;> simp

@[simp] theorem canCommand_keeps (n : Nat) (c : CanCmd) (s : State) :
    (canCommand n c s).ordering = s.ordering ∧ (canCommand n c s).mram = s.mram ∧ (canCommand n c s).pending = s.pending
    ∧ (canCommand n c s).safA = s.safA ∧ (canCommand n c s).safB = s.safB ∧ (canCommand n c s).evr = s.evr
    ∧ (canCommand n c s).areaA = s.areaA ∧ (canCommand n c s).areaB = s.areaB ∧ (canCommand n c s).ces = s.ces := by
  unfold canCommand
  dsimp only; (repeat' split) <;> simp

@[simp] theorem canDecide_keeps (n : Nat) (s : State) :
    (canDecide n s).ordering = s.ordering ∧ (canDecide n s).mram = s.mram ∧ (canDecide n s).pending = s.pending
    ∧ (canDecide n s).safA = s.safA ∧ (canDecide n s).safB = s.safB ∧ (canDecide n s).evr = s.evr ∧ (canDecide n s).areaA = s.areaA
    ∧ (canDecide n s).areaB = s.areaB ∧ (canDecide n s).ces = s.ces := by
  unfold canDecide
  dsimp only; (repeat' split) <;> simp

@[simp] theorem canDecideAll_keeps (s : State) :
    (canDecideAll s).ordering = s.ordering ∧ (canDecideAll s).mram = s.mram ∧ (canDecideAll s).pending = s.pending
    ∧ (canDecideAll s).safA = s.safA ∧ (canDecideAll s).safB = s.safB ∧ (canDecideAll s).evr = s.evr
    ∧ (canDecideAll s).areaA = s.areaA ∧ (canDecideAll s).areaB = s.areaB ∧ (canDecideAll s).ces = s.ces := by
  unfold canDecideAll
  split <;> simp

@[simp] theorem canPushNow_keeps (n : Nat) (s : State) :
    (canPushNow n s).ordering = s.ordering ∧ (canPushNow n s).mram = s.mram ∧ (canPushNow n s).pending = s.pending
    ∧ (canPushNow n s).safA = s.safA ∧ (canPushNow n s).safB = s.safB ∧ (canPushNow n s).evr = s.evr
    ∧ (canPushNow n s).areaA = s.areaA ∧ (canPushNow n s).areaB = s.areaB ∧ (canPushNow n s).ces = s.ces := by
  unfold canPushNow
  split <;> simp

@[simp] theorem busOffRecovery_keeps (n : Nat) (s : State) :
    (busOffRecovery n s).ordering = s.ordering ∧ (busOffRecovery n s).mram = s.mram ∧ (busOffRecovery n s).pending = s.pending
    ∧ (busOffRecovery n s).safA = s.safA ∧ (busOffRecovery n s).safB = s.safB ∧ (busOffRecovery n s).evr = s.evr
    ∧ (busOffRecovery n s).areaA = s.areaA ∧ (busOffRecovery n s).areaB = s.areaB ∧ (busOffRecovery n s).ces = s.ces := by
  unfold busOffRecovery
  dsimp only; (repeat' split) <;> simp

@[simp] theorem busIntegration_keeps (n : Nat) (s : State) :
    (busIntegration n s).ordering = s.ordering ∧ (busIntegration n s).mram = s.mram ∧ (busIntegration n s).pending = s.pending
    ∧ (busIntegration n s).safA = s.safA ∧ (busIntegration n s).safB = s.safB ∧ (busIntegration n s).evr = s.evr
    ∧ (busIntegration n s).areaA = s.areaA ∧ (busIntegration n s).areaB = s.areaB ∧ (busIntegration n s).ces = s.ces := by
  unfold busIntegration
  split <;> simp

@[simp] theorem rxRdWrite_keeps (n : Nat) (v : Word) (s : State) :
    (rxRdWrite n v s).ordering = s.ordering ∧ (rxRdWrite n v s).mram = s.mram ∧ (rxRdWrite n v s).pending = s.pending
    ∧ (rxRdWrite n v s).safA = s.safA ∧ (rxRdWrite n v s).safB = s.safB ∧ (rxRdWrite n v s).evr = s.evr
    ∧ (rxRdWrite n v s).areaA = s.areaA ∧ (rxRdWrite n v s).areaB = s.areaB ∧ (rxRdWrite n v s).ces = s.ces := by
  unfold rxRdWrite
  dsimp only; (repeat' split) <;> simp

@[simp] theorem resetCan_keeps (por : Bool) (s : State) :
    (resetCan por s).ordering = s.ordering ∧ (resetCan por s).mram = s.mram ∧ (resetCan por s).pending = s.pending
    ∧ (resetCan por s).safA = s.safA ∧ (resetCan por s).safB = s.safB ∧ (resetCan por s).evr = s.evr
    ∧ (resetCan por s).areaA = s.areaA ∧ (resetCan por s).areaB = s.areaB ∧ (resetCan por s).ces = s.ces := by
  unfold resetCan
  exact ⟨rfl, rfl, rfl, rfl, rfl, rfl, rfl, rfl, rfl⟩

@[simp] theorem canWrite_keeps (req : Requester) (n : Nat) (off : Nat) (v : Word) (s : State) :
    (canWrite req n off v s).ordering = s.ordering ∧ (canWrite req n off v s).mram = s.mram
    ∧ (canWrite req n off v s).pending = s.pending ∧ (canWrite req n off v s).safA = s.safA
    ∧ (canWrite req n off v s).safB = s.safB ∧ (canWrite req n off v s).evr = s.evr ∧ (canWrite req n off v s).areaA = s.areaA
    ∧ (canWrite req n off v s).areaB = s.areaB ∧ (canWrite req n off v s).ces = s.ces := by
  unfold canWrite
  (repeat' split) <;> simp

@[simp] theorem portSend_keeps (p : Nat) (e : NetQueued) (s : State) :
    (portSend p e s).ordering = s.ordering ∧ (portSend p e s).mram = s.mram ∧ (portSend p e s).pending = s.pending
    ∧ (portSend p e s).safA = s.safA ∧ (portSend p e s).safB = s.safB ∧ (portSend p e s).evr = s.evr
    ∧ (portSend p e s).areaA = s.areaA ∧ (portSend p e s).areaB = s.areaB ∧ (portSend p e s).ces = s.ces := by
  unfold portSend
  exact ⟨rfl, rfl, rfl, rfl, rfl, rfl, rfl, rfl, rfl⟩

@[simp] theorem drainPort_keeps (p : Nat) (s : State) :
    (drainPort p s).ordering = s.ordering ∧ (drainPort p s).mram = s.mram ∧ (drainPort p s).pending = s.pending
    ∧ (drainPort p s).safA = s.safA ∧ (drainPort p s).safB = s.safB ∧ (drainPort p s).evr = s.evr ∧ (drainPort p s).areaA = s.areaA
    ∧ (drainPort p s).areaB = s.areaB ∧ (drainPort p s).ces = s.ces := by
  unfold drainPort
  split <;> simp

@[simp] theorem gateTurn_keeps (s : State) :
    (gateTurn s).ordering = s.ordering ∧ (gateTurn s).mram = s.mram ∧ (gateTurn s).pending = s.pending ∧ (gateTurn s).safA = s.safA
    ∧ (gateTurn s).safB = s.safB ∧ (gateTurn s).evr = s.evr ∧ (gateTurn s).areaA = s.areaA ∧ (gateTurn s).areaB = s.areaB
    ∧ (gateTurn s).ces = s.ces := by
  unfold gateTurn
  split <;> simp

@[simp] theorem pairSend_keeps (k : Nat) (f : NetFrame) (s : State) :
    (pairSend k f s).1.ordering = s.ordering ∧ (pairSend k f s).1.mram = s.mram ∧ (pairSend k f s).1.pending = s.pending
    ∧ (pairSend k f s).1.safA = s.safA ∧ (pairSend k f s).1.safB = s.safB ∧ (pairSend k f s).1.evr = s.evr
    ∧ (pairSend k f s).1.areaA = s.areaA ∧ (pairSend k f s).1.areaB = s.areaB ∧ (pairSend k f s).1.ces = s.ces := by
  unfold pairSend
  dsimp only; (repeat' split) <;> simp

@[simp] theorem clearQueue_keeps (all : Bool) (s : State) :
    (clearQueue all s).ordering = s.ordering ∧ (clearQueue all s).mram = s.mram ∧ (clearQueue all s).pending = s.pending
    ∧ (clearQueue all s).safA = s.safA ∧ (clearQueue all s).safB = s.safB ∧ (clearQueue all s).evr = s.evr
    ∧ (clearQueue all s).areaA = s.areaA ∧ (clearQueue all s).areaB = s.areaB ∧ (clearQueue all s).ces = s.ces := by
  unfold clearQueue
  exact ⟨rfl, rfl, rfl, rfl, rfl, rfl, rfl, rfl, rfl⟩

@[simp] theorem gptpSend_keeps (p : Nat) (m : GptpMsg) (s : State) :
    (gptpSend p m s).ordering = s.ordering ∧ (gptpSend p m s).mram = s.mram ∧ (gptpSend p m s).pending = s.pending
    ∧ (gptpSend p m s).safA = s.safA ∧ (gptpSend p m s).safB = s.safB ∧ (gptpSend p m s).evr = s.evr
    ∧ (gptpSend p m s).areaA = s.areaA ∧ (gptpSend p m s).areaB = s.areaB ∧ (gptpSend p m s).ces = s.ces := by
  unfold gptpSend
  simp

@[simp] theorem gptpTurn_keeps (before : Nat) (s : State) :
    (gptpTurn before s).ordering = s.ordering ∧ (gptpTurn before s).mram = s.mram ∧ (gptpTurn before s).pending = s.pending
    ∧ (gptpTurn before s).safA = s.safA ∧ (gptpTurn before s).safB = s.safB ∧ (gptpTurn before s).evr = s.evr
    ∧ (gptpTurn before s).areaA = s.areaA ∧ (gptpTurn before s).areaB = s.areaB ∧ (gptpTurn before s).ces = s.ces := by
  unfold gptpTurn
  dsimp only; (repeat' split) <;> simp

@[simp] theorem dutyChange_keeps (holder : Bool) (cause : Nat) (s : State) :
    (dutyChange holder cause s).ordering = s.ordering ∧ (dutyChange holder cause s).mram = s.mram
    ∧ (dutyChange holder cause s).pending = s.pending ∧ (dutyChange holder cause s).safA = s.safA
    ∧ (dutyChange holder cause s).safB = s.safB ∧ (dutyChange holder cause s).evr = s.evr
    ∧ (dutyChange holder cause s).areaA = s.areaA ∧ (dutyChange holder cause s).areaB = s.areaB
    ∧ (dutyChange holder cause s).ces = s.ces := by
  unfold dutyChange
  simp

@[simp] theorem goSilent_keeps (s : State) :
    (goSilent s).ordering = s.ordering ∧ (goSilent s).mram = s.mram ∧ (goSilent s).pending = s.pending ∧ (goSilent s).safA = s.safA
    ∧ (goSilent s).safB = s.safB ∧ (goSilent s).evr = s.evr ∧ (goSilent s).areaA = s.areaA ∧ (goSilent s).areaB = s.areaB
    ∧ (goSilent s).ces = s.ces := by
  unfold goSilent
  dsimp only; (repeat' split) <;> simp

@[simp] theorem pairStart_keeps (cmd : Nat) (s : State) :
    (pairStart cmd s).ordering = s.ordering ∧ (pairStart cmd s).mram = s.mram ∧ (pairStart cmd s).pending = s.pending
    ∧ (pairStart cmd s).safA = s.safA ∧ (pairStart cmd s).safB = s.safB ∧ (pairStart cmd s).evr = s.evr
    ∧ (pairStart cmd s).areaA = s.areaA ∧ (pairStart cmd s).areaB = s.areaB ∧ (pairStart cmd s).ces = s.ces := by
  unfold pairStart
  (repeat' split) <;> simp

@[simp] theorem pairDecided_keeps (r : Nat) (s : State) :
    (pairDecided r s).ordering = s.ordering ∧ (pairDecided r s).mram = s.mram ∧ (pairDecided r s).pending = s.pending
    ∧ (pairDecided r s).safA = s.safA ∧ (pairDecided r s).safB = s.safB ∧ (pairDecided r s).evr = s.evr
    ∧ (pairDecided r s).areaA = s.areaA ∧ (pairDecided r s).areaB = s.areaB ∧ (pairDecided r s).ces = s.ces := by
  unfold pairDecided
  dsimp only; (repeat' split) <;> simp

@[simp] theorem keepDuty_keeps (r : Nat) (s : State) :
    (keepDuty r s).ordering = s.ordering ∧ (keepDuty r s).mram = s.mram ∧ (keepDuty r s).pending = s.pending
    ∧ (keepDuty r s).safA = s.safA ∧ (keepDuty r s).safB = s.safB ∧ (keepDuty r s).evr = s.evr ∧ (keepDuty r s).areaA = s.areaA
    ∧ (keepDuty r s).areaB = s.areaB ∧ (keepDuty r s).ces = s.ces := by
  unfold keepDuty
  simp

@[simp] theorem releaseUpdate_keeps (s : State) :
    (releaseUpdate s).ordering = s.ordering ∧ (releaseUpdate s).mram = s.mram ∧ (releaseUpdate s).pending = s.pending
    ∧ (releaseUpdate s).safA = s.safA ∧ (releaseUpdate s).safB = s.safB ∧ (releaseUpdate s).evr = s.evr
    ∧ (releaseUpdate s).areaA = s.areaA ∧ (releaseUpdate s).areaB = s.areaB ∧ (releaseUpdate s).ces = s.ces := by
  unfold releaseUpdate
  (repeat' split) <;> simp

@[simp] theorem smokeSettle_keeps (s : State) :
    (smokeSettle s).ordering = s.ordering ∧ (smokeSettle s).mram = s.mram ∧ (smokeSettle s).pending = s.pending
    ∧ (smokeSettle s).safA = s.safA ∧ (smokeSettle s).safB = s.safB ∧ (smokeSettle s).evr = s.evr ∧ (smokeSettle s).areaA = s.areaA
    ∧ (smokeSettle s).areaB = s.areaB ∧ (smokeSettle s).ces = s.ces := by
  unfold smokeSettle
  split <;> simp

@[simp] theorem reassess_keeps (s : State) :
    (reassess s).ordering = s.ordering ∧ (reassess s).mram = s.mram ∧ (reassess s).pending = s.pending ∧ (reassess s).safA = s.safA
    ∧ (reassess s).safB = s.safB ∧ (reassess s).evr = s.evr ∧ (reassess s).areaA = s.areaA ∧ (reassess s).areaB = s.areaB
    ∧ (reassess s).ces = s.ces := by
  unfold reassess
  dsimp only; (repeat' split) <;> simp

@[simp] theorem sendPage_keeps (k : Nat) (p : Page) (backfill : Bool) (s : State) :
    (sendPage k p backfill s).ordering = s.ordering ∧ (sendPage k p backfill s).mram = s.mram
    ∧ (sendPage k p backfill s).pending = s.pending ∧ (sendPage k p backfill s).safA = s.safA
    ∧ (sendPage k p backfill s).safB = s.safB ∧ (sendPage k p backfill s).evr = s.evr ∧ (sendPage k p backfill s).areaA = s.areaA
    ∧ (sendPage k p backfill s).areaB = s.areaB ∧ (sendPage k p backfill s).ces = s.ces := by
  unfold sendPage
  dsimp only; (repeat' split) <;> simp

@[simp] theorem countDrop_keeps (st : Nat) (s : State) :
    (countDrop st s).ordering = s.ordering ∧ (countDrop st s).mram = s.mram ∧ (countDrop st s).pending = s.pending
    ∧ (countDrop st s).safA = s.safA ∧ (countDrop st s).safB = s.safB ∧ (countDrop st s).evr = s.evr
    ∧ (countDrop st s).areaA = s.areaA ∧ (countDrop st s).areaB = s.areaB ∧ (countDrop st s).ces = s.ces := by
  unfold countDrop
  split <;> simp

@[simp] theorem dropRec_keeps (st : Nat) (time : Nat) (s : State) :
    (dropRec st time s).ordering = s.ordering ∧ (dropRec st time s).mram = s.mram ∧ (dropRec st time s).pending = s.pending
    ∧ (dropRec st time s).safA = s.safA ∧ (dropRec st time s).safB = s.safB ∧ (dropRec st time s).evr = s.evr
    ∧ (dropRec st time s).areaA = s.areaA ∧ (dropRec st time s).areaB = s.areaB ∧ (dropRec st time s).ces = s.ces := by
  unfold dropRec
  simp

@[simp] theorem offerInterval_keeps (src : Nat) (rise : Option Bool) (time : Nat) (s : State) :
    (offerInterval src rise time s).ordering = s.ordering ∧ (offerInterval src rise time s).mram = s.mram
    ∧ (offerInterval src rise time s).pending = s.pending ∧ (offerInterval src rise time s).safA = s.safA
    ∧ (offerInterval src rise time s).safB = s.safB ∧ (offerInterval src rise time s).evr = s.evr
    ∧ (offerInterval src rise time s).areaA = s.areaA ∧ (offerInterval src rise time s).areaB = s.areaB
    ∧ (offerInterval src rise time s).ces = s.ces := by
  unfold offerInterval
  exact ⟨rfl, rfl, rfl, rfl, rfl, rfl, rfl, rfl, rfl⟩

@[simp] theorem consumerState_keeps (k : Nat) (st : ConsState) (s : State) :
    (consumerState k st s).ordering = s.ordering ∧ (consumerState k st s).mram = s.mram
    ∧ (consumerState k st s).pending = s.pending ∧ (consumerState k st s).safA = s.safA ∧ (consumerState k st s).safB = s.safB
    ∧ (consumerState k st s).evr = s.evr ∧ (consumerState k st s).areaA = s.areaA ∧ (consumerState k st s).areaB = s.areaB
    ∧ (consumerState k st s).ces = s.ces := by
  unfold consumerState
  simp

@[simp] theorem flushDrives_keeps (s : State) :
    (flushDrives s).ordering = s.ordering ∧ (flushDrives s).mram = s.mram ∧ (flushDrives s).pending = s.pending
    ∧ (flushDrives s).safA = s.safA ∧ (flushDrives s).safB = s.safB ∧ (flushDrives s).evr = s.evr ∧ (flushDrives s).areaA = s.areaA
    ∧ (flushDrives s).areaB = s.areaB ∧ (flushDrives s).ces = s.ces := by
  unfold flushDrives
  exact ⟨rfl, rfl, rfl, rfl, rfl, rfl, rfl, rfl, rfl⟩

@[simp] theorem stoFormat_keeps (s : State) :
    (stoFormat s).ordering = s.ordering ∧ (stoFormat s).mram = s.mram ∧ (stoFormat s).pending = s.pending
    ∧ (stoFormat s).safA = s.safA ∧ (stoFormat s).safB = s.safB ∧ (stoFormat s).evr = s.evr ∧ (stoFormat s).areaA = s.areaA
    ∧ (stoFormat s).areaB = s.areaB ∧ (stoFormat s).ces = s.ces := by
  unfold stoFormat
  (repeat' split) <;> simp

@[simp] theorem startRebuild_keeps (s : State) :
    (startRebuild s).ordering = s.ordering ∧ (startRebuild s).mram = s.mram ∧ (startRebuild s).pending = s.pending
    ∧ (startRebuild s).safA = s.safA ∧ (startRebuild s).safB = s.safB ∧ (startRebuild s).evr = s.evr
    ∧ (startRebuild s).areaA = s.areaA ∧ (startRebuild s).areaB = s.areaB ∧ (startRebuild s).ces = s.ces := by
  unfold startRebuild
  split <;> simp

@[simp] theorem stoRebuild_keeps (s : State) :
    (stoRebuild s).ordering = s.ordering ∧ (stoRebuild s).mram = s.mram ∧ (stoRebuild s).pending = s.pending
    ∧ (stoRebuild s).safA = s.safA ∧ (stoRebuild s).safB = s.safB ∧ (stoRebuild s).evr = s.evr ∧ (stoRebuild s).areaA = s.areaA
    ∧ (stoRebuild s).areaB = s.areaB ∧ (stoRebuild s).ces = s.ces := by
  unfold stoRebuild
  simp

@[simp] theorem stoFlush_keeps (s : State) :
    (stoFlush s).ordering = s.ordering ∧ (stoFlush s).mram = s.mram ∧ (stoFlush s).pending = s.pending ∧ (stoFlush s).safA = s.safA
    ∧ (stoFlush s).safB = s.safB ∧ (stoFlush s).evr = s.evr ∧ (stoFlush s).areaA = s.areaA ∧ (stoFlush s).areaB = s.areaB
    ∧ (stoFlush s).ces = s.ces := by
  unfold stoFlush
  split <;> simp

@[simp] theorem stoCommand_keeps (cmd : Nat) (s : State) :
    (stoCommand cmd s).ordering = s.ordering ∧ (stoCommand cmd s).mram = s.mram ∧ (stoCommand cmd s).pending = s.pending
    ∧ (stoCommand cmd s).safA = s.safA ∧ (stoCommand cmd s).safB = s.safB ∧ (stoCommand cmd s).evr = s.evr
    ∧ (stoCommand cmd s).areaA = s.areaA ∧ (stoCommand cmd s).areaB = s.areaB ∧ (stoCommand cmd s).ces = s.ces := by
  unfold stoCommand
  split <;> simp

@[simp] theorem storeStarts_keeps (s : State) :
    (storeStarts s).ordering = s.ordering ∧ (storeStarts s).mram = s.mram ∧ (storeStarts s).pending = s.pending
    ∧ (storeStarts s).safA = s.safA ∧ (storeStarts s).safB = s.safB ∧ (storeStarts s).evr = s.evr ∧ (storeStarts s).areaA = s.areaA
    ∧ (storeStarts s).areaB = s.areaB ∧ (storeStarts s).ces = s.ces := by
  unfold storeStarts
  (repeat' split) <;> simp

@[simp] theorem routeWrite_keeps (n : Nat) (value : Word) (s : State) :
    (routeWrite n value s).ordering = s.ordering ∧ (routeWrite n value s).mram = s.mram
    ∧ (routeWrite n value s).pending = s.pending ∧ (routeWrite n value s).safA = s.safA ∧ (routeWrite n value s).safB = s.safB
    ∧ (routeWrite n value s).evr = s.evr ∧ (routeWrite n value s).areaA = s.areaA ∧ (routeWrite n value s).areaB = s.areaB
    ∧ (routeWrite n value s).ces = s.ces := by
  unfold routeWrite
  split <;> simp

@[simp] theorem queueInterrupt_keeps (c : Nat) (src : Nat) (s : State) :
    (queueInterrupt c src s).ordering = s.ordering ∧ (queueInterrupt c src s).mram = s.mram
    ∧ (queueInterrupt c src s).pending = s.pending ∧ (queueInterrupt c src s).safA = s.safA
    ∧ (queueInterrupt c src s).safB = s.safB ∧ (queueInterrupt c src s).evr = s.evr ∧ (queueInterrupt c src s).areaA = s.areaA
    ∧ (queueInterrupt c src s).areaB = s.areaB ∧ (queueInterrupt c src s).ces = s.ces := by
  unfold queueInterrupt
  dsimp only; (repeat' split) <;> simp

@[simp] theorem emptyPend_keeps (c : Nat) (s : State) :
    (emptyPend c s).ordering = s.ordering ∧ (emptyPend c s).mram = s.mram ∧ (emptyPend c s).pending = s.pending
    ∧ (emptyPend c s).safA = s.safA ∧ (emptyPend c s).safB = s.safB ∧ (emptyPend c s).evr = s.evr ∧ (emptyPend c s).areaA = s.areaA
    ∧ (emptyPend c s).areaB = s.areaB ∧ (emptyPend c s).ces = s.ces := by
  unfold emptyPend
  exact ⟨rfl, rfl, rfl, rfl, rfl, rfl, rfl, rfl, rfl⟩

@[simp] theorem eventArrives_keeps (m : EventMsg) (s : State) :
    (eventArrives m s).ordering = s.ordering ∧ (eventArrives m s).mram = s.mram ∧ (eventArrives m s).pending = s.pending
    ∧ (eventArrives m s).safA = s.safA ∧ (eventArrives m s).safB = s.safB ∧ (eventArrives m s).areaA = s.areaA
    ∧ (eventArrives m s).areaB = s.areaB ∧ (eventArrives m s).ces = s.ces := by
  unfold eventArrives
  dsimp only; (repeat' split) <;> simp

@[simp] theorem softWrite_keeps (r : Nat) (value : Word) (s : State) :
    (softWrite r value s).ordering = s.ordering ∧ (softWrite r value s).mram = s.mram ∧ (softWrite r value s).pending = s.pending
    ∧ (softWrite r value s).safA = s.safA ∧ (softWrite r value s).safB = s.safB ∧ (softWrite r value s).evr = s.evr
    ∧ (softWrite r value s).areaA = s.areaA ∧ (softWrite r value s).areaB = s.areaB ∧ (softWrite r value s).ces = s.ces := by
  unfold softWrite
  dsimp only; (repeat' split) <;> simp

@[simp] theorem taskSwitched_keeps (s : State) (x : TaskCfg) :
    (taskSwitched s x).ordering = s.ordering ∧ (taskSwitched s x).mram = s.mram ∧ (taskSwitched s x).pending = s.pending
    ∧ (taskSwitched s x).safA = s.safA ∧ (taskSwitched s x).safB = s.safB ∧ (taskSwitched s x).evr = s.evr
    ∧ (taskSwitched s x).areaA = s.areaA ∧ (taskSwitched s x).areaB = s.areaB ∧ (taskSwitched s x).ces = s.ces := by
  unfold taskSwitched
  exact ⟨rfl, rfl, rfl, rfl, rfl, rfl, rfl, rfl, rfl⟩

@[simp] theorem requestHalt_keeps (bit : Nat) (n : Nat) (s : State) :
    (requestHalt bit n s).ordering = s.ordering ∧ (requestHalt bit n s).mram = s.mram ∧ (requestHalt bit n s).pending = s.pending
    ∧ (requestHalt bit n s).safA = s.safA ∧ (requestHalt bit n s).safB = s.safB ∧ (requestHalt bit n s).evr = s.evr
    ∧ (requestHalt bit n s).areaA = s.areaA ∧ (requestHalt bit n s).areaB = s.areaB := by
  unfold requestHalt
  dsimp only; (repeat' split) <;> simp

@[simp] theorem withdrawHalt_keeps (bit : Nat) (n : Nat) (s : State) :
    (withdrawHalt bit n s).ordering = s.ordering ∧ (withdrawHalt bit n s).mram = s.mram
    ∧ (withdrawHalt bit n s).pending = s.pending ∧ (withdrawHalt bit n s).safA = s.safA ∧ (withdrawHalt bit n s).safB = s.safB
    ∧ (withdrawHalt bit n s).evr = s.evr ∧ (withdrawHalt bit n s).areaA = s.areaA ∧ (withdrawHalt bit n s).areaB = s.areaB := by
  unfold withdrawHalt
  dsimp only; (repeat' split) <;> simp

@[simp] theorem invalidateLines_keeps (a : Word) (n : Nat) (s : State) :
    (invalidateLines a n s).ordering = s.ordering ∧ (invalidateLines a n s).mram = s.mram
    ∧ (invalidateLines a n s).pending = s.pending ∧ (invalidateLines a n s).safA = s.safA ∧ (invalidateLines a n s).safB = s.safB
    ∧ (invalidateLines a n s).evr = s.evr ∧ (invalidateLines a n s).areaA = s.areaA ∧ (invalidateLines a n s).areaB = s.areaB := by
  unfold invalidateLines
  exact ⟨rfl, rfl, rfl, rfl, rfl, rfl, rfl, rfl⟩

@[simp] theorem ceReset_keeps (por : Bool) (n : Nat) (s : State) :
    (ceReset por n s).ordering = s.ordering ∧ (ceReset por n s).mram = s.mram ∧ (ceReset por n s).pending = s.pending
    ∧ (ceReset por n s).safA = s.safA ∧ (ceReset por n s).safB = s.safB ∧ (ceReset por n s).evr = s.evr
    ∧ (ceReset por n s).areaA = s.areaA ∧ (ceReset por n s).areaB = s.areaB := by
  unfold ceReset
  exact ⟨rfl, rfl, rfl, rfl, rfl, rfl, rfl, rfl⟩

@[simp] theorem ceCold_keeps (n : Nat) (s : State) :
    (ceCold n s).ordering = s.ordering ∧ (ceCold n s).mram = s.mram ∧ (ceCold n s).pending = s.pending ∧ (ceCold n s).safA = s.safA
    ∧ (ceCold n s).safB = s.safB ∧ (ceCold n s).evr = s.evr ∧ (ceCold n s).areaA = s.areaA ∧ (ceCold n s).areaB = s.areaB := by
  unfold ceCold
  exact ⟨rfl, rfl, rfl, rfl, rfl, rfl, rfl, rfl⟩

@[simp] theorem errReport_keeps (n : Nat) (old : Ce) (s : State) :
    (errReport n old s).ordering = s.ordering ∧ (errReport n old s).mram = s.mram ∧ (errReport n old s).pending = s.pending
    ∧ (errReport n old s).safA = s.safA ∧ (errReport n old s).safB = s.safB ∧ (errReport n old s).evr = s.evr
    ∧ (errReport n old s).areaA = s.areaA ∧ (errReport n old s).areaB = s.areaB ∧ (errReport n old s).ces = s.ces := by
  unfold errReport
  simp

@[simp] theorem queueAlarm_keeps (r : AlarmRec) (s : State) :
    (queueAlarm r s).ordering = s.ordering ∧ (queueAlarm r s).mram = s.mram ∧ (queueAlarm r s).pending = s.pending
    ∧ (queueAlarm r s).safA = s.safA ∧ (queueAlarm r s).safB = s.safB ∧ (queueAlarm r s).evr = s.evr
    ∧ (queueAlarm r s).areaA = s.areaA ∧ (queueAlarm r s).areaB = s.areaB ∧ (queueAlarm r s).ces = s.ces := by
  unfold queueAlarm
  dsimp only; (repeat' split) <;> simp

@[simp] theorem storePoint_keeps (moves : List (Nat × Nat)) (id : Nat) (p : Point) (s : State) :
    (storePoint moves id p s).ordering = s.ordering ∧ (storePoint moves id p s).mram = s.mram
    ∧ (storePoint moves id p s).pending = s.pending ∧ (storePoint moves id p s).safA = s.safA
    ∧ (storePoint moves id p s).safB = s.safB ∧ (storePoint moves id p s).evr = s.evr ∧ (storePoint moves id p s).areaA = s.areaA
    ∧ (storePoint moves id p s).areaB = s.areaB ∧ (storePoint moves id p s).ces = s.ces := by
  unfold storePoint
  dsimp only; (repeat' split) <;> simp

@[simp] theorem commitPoint_keeps (scan : Bool) (id : Nat) (new : Point) (s : State) :
    (commitPoint scan id new s).ordering = s.ordering ∧ (commitPoint scan id new s).mram = s.mram
    ∧ (commitPoint scan id new s).pending = s.pending ∧ (commitPoint scan id new s).safA = s.safA
    ∧ (commitPoint scan id new s).safB = s.safB ∧ (commitPoint scan id new s).evr = s.evr
    ∧ (commitPoint scan id new s).areaA = s.areaA ∧ (commitPoint scan id new s).areaB = s.areaB
    ∧ (commitPoint scan id new s).ces = s.ces := by
  unfold commitPoint
  simp

@[simp] theorem countDenial_keeps (w : CombWho) (r : Nat) (id : Nat) (s : State) :
    (countDenial w r id s).ordering = s.ordering ∧ (countDenial w r id s).mram = s.mram
    ∧ (countDenial w r id s).pending = s.pending ∧ (countDenial w r id s).safA = s.safA ∧ (countDenial w r id s).safB = s.safB
    ∧ (countDenial w r id s).evr = s.evr ∧ (countDenial w r id s).areaA = s.areaA ∧ (countDenial w r id s).areaB = s.areaB
    ∧ (countDenial w r id s).ces = s.ces := by
  unfold countDenial
  simp

@[simp] theorem combAccess_keeps (w : CombWho) (r : Nat) (id : Nat) (op : CombOp) (src : Option (Nat × Nat)) (ecc : Ecc) (s :
    State) :
    (combAccess w r id op src ecc s).2.ordering = s.ordering ∧ (combAccess w r id op src ecc s).2.mram = s.mram
    ∧ (combAccess w r id op src ecc s).2.pending = s.pending ∧ (combAccess w r id op src ecc s).2.safA = s.safA
    ∧ (combAccess w r id op src ecc s).2.safB = s.safB ∧ (combAccess w r id op src ecc s).2.evr = s.evr
    ∧ (combAccess w r id op src ecc s).2.areaA = s.areaA ∧ (combAccess w r id op src ecc s).2.areaB = s.areaB
    ∧ (combAccess w r id op src ecc s).2.ces = s.ces := by
  unfold combAccess
  (repeat' split) <;> simp

@[simp] theorem sourceLost_keeps (kind : Nat) (unitNo : Nat) (s : State) :
    (sourceLost kind unitNo s).ordering = s.ordering ∧ (sourceLost kind unitNo s).mram = s.mram
    ∧ (sourceLost kind unitNo s).pending = s.pending ∧ (sourceLost kind unitNo s).safA = s.safA
    ∧ (sourceLost kind unitNo s).safB = s.safB ∧ (sourceLost kind unitNo s).evr = s.evr
    ∧ (sourceLost kind unitNo s).areaA = s.areaA ∧ (sourceLost kind unitNo s).areaB = s.areaB
    ∧ (sourceLost kind unitNo s).ces = s.ces := by
  unfold sourceLost
  simp

@[simp] theorem pointForce_keeps (id : Nat) (f : Option (Word × Word)) (s : State) :
    (pointForce id f s).ordering = s.ordering ∧ (pointForce id f s).mram = s.mram ∧ (pointForce id f s).pending = s.pending
    ∧ (pointForce id f s).safA = s.safA ∧ (pointForce id f s).safB = s.safB ∧ (pointForce id f s).evr = s.evr
    ∧ (pointForce id f s).areaA = s.areaA ∧ (pointForce id f s).areaB = s.areaB ∧ (pointForce id f s).ces = s.ces := by
  unfold pointForce
  dsimp only; (repeat' split) <;> simp

@[simp] theorem combLoad_keeps (mine : Nat → Bool) (unA : List Nat) (unB : List Nat) (saved : Tab SlotImage) (s : State) :
    (combLoad mine unA unB saved s).ordering = s.ordering ∧ (combLoad mine unA unB saved s).mram = s.mram
    ∧ (combLoad mine unA unB saved s).pending = s.pending ∧ (combLoad mine unA unB saved s).safA = s.safA
    ∧ (combLoad mine unA unB saved s).safB = s.safB ∧ (combLoad mine unA unB saved s).evr = s.evr
    ∧ (combLoad mine unA unB saved s).areaA = s.areaA ∧ (combLoad mine unA unB saved s).areaB = s.areaB
    ∧ (combLoad mine unA unB saved s).ces = s.ces := by
  unfold combLoad
  refine ⟨?_, ?_, ?_, ?_, ?_, ?_, ?_, ?_, ?_⟩ <;> (first | ((first | rw [foldl_ordering] | rw [foldl_mram] | rw [foldl_pending] | rw [foldl_safA] | rw [foldl_safB] | rw [foldl_evr] | rw [foldl_areaA] | rw [foldl_areaB] | rw [foldl_ces]); intro s a; (repeat' split) <;> simp) | ((repeat' split) <;> first | (simp) | ((first | rw [foldl_ordering] | rw [foldl_mram] | rw [foldl_pending] | rw [foldl_safA] | rw [foldl_safB] | rw [foldl_evr] | rw [foldl_areaA] | rw [foldl_areaB] | rw [foldl_ces]); intro s a; (repeat' split) <;> simp)))

@[simp] theorem slotReload_keeps (id : Nat) (okA : Bool) (okB : Bool) (s : State) :
    (slotReload id okA okB s).ordering = s.ordering ∧ (slotReload id okA okB s).mram = s.mram
    ∧ (slotReload id okA okB s).pending = s.pending ∧ (slotReload id okA okB s).safA = s.safA
    ∧ (slotReload id okA okB s).safB = s.safB ∧ (slotReload id okA okB s).evr = s.evr ∧ (slotReload id okA okB s).areaA = s.areaA
    ∧ (slotReload id okA okB s).areaB = s.areaB ∧ (slotReload id okA okB s).ces = s.ces := by
  unfold slotReload
  dsimp only; (repeat' split) <;> simp

@[simp] theorem mirrorWriteA_keeps (id : Nat) (s : State) :
    (mirrorWriteA id s).ordering = s.ordering ∧ (mirrorWriteA id s).mram = s.mram ∧ (mirrorWriteA id s).pending = s.pending
    ∧ (mirrorWriteA id s).safA = s.safA ∧ (mirrorWriteA id s).safB = s.safB ∧ (mirrorWriteA id s).evr = s.evr
    ∧ (mirrorWriteA id s).areaA = s.areaA ∧ (mirrorWriteA id s).areaB = s.areaB ∧ (mirrorWriteA id s).ces = s.ces := by
  unfold mirrorWriteA
  dsimp only; (repeat' split) <;> simp

@[simp] theorem mirrorWritten_keeps (s : State) :
    (mirrorWritten s).ordering = s.ordering ∧ (mirrorWritten s).mram = s.mram ∧ (mirrorWritten s).pending = s.pending
    ∧ (mirrorWritten s).safA = s.safA ∧ (mirrorWritten s).safB = s.safB ∧ (mirrorWritten s).evr = s.evr
    ∧ (mirrorWritten s).areaA = s.areaA ∧ (mirrorWritten s).areaB = s.areaB ∧ (mirrorWritten s).ces = s.ces := by
  unfold mirrorWritten
  split <;> simp

@[simp] theorem mirrorAckA_keeps (id : Nat) (s : State) :
    (mirrorAckA id s).ordering = s.ordering ∧ (mirrorAckA id s).mram = s.mram ∧ (mirrorAckA id s).pending = s.pending
    ∧ (mirrorAckA id s).safA = s.safA ∧ (mirrorAckA id s).safB = s.safB ∧ (mirrorAckA id s).evr = s.evr
    ∧ (mirrorAckA id s).areaA = s.areaA ∧ (mirrorAckA id s).areaB = s.areaB ∧ (mirrorAckA id s).ces = s.ces := by
  unfold mirrorAckA
  dsimp only; (repeat' split) <;> simp

@[simp] theorem mirrorAckB_keeps (id : Nat) (s : State) :
    (mirrorAckB id s).ordering = s.ordering ∧ (mirrorAckB id s).mram = s.mram ∧ (mirrorAckB id s).pending = s.pending
    ∧ (mirrorAckB id s).safA = s.safA ∧ (mirrorAckB id s).safB = s.safB ∧ (mirrorAckB id s).evr = s.evr
    ∧ (mirrorAckB id s).areaA = s.areaA ∧ (mirrorAckB id s).areaB = s.areaB ∧ (mirrorAckB id s).ces = s.ces := by
  unfold mirrorAckB
  dsimp only; (repeat' split) <;> simp

@[simp] theorem mirrorLate_keeps (copyB : Bool) (id : Nat) (s : State) :
    (mirrorLate copyB id s).ordering = s.ordering ∧ (mirrorLate copyB id s).mram = s.mram
    ∧ (mirrorLate copyB id s).pending = s.pending ∧ (mirrorLate copyB id s).safA = s.safA ∧ (mirrorLate copyB id s).safB = s.safB
    ∧ (mirrorLate copyB id s).evr = s.evr ∧ (mirrorLate copyB id s).areaA = s.areaA ∧ (mirrorLate copyB id s).areaB = s.areaB
    ∧ (mirrorLate copyB id s).ces = s.ces := by
  unfold mirrorLate
  dsimp only; (repeat' split) <;> simp

@[simp] theorem queueError_keeps (c : TaskCfg) (r : ErrRec) (s : State) :
    (queueError c r s).ordering = s.ordering ∧ (queueError c r s).mram = s.mram ∧ (queueError c r s).pending = s.pending
    ∧ (queueError c r s).safA = s.safA ∧ (queueError c r s).safB = s.safB ∧ (queueError c r s).evr = s.evr
    ∧ (queueError c r s).areaA = s.areaA ∧ (queueError c r s).areaB = s.areaB ∧ (queueError c r s).ces = s.ces := by
  unfold queueError
  dsimp only; (repeat' split) <;> simp

@[simp] theorem taskError_keeps (c : TaskCfg) (cause : Nat) (station : Nat) (s : State) :
    (taskError c cause station s).ordering = s.ordering ∧ (taskError c cause station s).mram = s.mram
    ∧ (taskError c cause station s).pending = s.pending ∧ (taskError c cause station s).safA = s.safA
    ∧ (taskError c cause station s).safB = s.safB ∧ (taskError c cause station s).evr = s.evr
    ∧ (taskError c cause station s).areaA = s.areaA ∧ (taskError c cause station s).areaB = s.areaB
    ∧ (taskError c cause station s).ces = s.ces := by
  unfold taskError
  split <;> simp

@[simp] theorem stopTask_keeps (c : TaskCfg) (cause : Nat) (s : State) :
    (stopTask c cause s).ordering = s.ordering ∧ (stopTask c cause s).mram = s.mram ∧ (stopTask c cause s).pending = s.pending
    ∧ (stopTask c cause s).safA = s.safA ∧ (stopTask c cause s).safB = s.safB ∧ (stopTask c cause s).evr = s.evr
    ∧ (stopTask c cause s).areaA = s.areaA ∧ (stopTask c cause s).areaB = s.areaB ∧ (stopTask c cause s).ces = s.ces := by
  unfold stopTask
  simp

@[simp] theorem noteWrites_keeps (n : Nat) (places : List Nat) (s : State) :
    (noteWrites n places s).ordering = s.ordering ∧ (noteWrites n places s).mram = s.mram
    ∧ (noteWrites n places s).pending = s.pending ∧ (noteWrites n places s).safA = s.safA ∧ (noteWrites n places s).safB = s.safB
    ∧ (noteWrites n places s).evr = s.evr ∧ (noteWrites n places s).areaA = s.areaA ∧ (noteWrites n places s).areaB = s.areaB
    ∧ (noteWrites n places s).ces = s.ces := by
  unfold noteWrites
  dsimp only; (repeat' split) <;> simp

@[simp] theorem stationError_keeps (n : Nat) (cause : Nat) (s : State) :
    (stationError n cause s).ordering = s.ordering ∧ (stationError n cause s).mram = s.mram
    ∧ (stationError n cause s).pending = s.pending ∧ (stationError n cause s).safA = s.safA
    ∧ (stationError n cause s).safB = s.safB ∧ (stationError n cause s).evr = s.evr ∧ (stationError n cause s).areaA = s.areaA
    ∧ (stationError n cause s).areaB = s.areaB ∧ (stationError n cause s).ces = s.ces := by
  unfold stationError
  refine ⟨?_, ?_, ?_, ?_, ?_, ?_, ?_, ?_, ?_⟩ <;> (first | ((first | rw [foldl_ordering] | rw [foldl_mram] | rw [foldl_pending] | rw [foldl_safA] | rw [foldl_safB] | rw [foldl_evr] | rw [foldl_areaA] | rw [foldl_areaB] | rw [foldl_ces]); intro s a; (repeat' split) <;> simp) | ((repeat' split) <;> first | (simp) | ((first | rw [foldl_ordering] | rw [foldl_mram] | rw [foldl_pending] | rw [foldl_safA] | rw [foldl_safB] | rw [foldl_evr] | rw [foldl_areaA] | rw [foldl_areaB] | rw [foldl_ces]); intro s a; (repeat' split) <;> simp)))

@[simp] theorem putForces_keeps (fs : List Force) (s : State) :
    (putForces fs s).ordering = s.ordering ∧ (putForces fs s).mram = s.mram ∧ (putForces fs s).pending = s.pending
    ∧ (putForces fs s).safA = s.safA ∧ (putForces fs s).safB = s.safB ∧ (putForces fs s).evr = s.evr
    ∧ (putForces fs s).areaA = s.areaA ∧ (putForces fs s).areaB = s.areaB ∧ (putForces fs s).ces = s.ces := by
  unfold putForces
  exact ⟨rfl, rfl, rfl, rfl, rfl, rfl, rfl, rfl, rfl⟩

@[simp] theorem dropForce_keeps (f : Force) (s : State) :
    (dropForce f s).ordering = s.ordering ∧ (dropForce f s).mram = s.mram ∧ (dropForce f s).pending = s.pending
    ∧ (dropForce f s).safA = s.safA ∧ (dropForce f s).safB = s.safB ∧ (dropForce f s).evr = s.evr ∧ (dropForce f s).areaA = s.areaA
    ∧ (dropForce f s).areaB = s.areaB ∧ (dropForce f s).ces = s.ces := by
  unfold dropForce
  split <;> simp

@[simp] theorem clearForces_keeps (s : State) :
    (clearForces s).ordering = s.ordering ∧ (clearForces s).mram = s.mram ∧ (clearForces s).pending = s.pending
    ∧ (clearForces s).safA = s.safA ∧ (clearForces s).safB = s.safB ∧ (clearForces s).evr = s.evr ∧ (clearForces s).areaA = s.areaA
    ∧ (clearForces s).areaB = s.areaB ∧ (clearForces s).ces = s.ces := by
  unfold clearForces
  simp

@[simp] theorem forceCommand_keeps (cmd : Nat) (tenant : Nat) (minutes : Nat) (s : State) :
    (forceCommand cmd tenant minutes s).ordering = s.ordering ∧ (forceCommand cmd tenant minutes s).mram = s.mram
    ∧ (forceCommand cmd tenant minutes s).pending = s.pending ∧ (forceCommand cmd tenant minutes s).safA = s.safA
    ∧ (forceCommand cmd tenant minutes s).safB = s.safB ∧ (forceCommand cmd tenant minutes s).evr = s.evr
    ∧ (forceCommand cmd tenant minutes s).areaA = s.areaA ∧ (forceCommand cmd tenant minutes s).areaB = s.areaB
    ∧ (forceCommand cmd tenant minutes s).ces = s.ces := by
  unfold forceCommand
  dsimp only; (repeat' split) <;> simp

@[simp] theorem ceElement_keeps (n : Fin 128) (id : Word) (op : CombOp) (ecc : Ecc) (s : State) :
    (ceElement n id op ecc s).2.ordering = s.ordering ∧ (ceElement n id op ecc s).2.mram = s.mram
    ∧ (ceElement n id op ecc s).2.pending = s.pending ∧ (ceElement n id op ecc s).2.safA = s.safA
    ∧ (ceElement n id op ecc s).2.safB = s.safB ∧ (ceElement n id op ecc s).2.evr = s.evr
    ∧ (ceElement n id op ecc s).2.areaA = s.areaA ∧ (ceElement n id op ecc s).2.areaB = s.areaB := by
  unfold ceElement
  dsimp only; (repeat' split) <;> simp

@[simp] theorem unitWrite_keeps (id : Nat) (v : Word) (s : State) :
    (unitWrite id v s).ordering = s.ordering ∧ (unitWrite id v s).mram = s.mram ∧ (unitWrite id v s).pending = s.pending
    ∧ (unitWrite id v s).safA = s.safA ∧ (unitWrite id v s).safB = s.safB ∧ (unitWrite id v s).evr = s.evr
    ∧ (unitWrite id v s).areaA = s.areaA ∧ (unitWrite id v s).areaB = s.areaB ∧ (unitWrite id v s).ces = s.ces := by
  unfold unitWrite
  simp

@[simp] theorem showLevel_keeps (s : State) :
    (showLevel s).ordering = s.ordering ∧ (showLevel s).mram = s.mram ∧ (showLevel s).pending = s.pending
    ∧ (showLevel s).safA = s.safA ∧ (showLevel s).safB = s.safB ∧ (showLevel s).evr = s.evr ∧ (showLevel s).areaA = s.areaA
    ∧ (showLevel s).areaB = s.areaB ∧ (showLevel s).ces = s.ces := by
  unfold showLevel
  simp

@[simp] theorem setLevel_keeps (k : Nat) (s : State) :
    (setLevel k s).ordering = s.ordering ∧ (setLevel k s).mram = s.mram ∧ (setLevel k s).pending = s.pending
    ∧ (setLevel k s).safA = s.safA ∧ (setLevel k s).safB = s.safB ∧ (setLevel k s).evr = s.evr ∧ (setLevel k s).areaA = s.areaA
    ∧ (setLevel k s).areaB = s.areaB ∧ (setLevel k s).ces = s.ces := by
  unfold setLevel
  split <;> simp

@[simp] theorem setLimit_keeps (kw : Nat) (s : State) :
    (setLimit kw s).ordering = s.ordering ∧ (setLimit kw s).mram = s.mram ∧ (setLimit kw s).pending = s.pending
    ∧ (setLimit kw s).safA = s.safA ∧ (setLimit kw s).safB = s.safB ∧ (setLimit kw s).evr = s.evr ∧ (setLimit kw s).areaA = s.areaA
    ∧ (setLimit kw s).areaB = s.areaB ∧ (setLimit kw s).ces = s.ces := by
  unfold setLimit
  split <;> simp

@[simp] theorem bacSays_keeps (m : BacMsg) (s : State) :
    (bacSays m s).ordering = s.ordering ∧ (bacSays m s).mram = s.mram ∧ (bacSays m s).pending = s.pending
    ∧ (bacSays m s).safA = s.safA ∧ (bacSays m s).safB = s.safB ∧ (bacSays m s).evr = s.evr ∧ (bacSays m s).areaA = s.areaA
    ∧ (bacSays m s).areaB = s.areaB ∧ (bacSays m s).ces = s.ces := by
  unfold bacSays
  exact ⟨rfl, rfl, rfl, rfl, rfl, rfl, rfl, rfl, rfl⟩

@[simp] theorem subscribe_keeps (q : BacSession) (r : Nat) (id : Nat) (confirmed : Bool) (old : Option Nat) (s : State) :
    (subscribe q r id confirmed old s).ordering = s.ordering ∧ (subscribe q r id confirmed old s).mram = s.mram
    ∧ (subscribe q r id confirmed old s).pending = s.pending ∧ (subscribe q r id confirmed old s).safA = s.safA
    ∧ (subscribe q r id confirmed old s).safB = s.safB ∧ (subscribe q r id confirmed old s).evr = s.evr
    ∧ (subscribe q r id confirmed old s).areaA = s.areaA ∧ (subscribe q r id confirmed old s).areaB = s.areaB
    ∧ (subscribe q r id confirmed old s).ces = s.ces := by
  unfold subscribe
  dsimp only; (repeat' split) <;> simp

@[simp] theorem learnWatch_keeps (c : Nat) (s : State) :
    (learnWatch c s).ordering = s.ordering ∧ (learnWatch c s).mram = s.mram ∧ (learnWatch c s).pending = s.pending
    ∧ (learnWatch c s).safA = s.safA ∧ (learnWatch c s).safB = s.safB ∧ (learnWatch c s).evr = s.evr
    ∧ (learnWatch c s).areaA = s.areaA ∧ (learnWatch c s).areaB = s.areaB ∧ (learnWatch c s).ces = s.ces := by
  unfold learnWatch
  dsimp only; (repeat' split) <;> simp

@[simp] theorem fbkReact_keeps (c : Nat) (old : Fbk) (s : State) :
    (fbkReact c old s).ordering = s.ordering ∧ (fbkReact c old s).mram = s.mram ∧ (fbkReact c old s).pending = s.pending
    ∧ (fbkReact c old s).safA = s.safA ∧ (fbkReact c old s).safB = s.safB ∧ (fbkReact c old s).evr = s.evr
    ∧ (fbkReact c old s).areaA = s.areaA ∧ (fbkReact c old s).areaB = s.areaB ∧ (fbkReact c old s).ces = s.ces := by
  unfold fbkReact
  simp

@[simp] theorem sendRaw_keeps (c : Nat) (kind : Nat) (value : Int) (verdict : Nat) (latch : Nat) (s : State) :
    (sendRaw c kind value verdict latch s).ordering = s.ordering ∧ (sendRaw c kind value verdict latch s).mram = s.mram
    ∧ (sendRaw c kind value verdict latch s).pending = s.pending ∧ (sendRaw c kind value verdict latch s).evr = s.evr
    ∧ (sendRaw c kind value verdict latch s).areaA = s.areaA ∧ (sendRaw c kind value verdict latch s).areaB = s.areaB
    ∧ (sendRaw c kind value verdict latch s).ces = s.ces := by
  unfold sendRaw
  exact ⟨rfl, rfl, rfl, rfl, rfl, rfl, rfl⟩

@[simp] theorem endPeriod_keeps (k : FbkCfg) (s : State) :
    (endPeriod k s).2.ordering = s.ordering ∧ (endPeriod k s).2.mram = s.mram ∧ (endPeriod k s).2.pending = s.pending
    ∧ (endPeriod k s).2.safA = s.safA ∧ (endPeriod k s).2.safB = s.safB ∧ (endPeriod k s).2.evr = s.evr
    ∧ (endPeriod k s).2.areaA = s.areaA ∧ (endPeriod k s).2.areaB = s.areaB ∧ (endPeriod k s).2.ces = s.ces := by
  unfold endPeriod
  split <;> simp

@[simp] theorem absSample_keeps (k : FbkCfg) (cause : Nat) (raw : Int) (t : Nat) (count : Int) (s : State) :
    (absSample k cause raw t count s).ordering = s.ordering ∧ (absSample k cause raw t count s).mram = s.mram
    ∧ (absSample k cause raw t count s).pending = s.pending ∧ (absSample k cause raw t count s).evr = s.evr
    ∧ (absSample k cause raw t count s).areaA = s.areaA ∧ (absSample k cause raw t count s).areaB = s.areaB
    ∧ (absSample k cause raw t count s).ces = s.ces := by
  unfold absSample
  (repeat' split) <;> simp

@[simp] theorem ssiRequest_keeps (n : Nat) (ready : Bool) (s : State) :
    (ssiRequest n ready s).ordering = s.ordering ∧ (ssiRequest n ready s).mram = s.mram
    ∧ (ssiRequest n ready s).pending = s.pending ∧ (ssiRequest n ready s).evr = s.evr ∧ (ssiRequest n ready s).areaA = s.areaA
    ∧ (ssiRequest n ready s).areaB = s.areaB ∧ (ssiRequest n ready s).ces = s.ces := by
  unfold ssiRequest
  (repeat' split) <;> simp

@[simp] theorem quadRecord_keeps (n : Nat) (r : FeedbackRec) (s : State) :
    (quadRecord n r s).ordering = s.ordering ∧ (quadRecord n r s).mram = s.mram ∧ (quadRecord n r s).pending = s.pending
    ∧ (quadRecord n r s).evr = s.evr ∧ (quadRecord n r s).areaA = s.areaA ∧ (quadRecord n r s).areaB = s.areaB
    ∧ (quadRecord n r s).ces = s.ces := by
  unfold quadRecord
  (repeat' split) <;> simp

@[simp] theorem absRecord_keeps (n : Nat) (r : FeedbackRec) (s : State) :
    (absRecord n r s).ordering = s.ordering ∧ (absRecord n r s).mram = s.mram ∧ (absRecord n r s).pending = s.pending
    ∧ (absRecord n r s).evr = s.evr ∧ (absRecord n r s).areaA = s.areaA ∧ (absRecord n r s).areaB = s.areaB
    ∧ (absRecord n r s).ces = s.ces := by
  unfold absRecord
  (repeat' split) <;> simp

@[simp] theorem feedbackFrame_keeps (n : Nat) (rs : List FeedbackRec) (s : State) :
    (feedbackFrame n rs s).ordering = s.ordering ∧ (feedbackFrame n rs s).mram = s.mram
    ∧ (feedbackFrame n rs s).pending = s.pending ∧ (feedbackFrame n rs s).evr = s.evr ∧ (feedbackFrame n rs s).areaA = s.areaA
    ∧ (feedbackFrame n rs s).areaB = s.areaB ∧ (feedbackFrame n rs s).ces = s.ces := by
  unfold feedbackFrame
  simp

@[simp] theorem qeError_keeps (n : Nat) (bad : Nat) (s : State) :
    (qeError n bad s).ordering = s.ordering ∧ (qeError n bad s).mram = s.mram ∧ (qeError n bad s).pending = s.pending
    ∧ (qeError n bad s).safA = s.safA ∧ (qeError n bad s).safB = s.safB ∧ (qeError n bad s).evr = s.evr
    ∧ (qeError n bad s).areaA = s.areaA ∧ (qeError n bad s).areaB = s.areaB ∧ (qeError n bad s).ces = s.ces := by
  unfold qeError
  simp

@[simp] theorem indexEdge_keeps (n : Nat) (rise : Bool) (s : State) :
    (indexEdge n rise s).ordering = s.ordering ∧ (indexEdge n rise s).mram = s.mram ∧ (indexEdge n rise s).pending = s.pending
    ∧ (indexEdge n rise s).safA = s.safA ∧ (indexEdge n rise s).safB = s.safB ∧ (indexEdge n rise s).evr = s.evr
    ∧ (indexEdge n rise s).areaA = s.areaA ∧ (indexEdge n rise s).areaB = s.areaB ∧ (indexEdge n rise s).ces = s.ces := by
  unfold indexEdge
  dsimp only; (repeat' split) <;> simp

@[simp] theorem tickPeriod_keeps (k : FbkCfg) (s : State) :
    (tickPeriod k s).ordering = s.ordering ∧ (tickPeriod k s).mram = s.mram ∧ (tickPeriod k s).pending = s.pending
    ∧ (tickPeriod k s).evr = s.evr ∧ (tickPeriod k s).areaA = s.areaA ∧ (tickPeriod k s).areaB = s.areaB
    ∧ (tickPeriod k s).ces = s.ces := by
  unfold tickPeriod
  dsimp only; (repeat' split) <;> simp

@[simp] theorem fbkClear_keeps (c : Nat) (s : State) :
    (fbkClear c s).ordering = s.ordering ∧ (fbkClear c s).mram = s.mram ∧ (fbkClear c s).pending = s.pending
    ∧ (fbkClear c s).safA = s.safA ∧ (fbkClear c s).safB = s.safB ∧ (fbkClear c s).evr = s.evr ∧ (fbkClear c s).areaA = s.areaA
    ∧ (fbkClear c s).areaB = s.areaB ∧ (fbkClear c s).ces = s.ces := by
  unfold fbkClear
  dsimp only; (repeat' split) <;> simp

@[simp] theorem learnBegin_keeps (c : Nat) (s : State) :
    (learnBegin c s).ordering = s.ordering ∧ (learnBegin c s).mram = s.mram ∧ (learnBegin c s).pending = s.pending
    ∧ (learnBegin c s).safA = s.safA ∧ (learnBegin c s).safB = s.safB ∧ (learnBegin c s).evr = s.evr
    ∧ (learnBegin c s).areaA = s.areaA ∧ (learnBegin c s).areaB = s.areaB ∧ (learnBegin c s).ces = s.ces := by
  unfold learnBegin
  dsimp only; (repeat' split) <;> simp

@[simp] theorem learnAbort_keeps (c : Nat) (s : State) :
    (learnAbort c s).ordering = s.ordering ∧ (learnAbort c s).mram = s.mram ∧ (learnAbort c s).pending = s.pending
    ∧ (learnAbort c s).safA = s.safA ∧ (learnAbort c s).safB = s.safB ∧ (learnAbort c s).evr = s.evr
    ∧ (learnAbort c s).areaA = s.areaA ∧ (learnAbort c s).areaB = s.areaB ∧ (learnAbort c s).ces = s.ces := by
  unfold learnAbort
  dsimp only; (repeat' split) <;> simp

@[simp] theorem learnFail_keeps (c : Nat) (s : State) :
    (learnFail c s).ordering = s.ordering ∧ (learnFail c s).mram = s.mram ∧ (learnFail c s).pending = s.pending
    ∧ (learnFail c s).safA = s.safA ∧ (learnFail c s).safB = s.safB ∧ (learnFail c s).evr = s.evr ∧ (learnFail c s).areaA = s.areaA
    ∧ (learnFail c s).areaB = s.areaB ∧ (learnFail c s).ces = s.ces := by
  unfold learnFail
  simp

@[simp] theorem learnSill_keeps (c : Nat) (k : FbkCfg) (raw : Int) (count : Int) (s : State) :
    (learnSill c k raw count s).ordering = s.ordering ∧ (learnSill c k raw count s).mram = s.mram
    ∧ (learnSill c k raw count s).pending = s.pending ∧ (learnSill c k raw count s).safA = s.safA
    ∧ (learnSill c k raw count s).safB = s.safB ∧ (learnSill c k raw count s).evr = s.evr
    ∧ (learnSill c k raw count s).areaA = s.areaA ∧ (learnSill c k raw count s).areaB = s.areaB
    ∧ (learnSill c k raw count s).ces = s.ces := by
  unfold learnSill
  dsimp only; (repeat' split) <;> simp

@[simp] theorem zoneEdge_keeps (c : Nat) (rise : Bool) (s : State) :
    (zoneEdge c rise s).ordering = s.ordering ∧ (zoneEdge c rise s).mram = s.mram ∧ (zoneEdge c rise s).pending = s.pending
    ∧ (zoneEdge c rise s).safA = s.safA ∧ (zoneEdge c rise s).safB = s.safB ∧ (zoneEdge c rise s).evr = s.evr
    ∧ (zoneEdge c rise s).areaA = s.areaA ∧ (zoneEdge c rise s).areaB = s.areaB ∧ (zoneEdge c rise s).ces = s.ces := by
  unfold zoneEdge
  dsimp only; (repeat' split) <;> simp

@[simp] theorem askRebuild_keeps (c : Nat) (s : State) :
    (askRebuild c s).ordering = s.ordering ∧ (askRebuild c s).mram = s.mram ∧ (askRebuild c s).pending = s.pending
    ∧ (askRebuild c s).safA = s.safA ∧ (askRebuild c s).safB = s.safB ∧ (askRebuild c s).evr = s.evr
    ∧ (askRebuild c s).areaA = s.areaA ∧ (askRebuild c s).areaB = s.areaB ∧ (askRebuild c s).ces = s.ces := by
  unfold askRebuild
  refine ⟨?_, ?_, ?_, ?_, ?_, ?_, ?_, ?_, ?_⟩ <;> (first | ((first | rw [foldl_ordering] | rw [foldl_mram] | rw [foldl_pending] | rw [foldl_safA] | rw [foldl_safB] | rw [foldl_evr] | rw [foldl_areaA] | rw [foldl_areaB] | rw [foldl_ces]); intro s a; (repeat' split) <;> simp) | ((repeat' split) <;> first | (simp) | ((first | rw [foldl_ordering] | rw [foldl_mram] | rw [foldl_pending] | rw [foldl_safA] | rw [foldl_safB] | rw [foldl_evr] | rw [foldl_areaA] | rw [foldl_areaB] | rw [foldl_ces]); intro s a; (repeat' split) <;> simp)))

@[simp] theorem learnEnd_keeps (c : Nat) (s : State) :
    (learnEnd c s).ordering = s.ordering ∧ (learnEnd c s).mram = s.mram ∧ (learnEnd c s).pending = s.pending
    ∧ (learnEnd c s).safA = s.safA ∧ (learnEnd c s).safB = s.safB ∧ (learnEnd c s).evr = s.evr ∧ (learnEnd c s).areaA = s.areaA
    ∧ (learnEnd c s).areaB = s.areaB ∧ (learnEnd c s).ces = s.ces := by
  unfold learnEnd
  dsimp only; (repeat' split) <;> simp

@[simp] theorem fbkRelease_keeps (s : State) :
    (fbkRelease s).ordering = s.ordering ∧ (fbkRelease s).mram = s.mram ∧ (fbkRelease s).pending = s.pending
    ∧ (fbkRelease s).safA = s.safA ∧ (fbkRelease s).safB = s.safB ∧ (fbkRelease s).evr = s.evr ∧ (fbkRelease s).areaA = s.areaA
    ∧ (fbkRelease s).areaB = s.areaB ∧ (fbkRelease s).ces = s.ces := by
  unfold fbkRelease
  refine ⟨?_, ?_, ?_, ?_, ?_, ?_, ?_, ?_, ?_⟩ <;> (first | ((first | rw [foldl_ordering] | rw [foldl_mram] | rw [foldl_pending] | rw [foldl_safA] | rw [foldl_safB] | rw [foldl_evr] | rw [foldl_areaA] | rw [foldl_areaB] | rw [foldl_ces]); intro s a; (repeat' split) <;> simp) | ((repeat' split) <;> first | (simp) | ((first | rw [foldl_ordering] | rw [foldl_mram] | rw [foldl_pending] | rw [foldl_safA] | rw [foldl_safB] | rw [foldl_evr] | rw [foldl_areaA] | rw [foldl_areaB] | rw [foldl_ces]); intro s a; (repeat' split) <;> simp)))

@[simp] theorem fbkCommand_keeps (c : Nat) (cmd : Nat) (s : State) :
    (fbkCommand c cmd s).ordering = s.ordering ∧ (fbkCommand c cmd s).mram = s.mram ∧ (fbkCommand c cmd s).pending = s.pending
    ∧ (fbkCommand c cmd s).safA = s.safA ∧ (fbkCommand c cmd s).safB = s.safB ∧ (fbkCommand c cmd s).evr = s.evr
    ∧ (fbkCommand c cmd s).areaA = s.areaA ∧ (fbkCommand c cmd s).areaB = s.areaB ∧ (fbkCommand c cmd s).ces = s.ces := by
  unfold fbkCommand
  split <;> simp

@[simp] theorem fbkWrite_keeps (off : Nat) (v : Word) (s : State) :
    (fbkWrite off v s).ordering = s.ordering ∧ (fbkWrite off v s).mram = s.mram ∧ (fbkWrite off v s).pending = s.pending
    ∧ (fbkWrite off v s).safA = s.safA ∧ (fbkWrite off v s).safB = s.safB ∧ (fbkWrite off v s).evr = s.evr
    ∧ (fbkWrite off v s).areaA = s.areaA ∧ (fbkWrite off v s).areaB = s.areaB ∧ (fbkWrite off v s).ces = s.ces := by
  unfold fbkWrite
  (repeat' split) <;> simp

@[simp] theorem fieldFault_keeps (s : State) :
    (fieldFault s).ordering = s.ordering ∧ (fieldFault s).mram = s.mram ∧ (fieldFault s).pending = s.pending
    ∧ (fieldFault s).safA = s.safA ∧ (fieldFault s).safB = s.safB ∧ (fieldFault s).evr = s.evr ∧ (fieldFault s).areaA = s.areaA
    ∧ (fieldFault s).areaB = s.areaB ∧ (fieldFault s).ces = s.ces := by
  unfold fieldFault
  exact ⟨rfl, rfl, rfl, rfl, rfl, rfl, rfl, rfl, rfl⟩

@[simp] theorem outRefresh_keeps (o : Nat) (s : State) :
    (outRefresh o s).ordering = s.ordering ∧ (outRefresh o s).mram = s.mram ∧ (outRefresh o s).pending = s.pending
    ∧ (outRefresh o s).safA = s.safA ∧ (outRefresh o s).safB = s.safB ∧ (outRefresh o s).evr = s.evr
    ∧ (outRefresh o s).areaA = s.areaA ∧ (outRefresh o s).areaB = s.areaB ∧ (outRefresh o s).ces = s.ces := by
  unfold outRefresh
  exact ⟨rfl, rfl, rfl, rfl, rfl, rfl, rfl, rfl, rfl⟩

@[simp] theorem outEvent_keeps (o : Nat) (s : State) :
    (outEvent o s).ordering = s.ordering ∧ (outEvent o s).mram = s.mram ∧ (outEvent o s).pending = s.pending
    ∧ (outEvent o s).safA = s.safA ∧ (outEvent o s).safB = s.safB ∧ (outEvent o s).evr = s.evr ∧ (outEvent o s).areaA = s.areaA
    ∧ (outEvent o s).areaB = s.areaB ∧ (outEvent o s).ces = s.ces := by
  unfold outEvent
  simp

@[simp] theorem coilRefresh_keeps (n : Nat) (s : State) :
    (coilRefresh n s).ordering = s.ordering ∧ (coilRefresh n s).mram = s.mram ∧ (coilRefresh n s).pending = s.pending
    ∧ (coilRefresh n s).safA = s.safA ∧ (coilRefresh n s).safB = s.safB ∧ (coilRefresh n s).evr = s.evr
    ∧ (coilRefresh n s).areaA = s.areaA ∧ (coilRefresh n s).areaB = s.areaB ∧ (coilRefresh n s).ces = s.ces := by
  unfold coilRefresh
  dsimp only; (repeat' split) <;> simp

@[simp] theorem fieldRefresh_keeps (s : State) :
    (fieldRefresh s).ordering = s.ordering ∧ (fieldRefresh s).mram = s.mram ∧ (fieldRefresh s).pending = s.pending
    ∧ (fieldRefresh s).safA = s.safA ∧ (fieldRefresh s).safB = s.safB ∧ (fieldRefresh s).evr = s.evr
    ∧ (fieldRefresh s).areaA = s.areaA ∧ (fieldRefresh s).areaB = s.areaB ∧ (fieldRefresh s).ces = s.ces := by
  unfold fieldRefresh
  split <;> simp

@[simp] theorem coilOffset_keeps (k : CoilCfg) (mean : Int) (s : State) :
    (coilOffset k mean s).ordering = s.ordering ∧ (coilOffset k mean s).mram = s.mram ∧ (coilOffset k mean s).pending = s.pending
    ∧ (coilOffset k mean s).safA = s.safA ∧ (coilOffset k mean s).safB = s.safB ∧ (coilOffset k mean s).evr = s.evr
    ∧ (coilOffset k mean s).areaA = s.areaA ∧ (coilOffset k mean s).areaB = s.areaB ∧ (coilOffset k mean s).ces = s.ces := by
  unfold coilOffset
  exact ⟨rfl, rfl, rfl, rfl, rfl, rfl, rfl, rfl, rfl⟩

@[simp] theorem coilUpdate_keeps (n : Nat) (mean : Int) (s : State) :
    (coilUpdate n mean s).ordering = s.ordering ∧ (coilUpdate n mean s).mram = s.mram ∧ (coilUpdate n mean s).pending = s.pending
    ∧ (coilUpdate n mean s).safA = s.safA ∧ (coilUpdate n mean s).safB = s.safB ∧ (coilUpdate n mean s).evr = s.evr
    ∧ (coilUpdate n mean s).areaA = s.areaA ∧ (coilUpdate n mean s).areaB = s.areaB ∧ (coilUpdate n mean s).ces = s.ces := by
  unfold coilUpdate
  (repeat' split) <;> simp

@[simp] theorem coilTrip_keeps (n : Nat) (cause : Nat) (s : State) :
    (coilTrip n cause s).ordering = s.ordering ∧ (coilTrip n cause s).mram = s.mram ∧ (coilTrip n cause s).pending = s.pending
    ∧ (coilTrip n cause s).safA = s.safA ∧ (coilTrip n cause s).safB = s.safB ∧ (coilTrip n cause s).evr = s.evr
    ∧ (coilTrip n cause s).areaA = s.areaA ∧ (coilTrip n cause s).areaB = s.areaB ∧ (coilTrip n cause s).ces = s.ces := by
  unfold coilTrip
  dsimp only; (repeat' split) <;> simp

@[simp] theorem targetWritePair_keeps (n : Nat) (v : Word) (s : State) :
    (targetWritePair n v s).ordering = s.ordering ∧ (targetWritePair n v s).mram = s.mram
    ∧ (targetWritePair n v s).pending = s.pending ∧ (targetWritePair n v s).safA = s.safA ∧ (targetWritePair n v s).safB = s.safB
    ∧ (targetWritePair n v s).evr = s.evr ∧ (targetWritePair n v s).areaA = s.areaA ∧ (targetWritePair n v s).areaB = s.areaB
    ∧ (targetWritePair n v s).ces = s.ces := by
  unfold targetWritePair
  dsimp only; (repeat' split) <;> simp

@[simp] theorem groupChange_keeps (g : Nat) (st : GroupState) (s : State) :
    (groupChange g st s).ordering = s.ordering ∧ (groupChange g st s).mram = s.mram ∧ (groupChange g st s).pending = s.pending
    ∧ (groupChange g st s).safA = s.safA ∧ (groupChange g st s).safB = s.safB ∧ (groupChange g st s).evr = s.evr
    ∧ (groupChange g st s).areaA = s.areaA ∧ (groupChange g st s).areaB = s.areaB ∧ (groupChange g st s).ces = s.ces := by
  unfold groupChange
  split <;> simp

@[simp] theorem fillCheck_keeps (s : State) :
    (fillCheck s).ordering = s.ordering ∧ (fillCheck s).mram = s.mram ∧ (fillCheck s).pending = s.pending
    ∧ (fillCheck s).safA = s.safA ∧ (fillCheck s).safB = s.safB ∧ (fillCheck s).evr = s.evr ∧ (fillCheck s).areaA = s.areaA
    ∧ (fillCheck s).areaB = s.areaB ∧ (fillCheck s).ces = s.ces := by
  unfold fillCheck
  simp

@[simp] theorem filterQualified_keeps (k : Nat) (s : State) :
    (filterQualified k s).ordering = s.ordering ∧ (filterQualified k s).mram = s.mram ∧ (filterQualified k s).pending = s.pending
    ∧ (filterQualified k s).safA = s.safA ∧ (filterQualified k s).safB = s.safB ∧ (filterQualified k s).evr = s.evr
    ∧ (filterQualified k s).areaA = s.areaA ∧ (filterQualified k s).areaB = s.areaB ∧ (filterQualified k s).ces = s.ces := by
  unfold filterQualified
  split <;> simp

@[simp] theorem resetFieldDie_keeps (s : State) :
    (resetFieldDie s).ordering = s.ordering ∧ (resetFieldDie s).mram = s.mram ∧ (resetFieldDie s).pending = s.pending
    ∧ (resetFieldDie s).safA = s.safA ∧ (resetFieldDie s).safB = s.safB ∧ (resetFieldDie s).evr = s.evr
    ∧ (resetFieldDie s).areaA = s.areaA ∧ (resetFieldDie s).areaB = s.areaB ∧ (resetFieldDie s).ces = s.ces := by
  unfold resetFieldDie
  exact ⟨rfl, rfl, rfl, rfl, rfl, rfl, rfl, rfl, rfl⟩

@[simp] theorem loadFieldTable_keeps (s : State) :
    (loadFieldTable s).ordering = s.ordering ∧ (loadFieldTable s).mram = s.mram ∧ (loadFieldTable s).pending = s.pending
    ∧ (loadFieldTable s).safA = s.safA ∧ (loadFieldTable s).safB = s.safB ∧ (loadFieldTable s).evr = s.evr
    ∧ (loadFieldTable s).areaA = s.areaA ∧ (loadFieldTable s).areaB = s.areaB ∧ (loadFieldTable s).ces = s.ces := by
  unfold loadFieldTable
  simp

@[simp] theorem keeperStrobe_keeps (silent : Bool) (s : State) :
    (keeperStrobe silent s).ordering = s.ordering ∧ (keeperStrobe silent s).mram = s.mram
    ∧ (keeperStrobe silent s).pending = s.pending ∧ (keeperStrobe silent s).safA = s.safA ∧ (keeperStrobe silent s).safB = s.safB
    ∧ (keeperStrobe silent s).evr = s.evr ∧ (keeperStrobe silent s).areaA = s.areaA ∧ (keeperStrobe silent s).areaB = s.areaB
    ∧ (keeperStrobe silent s).ces = s.ces := by
  unfold keeperStrobe
  exact ⟨rfl, rfl, rfl, rfl, rfl, rfl, rfl, rfl, rfl⟩

@[simp] theorem fieldTemp_keeps (t : Int) (s : State) :
    (fieldTemp t s).ordering = s.ordering ∧ (fieldTemp t s).mram = s.mram ∧ (fieldTemp t s).pending = s.pending
    ∧ (fieldTemp t s).safA = s.safA ∧ (fieldTemp t s).safB = s.safB ∧ (fieldTemp t s).evr = s.evr ∧ (fieldTemp t s).areaA = s.areaA
    ∧ (fieldTemp t s).areaB = s.areaB ∧ (fieldTemp t s).ces = s.ces := by
  unfold fieldTemp
  split <;> simp

@[simp] theorem outOverload_keeps (o : Nat) (current : Nat) (s : State) :
    (outOverload o current s).ordering = s.ordering ∧ (outOverload o current s).mram = s.mram
    ∧ (outOverload o current s).pending = s.pending ∧ (outOverload o current s).safA = s.safA
    ∧ (outOverload o current s).safB = s.safB ∧ (outOverload o current s).evr = s.evr ∧ (outOverload o current s).areaA = s.areaA
    ∧ (outOverload o current s).areaB = s.areaB ∧ (outOverload o current s).ces = s.ces := by
  unfold outOverload
  dsimp only; (repeat' split) <;> simp

@[simp] theorem outRetry_keeps (o : Nat) (s : State) :
    (outRetry o s).ordering = s.ordering ∧ (outRetry o s).mram = s.mram ∧ (outRetry o s).pending = s.pending
    ∧ (outRetry o s).safA = s.safA ∧ (outRetry o s).safB = s.safB ∧ (outRetry o s).evr = s.evr ∧ (outRetry o s).areaA = s.areaA
    ∧ (outRetry o s).areaB = s.areaB ∧ (outRetry o s).ces = s.ces := by
  unfold outRetry
  dsimp only; (repeat' split) <;> simp

@[simp] theorem outHot_keeps (o : Nat) (s : State) :
    (outHot o s).ordering = s.ordering ∧ (outHot o s).mram = s.mram ∧ (outHot o s).pending = s.pending ∧ (outHot o s).safA = s.safA
    ∧ (outHot o s).safB = s.safB ∧ (outHot o s).evr = s.evr ∧ (outHot o s).areaA = s.areaA ∧ (outHot o s).areaB = s.areaB
    ∧ (outHot o s).ces = s.ces := by
  unfold outHot
  dsimp only; (repeat' split) <;> simp

@[simp] theorem outCooled_keeps (o : Nat) (s : State) :
    (outCooled o s).ordering = s.ordering ∧ (outCooled o s).mram = s.mram ∧ (outCooled o s).pending = s.pending
    ∧ (outCooled o s).safA = s.safA ∧ (outCooled o s).safB = s.safB ∧ (outCooled o s).evr = s.evr ∧ (outCooled o s).areaA = s.areaA
    ∧ (outCooled o s).areaB = s.areaB ∧ (outCooled o s).ces = s.ces := by
  unfold outCooled
  dsimp only; (repeat' split) <;> simp

@[simp] theorem openWire_keeps (o : Nat) (current : Nat) (s : State) :
    (openWire o current s).ordering = s.ordering ∧ (openWire o current s).mram = s.mram
    ∧ (openWire o current s).pending = s.pending ∧ (openWire o current s).safA = s.safA ∧ (openWire o current s).safB = s.safB
    ∧ (openWire o current s).evr = s.evr ∧ (openWire o current s).areaA = s.areaA ∧ (openWire o current s).areaB = s.areaB
    ∧ (openWire o current s).ces = s.ces := by
  unfold openWire
  dsimp only; (repeat' split) <;> simp

@[simp] theorem openWireClear_keeps (o : Nat) (s : State) :
    (openWireClear o s).ordering = s.ordering ∧ (openWireClear o s).mram = s.mram ∧ (openWireClear o s).pending = s.pending
    ∧ (openWireClear o s).safA = s.safA ∧ (openWireClear o s).safB = s.safB ∧ (openWireClear o s).evr = s.evr
    ∧ (openWireClear o s).areaA = s.areaA ∧ (openWireClear o s).areaB = s.areaB ∧ (openWireClear o s).ces = s.ces := by
  unfold openWireClear
  split <;> simp

@[simp] theorem fieldCommand_keeps (ch : Nat) (w : Word) (s : State) :
    (fieldCommand ch w s).ordering = s.ordering ∧ (fieldCommand ch w s).mram = s.mram ∧ (fieldCommand ch w s).pending = s.pending
    ∧ (fieldCommand ch w s).safA = s.safA ∧ (fieldCommand ch w s).safB = s.safB ∧ (fieldCommand ch w s).evr = s.evr
    ∧ (fieldCommand ch w s).areaA = s.areaA ∧ (fieldCommand ch w s).areaB = s.areaB ∧ (fieldCommand ch w s).ces = s.ces := by
  unfold fieldCommand
  (repeat' split) <;> simp

@[simp] theorem fioWrite_keeps (off : Nat) (v : Word) (s : State) :
    (fioWrite off v s).ordering = s.ordering ∧ (fioWrite off v s).mram = s.mram ∧ (fioWrite off v s).pending = s.pending
    ∧ (fioWrite off v s).safA = s.safA ∧ (fioWrite off v s).safB = s.safB ∧ (fioWrite off v s).evr = s.evr
    ∧ (fioWrite off v s).areaA = s.areaA ∧ (fioWrite off v s).areaB = s.areaB ∧ (fioWrite off v s).ces = s.ces := by
  unfold fioWrite
  dsimp only; (repeat' split) <;> simp

@[simp] theorem stationOut_keeps (n : Nat) (w : Nat) (v : Word) (s : State) :
    (stationOut n w v s).ordering = s.ordering ∧ (stationOut n w v s).mram = s.mram ∧ (stationOut n w v s).pending = s.pending
    ∧ (stationOut n w v s).safA = s.safA ∧ (stationOut n w v s).safB = s.safB ∧ (stationOut n w v s).evr = s.evr
    ∧ (stationOut n w v s).areaA = s.areaA ∧ (stationOut n w v s).areaB = s.areaB ∧ (stationOut n w v s).ces = s.ces := by
  unfold stationOut
  split <;> simp

@[simp] theorem releaseToken_keeps (tag : Word) (s : State) :
    (releaseToken tag s).ordering = s.ordering ∧ (releaseToken tag s).mram = s.mram ∧ (releaseToken tag s).pending = s.pending
    ∧ (releaseToken tag s).safA = s.safA ∧ (releaseToken tag s).safB = s.safB ∧ (releaseToken tag s).evr = s.evr
    ∧ (releaseToken tag s).areaA = s.areaA ∧ (releaseToken tag s).areaB = s.areaB ∧ (releaseToken tag s).ces = s.ces := by
  unfold releaseToken
  split <;> simp

@[simp] theorem hoistRefuse_keeps (c : Nat) (code : Nat) (op : Nat) (s : State) :
    (hoistRefuse c code op s).ordering = s.ordering ∧ (hoistRefuse c code op s).mram = s.mram
    ∧ (hoistRefuse c code op s).pending = s.pending ∧ (hoistRefuse c code op s).safA = s.safA
    ∧ (hoistRefuse c code op s).safB = s.safB ∧ (hoistRefuse c code op s).evr = s.evr ∧ (hoistRefuse c code op s).areaA = s.areaA
    ∧ (hoistRefuse c code op s).areaB = s.areaB ∧ (hoistRefuse c code op s).ces = s.ces := by
  unfold hoistRefuse
  simp

@[simp] theorem hoistRefuseTold_keeps (c : Nat) (code : Nat) (op : Nat) (s : State) :
    (hoistRefuseTold c code op s).ordering = s.ordering ∧ (hoistRefuseTold c code op s).mram = s.mram
    ∧ (hoistRefuseTold c code op s).pending = s.pending ∧ (hoistRefuseTold c code op s).safA = s.safA
    ∧ (hoistRefuseTold c code op s).safB = s.safB ∧ (hoistRefuseTold c code op s).evr = s.evr
    ∧ (hoistRefuseTold c code op s).areaA = s.areaA ∧ (hoistRefuseTold c code op s).areaB = s.areaB
    ∧ (hoistRefuseTold c code op s).ces = s.ces := by
  unfold hoistRefuseTold
  simp

@[simp] theorem decideOp_keeps (c : Nat) (s : State) :
    (decideOp c s).ordering = s.ordering ∧ (decideOp c s).mram = s.mram ∧ (decideOp c s).pending = s.pending
    ∧ (decideOp c s).safA = s.safA ∧ (decideOp c s).safB = s.safB ∧ (decideOp c s).evr = s.evr ∧ (decideOp c s).areaA = s.areaA
    ∧ (decideOp c s).areaB = s.areaB ∧ (decideOp c s).ces = s.ces := by
  unfold decideOp
  dsimp only; (repeat' split) <;> simp

@[simp] theorem hoistTrip_keeps (c : Nat) (cause : Nat) (s : State) :
    (hoistTrip c cause s).ordering = s.ordering ∧ (hoistTrip c cause s).mram = s.mram ∧ (hoistTrip c cause s).pending = s.pending
    ∧ (hoistTrip c cause s).safA = s.safA ∧ (hoistTrip c cause s).safB = s.safB ∧ (hoistTrip c cause s).evr = s.evr
    ∧ (hoistTrip c cause s).areaA = s.areaA ∧ (hoistTrip c cause s).areaB = s.areaB ∧ (hoistTrip c cause s).ces = s.ces := by
  unfold hoistTrip
  dsimp only; (repeat' split) <;> simp

@[simp] theorem arriveEnds_keeps (c : Nat) (s : State) :
    (arriveEnds c s).ordering = s.ordering ∧ (arriveEnds c s).mram = s.mram ∧ (arriveEnds c s).pending = s.pending
    ∧ (arriveEnds c s).safA = s.safA ∧ (arriveEnds c s).safB = s.safB ∧ (arriveEnds c s).evr = s.evr
    ∧ (arriveEnds c s).areaA = s.areaA ∧ (arriveEnds c s).areaB = s.areaB ∧ (arriveEnds c s).ces = s.ces := by
  unfold arriveEnds
  dsimp only; (repeat' split) <;> simp

@[simp] theorem flagStop_keeps (k : CarCfg) (fb : Bool) (lim : Bool) (fol : Bool) (s : State) :
    (flagStop k fb lim fol s).ordering = s.ordering ∧ (flagStop k fb lim fol s).mram = s.mram
    ∧ (flagStop k fb lim fol s).pending = s.pending ∧ (flagStop k fb lim fol s).safA = s.safA
    ∧ (flagStop k fb lim fol s).safB = s.safB ∧ (flagStop k fb lim fol s).evr = s.evr ∧ (flagStop k fb lim fol s).areaA = s.areaA
    ∧ (flagStop k fb lim fol s).areaB = s.areaB ∧ (flagStop k fb lim fol s).ces = s.ces := by
  unfold flagStop
  simp

@[simp] theorem stopWith_keeps (k : CarCfg) (fb : Bool) (lim : Bool) (fol : Bool) (s : State) :
    (stopWith k fb lim fol s).ordering = s.ordering ∧ (stopWith k fb lim fol s).mram = s.mram
    ∧ (stopWith k fb lim fol s).pending = s.pending ∧ (stopWith k fb lim fol s).safA = s.safA
    ∧ (stopWith k fb lim fol s).safB = s.safB ∧ (stopWith k fb lim fol s).evr = s.evr ∧ (stopWith k fb lim fol s).areaA = s.areaA
    ∧ (stopWith k fb lim fol s).areaB = s.areaB ∧ (stopWith k fb lim fol s).ces = s.ces := by
  unfold stopWith
  simp

@[simp] theorem sourceFlag_keeps (c : Nat) (s : State) :
    (sourceFlag c s).ordering = s.ordering ∧ (sourceFlag c s).mram = s.mram ∧ (sourceFlag c s).pending = s.pending
    ∧ (sourceFlag c s).safA = s.safA ∧ (sourceFlag c s).safB = s.safB ∧ (sourceFlag c s).evr = s.evr
    ∧ (sourceFlag c s).areaA = s.areaA ∧ (sourceFlag c s).areaB = s.areaB ∧ (sourceFlag c s).ces = s.ces := by
  unfold sourceFlag
  dsimp only; (repeat' split) <;> simp

@[simp] theorem sourceFlags_keeps (s : State) :
    (sourceFlags s).ordering = s.ordering ∧ (sourceFlags s).mram = s.mram ∧ (sourceFlags s).pending = s.pending
    ∧ (sourceFlags s).safA = s.safA ∧ (sourceFlags s).safB = s.safB ∧ (sourceFlags s).evr = s.evr ∧ (sourceFlags s).areaA = s.areaA
    ∧ (sourceFlags s).areaB = s.areaB ∧ (sourceFlags s).ces = s.ces := by
  unfold sourceFlags
  simp

@[simp] theorem serviceFlags_keeps (c : Nat) (s : State) :
    (serviceFlags c s).ordering = s.ordering ∧ (serviceFlags c s).mram = s.mram ∧ (serviceFlags c s).pending = s.pending
    ∧ (serviceFlags c s).safA = s.safA ∧ (serviceFlags c s).safB = s.safB ∧ (serviceFlags c s).evr = s.evr
    ∧ (serviceFlags c s).areaA = s.areaA ∧ (serviceFlags c s).areaB = s.areaB ∧ (serviceFlags c s).ces = s.ces := by
  unfold serviceFlags
  dsimp only; (repeat' split) <;> simp

@[simp] theorem flagFrame_keeps (k : CarCfg) (s : State) :
    (flagFrame k s).ordering = s.ordering ∧ (flagFrame k s).mram = s.mram ∧ (flagFrame k s).pending = s.pending
    ∧ (flagFrame k s).safA = s.safA ∧ (flagFrame k s).safB = s.safB ∧ (flagFrame k s).evr = s.evr ∧ (flagFrame k s).areaA = s.areaA
    ∧ (flagFrame k s).areaB = s.areaB ∧ (flagFrame k s).ces = s.ces := by
  unfold flagFrame
  simp

@[simp] theorem flightFrame_keeps (k : CarCfg) (s : State) :
    (flightFrame k s).ordering = s.ordering ∧ (flightFrame k s).mram = s.mram ∧ (flightFrame k s).pending = s.pending
    ∧ (flightFrame k s).safA = s.safA ∧ (flightFrame k s).safB = s.safB ∧ (flightFrame k s).evr = s.evr
    ∧ (flightFrame k s).areaA = s.areaA ∧ (flightFrame k s).areaB = s.areaB ∧ (flightFrame k s).ces = s.ces := by
  unfold flightFrame
  dsimp only; (repeat' split) <;> simp

@[simp] theorem stoppingFrame_keeps (k : CarCfg) (s : State) :
    (stoppingFrame k s).ordering = s.ordering ∧ (stoppingFrame k s).mram = s.mram ∧ (stoppingFrame k s).pending = s.pending
    ∧ (stoppingFrame k s).safA = s.safA ∧ (stoppingFrame k s).safB = s.safB ∧ (stoppingFrame k s).evr = s.evr
    ∧ (stoppingFrame k s).areaA = s.areaA ∧ (stoppingFrame k s).areaB = s.areaB ∧ (stoppingFrame k s).ces = s.ces := by
  unfold stoppingFrame
  dsimp only; (repeat' split) <;> simp

@[simp] theorem startFrame_keeps (k : CarCfg) (s : State) :
    (startFrame k s).ordering = s.ordering ∧ (startFrame k s).mram = s.mram ∧ (startFrame k s).pending = s.pending
    ∧ (startFrame k s).safA = s.safA ∧ (startFrame k s).safB = s.safB ∧ (startFrame k s).evr = s.evr
    ∧ (startFrame k s).areaA = s.areaA ∧ (startFrame k s).areaB = s.areaB ∧ (startFrame k s).ces = s.ces := by
  unfold startFrame
  dsimp only; (repeat' split) <;> simp

@[simp] theorem enterStart_keeps (c : Nat) (h : Hoist) (s : State) :
    (enterStart c h s).ordering = s.ordering ∧ (enterStart c h s).mram = s.mram ∧ (enterStart c h s).pending = s.pending
    ∧ (enterStart c h s).safA = s.safA ∧ (enterStart c h s).safB = s.safB ∧ (enterStart c h s).evr = s.evr
    ∧ (enterStart c h s).areaA = s.areaA ∧ (enterStart c h s).areaB = s.areaB ∧ (enterStart c h s).ces = s.ces := by
  unfold enterStart
  exact ⟨rfl, rfl, rfl, rfl, rfl, rfl, rfl, rfl, rfl⟩

@[simp] theorem rescueStart_keeps (c : Nat) (up : Bool) (s : State) :
    (rescueStart c up s).ordering = s.ordering ∧ (rescueStart c up s).mram = s.mram ∧ (rescueStart c up s).pending = s.pending
    ∧ (rescueStart c up s).safA = s.safA ∧ (rescueStart c up s).safB = s.safB ∧ (rescueStart c up s).evr = s.evr
    ∧ (rescueStart c up s).areaA = s.areaA ∧ (rescueStart c up s).areaB = s.areaB ∧ (rescueStart c up s).ces = s.ces := by
  unfold rescueStart
  dsimp only; (repeat' split) <;> simp

@[simp] theorem hstStart_keeps (c : Nat) (s : State) :
    (hstStart c s).ordering = s.ordering ∧ (hstStart c s).mram = s.mram ∧ (hstStart c s).pending = s.pending
    ∧ (hstStart c s).safA = s.safA ∧ (hstStart c s).safB = s.safB ∧ (hstStart c s).evr = s.evr ∧ (hstStart c s).areaA = s.areaA
    ∧ (hstStart c s).areaB = s.areaB ∧ (hstStart c s).ces = s.ces := by
  unfold hstStart
  dsimp only; (repeat' split) <;> simp

@[simp] theorem hstStop_keeps (c : Nat) (s : State) :
    (hstStop c s).ordering = s.ordering ∧ (hstStop c s).mram = s.mram ∧ (hstStop c s).pending = s.pending
    ∧ (hstStop c s).safA = s.safA ∧ (hstStop c s).safB = s.safB ∧ (hstStop c s).evr = s.evr ∧ (hstStop c s).areaA = s.areaA
    ∧ (hstStop c s).areaB = s.areaB ∧ (hstStop c s).ces = s.ces := by
  unfold hstStop
  dsimp only; (repeat' split) <;> simp

@[simp] theorem hstResume_keeps (c : Nat) (s : State) :
    (hstResume c s).ordering = s.ordering ∧ (hstResume c s).mram = s.mram ∧ (hstResume c s).pending = s.pending
    ∧ (hstResume c s).safA = s.safA ∧ (hstResume c s).safB = s.safB ∧ (hstResume c s).evr = s.evr ∧ (hstResume c s).areaA = s.areaA
    ∧ (hstResume c s).areaB = s.areaB ∧ (hstResume c s).ces = s.ces := by
  unfold hstResume
  dsimp only; (repeat' split) <;> simp

@[simp] theorem hstCancel_keeps (c : Nat) (s : State) :
    (hstCancel c s).ordering = s.ordering ∧ (hstCancel c s).mram = s.mram ∧ (hstCancel c s).pending = s.pending
    ∧ (hstCancel c s).safA = s.safA ∧ (hstCancel c s).safB = s.safB ∧ (hstCancel c s).evr = s.evr ∧ (hstCancel c s).areaA = s.areaA
    ∧ (hstCancel c s).areaB = s.areaB ∧ (hstCancel c s).ces = s.ces := by
  unfold hstCancel
  dsimp only; (repeat' split) <;> simp

@[simp] theorem hstReset_keeps (c : Nat) (s : State) :
    (hstReset c s).ordering = s.ordering ∧ (hstReset c s).mram = s.mram ∧ (hstReset c s).pending = s.pending
    ∧ (hstReset c s).safA = s.safA ∧ (hstReset c s).safB = s.safB ∧ (hstReset c s).evr = s.evr ∧ (hstReset c s).areaA = s.areaA
    ∧ (hstReset c s).areaB = s.areaB ∧ (hstReset c s).ces = s.ces := by
  unfold hstReset
  dsimp only; (repeat' split) <;> simp

@[simp] theorem hstRelevel_keeps (c : Nat) (s : State) :
    (hstRelevel c s).ordering = s.ordering ∧ (hstRelevel c s).mram = s.mram ∧ (hstRelevel c s).pending = s.pending
    ∧ (hstRelevel c s).safA = s.safA ∧ (hstRelevel c s).safB = s.safB ∧ (hstRelevel c s).evr = s.evr
    ∧ (hstRelevel c s).areaA = s.areaA ∧ (hstRelevel c s).areaB = s.areaB ∧ (hstRelevel c s).ces = s.ces := by
  unfold hstRelevel
  dsimp only; (repeat' split) <;> simp

@[simp] theorem hstCommand_keeps (c : Nat) (cmd : Nat) (s : State) :
    (hstCommand c cmd s).ordering = s.ordering ∧ (hstCommand c cmd s).mram = s.mram ∧ (hstCommand c cmd s).pending = s.pending
    ∧ (hstCommand c cmd s).safA = s.safA ∧ (hstCommand c cmd s).safB = s.safB ∧ (hstCommand c cmd s).evr = s.evr
    ∧ (hstCommand c cmd s).areaA = s.areaA ∧ (hstCommand c cmd s).areaB = s.areaB ∧ (hstCommand c cmd s).ces = s.ces := by
  unfold hstCommand
  (repeat' split) <;> simp

@[simp] theorem queueWrite_keeps (req : Requester) (addr : Word) (c : Nat) (op : Nat) (index : Nat) (s : State) :
    (queueWrite req addr c op index s).ordering = s.ordering ∧ (queueWrite req addr c op index s).mram = s.mram
    ∧ (queueWrite req addr c op index s).pending = s.pending ∧ (queueWrite req addr c op index s).safA = s.safA
    ∧ (queueWrite req addr c op index s).safB = s.safB ∧ (queueWrite req addr c op index s).evr = s.evr
    ∧ (queueWrite req addr c op index s).areaA = s.areaA ∧ (queueWrite req addr c op index s).areaB = s.areaB
    ∧ (queueWrite req addr c op index s).ces = s.ces := by
  unfold queueWrite
  dsimp only; (repeat' split) <;> simp

@[simp] theorem vcapWrite_keeps (c : Nat) (v : Nat) (s : State) :
    (vcapWrite c v s).ordering = s.ordering ∧ (vcapWrite c v s).mram = s.mram ∧ (vcapWrite c v s).pending = s.pending
    ∧ (vcapWrite c v s).safA = s.safA ∧ (vcapWrite c v s).safB = s.safB ∧ (vcapWrite c v s).evr = s.evr
    ∧ (vcapWrite c v s).areaA = s.areaA ∧ (vcapWrite c v s).areaB = s.areaB ∧ (vcapWrite c v s).ces = s.ces := by
  unfold vcapWrite
  split <;> simp

@[simp] theorem vlimWrite_keeps (c : Nat) (up : Bool) (v : Int) (s : State) :
    (vlimWrite c up v s).ordering = s.ordering ∧ (vlimWrite c up v s).mram = s.mram ∧ (vlimWrite c up v s).pending = s.pending
    ∧ (vlimWrite c up v s).safA = s.safA ∧ (vlimWrite c up v s).safB = s.safB ∧ (vlimWrite c up v s).evr = s.evr
    ∧ (vlimWrite c up v s).areaA = s.areaA ∧ (vlimWrite c up v s).areaB = s.areaB ∧ (vlimWrite c up v s).ces = s.ces := by
  unfold vlimWrite
  dsimp only; (repeat' split) <;> simp

@[simp] theorem hoistRelease_keeps (warm : Bool) (saved : Tab Hoist) (k : CarCfg) (s : State) :
    (hoistRelease warm saved k s).ordering = s.ordering ∧ (hoistRelease warm saved k s).mram = s.mram
    ∧ (hoistRelease warm saved k s).pending = s.pending ∧ (hoistRelease warm saved k s).safA = s.safA
    ∧ (hoistRelease warm saved k s).safB = s.safB ∧ (hoistRelease warm saved k s).evr = s.evr
    ∧ (hoistRelease warm saved k s).areaA = s.areaA ∧ (hoistRelease warm saved k s).areaB = s.areaB
    ∧ (hoistRelease warm saved k s).ces = s.ces := by
  unfold hoistRelease
  split <;> simp

@[simp] theorem hoistWrite_keeps (req : Requester) (addr : Word) (c : Nat) (off : Nat) (v : Word) (s : State) :
    (hoistWrite req addr c off v s).ordering = s.ordering ∧ (hoistWrite req addr c off v s).mram = s.mram
    ∧ (hoistWrite req addr c off v s).pending = s.pending ∧ (hoistWrite req addr c off v s).safA = s.safA
    ∧ (hoistWrite req addr c off v s).safB = s.safB ∧ (hoistWrite req addr c off v s).evr = s.evr
    ∧ (hoistWrite req addr c off v s).areaA = s.areaA ∧ (hoistWrite req addr c off v s).areaB = s.areaB
    ∧ (hoistWrite req addr c off v s).ces = s.ces := by
  unfold hoistWrite
  (repeat' split) <;> simp

@[simp] theorem doorRefuse_keeps (d : Nat) (code : Nat) (s : State) :
    (doorRefuse d code s).ordering = s.ordering ∧ (doorRefuse d code s).mram = s.mram ∧ (doorRefuse d code s).pending = s.pending
    ∧ (doorRefuse d code s).safA = s.safA ∧ (doorRefuse d code s).safB = s.safB ∧ (doorRefuse d code s).evr = s.evr
    ∧ (doorRefuse d code s).areaA = s.areaA ∧ (doorRefuse d code s).areaB = s.areaB ∧ (doorRefuse d code s).ces = s.ces := by
  unfold doorRefuse
  simp

@[simp] theorem doorTrip_keeps (d : Nat) (cause : Nat) (s : State) :
    (doorTrip d cause s).ordering = s.ordering ∧ (doorTrip d cause s).mram = s.mram ∧ (doorTrip d cause s).pending = s.pending
    ∧ (doorTrip d cause s).safA = s.safA ∧ (doorTrip d cause s).safB = s.safB ∧ (doorTrip d cause s).evr = s.evr
    ∧ (doorTrip d cause s).areaA = s.areaA ∧ (doorTrip d cause s).areaB = s.areaB ∧ (doorTrip d cause s).ces = s.ces := by
  unfold doorTrip
  simp

@[simp] theorem doorReverse_keeps (k : DoorCfg) (cause : Nat) (s : State) :
    (doorReverse k cause s).ordering = s.ordering ∧ (doorReverse k cause s).mram = s.mram
    ∧ (doorReverse k cause s).pending = s.pending ∧ (doorReverse k cause s).safA = s.safA ∧ (doorReverse k cause s).safB = s.safB
    ∧ (doorReverse k cause s).evr = s.evr ∧ (doorReverse k cause s).areaA = s.areaA ∧ (doorReverse k cause s).areaB = s.areaB
    ∧ (doorReverse k cause s).ces = s.ces := by
  unfold doorReverse
  simp

@[simp] theorem doorObstruct_keeps (k : DoorCfg) (served : Bool) (s : State) :
    (doorObstruct k served s).2.ordering = s.ordering ∧ (doorObstruct k served s).2.mram = s.mram
    ∧ (doorObstruct k served s).2.pending = s.pending ∧ (doorObstruct k served s).2.safA = s.safA
    ∧ (doorObstruct k served s).2.safB = s.safB ∧ (doorObstruct k served s).2.evr = s.evr
    ∧ (doorObstruct k served s).2.areaA = s.areaA ∧ (doorObstruct k served s).2.areaB = s.areaB
    ∧ (doorObstruct k served s).2.ces = s.ces := by
  unfold doorObstruct
  dsimp only; (repeat' split) <;> simp

@[simp] theorem gearedUpdate_keeps (k : DoorCfg) (s : State) :
    (gearedUpdate k s).ordering = s.ordering ∧ (gearedUpdate k s).mram = s.mram ∧ (gearedUpdate k s).pending = s.pending
    ∧ (gearedUpdate k s).safA = s.safA ∧ (gearedUpdate k s).safB = s.safB ∧ (gearedUpdate k s).evr = s.evr
    ∧ (gearedUpdate k s).areaA = s.areaA ∧ (gearedUpdate k s).areaB = s.areaB ∧ (gearedUpdate k s).ces = s.ces := by
  unfold gearedUpdate
  dsimp only; (repeat' split) <;> simp

@[simp] theorem defaultOpening_keeps (k : DoorCfg) (s : State) :
    (defaultOpening k s).ordering = s.ordering ∧ (defaultOpening k s).mram = s.mram ∧ (defaultOpening k s).pending = s.pending
    ∧ (defaultOpening k s).safA = s.safA ∧ (defaultOpening k s).safB = s.safB ∧ (defaultOpening k s).evr = s.evr
    ∧ (defaultOpening k s).areaA = s.areaA ∧ (defaultOpening k s).areaB = s.areaB ∧ (defaultOpening k s).ces = s.ces := by
  unfold defaultOpening
  dsimp only; (repeat' split) <;> simp

@[simp] theorem buildFrame_keeps (k : DoorCfg) (s : State) :
    (buildFrame k s).ordering = s.ordering ∧ (buildFrame k s).mram = s.mram ∧ (buildFrame k s).pending = s.pending
    ∧ (buildFrame k s).safA = s.safA ∧ (buildFrame k s).safB = s.safB ∧ (buildFrame k s).evr = s.evr
    ∧ (buildFrame k s).areaA = s.areaA ∧ (buildFrame k s).areaB = s.areaB ∧ (buildFrame k s).ces = s.ces := by
  unfold buildFrame
  exact ⟨rfl, rfl, rfl, rfl, rfl, rfl, rfl, rfl, rfl⟩

@[simp] theorem doorMotion_keeps (k : DoorCfg) (held : Bool) (s : State) :
    (doorMotion k held s).ordering = s.ordering ∧ (doorMotion k held s).mram = s.mram ∧ (doorMotion k held s).pending = s.pending
    ∧ (doorMotion k held s).safA = s.safA ∧ (doorMotion k held s).safB = s.safB ∧ (doorMotion k held s).evr = s.evr
    ∧ (doorMotion k held s).areaA = s.areaA ∧ (doorMotion k held s).areaB = s.areaB ∧ (doorMotion k held s).ces = s.ces := by
  unfold doorMotion
  dsimp only; (repeat' split) <;> simp

@[simp] theorem doorReturn_keeps (d : Nat) (r : DoorReturn) (s : State) :
    (doorReturn d r s).ordering = s.ordering ∧ (doorReturn d r s).mram = s.mram ∧ (doorReturn d r s).pending = s.pending
    ∧ (doorReturn d r s).safA = s.safA ∧ (doorReturn d r s).safB = s.safB ∧ (doorReturn d r s).evr = s.evr
    ∧ (doorReturn d r s).areaA = s.areaA ∧ (doorReturn d r s).areaB = s.areaB ∧ (doorReturn d r s).ces = s.ces := by
  unfold doorReturn
  split <;> simp

@[simp] theorem doorDone_keeps (d : Nat) (x : Door) (s : State) :
    (doorDone d x s).ordering = s.ordering ∧ (doorDone d x s).mram = s.mram ∧ (doorDone d x s).pending = s.pending
    ∧ (doorDone d x s).safA = s.safA ∧ (doorDone d x s).safB = s.safB ∧ (doorDone d x s).evr = s.evr
    ∧ (doorDone d x s).areaA = s.areaA ∧ (doorDone d x s).areaB = s.areaB ∧ (doorDone d x s).ces = s.ces := by
  unfold doorDone
  exact ⟨rfl, rfl, rfl, rfl, rfl, rfl, rfl, rfl, rfl⟩

@[simp] theorem doorOpen_keeps (k : DoorCfg) (s : State) :
    (doorOpen k s).ordering = s.ordering ∧ (doorOpen k s).mram = s.mram ∧ (doorOpen k s).pending = s.pending
    ∧ (doorOpen k s).safA = s.safA ∧ (doorOpen k s).safB = s.safB ∧ (doorOpen k s).evr = s.evr ∧ (doorOpen k s).areaA = s.areaA
    ∧ (doorOpen k s).areaB = s.areaB ∧ (doorOpen k s).ces = s.ces := by
  unfold doorOpen
  dsimp only; (repeat' split) <;> simp

@[simp] theorem doorClose_keeps (k : DoorCfg) (nudge : Bool) (s : State) :
    (doorClose k nudge s).ordering = s.ordering ∧ (doorClose k nudge s).mram = s.mram ∧ (doorClose k nudge s).pending = s.pending
    ∧ (doorClose k nudge s).safA = s.safA ∧ (doorClose k nudge s).safB = s.safB ∧ (doorClose k nudge s).evr = s.evr
    ∧ (doorClose k nudge s).areaA = s.areaA ∧ (doorClose k nudge s).areaB = s.areaB ∧ (doorClose k nudge s).ces = s.ces := by
  unfold doorClose
  dsimp only; (repeat' split) <;> simp

@[simp] theorem doorStop_keeps (k : DoorCfg) (s : State) :
    (doorStop k s).ordering = s.ordering ∧ (doorStop k s).mram = s.mram ∧ (doorStop k s).pending = s.pending
    ∧ (doorStop k s).safA = s.safA ∧ (doorStop k s).safB = s.safB ∧ (doorStop k s).evr = s.evr ∧ (doorStop k s).areaA = s.areaA
    ∧ (doorStop k s).areaB = s.areaB ∧ (doorStop k s).ces = s.ces := by
  unfold doorStop
  dsimp only; (repeat' split) <;> simp

@[simp] theorem doorReset_keeps (k : DoorCfg) (s : State) :
    (doorReset k s).ordering = s.ordering ∧ (doorReset k s).mram = s.mram ∧ (doorReset k s).pending = s.pending
    ∧ (doorReset k s).safA = s.safA ∧ (doorReset k s).safB = s.safB ∧ (doorReset k s).evr = s.evr ∧ (doorReset k s).areaA = s.areaA
    ∧ (doorReset k s).areaB = s.areaB ∧ (doorReset k s).ces = s.ces := by
  unfold doorReset
  dsimp only; (repeat' split) <;> simp

@[simp] theorem doorArm_keeps (k : DoorCfg) (s : State) :
    (doorArm k s).ordering = s.ordering ∧ (doorArm k s).mram = s.mram ∧ (doorArm k s).pending = s.pending
    ∧ (doorArm k s).safA = s.safA ∧ (doorArm k s).safB = s.safB ∧ (doorArm k s).evr = s.evr ∧ (doorArm k s).areaA = s.areaA
    ∧ (doorArm k s).areaB = s.areaB ∧ (doorArm k s).ces = s.ces := by
  unfold doorArm
  dsimp only; (repeat' split) <;> simp

@[simp] theorem doorDisarm_keeps (k : DoorCfg) (s : State) :
    (doorDisarm k s).ordering = s.ordering ∧ (doorDisarm k s).mram = s.mram ∧ (doorDisarm k s).pending = s.pending
    ∧ (doorDisarm k s).safA = s.safA ∧ (doorDisarm k s).safB = s.safB ∧ (doorDisarm k s).evr = s.evr
    ∧ (doorDisarm k s).areaA = s.areaA ∧ (doorDisarm k s).areaB = s.areaB ∧ (doorDisarm k s).ces = s.ces := by
  unfold doorDisarm
  dsimp only; (repeat' split) <;> simp

@[simp] theorem modeTimeout_keeps (d : Nat) (s : State) :
    (modeTimeout d s).ordering = s.ordering ∧ (modeTimeout d s).mram = s.mram ∧ (modeTimeout d s).pending = s.pending
    ∧ (modeTimeout d s).safA = s.safA ∧ (modeTimeout d s).safB = s.safB ∧ (modeTimeout d s).evr = s.evr
    ∧ (modeTimeout d s).areaA = s.areaA ∧ (modeTimeout d s).areaB = s.areaB ∧ (modeTimeout d s).ces = s.ces := by
  unfold modeTimeout
  dsimp only; (repeat' split) <;> simp

@[simp] theorem dspRaise_keeps (g : Nat) (k : Nat) (data : List Word) (s : State) :
    (dspRaise g k data s).ordering = s.ordering ∧ (dspRaise g k data s).mram = s.mram ∧ (dspRaise g k data s).pending = s.pending
    ∧ (dspRaise g k data s).safA = s.safA ∧ (dspRaise g k data s).safB = s.safB ∧ (dspRaise g k data s).evr = s.evr
    ∧ (dspRaise g k data s).areaA = s.areaA ∧ (dspRaise g k data s).areaB = s.areaB ∧ (dspRaise g k data s).ces = s.ces := by
  unfold dspRaise
  simp

@[simp] theorem pumpCar_keeps (g : Nat) (s : State) (c : Nat) :
    (pumpCar g s c).ordering = s.ordering ∧ (pumpCar g s c).mram = s.mram ∧ (pumpCar g s c).pending = s.pending
    ∧ (pumpCar g s c).safA = s.safA ∧ (pumpCar g s c).safB = s.safB ∧ (pumpCar g s c).evr = s.evr ∧ (pumpCar g s c).areaA = s.areaA
    ∧ (pumpCar g s c).areaB = s.areaB ∧ (pumpCar g s c).ces = s.ces := by
  unfold pumpCar
  dsimp only; (repeat' split) <;> simp

@[simp] theorem pumpGroup_keeps (g : Nat) (s : State) :
    (pumpGroup g s).ordering = s.ordering ∧ (pumpGroup g s).mram = s.mram ∧ (pumpGroup g s).pending = s.pending
    ∧ (pumpGroup g s).safA = s.safA ∧ (pumpGroup g s).safB = s.safB ∧ (pumpGroup g s).evr = s.evr ∧ (pumpGroup g s).areaA = s.areaA
    ∧ (pumpGroup g s).areaB = s.areaB ∧ (pumpGroup g s).ces = s.ces := by
  unfold pumpGroup
  simp

@[simp] theorem writeReach_keeps (g : Nat) (s : State) :
    (writeReach g s).ordering = s.ordering ∧ (writeReach g s).mram = s.mram ∧ (writeReach g s).pending = s.pending
    ∧ (writeReach g s).safA = s.safA ∧ (writeReach g s).safB = s.safB ∧ (writeReach g s).evr = s.evr
    ∧ (writeReach g s).areaA = s.areaA ∧ (writeReach g s).areaB = s.areaB ∧ (writeReach g s).ces = s.ces := by
  unfold writeReach
  refine ⟨?_, ?_, ?_, ?_, ?_, ?_, ?_, ?_, ?_⟩ <;> (first | ((first | rw [foldl_ordering] | rw [foldl_mram] | rw [foldl_pending] | rw [foldl_safA] | rw [foldl_safB] | rw [foldl_evr] | rw [foldl_areaA] | rw [foldl_areaB] | rw [foldl_ces]); intro s a; (repeat' split) <;> simp) | ((repeat' split) <;> first | (simp) | ((first | rw [foldl_ordering] | rw [foldl_mram] | rw [foldl_pending] | rw [foldl_safA] | rw [foldl_safB] | rw [foldl_evr] | rw [foldl_areaA] | rw [foldl_areaB] | rw [foldl_ces]); intro s a; (repeat' split) <;> simp)))

@[simp] theorem lostStops_keeps (g : Nat) (s : State) :
    (lostStops g s).ordering = s.ordering ∧ (lostStops g s).mram = s.mram ∧ (lostStops g s).pending = s.pending
    ∧ (lostStops g s).safA = s.safA ∧ (lostStops g s).safB = s.safB ∧ (lostStops g s).evr = s.evr ∧ (lostStops g s).areaA = s.areaA
    ∧ (lostStops g s).areaB = s.areaB ∧ (lostStops g s).ces = s.ces := by
  unfold lostStops
  simp

@[simp] theorem insertAgain_keeps (g : Nat) (c : Nat) (s : State) :
    (insertAgain g c s).ordering = s.ordering ∧ (insertAgain g c s).mram = s.mram ∧ (insertAgain g c s).pending = s.pending
    ∧ (insertAgain g c s).safA = s.safA ∧ (insertAgain g c s).safB = s.safB ∧ (insertAgain g c s).evr = s.evr
    ∧ (insertAgain g c s).areaA = s.areaA ∧ (insertAgain g c s).areaB = s.areaB ∧ (insertAgain g c s).ces = s.ces := by
  unfold insertAgain
  simp

@[simp] theorem leaveService_keeps (g : Nat) (c : Nat) (s : State) :
    (leaveService g c s).ordering = s.ordering ∧ (leaveService g c s).mram = s.mram ∧ (leaveService g c s).pending = s.pending
    ∧ (leaveService g c s).safA = s.safA ∧ (leaveService g c s).safB = s.safB ∧ (leaveService g c s).evr = s.evr
    ∧ (leaveService g c s).areaA = s.areaA ∧ (leaveService g c s).areaB = s.areaB ∧ (leaveService g c s).ces = s.ces := by
  unfold leaveService
  dsimp only; (repeat' split) <;> simp

@[simp] theorem planTiming_keeps (g : Nat) (c : Call) (s : State) :
    (planTiming g c s).ordering = s.ordering ∧ (planTiming g c s).mram = s.mram ∧ (planTiming g c s).pending = s.pending
    ∧ (planTiming g c s).safA = s.safA ∧ (planTiming g c s).safB = s.safB ∧ (planTiming g c s).evr = s.evr
    ∧ (planTiming g c s).areaA = s.areaA ∧ (planTiming g c s).areaB = s.areaB ∧ (planTiming g c s).ces = s.ces := by
  unfold planTiming
  simp

@[simp] theorem tellMerged_keeps (g : Nat) (t : Nat) (eta : Nat) (s : State) :
    (tellMerged g t eta s).ordering = s.ordering ∧ (tellMerged g t eta s).mram = s.mram
    ∧ (tellMerged g t eta s).pending = s.pending ∧ (tellMerged g t eta s).safA = s.safA ∧ (tellMerged g t eta s).safB = s.safB
    ∧ (tellMerged g t eta s).evr = s.evr ∧ (tellMerged g t eta s).areaA = s.areaA ∧ (tellMerged g t eta s).areaB = s.areaB
    ∧ (tellMerged g t eta s).ces = s.ces := by
  unfold tellMerged
  dsimp only; (repeat' split) <;> simp

@[simp] theorem stepEnds_keeps (g : Nat) (s : State) :
    (stepEnds g s).ordering = s.ordering ∧ (stepEnds g s).mram = s.mram ∧ (stepEnds g s).pending = s.pending
    ∧ (stepEnds g s).safA = s.safA ∧ (stepEnds g s).safB = s.safB ∧ (stepEnds g s).evr = s.evr ∧ (stepEnds g s).areaA = s.areaA
    ∧ (stepEnds g s).areaB = s.areaB ∧ (stepEnds g s).ces = s.ces := by
  unfold stepEnds
  simp

@[simp] theorem keepStop_keeps (g : Nat) (c : Nat) (k : Nat) (tag : Word) (s : State) :
    (keepStop g c k tag s).ordering = s.ordering ∧ (keepStop g c k tag s).mram = s.mram
    ∧ (keepStop g c k tag s).pending = s.pending ∧ (keepStop g c k tag s).safA = s.safA ∧ (keepStop g c k tag s).safB = s.safB
    ∧ (keepStop g c k tag s).evr = s.evr ∧ (keepStop g c k tag s).areaA = s.areaA ∧ (keepStop g c k tag s).areaB = s.areaB
    ∧ (keepStop g c k tag s).ces = s.ces := by
  unfold keepStop
  dsimp only; (repeat' split) <;> simp

@[simp] theorem queueAnswer_keeps (g : Nat) (c : Nat) (s : State) :
    (queueAnswer g c s).ordering = s.ordering ∧ (queueAnswer g c s).mram = s.mram ∧ (queueAnswer g c s).pending = s.pending
    ∧ (queueAnswer g c s).safA = s.safA ∧ (queueAnswer g c s).safB = s.safB ∧ (queueAnswer g c s).evr = s.evr
    ∧ (queueAnswer g c s).areaA = s.areaA ∧ (queueAnswer g c s).areaB = s.areaB ∧ (queueAnswer g c s).ces = s.ces := by
  unfold queueAnswer
  dsimp only; (repeat' split) <;> simp

@[simp] theorem tagRelease_keeps (s : State) :
    (tagRelease s).ordering = s.ordering ∧ (tagRelease s).mram = s.mram ∧ (tagRelease s).pending = s.pending
    ∧ (tagRelease s).safA = s.safA ∧ (tagRelease s).safB = s.safB ∧ (tagRelease s).evr = s.evr ∧ (tagRelease s).areaA = s.areaA
    ∧ (tagRelease s).areaB = s.areaB ∧ (tagRelease s).ces = s.ces := by
  unfold tagRelease
  dsimp only; (repeat' split) <;> simp

@[simp] theorem callAccepted_keeps (g : Nat) (t : Nat) (c : Call) (s : State) :
    (callAccepted g t c s).ordering = s.ordering ∧ (callAccepted g t c s).mram = s.mram
    ∧ (callAccepted g t c s).pending = s.pending ∧ (callAccepted g t c s).safA = s.safA ∧ (callAccepted g t c s).safB = s.safB
    ∧ (callAccepted g t c s).evr = s.evr ∧ (callAccepted g t c s).areaA = s.areaA ∧ (callAccepted g t c s).areaB = s.areaB
    ∧ (callAccepted g t c s).ces = s.ces := by
  unfold callAccepted
  dsimp only; (repeat' split) <;> simp

@[simp] theorem callOrdered_keeps (g : Nat) (w0 : Word) (w1 : Word) (s : State) :
    (callOrdered g w0 w1 s).ordering = s.ordering ∧ (callOrdered g w0 w1 s).mram = s.mram
    ∧ (callOrdered g w0 w1 s).pending = s.pending ∧ (callOrdered g w0 w1 s).safA = s.safA ∧ (callOrdered g w0 w1 s).safB = s.safB
    ∧ (callOrdered g w0 w1 s).evr = s.evr ∧ (callOrdered g w0 w1 s).areaA = s.areaA ∧ (callOrdered g w0 w1 s).areaB = s.areaB
    ∧ (callOrdered g w0 w1 s).ces = s.ces := by
  unfold callOrdered
  dsimp only; (repeat' split) <;> simp

@[simp] theorem callUnordered_keeps (g : Nat) (t : Nat) (s : State) :
    (callUnordered g t s).ordering = s.ordering ∧ (callUnordered g t s).mram = s.mram ∧ (callUnordered g t s).pending = s.pending
    ∧ (callUnordered g t s).safA = s.safA ∧ (callUnordered g t s).safB = s.safB ∧ (callUnordered g t s).evr = s.evr
    ∧ (callUnordered g t s).areaA = s.areaA ∧ (callUnordered g t s).areaB = s.areaB ∧ (callUnordered g t s).ces = s.ces := by
  unfold callUnordered
  dsimp only; (repeat' split) <;> simp

@[simp] theorem callRegister_keeps (g : Nat) (w0 : Word) (w1 : Word) (s : State) :
    (callRegister g w0 w1 s).ordering = s.ordering ∧ (callRegister g w0 w1 s).mram = s.mram
    ∧ (callRegister g w0 w1 s).pending = s.pending ∧ (callRegister g w0 w1 s).safA = s.safA
    ∧ (callRegister g w0 w1 s).safB = s.safB ∧ (callRegister g w0 w1 s).evr = s.evr ∧ (callRegister g w0 w1 s).areaA = s.areaA
    ∧ (callRegister g w0 w1 s).areaB = s.areaB ∧ (callRegister g w0 w1 s).ces = s.ces := by
  unfold callRegister
  dsimp only; (repeat' split) <;> simp

@[simp] theorem callCancel_keeps (g : Nat) (t : Nat) (s : State) :
    (callCancel g t s).ordering = s.ordering ∧ (callCancel g t s).mram = s.mram ∧ (callCancel g t s).pending = s.pending
    ∧ (callCancel g t s).safA = s.safA ∧ (callCancel g t s).safB = s.safB ∧ (callCancel g t s).evr = s.evr
    ∧ (callCancel g t s).areaA = s.areaA ∧ (callCancel g t s).areaB = s.areaB ∧ (callCancel g t s).ces = s.ces := by
  unfold callCancel
  dsimp only; (repeat' split) <;> simp

@[simp] theorem callApply_keeps (g : Nat) (op : Nat) (t : Nat) (s : State) :
    (callApply g op t s).ordering = s.ordering ∧ (callApply g op t s).mram = s.mram ∧ (callApply g op t s).pending = s.pending
    ∧ (callApply g op t s).safA = s.safA ∧ (callApply g op t s).safB = s.safB ∧ (callApply g op t s).evr = s.evr
    ∧ (callApply g op t s).areaA = s.areaA ∧ (callApply g op t s).areaB = s.areaB ∧ (callApply g op t s).ces = s.ces := by
  unfold callApply
  (repeat' split) <;> simp

@[simp] theorem callCommand_keeps (g : Nat) (op : Nat) (t : Nat) (req : Option Requester) (s : State) :
    (callCommand g op t req s).ordering = s.ordering ∧ (callCommand g op t req s).mram = s.mram
    ∧ (callCommand g op t req s).pending = s.pending ∧ (callCommand g op t req s).safA = s.safA
    ∧ (callCommand g op t req s).safB = s.safB ∧ (callCommand g op t req s).evr = s.evr
    ∧ (callCommand g op t req s).areaA = s.areaA ∧ (callCommand g op t req s).areaB = s.areaB
    ∧ (callCommand g op t req s).ces = s.ces := by
  unfold callCommand
  dsimp only; (repeat' split) <;> simp

@[simp] theorem callDecide_keeps (g : Nat) (s : State) :
    (callDecide g s).ordering = s.ordering ∧ (callDecide g s).mram = s.mram ∧ (callDecide g s).pending = s.pending
    ∧ (callDecide g s).safA = s.safA ∧ (callDecide g s).safB = s.safB ∧ (callDecide g s).evr = s.evr
    ∧ (callDecide g s).areaA = s.areaA ∧ (callDecide g s).areaB = s.areaB ∧ (callDecide g s).ces = s.ces := by
  unfold callDecide
  dsimp only; (repeat' split) <;> simp

@[simp] theorem callDecideAll_keeps (s : State) :
    (callDecideAll s).ordering = s.ordering ∧ (callDecideAll s).mram = s.mram ∧ (callDecideAll s).pending = s.pending
    ∧ (callDecideAll s).safA = s.safA ∧ (callDecideAll s).safB = s.safB ∧ (callDecideAll s).evr = s.evr
    ∧ (callDecideAll s).areaA = s.areaA ∧ (callDecideAll s).areaB = s.areaB ∧ (callDecideAll s).ces = s.ces := by
  unfold callDecideAll
  split <;> simp

@[simp] theorem callRegisterNow_keeps (g : Nat) (s : State) :
    (callRegisterNow g s).ordering = s.ordering ∧ (callRegisterNow g s).mram = s.mram ∧ (callRegisterNow g s).pending = s.pending
    ∧ (callRegisterNow g s).safA = s.safA ∧ (callRegisterNow g s).safB = s.safB ∧ (callRegisterNow g s).evr = s.evr
    ∧ (callRegisterNow g s).areaA = s.areaA ∧ (callRegisterNow g s).areaB = s.areaB ∧ (callRegisterNow g s).ces = s.ces := by
  unfold callRegisterNow
  (repeat' split) <;> simp

@[simp] theorem tableRebuilt_keeps (g : Nat) (s : State) :
    (tableRebuilt g s).ordering = s.ordering ∧ (tableRebuilt g s).mram = s.mram ∧ (tableRebuilt g s).pending = s.pending
    ∧ (tableRebuilt g s).safA = s.safA ∧ (tableRebuilt g s).safB = s.safB ∧ (tableRebuilt g s).evr = s.evr
    ∧ (tableRebuilt g s).areaA = s.areaA ∧ (tableRebuilt g s).areaB = s.areaB ∧ (tableRebuilt g s).ces = s.ces := by
  unfold tableRebuilt
  split <;> simp

@[simp] theorem regenForecast_keeps (s : State) :
    (regenForecast s).ordering = s.ordering ∧ (regenForecast s).mram = s.mram ∧ (regenForecast s).pending = s.pending
    ∧ (regenForecast s).safA = s.safA ∧ (regenForecast s).safB = s.safB ∧ (regenForecast s).evr = s.evr
    ∧ (regenForecast s).areaA = s.areaA ∧ (regenForecast s).areaB = s.areaB ∧ (regenForecast s).ces = s.ces := by
  unfold regenForecast
  split <;> simp

@[simp] theorem longWait_keeps (g : Nat) (t : Nat) (s : State) :
    (longWait g t s).ordering = s.ordering ∧ (longWait g t s).mram = s.mram ∧ (longWait g t s).pending = s.pending
    ∧ (longWait g t s).safA = s.safA ∧ (longWait g t s).safB = s.safB ∧ (longWait g t s).evr = s.evr
    ∧ (longWait g t s).areaA = s.areaA ∧ (longWait g t s).areaB = s.areaB ∧ (longWait g t s).ces = s.ces := by
  unfold longWait
  dsimp only; (repeat' split) <;> simp

@[simp] theorem dspRelease_keeps (saved : Option Dsp) (s : State) :
    (dspRelease saved s).ordering = s.ordering ∧ (dspRelease saved s).mram = s.mram ∧ (dspRelease saved s).pending = s.pending
    ∧ (dspRelease saved s).safA = s.safA ∧ (dspRelease saved s).safB = s.safB ∧ (dspRelease saved s).evr = s.evr
    ∧ (dspRelease saved s).areaA = s.areaA ∧ (dspRelease saved s).areaB = s.areaB ∧ (dspRelease saved s).ces = s.ces := by
  unfold dspRelease
  refine ⟨?_, ?_, ?_, ?_, ?_, ?_, ?_, ?_, ?_⟩ <;> (first | ((first | rw [foldl_ordering] | rw [foldl_mram] | rw [foldl_pending] | rw [foldl_safA] | rw [foldl_safB] | rw [foldl_evr] | rw [foldl_areaA] | rw [foldl_areaB] | rw [foldl_ces]); intro s a; (repeat' split) <;> simp) | ((repeat' split) <;> first | (simp) | ((first | rw [foldl_ordering] | rw [foldl_mram] | rw [foldl_pending] | rw [foldl_safA] | rw [foldl_safB] | rw [foldl_evr] | rw [foldl_areaA] | rw [foldl_areaB] | rw [foldl_ces]); intro s a; (repeat' split) <;> simp)))

@[simp] theorem dspWrite_keeps (req : Requester) (off : Nat) (v : Word) (s : State) :
    (dspWrite req off v s).ordering = s.ordering ∧ (dspWrite req off v s).mram = s.mram
    ∧ (dspWrite req off v s).pending = s.pending ∧ (dspWrite req off v s).safA = s.safA ∧ (dspWrite req off v s).safB = s.safB
    ∧ (dspWrite req off v s).evr = s.evr ∧ (dspWrite req off v s).areaA = s.areaA ∧ (dspWrite req off v s).areaB = s.areaB
    ∧ (dspWrite req off v s).ces = s.ces := by
  unfold dspWrite
  dsimp only; (repeat' split) <;> simp

@[simp] theorem sramWrite_keeps (n : Nat) (a : Nat) (bs : List Byte) (s : State) :
    (sramWrite n a bs s).ordering = s.ordering ∧ (sramWrite n a bs s).mram = s.mram ∧ (sramWrite n a bs s).pending = s.pending
    ∧ (sramWrite n a bs s).safA = s.safA ∧ (sramWrite n a bs s).safB = s.safB ∧ (sramWrite n a bs s).evr = s.evr
    ∧ (sramWrite n a bs s).areaA = s.areaA ∧ (sramWrite n a bs s).areaB = s.areaB := by
  unfold sramWrite
  exact ⟨rfl, rfl, rfl, rfl, rfl, rfl, rfl, rfl⟩

@[simp] theorem copyInputs_keeps (c : TaskCfg) (t : Task) (r : Option ErrRec) (flags : Nat) (s : State) :
    (copyInputs c t r flags s).ordering = s.ordering ∧ (copyInputs c t r flags s).mram = s.mram
    ∧ (copyInputs c t r flags s).pending = s.pending ∧ (copyInputs c t r flags s).safA = s.safA
    ∧ (copyInputs c t r flags s).safB = s.safB ∧ (copyInputs c t r flags s).evr = s.evr
    ∧ (copyInputs c t r flags s).areaA = s.areaA ∧ (copyInputs c t r flags s).areaB = s.areaB := by
  unfold copyInputs
  exact ⟨rfl, rfl, rfl, rfl, rfl, rfl, rfl, rfl⟩

@[simp] theorem raiseStart_keeps (c : TaskCfg) (s : State) :
    (raiseStart c s).ordering = s.ordering ∧ (raiseStart c s).mram = s.mram ∧ (raiseStart c s).pending = s.pending
    ∧ (raiseStart c s).safA = s.safA ∧ (raiseStart c s).safB = s.safB ∧ (raiseStart c s).evr = s.evr
    ∧ (raiseStart c s).areaA = s.areaA ∧ (raiseStart c s).areaB = s.areaB := by
  unfold raiseStart
  dsimp only; (repeat' split) <;> simp

@[simp] theorem skipStart_keeps (c : TaskCfg) (flag : Nat) (s : State) :
    (skipStart c flag s).ordering = s.ordering ∧ (skipStart c flag s).mram = s.mram ∧ (skipStart c flag s).pending = s.pending
    ∧ (skipStart c flag s).safA = s.safA ∧ (skipStart c flag s).safB = s.safB ∧ (skipStart c flag s).evr = s.evr
    ∧ (skipStart c flag s).areaA = s.areaA ∧ (skipStart c flag s).areaB = s.areaB ∧ (skipStart c flag s).ces = s.ces := by
  unfold skipStart
  simp

@[simp] theorem overrun_keeps (c : TaskCfg) (s : State) :
    (overrun c s).ordering = s.ordering ∧ (overrun c s).mram = s.mram ∧ (overrun c s).pending = s.pending
    ∧ (overrun c s).safA = s.safA ∧ (overrun c s).safB = s.safB ∧ (overrun c s).evr = s.evr ∧ (overrun c s).areaA = s.areaA
    ∧ (overrun c s).areaB = s.areaB ∧ (overrun c s).ces = s.ces := by
  unfold overrun
  dsimp only; (repeat' split) <;> simp

@[simp] theorem fallDue_keeps (c : TaskCfg) (s : State) :
    (fallDue c s).ordering = s.ordering ∧ (fallDue c s).mram = s.mram ∧ (fallDue c s).pending = s.pending
    ∧ (fallDue c s).safA = s.safA ∧ (fallDue c s).safB = s.safB ∧ (fallDue c s).evr = s.evr ∧ (fallDue c s).areaA = s.areaA
    ∧ (fallDue c s).areaB = s.areaB ∧ (fallDue c s).ces = s.ces := by
  unfold fallDue
  dsimp only; (repeat' split) <;> simp

@[simp] theorem chooseFrames_keeps (s : State) :
    (chooseFrames s).ordering = s.ordering ∧ (chooseFrames s).mram = s.mram ∧ (chooseFrames s).pending = s.pending
    ∧ (chooseFrames s).safA = s.safA ∧ (chooseFrames s).safB = s.safB ∧ (chooseFrames s).evr = s.evr
    ∧ (chooseFrames s).areaA = s.areaA ∧ (chooseFrames s).areaB = s.areaB ∧ (chooseFrames s).ces = s.ces := by
  unfold chooseFrames
  refine ⟨?_, ?_, ?_, ?_, ?_, ?_, ?_, ?_, ?_⟩ <;> (first | ((first | rw [foldl_ordering] | rw [foldl_mram] | rw [foldl_pending] | rw [foldl_safA] | rw [foldl_safB] | rw [foldl_evr] | rw [foldl_areaA] | rw [foldl_areaB] | rw [foldl_ces]); intro s a; (repeat' split) <;> simp) | ((repeat' split) <;> first | (simp) | ((first | rw [foldl_ordering] | rw [foldl_mram] | rw [foldl_pending] | rw [foldl_safA] | rw [foldl_safB] | rw [foldl_evr] | rw [foldl_areaA] | rw [foldl_areaB] | rw [foldl_ces]); intro s a; (repeat' split) <;> simp)))

@[simp] theorem flushPersistent_keeps (n : Nat) (t : Nat) (s : State) :
    (flushPersistent n t s).ordering = s.ordering ∧ (flushPersistent n t s).mram = s.mram
    ∧ (flushPersistent n t s).pending = s.pending ∧ (flushPersistent n t s).safA = s.safA ∧ (flushPersistent n t s).safB = s.safB
    ∧ (flushPersistent n t s).evr = s.evr ∧ (flushPersistent n t s).areaA = s.areaA ∧ (flushPersistent n t s).areaB = s.areaB
    ∧ (flushPersistent n t s).ces = s.ces := by
  unfold flushPersistent
  dsimp only; (repeat' split) <;> simp

@[simp] theorem flushDone_keeps (n : Nat) (s : State) :
    (flushDone n s).ordering = s.ordering ∧ (flushDone n s).mram = s.mram ∧ (flushDone n s).pending = s.pending
    ∧ (flushDone n s).safA = s.safA ∧ (flushDone n s).safB = s.safB ∧ (flushDone n s).evr = s.evr ∧ (flushDone n s).areaA = s.areaA
    ∧ (flushDone n s).areaB = s.areaB ∧ (flushDone n s).ces = s.ces := by
  unfold flushDone
  dsimp only; (repeat' split) <;> simp

@[simp] theorem afterCycle_keeps (c : TaskCfg) (s : State) :
    (afterCycle c s).ordering = s.ordering ∧ (afterCycle c s).mram = s.mram ∧ (afterCycle c s).pending = s.pending
    ∧ (afterCycle c s).safA = s.safA ∧ (afterCycle c s).safB = s.safB ∧ (afterCycle c s).evr = s.evr
    ∧ (afterCycle c s).areaA = s.areaA ∧ (afterCycle c s).areaB = s.areaB ∧ (afterCycle c s).ces = s.ces := by
  unfold afterCycle
  dsimp only; (repeat' split) <;> simp

@[simp] theorem startHandover_keeps (revert : Bool) (s : State) :
    (startHandover revert s).ordering = s.ordering ∧ (startHandover revert s).mram = s.mram
    ∧ (startHandover revert s).pending = s.pending ∧ (startHandover revert s).safA = s.safA
    ∧ (startHandover revert s).safB = s.safB ∧ (startHandover revert s).evr = s.evr ∧ (startHandover revert s).areaA = s.areaA
    ∧ (startHandover revert s).areaB = s.areaB ∧ (startHandover revert s).ces = s.ces := by
  unfold startHandover
  exact ⟨rfl, rfl, rfl, rfl, rfl, rfl, rfl, rfl, rfl⟩

@[simp] theorem dropTasks_keeps (por : Bool) (mine : Nat → Bool) (s : State) :
    (dropTasks por mine s).ordering = s.ordering ∧ (dropTasks por mine s).mram = s.mram
    ∧ (dropTasks por mine s).pending = s.pending ∧ (dropTasks por mine s).safA = s.safA ∧ (dropTasks por mine s).safB = s.safB
    ∧ (dropTasks por mine s).evr = s.evr ∧ (dropTasks por mine s).areaA = s.areaA ∧ (dropTasks por mine s).areaB = s.areaB
    ∧ (dropTasks por mine s).ces = s.ces := by
  unfold dropTasks
  exact ⟨rfl, rfl, rfl, rfl, rfl, rfl, rfl, rfl, rfl⟩

@[simp] theorem taskStartCmd_keeps (t : Nat) (s : State) :
    (taskStartCmd t s).ordering = s.ordering ∧ (taskStartCmd t s).mram = s.mram ∧ (taskStartCmd t s).pending = s.pending
    ∧ (taskStartCmd t s).safA = s.safA ∧ (taskStartCmd t s).safB = s.safB ∧ (taskStartCmd t s).evr = s.evr
    ∧ (taskStartCmd t s).areaA = s.areaA ∧ (taskStartCmd t s).areaB = s.areaB ∧ (taskStartCmd t s).ces = s.ces := by
  unfold taskStartCmd
  dsimp only; (repeat' split) <;> simp

@[simp] theorem taskStopCmd_keeps (t : Nat) (s : State) :
    (taskStopCmd t s).ordering = s.ordering ∧ (taskStopCmd t s).mram = s.mram ∧ (taskStopCmd t s).pending = s.pending
    ∧ (taskStopCmd t s).safA = s.safA ∧ (taskStopCmd t s).safB = s.safB ∧ (taskStopCmd t s).evr = s.evr
    ∧ (taskStopCmd t s).areaA = s.areaA ∧ (taskStopCmd t s).areaB = s.areaB ∧ (taskStopCmd t s).ces = s.ces := by
  unfold taskStopCmd
  dsimp only; (repeat' split) <;> simp

@[simp] theorem cycWrite_keeps (off : Nat) (v : Word) (s : State) :
    (cycWrite off v s).ordering = s.ordering ∧ (cycWrite off v s).mram = s.mram ∧ (cycWrite off v s).pending = s.pending
    ∧ (cycWrite off v s).safA = s.safA ∧ (cycWrite off v s).safB = s.safB ∧ (cycWrite off v s).evr = s.evr
    ∧ (cycWrite off v s).areaA = s.areaA ∧ (cycWrite off v s).areaB = s.areaB ∧ (cycWrite off v s).ces = s.ces := by
  unfold cycWrite
  (repeat' split) <;> simp

@[simp] theorem enterSafe_keeps (ch : Channel) (cause : Nat) (s : State) :
    (enterSafe ch cause s).ordering = s.ordering ∧ (enterSafe ch cause s).mram = s.mram
    ∧ (enterSafe ch cause s).pending = s.pending ∧ (enterSafe ch cause s).evr = s.evr ∧ (enterSafe ch cause s).areaA = s.areaA
    ∧ (enterSafe ch cause s).areaB = s.areaB ∧ (enterSafe ch cause s).ces = s.ces := by
  unfold enterSafe
  dsimp only; (repeat' split) <;> simp

@[simp] theorem bothRun_keeps (before : Bool) (s : State) :
    (bothRun before s).ordering = s.ordering ∧ (bothRun before s).mram = s.mram ∧ (bothRun before s).pending = s.pending
    ∧ (bothRun before s).safA = s.safA ∧ (bothRun before s).safB = s.safB ∧ (bothRun before s).evr = s.evr
    ∧ (bothRun before s).areaA = s.areaA ∧ (bothRun before s).areaB = s.areaB ∧ (bothRun before s).ces = s.ces := by
  unfold bothRun
  simp

@[simp] theorem publish_keeps (ch : Channel) (s : State) :
    (publish ch s).ordering = s.ordering ∧ (publish ch s).mram = s.mram ∧ (publish ch s).pending = s.pending
    ∧ (publish ch s).safA = s.safA ∧ (publish ch s).safB = s.safB ∧ (publish ch s).evr = s.evr ∧ (publish ch s).areaA = s.areaA
    ∧ (publish ch s).areaB = s.areaB ∧ (publish ch s).ces = s.ces := by
  unfold publish
  split <;> simp

@[simp] theorem safPowerUp_keeps (ch : Channel) (s : State) :
    (safPowerUp ch s).ordering = s.ordering ∧ (safPowerUp ch s).mram = s.mram ∧ (safPowerUp ch s).pending = s.pending
    ∧ (safPowerUp ch s).evr = s.evr ∧ (safPowerUp ch s).areaA = s.areaA ∧ (safPowerUp ch s).areaB = s.areaB
    ∧ (safPowerUp ch s).ces = s.ces := by
  unfold safPowerUp
  dsimp only; (repeat' split) <;> simp

@[simp] theorem putGates_keeps (ch : Channel) (outs : Nat) (coils : Nat) (s : State) :
    (putGates ch outs coils s).ordering = s.ordering ∧ (putGates ch outs coils s).mram = s.mram
    ∧ (putGates ch outs coils s).pending = s.pending ∧ (putGates ch outs coils s).safA = s.safA
    ∧ (putGates ch outs coils s).safB = s.safB ∧ (putGates ch outs coils s).evr = s.evr
    ∧ (putGates ch outs coils s).areaA = s.areaA ∧ (putGates ch outs coils s).areaB = s.areaB
    ∧ (putGates ch outs coils s).ces = s.ces := by
  unfold putGates
  simp

@[simp] theorem safDown_keeps (ch : Channel) (st : SafState) (cause : Nat) (s : State) :
    (safDown ch st cause s).ordering = s.ordering ∧ (safDown ch st cause s).mram = s.mram
    ∧ (safDown ch st cause s).pending = s.pending ∧ (safDown ch st cause s).evr = s.evr ∧ (safDown ch st cause s).areaA = s.areaA
    ∧ (safDown ch st cause s).areaB = s.areaB ∧ (safDown ch st cause s).ces = s.ces := by
  unfold safDown
  simp

@[simp] theorem safSupplyLoss_keeps (ch : Channel) (s : State) :
    (safSupplyLoss ch s).ordering = s.ordering ∧ (safSupplyLoss ch s).mram = s.mram ∧ (safSupplyLoss ch s).pending = s.pending
    ∧ (safSupplyLoss ch s).evr = s.evr ∧ (safSupplyLoss ch s).areaA = s.areaA ∧ (safSupplyLoss ch s).areaB = s.areaB
    ∧ (safSupplyLoss ch s).ces = s.ces := by
  unfold safSupplyLoss
  simp

@[simp] theorem safFault_keeps (ch : Channel) (f : DieFault) (s : State) :
    (safFault ch f s).ordering = s.ordering ∧ (safFault ch f s).mram = s.mram ∧ (safFault ch f s).pending = s.pending
    ∧ (safFault ch f s).evr = s.evr ∧ (safFault ch f s).areaA = s.areaA ∧ (safFault ch f s).areaB = s.areaB
    ∧ (safFault ch f s).ces = s.ces := by
  unfold safFault
  split <;> simp

@[simp] theorem plumbCompare_keeps (works : Bool) (s : State) :
    (plumbCompare works s).ordering = s.ordering ∧ (plumbCompare works s).mram = s.mram
    ∧ (plumbCompare works s).pending = s.pending ∧ (plumbCompare works s).evr = s.evr ∧ (plumbCompare works s).areaA = s.areaA
    ∧ (plumbCompare works s).areaB = s.areaB ∧ (plumbCompare works s).ces = s.ces := by
  unfold plumbCompare
  dsimp only; (repeat' split) <;> simp

@[simp] theorem safLogAdd_keeps (ch : Channel) (e : SafLog) (s : State) :
    (safLogAdd ch e s).ordering = s.ordering ∧ (safLogAdd ch e s).mram = s.mram ∧ (safLogAdd ch e s).pending = s.pending
    ∧ (safLogAdd ch e s).evr = s.evr ∧ (safLogAdd ch e s).areaA = s.areaA ∧ (safLogAdd ch e s).areaB = s.areaB
    ∧ (safLogAdd ch e s).ces = s.ces := by
  unfold safLogAdd
  dsimp only; (repeat' split) <;> simp

@[simp] theorem safRefuse_keeps (ch : Channel) (code : Nat) (result : Nat) (kind : Nat) (cause : Nat) (time : Nat) (image : Option
    (List Byte)) (s : State) :
    (safRefuse ch code result kind cause time image s).ordering = s.ordering
    ∧ (safRefuse ch code result kind cause time image s).mram = s.mram
    ∧ (safRefuse ch code result kind cause time image s).pending = s.pending
    ∧ (safRefuse ch code result kind cause time image s).evr = s.evr
    ∧ (safRefuse ch code result kind cause time image s).areaA = s.areaA
    ∧ (safRefuse ch code result kind cause time image s).areaB = s.areaB
    ∧ (safRefuse ch code result kind cause time image s).ces = s.ces := by
  unfold safRefuse
  simp

@[simp] theorem safDone_keeps (ch : Channel) (code : Nat) (entry : Option SafLog) (s : State) :
    (safDone ch code entry s).ordering = s.ordering ∧ (safDone ch code entry s).mram = s.mram
    ∧ (safDone ch code entry s).pending = s.pending ∧ (safDone ch code entry s).evr = s.evr
    ∧ (safDone ch code entry s).areaA = s.areaA ∧ (safDone ch code entry s).areaB = s.areaB ∧ (safDone ch code entry s).ces = s.ces := by
  unfold safDone
  split <;> simp

@[simp] theorem commitDrop_keeps (ch : Channel) (s : State) :
    (commitDrop ch s).ordering = s.ordering ∧ (commitDrop ch s).mram = s.mram ∧ (commitDrop ch s).pending = s.pending
    ∧ (commitDrop ch s).evr = s.evr ∧ (commitDrop ch s).areaA = s.areaA ∧ (commitDrop ch s).areaB = s.areaB
    ∧ (commitDrop ch s).ces = s.ces := by
  unfold commitDrop
  dsimp only; (repeat' split) <;> simp

@[simp] theorem commitRefuse_keeps (ch : Channel) (result : Nat) (time : Nat) (s : State) :
    (commitRefuse ch result time s).ordering = s.ordering ∧ (commitRefuse ch result time s).mram = s.mram
    ∧ (commitRefuse ch result time s).pending = s.pending ∧ (commitRefuse ch result time s).evr = s.evr
    ∧ (commitRefuse ch result time s).areaA = s.areaA ∧ (commitRefuse ch result time s).areaB = s.areaB
    ∧ (commitRefuse ch result time s).ces = s.ces := by
  unfold commitRefuse
  simp

@[simp] theorem commitDie_keeps (ch : Channel) (s : State) :
    (commitDie ch s).ordering = s.ordering ∧ (commitDie ch s).mram = s.mram ∧ (commitDie ch s).pending = s.pending
    ∧ (commitDie ch s).evr = s.evr ∧ (commitDie ch s).areaA = s.areaA ∧ (commitDie ch s).areaB = s.areaB
    ∧ (commitDie ch s).ces = s.ces := by
  unfold commitDie
  simp

@[simp] theorem takeCommit_keeps (ch : Channel) (s : State) :
    (takeCommit ch s).ordering = s.ordering ∧ (takeCommit ch s).mram = s.mram ∧ (takeCommit ch s).pending = s.pending
    ∧ (takeCommit ch s).evr = s.evr ∧ (takeCommit ch s).areaA = s.areaA ∧ (takeCommit ch s).areaB = s.areaB
    ∧ (takeCommit ch s).ces = s.ces := by
  unfold takeCommit
  dsimp only; (repeat' split) <;> simp

@[simp] theorem markerCheck_keeps (s : State) :
    (markerCheck s).ordering = s.ordering ∧ (markerCheck s).mram = s.mram ∧ (markerCheck s).pending = s.pending
    ∧ (markerCheck s).evr = s.evr ∧ (markerCheck s).areaA = s.areaA ∧ (markerCheck s).areaB = s.areaB ∧ (markerCheck s).ces = s.ces := by
  unfold markerCheck
  dsimp only; (repeat' split) <;> simp

@[simp] theorem lengthCheck_keeps (ch : Channel) (length : Nat) (s : State) :
    (lengthCheck ch length s).ordering = s.ordering ∧ (lengthCheck ch length s).mram = s.mram
    ∧ (lengthCheck ch length s).pending = s.pending ∧ (lengthCheck ch length s).evr = s.evr
    ∧ (lengthCheck ch length s).areaA = s.areaA ∧ (lengthCheck ch length s).areaB = s.areaB ∧ (lengthCheck ch length s).ces = s.ces := by
  unfold lengthCheck
  dsimp only; (repeat' split) <;> simp

@[simp] theorem cycleMarker_keeps (length : Nat) (offset : Int) (s : State) :
    (cycleMarker length offset s).ordering = s.ordering ∧ (cycleMarker length offset s).mram = s.mram
    ∧ (cycleMarker length offset s).pending = s.pending ∧ (cycleMarker length offset s).evr = s.evr
    ∧ (cycleMarker length offset s).areaA = s.areaA ∧ (cycleMarker length offset s).areaB = s.areaB
    ∧ (cycleMarker length offset s).ces = s.ces := by
  unfold cycleMarker
  dsimp only; (repeat' split) <;> simp

@[simp] theorem partnerShows_keeps (ch : Channel) (f : BitVec 640) (s : State) :
    (partnerShows ch f s).ordering = s.ordering ∧ (partnerShows ch f s).mram = s.mram ∧ (partnerShows ch f s).pending = s.pending
    ∧ (partnerShows ch f s).evr = s.evr ∧ (partnerShows ch f s).areaA = s.areaA ∧ (partnerShows ch f s).areaB = s.areaB
    ∧ (partnerShows ch f s).ces = s.ces := by
  unfold partnerShows
  split <;> simp

@[simp] theorem plumbReceive_keeps (what : PlumbArrival) (err : BitVec 640) (s : State) :
    (plumbReceive what err s).ordering = s.ordering ∧ (plumbReceive what err s).mram = s.mram
    ∧ (plumbReceive what err s).pending = s.pending ∧ (plumbReceive what err s).evr = s.evr
    ∧ (plumbReceive what err s).areaA = s.areaA ∧ (plumbReceive what err s).areaB = s.areaB ∧ (plumbReceive what err s).ces = s.ces := by
  unfold plumbReceive
  dsimp only; (repeat' split) <;> simp

@[simp] theorem plumbDeadline_keeps (what : PlumbArrival) (s : State) :
    (plumbDeadline what s).ordering = s.ordering ∧ (plumbDeadline what s).mram = s.mram
    ∧ (plumbDeadline what s).pending = s.pending ∧ (plumbDeadline what s).evr = s.evr ∧ (plumbDeadline what s).areaA = s.areaA
    ∧ (plumbDeadline what s).areaB = s.areaB ∧ (plumbDeadline what s).ces = s.ces := by
  unfold plumbDeadline
  (repeat' split) <;> simp

@[simp] theorem releaseDie_keeps (ch : Channel) (s : State) :
    (releaseDie ch s).ordering = s.ordering ∧ (releaseDie ch s).mram = s.mram ∧ (releaseDie ch s).pending = s.pending
    ∧ (releaseDie ch s).evr = s.evr ∧ (releaseDie ch s).areaA = s.areaA ∧ (releaseDie ch s).areaB = s.areaB
    ∧ (releaseDie ch s).ces = s.ces := by
  unfold releaseDie
  dsimp only; (repeat' split) <;> simp

@[simp] theorem cfgDiffers_keeps (ch : Channel) (s : State) :
    (cfgDiffers ch s).ordering = s.ordering ∧ (cfgDiffers ch s).mram = s.mram ∧ (cfgDiffers ch s).pending = s.pending
    ∧ (cfgDiffers ch s).evr = s.evr ∧ (cfgDiffers ch s).areaA = s.areaA ∧ (cfgDiffers ch s).areaB = s.areaB
    ∧ (cfgDiffers ch s).ces = s.ces := by
  unfold cfgDiffers
  dsimp only; (repeat' split) <;> simp

@[simp] theorem initComplete_keeps (ch : Channel) (s : State) :
    (initComplete ch s).ordering = s.ordering ∧ (initComplete ch s).mram = s.mram ∧ (initComplete ch s).pending = s.pending
    ∧ (initComplete ch s).evr = s.evr ∧ (initComplete ch s).areaA = s.areaA ∧ (initComplete ch s).areaB = s.areaB
    ∧ (initComplete ch s).ces = s.ces := by
  unfold initComplete
  dsimp only; (repeat' split) <;> simp

@[simp] theorem safeReset_keeps (s : State) :
    (safeReset s).ordering = s.ordering ∧ (safeReset s).mram = s.mram ∧ (safeReset s).pending = s.pending
    ∧ (safeReset s).evr = s.evr ∧ (safeReset s).areaA = s.areaA ∧ (safeReset s).areaB = s.areaB ∧ (safeReset s).ces = s.ces := by
  unfold safeReset
  dsimp only; (repeat' split) <;> simp

@[simp] theorem withCar_keeps (ch : Channel) (c : Nat) (f : SafCarCfg → SafCar → SafCar) (s : State) :
    (withCar ch c f s).ordering = s.ordering ∧ (withCar ch c f s).mram = s.mram ∧ (withCar ch c f s).pending = s.pending
    ∧ (withCar ch c f s).evr = s.evr ∧ (withCar ch c f s).areaA = s.areaA ∧ (withCar ch c f s).areaB = s.areaB
    ∧ (withCar ch c f s).ces = s.ces := by
  unfold withCar
  dsimp only; (repeat' split) <;> simp

@[simp] theorem confirmTimeout_keeps (ch : Channel) (c : Nat) (mirror : Bool) (s : State) :
    (confirmTimeout ch c mirror s).ordering = s.ordering ∧ (confirmTimeout ch c mirror s).mram = s.mram
    ∧ (confirmTimeout ch c mirror s).pending = s.pending ∧ (confirmTimeout ch c mirror s).evr = s.evr
    ∧ (confirmTimeout ch c mirror s).areaA = s.areaA ∧ (confirmTimeout ch c mirror s).areaB = s.areaB
    ∧ (confirmTimeout ch c mirror s).ces = s.ces := by
  unfold confirmTimeout
  simp

@[simp] theorem mainDropEnds_keeps (ch : Channel) (c : Nat) (s : State) :
    (mainDropEnds ch c s).ordering = s.ordering ∧ (mainDropEnds ch c s).mram = s.mram ∧ (mainDropEnds ch c s).pending = s.pending
    ∧ (mainDropEnds ch c s).evr = s.evr ∧ (mainDropEnds ch c s).areaA = s.areaA ∧ (mainDropEnds ch c s).areaB = s.areaB
    ∧ (mainDropEnds ch c s).ces = s.ces := by
  unfold mainDropEnds
  simp

@[simp] theorem testStart_keeps (ch : Channel) (c : Nat) (s : State) :
    (testStart ch c s).ordering = s.ordering ∧ (testStart ch c s).mram = s.mram ∧ (testStart ch c s).pending = s.pending
    ∧ (testStart ch c s).evr = s.evr ∧ (testStart ch c s).areaA = s.areaA ∧ (testStart ch c s).areaB = s.areaB
    ∧ (testStart ch c s).ces = s.ces := by
  unfold testStart
  simp

@[simp] theorem holdEnds_keeps (ch : Channel) (c : Nat) (s : State) :
    (holdEnds ch c s).ordering = s.ordering ∧ (holdEnds ch c s).mram = s.mram ∧ (holdEnds ch c s).pending = s.pending
    ∧ (holdEnds ch c s).evr = s.evr ∧ (holdEnds ch c s).areaA = s.areaA ∧ (holdEnds ch c s).areaB = s.areaB
    ∧ (holdEnds ch c s).ces = s.ces := by
  unfold holdEnds
  simp

@[simp] theorem testDue_keeps (ch : Channel) (c : Nat) (s : State) :
    (testDue ch c s).ordering = s.ordering ∧ (testDue ch c s).mram = s.mram ∧ (testDue ch c s).pending = s.pending
    ∧ (testDue ch c s).evr = s.evr ∧ (testDue ch c s).areaA = s.areaA ∧ (testDue ch c s).areaB = s.areaB
    ∧ (testDue ch c s).ces = s.ces := by
  unfold testDue
  simp

@[simp] theorem testOverdue_keeps (ch : Channel) (c : Nat) (s : State) :
    (testOverdue ch c s).ordering = s.ordering ∧ (testOverdue ch c s).mram = s.mram ∧ (testOverdue ch c s).pending = s.pending
    ∧ (testOverdue ch c s).evr = s.evr ∧ (testOverdue ch c s).areaA = s.areaA ∧ (testOverdue ch c s).areaB = s.areaB
    ∧ (testOverdue ch c s).ces = s.ces := by
  unfold testOverdue
  dsimp only; (repeat' split) <;> simp

@[simp] theorem passwordFails_keeps (ch : Channel) (code : Nat) (time : Nat) (image : Option (List Byte)) (s : State) :
    (passwordFails ch code time image s).ordering = s.ordering ∧ (passwordFails ch code time image s).mram = s.mram
    ∧ (passwordFails ch code time image s).pending = s.pending ∧ (passwordFails ch code time image s).evr = s.evr
    ∧ (passwordFails ch code time image s).areaA = s.areaA ∧ (passwordFails ch code time image s).areaB = s.areaB
    ∧ (passwordFails ch code time image s).ces = s.ces := by
  unfold passwordFails
  dsimp only; (repeat' split) <;> simp

@[simp] theorem sealedStage_keeps (ch : Channel) (time : Nat) (image : List Byte) (s : State) :
    (sealedStage ch time image s).ordering = s.ordering ∧ (sealedStage ch time image s).mram = s.mram
    ∧ (sealedStage ch time image s).pending = s.pending ∧ (sealedStage ch time image s).evr = s.evr
    ∧ (sealedStage ch time image s).areaA = s.areaA ∧ (sealedStage ch time image s).areaB = s.areaB
    ∧ (sealedStage ch time image s).ces = s.ces := by
  unfold sealedStage
  dsimp only; (repeat' split) <;> simp

@[simp] theorem sealedCommit_keeps (ch : Channel) (time : Nat) (pw : List Byte) (s : State) :
    (sealedCommit ch time pw s).ordering = s.ordering ∧ (sealedCommit ch time pw s).mram = s.mram
    ∧ (sealedCommit ch time pw s).pending = s.pending ∧ (sealedCommit ch time pw s).evr = s.evr
    ∧ (sealedCommit ch time pw s).areaA = s.areaA ∧ (sealedCommit ch time pw s).areaB = s.areaB
    ∧ (sealedCommit ch time pw s).ces = s.ces := by
  unfold sealedCommit
  dsimp only; (repeat' split) <;> simp

@[simp] theorem sealedRevert_keeps (ch : Channel) (time : Nat) (pw : List Byte) (s : State) :
    (sealedRevert ch time pw s).ordering = s.ordering ∧ (sealedRevert ch time pw s).mram = s.mram
    ∧ (sealedRevert ch time pw s).pending = s.pending ∧ (sealedRevert ch time pw s).evr = s.evr
    ∧ (sealedRevert ch time pw s).areaA = s.areaA ∧ (sealedRevert ch time pw s).areaB = s.areaB
    ∧ (sealedRevert ch time pw s).ces = s.ces := by
  unfold sealedRevert
  dsimp only; (repeat' split) <;> simp

@[simp] theorem sealedCarReset_keeps (ch : Channel) (time : Nat) (c : Nat) (s : State) :
    (sealedCarReset ch time c s).ordering = s.ordering ∧ (sealedCarReset ch time c s).mram = s.mram
    ∧ (sealedCarReset ch time c s).pending = s.pending ∧ (sealedCarReset ch time c s).evr = s.evr
    ∧ (sealedCarReset ch time c s).areaA = s.areaA ∧ (sealedCarReset ch time c s).areaB = s.areaB
    ∧ (sealedCarReset ch time c s).ces = s.ces := by
  unfold sealedCarReset
  dsimp only; (repeat' split) <;> simp

@[simp] theorem sealedFreeze_keeps (ch : Channel) (s : State) :
    (sealedFreeze ch s).ordering = s.ordering ∧ (sealedFreeze ch s).mram = s.mram ∧ (sealedFreeze ch s).pending = s.pending
    ∧ (sealedFreeze ch s).evr = s.evr ∧ (sealedFreeze ch s).areaA = s.areaA ∧ (sealedFreeze ch s).areaB = s.areaB
    ∧ (sealedFreeze ch s).ces = s.ces := by
  unfold sealedFreeze
  dsimp only; (repeat' split) <;> simp

@[simp] theorem sealedThaw_keeps (ch : Channel) (s : State) :
    (sealedThaw ch s).ordering = s.ordering ∧ (sealedThaw ch s).mram = s.mram ∧ (sealedThaw ch s).pending = s.pending
    ∧ (sealedThaw ch s).evr = s.evr ∧ (sealedThaw ch s).areaA = s.areaA ∧ (sealedThaw ch s).areaB = s.areaB
    ∧ (sealedThaw ch s).ces = s.ces := by
  unfold sealedThaw
  dsimp only; (repeat' split) <;> simp

@[simp] theorem sealedBench_keeps (ch : Channel) (time : Nat) (s : State) :
    (sealedBench ch time s).ordering = s.ordering ∧ (sealedBench ch time s).mram = s.mram
    ∧ (sealedBench ch time s).pending = s.pending ∧ (sealedBench ch time s).evr = s.evr ∧ (sealedBench ch time s).areaA = s.areaA
    ∧ (sealedBench ch time s).areaB = s.areaB ∧ (sealedBench ch time s).ces = s.ces := by
  unfold sealedBench
  dsimp only; (repeat' split) <;> simp

@[simp] theorem lockoutEnds_keeps (ch : Channel) (s : State) :
    (lockoutEnds ch s).ordering = s.ordering ∧ (lockoutEnds ch s).mram = s.mram ∧ (lockoutEnds ch s).pending = s.pending
    ∧ (lockoutEnds ch s).evr = s.evr ∧ (lockoutEnds ch s).areaA = s.areaA ∧ (lockoutEnds ch s).areaB = s.areaB
    ∧ (lockoutEnds ch s).ces = s.ces := by
  unfold lockoutEnds
  simp

@[simp] theorem safetyIn_keeps (ch : Channel) (f : StationFrame) (check : BitVec 64) (s : State) :
    (safetyIn ch f check s).ordering = s.ordering ∧ (safetyIn ch f check s).mram = s.mram
    ∧ (safetyIn ch f check s).pending = s.pending ∧ (safetyIn ch f check s).evr = s.evr ∧ (safetyIn ch f check s).areaA = s.areaA
    ∧ (safetyIn ch f check s).areaB = s.areaB ∧ (safetyIn ch f check s).ces = s.ces := by
  unfold safetyIn
  dsimp only; (repeat' split) <;> simp

@[simp] theorem stationWatchdog_keeps (ch : Channel) (n : Nat) (s : State) :
    (stationWatchdog ch n s).ordering = s.ordering ∧ (stationWatchdog ch n s).mram = s.mram
    ∧ (stationWatchdog ch n s).pending = s.pending ∧ (stationWatchdog ch n s).evr = s.evr
    ∧ (stationWatchdog ch n s).areaA = s.areaA ∧ (stationWatchdog ch n s).areaB = s.areaB ∧ (stationWatchdog ch n s).ces = s.ces := by
  unfold stationWatchdog
  dsimp only; (repeat' split) <;> simp

@[simp] theorem inputQualified_keeps (ch : Channel) (k : Nat) (volts : Int) (s : State) :
    (inputQualified ch k volts s).ordering = s.ordering ∧ (inputQualified ch k volts s).mram = s.mram
    ∧ (inputQualified ch k volts s).pending = s.pending ∧ (inputQualified ch k volts s).evr = s.evr
    ∧ (inputQualified ch k volts s).areaA = s.areaA ∧ (inputQualified ch k volts s).areaB = s.areaB
    ∧ (inputQualified ch k volts s).ces = s.ces := by
  unfold inputQualified
  dsimp only; (repeat' split) <;> simp

@[simp] theorem safFiltersRestart_keeps (s : State) :
    (safFiltersRestart s).ordering = s.ordering ∧ (safFiltersRestart s).mram = s.mram ∧ (safFiltersRestart s).pending = s.pending
    ∧ (safFiltersRestart s).evr = s.evr ∧ (safFiltersRestart s).areaA = s.areaA ∧ (safFiltersRestart s).areaB = s.areaB
    ∧ (safFiltersRestart s).ces = s.ces := by
  unfold safFiltersRestart
  exact ⟨rfl, rfl, rfl, rfl, rfl, rfl, rfl⟩

@[simp] theorem safWrite_keeps (off : Nat) (v : Word) (s : State) :
    (safWrite off v s).ordering = s.ordering ∧ (safWrite off v s).mram = s.mram ∧ (safWrite off v s).pending = s.pending
    ∧ (safWrite off v s).safA = s.safA ∧ (safWrite off v s).safB = s.safB ∧ (safWrite off v s).evr = s.evr
    ∧ (safWrite off v s).areaA = s.areaA ∧ (safWrite off v s).areaB = s.areaB ∧ (safWrite off v s).ces = s.ces := by
  unfold safWrite
  (repeat' split) <;> simp

@[simp] theorem putLink_keeps (s : State) (n : Nat) (l : Link) :
    (putLink s n l).ordering = s.ordering ∧ (putLink s n l).mram = s.mram ∧ (putLink s n l).pending = s.pending
    ∧ (putLink s n l).safA = s.safA ∧ (putLink s n l).safB = s.safB ∧ (putLink s n l).evr = s.evr ∧ (putLink s n l).areaA = s.areaA
    ∧ (putLink s n l).areaB = s.areaB ∧ (putLink s n l).ces = s.ces := by
  unfold putLink
  exact ⟨rfl, rfl, rfl, rfl, rfl, rfl, rfl, rfl, rfl⟩

@[simp] theorem mapLinks_keeps (here : Nat → Bool) (f : Link → Link) (s : State) :
    (mapLinks here f s).ordering = s.ordering ∧ (mapLinks here f s).mram = s.mram ∧ (mapLinks here f s).pending = s.pending
    ∧ (mapLinks here f s).safA = s.safA ∧ (mapLinks here f s).safB = s.safB ∧ (mapLinks here f s).evr = s.evr
    ∧ (mapLinks here f s).areaA = s.areaA ∧ (mapLinks here f s).areaB = s.areaB ∧ (mapLinks here f s).ces = s.ces := by
  unfold mapLinks
  exact ⟨rfl, rfl, rfl, rfl, rfl, rfl, rfl, rfl, rfl⟩

@[simp] theorem calibrate_keeps (ns : List Nat) (s : State) :
    (calibrate ns s).ordering = s.ordering ∧ (calibrate ns s).mram = s.mram ∧ (calibrate ns s).pending = s.pending
    ∧ (calibrate ns s).safA = s.safA ∧ (calibrate ns s).safB = s.safB ∧ (calibrate ns s).evr = s.evr
    ∧ (calibrate ns s).areaA = s.areaA ∧ (calibrate ns s).areaB = s.areaB ∧ (calibrate ns s).ces = s.ces := by
  unfold calibrate
  exact ⟨rfl, rfl, rfl, rfl, rfl, rfl, rfl, rfl, rfl⟩

@[simp] theorem resetRouters_keeps (ps : List Nat) (s : State) :
    (resetRouters ps s).ordering = s.ordering ∧ (resetRouters ps s).mram = s.mram ∧ (resetRouters ps s).pending = s.pending
    ∧ (resetRouters ps s).safA = s.safA ∧ (resetRouters ps s).safB = s.safB ∧ (resetRouters ps s).evr = s.evr
    ∧ (resetRouters ps s).areaA = s.areaA ∧ (resetRouters ps s).areaB = s.areaB ∧ (resetRouters ps s).ces = s.ces := by
  unfold resetRouters
  exact ⟨rfl, rfl, rfl, rfl, rfl, rfl, rfl, rfl, rfl⟩

@[simp] theorem releaseRouter_keeps (s : State) (p : Nat) :
    (releaseRouter s p).ordering = s.ordering ∧ (releaseRouter s p).mram = s.mram ∧ (releaseRouter s p).pending = s.pending
    ∧ (releaseRouter s p).safA = s.safA ∧ (releaseRouter s p).safB = s.safB ∧ (releaseRouter s p).evr = s.evr
    ∧ (releaseRouter s p).areaA = s.areaA ∧ (releaseRouter s p).areaB = s.areaB ∧ (releaseRouter s p).ces = s.ces := by
  unfold releaseRouter
  split <;> simp

@[simp] theorem wavefront_keeps (ps : List Nat) (s : State) :
    (wavefront ps s).ordering = s.ordering ∧ (wavefront ps s).mram = s.mram ∧ (wavefront ps s).pending = s.pending
    ∧ (wavefront ps s).safA = s.safA ∧ (wavefront ps s).safB = s.safB ∧ (wavefront ps s).evr = s.evr
    ∧ (wavefront ps s).areaA = s.areaA ∧ (wavefront ps s).areaB = s.areaB ∧ (wavefront ps s).ces = s.ces := by
  unfold wavefront
  dsimp only; (repeat' split) <;> simp

@[simp] theorem abandonedCompletion_keeps (s : State) (p : FlitPair) :
    (abandonedCompletion s p).ordering = s.ordering ∧ (abandonedCompletion s p).mram = s.mram
    ∧ (abandonedCompletion s p).pending = s.pending ∧ (abandonedCompletion s p).safA = s.safA
    ∧ (abandonedCompletion s p).safB = s.safB ∧ (abandonedCompletion s p).evr = s.evr ∧ (abandonedCompletion s p).areaA = s.areaA
    ∧ (abandonedCompletion s p).areaB = s.areaB ∧ (abandonedCompletion s p).ces = s.ces := by
  unfold abandonedCompletion
  simp

@[simp] theorem abandonLinks_keeps (here : Nat → Bool) (s : State) :
    (abandonLinks here s).ordering = s.ordering ∧ (abandonLinks here s).mram = s.mram ∧ (abandonLinks here s).pending = s.pending
    ∧ (abandonLinks here s).safA = s.safA ∧ (abandonLinks here s).safB = s.safB ∧ (abandonLinks here s).evr = s.evr
    ∧ (abandonLinks here s).areaA = s.areaA ∧ (abandonLinks here s).areaB = s.areaB ∧ (abandonLinks here s).ces = s.ces := by
  unfold abandonLinks
  simp

@[simp] theorem sendOn_keeps (s : State) (m : Nat) (v : Nat) (p : FlitPair) :
    (sendOn s m v p).ordering = s.ordering ∧ (sendOn s m v p).mram = s.mram ∧ (sendOn s m v p).pending = s.pending
    ∧ (sendOn s m v p).safA = s.safA ∧ (sendOn s m v p).safB = s.safB ∧ (sendOn s m v p).evr = s.evr
    ∧ (sendOn s m v p).areaA = s.areaA ∧ (sendOn s m v p).areaB = s.areaB ∧ (sendOn s m v p).ces = s.ces := by
  unfold sendOn
  exact ⟨rfl, rfl, rfl, rfl, rfl, rfl, rfl, rfl, rfl⟩

@[simp] theorem outputForward_keeps (s : State) (o : Nat) (v : Nat) :
    (outputForward s o v).ordering = s.ordering ∧ (outputForward s o v).mram = s.mram ∧ (outputForward s o v).pending = s.pending
    ∧ (outputForward s o v).safA = s.safA ∧ (outputForward s o v).safB = s.safB ∧ (outputForward s o v).evr = s.evr
    ∧ (outputForward s o v).areaA = s.areaA ∧ (outputForward s o v).areaB = s.areaB ∧ (outputForward s o v).ces = s.ces := by
  unfold outputForward
  dsimp only; (repeat' split) <;> simp

@[simp] theorem outputTurn_keeps (s : State) (o : Nat) :
    (outputTurn s o).ordering = s.ordering ∧ (outputTurn s o).mram = s.mram ∧ (outputTurn s o).pending = s.pending
    ∧ (outputTurn s o).safA = s.safA ∧ (outputTurn s o).safB = s.safB ∧ (outputTurn s o).evr = s.evr
    ∧ (outputTurn s o).areaA = s.areaA ∧ (outputTurn s o).areaB = s.areaB ∧ (outputTurn s o).ces = s.ces := by
  unfold outputTurn
  dsimp only; (repeat' split) <;> simp

@[simp] theorem trussTurn_keeps (s : State) :
    (trussTurn s).ordering = s.ordering ∧ (trussTurn s).mram = s.mram ∧ (trussTurn s).pending = s.pending
    ∧ (trussTurn s).safA = s.safA ∧ (trussTurn s).safB = s.safB ∧ (trussTurn s).evr = s.evr ∧ (trussTurn s).areaA = s.areaA
    ∧ (trussTurn s).areaB = s.areaB ∧ (trussTurn s).ces = s.ces := by
  unfold trussTurn
  simp

@[simp] theorem setLocked_keeps (b : Bool) (s : State) :
    (setLocked b s).ordering = s.ordering ∧ (setLocked b s).mram = s.mram ∧ (setLocked b s).pending = s.pending
    ∧ (setLocked b s).safA = s.safA ∧ (setLocked b s).safB = s.safB ∧ (setLocked b s).evr = s.evr ∧ (setLocked b s).areaA = s.areaA
    ∧ (setLocked b s).areaB = s.areaB ∧ (setLocked b s).ces = s.ces := by
  unfold setLocked
  simp

@[simp] theorem sourceOffset_keeps (off : Int) (s : State) :
    (sourceOffset off s).ordering = s.ordering ∧ (sourceOffset off s).mram = s.mram ∧ (sourceOffset off s).pending = s.pending
    ∧ (sourceOffset off s).safA = s.safA ∧ (sourceOffset off s).safB = s.safB ∧ (sourceOffset off s).evr = s.evr
    ∧ (sourceOffset off s).areaA = s.areaA ∧ (sourceOffset off s).areaB = s.areaB ∧ (sourceOffset off s).ces = s.ces := by
  unfold sourceOffset
  dsimp only; (repeat' split) <;> simp

@[simp] theorem putPort_keeps (s : State) (n : Nat) (p : Port) :
    (putPort s n p).ordering = s.ordering ∧ (putPort s n p).mram = s.mram ∧ (putPort s n p).pending = s.pending
    ∧ (putPort s n p).safA = s.safA ∧ (putPort s n p).safB = s.safB ∧ (putPort s n p).evr = s.evr ∧ (putPort s n p).areaA = s.areaA
    ∧ (putPort s n p).areaB = s.areaB ∧ (putPort s n p).ces = s.ces := by
  unfold putPort
  split <;> simp

@[simp] theorem portChange_keeps (p : Nat) (st : PortState) (s : State) :
    (portChange p st s).ordering = s.ordering ∧ (portChange p st s).mram = s.mram ∧ (portChange p st s).pending = s.pending
    ∧ (portChange p st s).safA = s.safA ∧ (portChange p st s).safB = s.safB ∧ (portChange p st s).evr = s.evr
    ∧ (portChange p st s).areaA = s.areaA ∧ (portChange p st s).areaB = s.areaB ∧ (portChange p st s).ces = s.ces := by
  unfold portChange
  dsimp only; (repeat' split) <;> simp

@[simp] theorem heldTimeout_keeps (p : Nat) (s : State) :
    (heldTimeout p s).ordering = s.ordering ∧ (heldTimeout p s).mram = s.mram ∧ (heldTimeout p s).pending = s.pending
    ∧ (heldTimeout p s).safA = s.safA ∧ (heldTimeout p s).safB = s.safB ∧ (heldTimeout p s).evr = s.evr
    ∧ (heldTimeout p s).areaA = s.areaA ∧ (heldTimeout p s).areaB = s.areaB ∧ (heldTimeout p s).ces = s.ces := by
  unfold heldTimeout
  split <;> simp

@[simp] theorem prpReceive_keeps (p : Nat) (bytes : Nat) (vlan : Option (BitVec 12)) (src : BitVec 48) (seq : BitVec 16) (trailer :
    Bool) (fcsGood : Bool) (s : State) :
    (prpReceive p bytes vlan src seq trailer fcsGood s).ordering = s.ordering
    ∧ (prpReceive p bytes vlan src seq trailer fcsGood s).mram = s.mram
    ∧ (prpReceive p bytes vlan src seq trailer fcsGood s).pending = s.pending
    ∧ (prpReceive p bytes vlan src seq trailer fcsGood s).safA = s.safA
    ∧ (prpReceive p bytes vlan src seq trailer fcsGood s).safB = s.safB
    ∧ (prpReceive p bytes vlan src seq trailer fcsGood s).evr = s.evr
    ∧ (prpReceive p bytes vlan src seq trailer fcsGood s).areaA = s.areaA
    ∧ (prpReceive p bytes vlan src seq trailer fcsGood s).areaB = s.areaB
    ∧ (prpReceive p bytes vlan src seq trailer fcsGood s).ces = s.ces := by
  unfold prpReceive
  dsimp only; (repeat' split) <;> simp

@[simp] theorem prpSupervision_keeps (k : Nat) (s : State) :
    (prpSupervision k s).ordering = s.ordering ∧ (prpSupervision k s).mram = s.mram ∧ (prpSupervision k s).pending = s.pending
    ∧ (prpSupervision k s).safA = s.safA ∧ (prpSupervision k s).safB = s.safB ∧ (prpSupervision k s).evr = s.evr
    ∧ (prpSupervision k s).areaA = s.areaA ∧ (prpSupervision k s).areaB = s.areaB ∧ (prpSupervision k s).ces = s.ces := by
  unfold prpSupervision
  split <;> simp

@[simp] theorem putLanGm_keeps (p : Nat) (own : Bool) (s : State) :
    (putLanGm p own s).ordering = s.ordering ∧ (putLanGm p own s).mram = s.mram ∧ (putLanGm p own s).pending = s.pending
    ∧ (putLanGm p own s).safA = s.safA ∧ (putLanGm p own s).safB = s.safB ∧ (putLanGm p own s).evr = s.evr
    ∧ (putLanGm p own s).areaA = s.areaA ∧ (putLanGm p own s).areaB = s.areaB ∧ (putLanGm p own s).ces = s.ces := by
  unfold putLanGm
  exact ⟨rfl, rfl, rfl, rfl, rfl, rfl, rfl, rfl, rfl⟩

@[simp] theorem gptpMessage_keeps (p : Nat) (m : GptpMsg) (s : State) :
    (gptpMessage p m s).ordering = s.ordering ∧ (gptpMessage p m s).mram = s.mram ∧ (gptpMessage p m s).pending = s.pending
    ∧ (gptpMessage p m s).safA = s.safA ∧ (gptpMessage p m s).safB = s.safB ∧ (gptpMessage p m s).evr = s.evr
    ∧ (gptpMessage p m s).areaA = s.areaA ∧ (gptpMessage p m s).areaB = s.areaB ∧ (gptpMessage p m s).ces = s.ces := by
  unfold gptpMessage
  dsimp only; (repeat' split) <;> simp

@[simp] theorem takeDoorFrames_keeps (n : Nat) (s : State) :
    (takeDoorFrames n s).ordering = s.ordering ∧ (takeDoorFrames n s).mram = s.mram ∧ (takeDoorFrames n s).pending = s.pending
    ∧ (takeDoorFrames n s).safA = s.safA ∧ (takeDoorFrames n s).safB = s.safB ∧ (takeDoorFrames n s).evr = s.evr
    ∧ (takeDoorFrames n s).areaA = s.areaA ∧ (takeDoorFrames n s).areaB = s.areaB ∧ (takeDoorFrames n s).ces = s.ces := by
  unfold takeDoorFrames
  refine ⟨?_, ?_, ?_, ?_, ?_, ?_, ?_, ?_, ?_⟩ <;> (first | ((first | rw [foldl_ordering] | rw [foldl_mram] | rw [foldl_pending] | rw [foldl_safA] | rw [foldl_safB] | rw [foldl_evr] | rw [foldl_areaA] | rw [foldl_areaB] | rw [foldl_ces]); intro s a; (repeat' split) <;> simp) | ((repeat' split) <;> first | (simp) | ((first | rw [foldl_ordering] | rw [foldl_mram] | rw [foldl_pending] | rw [foldl_safA] | rw [foldl_safB] | rw [foldl_evr] | rw [foldl_areaA] | rw [foldl_areaB] | rw [foldl_ces]); intro s a; (repeat' split) <;> simp)))

@[simp] theorem mirroredFrame_keeps (f : StationFrame) (s : State) :
    (mirroredFrame f s).ordering = s.ordering ∧ (mirroredFrame f s).mram = s.mram ∧ (mirroredFrame f s).pending = s.pending
    ∧ (mirroredFrame f s).safA = s.safA ∧ (mirroredFrame f s).safB = s.safB ∧ (mirroredFrame f s).evr = s.evr
    ∧ (mirroredFrame f s).areaA = s.areaA ∧ (mirroredFrame f s).areaB = s.areaB ∧ (mirroredFrame f s).ces = s.ces := by
  unfold mirroredFrame
  split <;> simp

@[simp] theorem waggleSend_keeps (s : State) :
    (waggleSend s).ordering = s.ordering ∧ (waggleSend s).mram = s.mram ∧ (waggleSend s).pending = s.pending
    ∧ (waggleSend s).safA = s.safA ∧ (waggleSend s).safB = s.safB ∧ (waggleSend s).evr = s.evr ∧ (waggleSend s).areaA = s.areaA
    ∧ (waggleSend s).areaB = s.areaB ∧ (waggleSend s).ces = s.ces := by
  unfold waggleSend
  split <;> simp

@[simp] theorem divergence_keeps (bad : Bool) (s : State) :
    (divergence bad s).ordering = s.ordering ∧ (divergence bad s).mram = s.mram ∧ (divergence bad s).pending = s.pending
    ∧ (divergence bad s).safA = s.safA ∧ (divergence bad s).safB = s.safB ∧ (divergence bad s).evr = s.evr
    ∧ (divergence bad s).areaA = s.areaA ∧ (divergence bad s).areaB = s.areaB ∧ (divergence bad s).ces = s.ces := by
  unfold divergence
  dsimp only; (repeat' split) <;> simp

@[simp] theorem pathUp_keeps (w : Waggle) (lualas : Bool) (s : State) :
    (pathUp w lualas s).ordering = s.ordering ∧ (pathUp w lualas s).mram = s.mram ∧ (pathUp w lualas s).pending = s.pending
    ∧ (pathUp w lualas s).safA = s.safA ∧ (pathUp w lualas s).safB = s.safB ∧ (pathUp w lualas s).evr = s.evr
    ∧ (pathUp w lualas s).areaA = s.areaA ∧ (pathUp w lualas s).areaB = s.areaB ∧ (pathUp w lualas s).ces = s.ces := by
  unfold pathUp
  split <;> simp

@[simp] theorem clashBegins_keeps (s : State) :
    (clashBegins s).ordering = s.ordering ∧ (clashBegins s).mram = s.mram ∧ (clashBegins s).pending = s.pending
    ∧ (clashBegins s).safA = s.safA ∧ (clashBegins s).safB = s.safB ∧ (clashBegins s).evr = s.evr ∧ (clashBegins s).areaA = s.areaA
    ∧ (clashBegins s).areaB = s.areaB ∧ (clashBegins s).ces = s.ces := by
  unfold clashBegins
  dsimp only; (repeat' split) <;> simp

@[simp] theorem dutyNews_keeps (w : Waggle) (s : State) :
    (dutyNews w s).ordering = s.ordering ∧ (dutyNews w s).mram = s.mram ∧ (dutyNews w s).pending = s.pending
    ∧ (dutyNews w s).safA = s.safA ∧ (dutyNews w s).safB = s.safB ∧ (dutyNews w s).evr = s.evr ∧ (dutyNews w s).areaA = s.areaA
    ∧ (dutyNews w s).areaB = s.areaB ∧ (dutyNews w s).ces = s.ces := by
  unfold dutyNews
  dsimp only; (repeat' split) <;> simp

@[simp] theorem resyncNews_keeps (w : Waggle) (joined : Bool) (s : State) :
    (resyncNews w joined s).ordering = s.ordering ∧ (resyncNews w joined s).mram = s.mram
    ∧ (resyncNews w joined s).pending = s.pending ∧ (resyncNews w joined s).safA = s.safA ∧ (resyncNews w joined s).safB = s.safB
    ∧ (resyncNews w joined s).evr = s.evr ∧ (resyncNews w joined s).areaA = s.areaA ∧ (resyncNews w joined s).areaB = s.areaB
    ∧ (resyncNews w joined s).ces = s.ces := by
  unfold resyncNews
  dsimp only; (repeat' split) <;> simp

@[simp] theorem waggleIn_keeps (w : Waggle) (lualas : Bool) (s : State) :
    (waggleIn w lualas s).ordering = s.ordering ∧ (waggleIn w lualas s).mram = s.mram ∧ (waggleIn w lualas s).pending = s.pending
    ∧ (waggleIn w lualas s).safA = s.safA ∧ (waggleIn w lualas s).safB = s.safB ∧ (waggleIn w lualas s).evr = s.evr
    ∧ (waggleIn w lualas s).areaA = s.areaA ∧ (waggleIn w lualas s).areaB = s.areaB ∧ (waggleIn w lualas s).ces = s.ces := by
  unfold waggleIn
  dsimp only; (repeat' split) <;> simp

@[simp] theorem releaseCalls_keeps (s : State) :
    (releaseCalls s).ordering = s.ordering ∧ (releaseCalls s).mram = s.mram ∧ (releaseCalls s).pending = s.pending
    ∧ (releaseCalls s).safA = s.safA ∧ (releaseCalls s).safB = s.safB ∧ (releaseCalls s).evr = s.evr
    ∧ (releaseCalls s).areaA = s.areaA ∧ (releaseCalls s).areaB = s.areaB ∧ (releaseCalls s).ces = s.ces := by
  unfold releaseCalls
  refine ⟨?_, ?_, ?_, ?_, ?_, ?_, ?_, ?_, ?_⟩ <;> (first | ((first | rw [foldl_ordering] | rw [foldl_mram] | rw [foldl_pending] | rw [foldl_safA] | rw [foldl_safB] | rw [foldl_evr] | rw [foldl_areaA] | rw [foldl_areaB] | rw [foldl_ces]); intro s a; (repeat' split) <;> simp) | ((repeat' split) <;> first | (simp) | ((first | rw [foldl_ordering] | rw [foldl_mram] | rw [foldl_pending] | rw [foldl_safA] | rw [foldl_safB] | rw [foldl_evr] | rw [foldl_areaA] | rw [foldl_areaB] | rw [foldl_ces]); intro s a; (repeat' split) <;> simp)))

@[simp] theorem laneDropped_keeps (k : Nat) (s : State) :
    (laneDropped k s).ordering = s.ordering ∧ (laneDropped k s).mram = s.mram ∧ (laneDropped k s).pending = s.pending
    ∧ (laneDropped k s).safA = s.safA ∧ (laneDropped k s).safB = s.safB ∧ (laneDropped k s).evr = s.evr
    ∧ (laneDropped k s).areaA = s.areaA ∧ (laneDropped k s).areaB = s.areaB ∧ (laneDropped k s).ces = s.ces := by
  unfold laneDropped
  split <;> simp

@[simp] theorem pairCommand_keeps (req : Requester) (cmd : Nat) (s : State) :
    (pairCommand req cmd s).ordering = s.ordering ∧ (pairCommand req cmd s).mram = s.mram
    ∧ (pairCommand req cmd s).pending = s.pending ∧ (pairCommand req cmd s).safA = s.safA ∧ (pairCommand req cmd s).safB = s.safB
    ∧ (pairCommand req cmd s).evr = s.evr ∧ (pairCommand req cmd s).areaA = s.areaA ∧ (pairCommand req cmd s).areaB = s.areaB
    ∧ (pairCommand req cmd s).ces = s.ces := by
  unfold pairCommand
  (repeat' split) <;> simp

@[simp] theorem slotMirror_keeps (id : Nat) (m : SlotImage) (s : State) :
    (slotMirror id m s).ordering = s.ordering ∧ (slotMirror id m s).mram = s.mram ∧ (slotMirror id m s).pending = s.pending
    ∧ (slotMirror id m s).safA = s.safA ∧ (slotMirror id m s).safB = s.safB ∧ (slotMirror id m s).evr = s.evr
    ∧ (slotMirror id m s).areaA = s.areaA ∧ (slotMirror id m s).areaB = s.areaB ∧ (slotMirror id m s).ces = s.ces := by
  unfold slotMirror
  dsimp only; (repeat' split) <;> simp

@[simp] theorem selfTest_keeps (t : Nat) (ok : Bool) (s : State) :
    (selfTest t ok s).ordering = s.ordering ∧ (selfTest t ok s).mram = s.mram ∧ (selfTest t ok s).pending = s.pending
    ∧ (selfTest t ok s).safA = s.safA ∧ (selfTest t ok s).safB = s.safB ∧ (selfTest t ok s).evr = s.evr
    ∧ (selfTest t ok s).areaA = s.areaA ∧ (selfTest t ok s).areaB = s.areaB ∧ (selfTest t ok s).ces = s.ces := by
  unfold selfTest
  split <;> simp

@[simp] theorem healthVerdict_keeps (s : State) :
    (healthVerdict s).ordering = s.ordering ∧ (healthVerdict s).mram = s.mram ∧ (healthVerdict s).pending = s.pending
    ∧ (healthVerdict s).safA = s.safA ∧ (healthVerdict s).safB = s.safB ∧ (healthVerdict s).evr = s.evr
    ∧ (healthVerdict s).areaA = s.areaA ∧ (healthVerdict s).areaB = s.areaB ∧ (healthVerdict s).ces = s.ces := by
  unfold healthVerdict
  dsimp only; (repeat' split) <;> simp

@[simp] theorem resetNet_keeps (por : Bool) (s : State) :
    (resetNet por s).ordering = s.ordering ∧ (resetNet por s).mram = s.mram ∧ (resetNet por s).pending = s.pending
    ∧ (resetNet por s).safA = s.safA ∧ (resetNet por s).safB = s.safB ∧ (resetNet por s).evr = s.evr
    ∧ (resetNet por s).areaA = s.areaA ∧ (resetNet por s).areaB = s.areaB ∧ (resetNet por s).ces = s.ces := by
  unfold resetNet
  split <;> simp

@[simp] theorem netWrite_keeps (req : Requester) (off : Nat) (v : Word) (s : State) :
    (netWrite req off v s).ordering = s.ordering ∧ (netWrite req off v s).mram = s.mram
    ∧ (netWrite req off v s).pending = s.pending ∧ (netWrite req off v s).safA = s.safA ∧ (netWrite req off v s).safB = s.safB
    ∧ (netWrite req off v s).evr = s.evr ∧ (netWrite req off v s).areaA = s.areaA ∧ (netWrite req off v s).areaB = s.areaB
    ∧ (netWrite req off v s).ces = s.ces := by
  unfold netWrite
  (repeat' split) <;> simp

@[simp] theorem resetKeeper_keeps (por : Bool) (s : State) :
    (resetKeeper por s).ordering = s.ordering ∧ (resetKeeper por s).mram = s.mram ∧ (resetKeeper por s).pending = s.pending
    ∧ (resetKeeper por s).safA = s.safA ∧ (resetKeeper por s).safB = s.safB ∧ (resetKeeper por s).areaA = s.areaA
    ∧ (resetKeeper por s).areaB = s.areaB ∧ (resetKeeper por s).ces = s.ces := by
  unfold resetKeeper
  exact ⟨rfl, rfl, rfl, rfl, rfl, rfl, rfl, rfl⟩

@[simp] theorem resetComp_keeps (por : Bool) (d0 : Bool) (d1 : Bool) (s : State) :
    (resetComp por d0 d1 s).ordering = s.ordering ∧ (resetComp por d0 d1 s).mram = s.mram
    ∧ (resetComp por d0 d1 s).pending = s.pending ∧ (resetComp por d0 d1 s).safA = s.safA ∧ (resetComp por d0 d1 s).safB = s.safB
    ∧ (resetComp por d0 d1 s).evr = s.evr ∧ (resetComp por d0 d1 s).areaA = s.areaA ∧ (resetComp por d0 d1 s).areaB = s.areaB := by
  unfold resetComp
  (repeat' split) <;> simp

@[simp] theorem resetAcq_keeps (por : Bool) (s : State) :
    (resetAcq por s).ordering = s.ordering ∧ (resetAcq por s).mram = s.mram ∧ (resetAcq por s).pending = s.pending
    ∧ (resetAcq por s).safA = s.safA ∧ (resetAcq por s).safB = s.safB ∧ (resetAcq por s).evr = s.evr
    ∧ (resetAcq por s).areaA = s.areaA ∧ (resetAcq por s).areaB = s.areaB ∧ (resetAcq por s).ces = s.ces := by
  unfold resetAcq
  exact ⟨rfl, rfl, rfl, rfl, rfl, rfl, rfl, rfl, rfl⟩

@[simp] theorem resetSto_keeps (por : Bool) (s : State) :
    (resetSto por s).ordering = s.ordering ∧ (resetSto por s).mram = s.mram ∧ (resetSto por s).pending = s.pending
    ∧ (resetSto por s).safA = s.safA ∧ (resetSto por s).safB = s.safB ∧ (resetSto por s).evr = s.evr
    ∧ (resetSto por s).areaA = s.areaA ∧ (resetSto por s).areaB = s.areaB ∧ (resetSto por s).ces = s.ces := by
  unfold resetSto
  exact ⟨rfl, rfl, rfl, rfl, rfl, rfl, rfl, rfl, rfl⟩

@[simp] theorem resetIo_keeps (por : Bool) (s : State) :
    (resetIo por s).ordering = s.ordering ∧ (resetIo por s).mram = s.mram ∧ (resetIo por s).pending = s.pending
    ∧ (resetIo por s).safA = s.safA ∧ (resetIo por s).safB = s.safB ∧ (resetIo por s).evr = s.evr ∧ (resetIo por s).areaA = s.areaA
    ∧ (resetIo por s).areaB = s.areaB ∧ (resetIo por s).ces = s.ces := by
  unfold resetIo
  split <;> simp

@[simp] theorem resetMem_keeps (s : State) :
    (resetMem s).ordering = s.ordering ∧ (resetMem s).mram = s.mram ∧ (resetMem s).pending = s.pending ∧ (resetMem s).safA = s.safA
    ∧ (resetMem s).safB = s.safB ∧ (resetMem s).evr = s.evr ∧ (resetMem s).areaA = s.areaA ∧ (resetMem s).areaB = s.areaB
    ∧ (resetMem s).ces = s.ces := by
  unfold resetMem
  exact ⟨rfl, rfl, rfl, rfl, rfl, rfl, rfl, rfl, rfl⟩

@[simp] theorem resetUnitBlock_keeps (u : ResetUnit) (s : State) :
    (resetUnitBlock u s).ordering = s.ordering ∧ (resetUnitBlock u s).mram = s.mram ∧ (resetUnitBlock u s).pending = s.pending
    ∧ (resetUnitBlock u s).safA = s.safA ∧ (resetUnitBlock u s).safB = s.safB ∧ (resetUnitBlock u s).evr = s.evr
    ∧ (resetUnitBlock u s).areaA = s.areaA ∧ (resetUnitBlock u s).areaB = s.areaB ∧ (resetUnitBlock u s).ces = s.ces := by
  unfold resetUnitBlock
  split <;> simp

@[simp] theorem releaseIo_keeps (start : Bool) (s : State) :
    (releaseIo start s).ordering = s.ordering ∧ (releaseIo start s).mram = s.mram ∧ (releaseIo start s).pending = s.pending
    ∧ (releaseIo start s).safA = s.safA ∧ (releaseIo start s).safB = s.safB ∧ (releaseIo start s).evr = s.evr
    ∧ (releaseIo start s).areaA = s.areaA ∧ (releaseIo start s).areaB = s.areaB ∧ (releaseIo start s).ces = s.ces := by
  unfold releaseIo
  dsimp only; (repeat' split) <;> simp

@[simp] theorem idleCes_keeps (d0 : Bool) (d1 : Bool) (s : State) :
    (idleCes d0 d1 s).ordering = s.ordering ∧ (idleCes d0 d1 s).mram = s.mram ∧ (idleCes d0 d1 s).pending = s.pending
    ∧ (idleCes d0 d1 s).safA = s.safA ∧ (idleCes d0 d1 s).safB = s.safB ∧ (idleCes d0 d1 s).evr = s.evr
    ∧ (idleCes d0 d1 s).areaA = s.areaA ∧ (idleCes d0 d1 s).areaB = s.areaB := by
  unfold idleCes
  simp

@[simp] theorem sealedRelay_keeps (session : Option Nat) (tag : Word) (a : Bool) (b : Bool) (code : Nat) (payload : List Byte) (s :
    State) :
    (sealedRelay session tag a b code payload s).ordering = s.ordering ∧ (sealedRelay session tag a b code payload s).mram = s.mram
    ∧ (sealedRelay session tag a b code payload s).pending = s.pending ∧ (sealedRelay session tag a b code payload s).safA = s.safA
    ∧ (sealedRelay session tag a b code payload s).safB = s.safB ∧ (sealedRelay session tag a b code payload s).evr = s.evr
    ∧ (sealedRelay session tag a b code payload s).areaA = s.areaA ∧ (sealedRelay session tag a b code payload s).areaB = s.areaB
    ∧ (sealedRelay session tag a b code payload s).ces = s.ces := by
  unfold sealedRelay
  exact ⟨rfl, rfl, rfl, rfl, rfl, rfl, rfl, rfl, rfl⟩

@[simp] theorem sealedOriginate_keeps (code : Nat) (payload : List Byte) (s : State) :
    (sealedOriginate code payload s).ordering = s.ordering ∧ (sealedOriginate code payload s).mram = s.mram
    ∧ (sealedOriginate code payload s).pending = s.pending ∧ (sealedOriginate code payload s).safA = s.safA
    ∧ (sealedOriginate code payload s).safB = s.safB ∧ (sealedOriginate code payload s).evr = s.evr
    ∧ (sealedOriginate code payload s).areaA = s.areaA ∧ (sealedOriginate code payload s).areaB = s.areaB
    ∧ (sealedOriginate code payload s).ces = s.ces := by
  unfold sealedOriginate
  exact ⟨rfl, rfl, rfl, rfl, rfl, rfl, rfl, rfl, rfl⟩

@[simp] theorem smokeTo_keeps (x : SmokeState) (s : State) :
    (smokeTo x s).ordering = s.ordering ∧ (smokeTo x s).mram = s.mram ∧ (smokeTo x s).pending = s.pending
    ∧ (smokeTo x s).safA = s.safA ∧ (smokeTo x s).safB = s.safB ∧ (smokeTo x s).evr = s.evr ∧ (smokeTo x s).areaA = s.areaA
    ∧ (smokeTo x s).areaB = s.areaB ∧ (smokeTo x s).ces = s.ces := by
  unfold smokeTo
  simp

@[simp] theorem smokeCheck_keeps (s : State) :
    (smokeCheck s).ordering = s.ordering ∧ (smokeCheck s).mram = s.mram ∧ (smokeCheck s).pending = s.pending
    ∧ (smokeCheck s).safA = s.safA ∧ (smokeCheck s).safB = s.safB ∧ (smokeCheck s).evr = s.evr ∧ (smokeCheck s).areaA = s.areaA
    ∧ (smokeCheck s).areaB = s.areaB ∧ (smokeCheck s).ces = s.ces := by
  unfold smokeCheck
  split <;> simp

@[simp] theorem safDieEffect_keeps (ch : Channel) (old : DieState) (new : DieState) (s : State) :
    (safDieEffect ch old new s).ordering = s.ordering ∧ (safDieEffect ch old new s).mram = s.mram
    ∧ (safDieEffect ch old new s).pending = s.pending ∧ (safDieEffect ch old new s).evr = s.evr
    ∧ (safDieEffect ch old new s).areaA = s.areaA ∧ (safDieEffect ch old new s).areaB = s.areaB
    ∧ (safDieEffect ch old new s).ces = s.ces := by
  unfold safDieEffect
  (repeat' split) <;> simp

@[simp] theorem fieldDieEffect_keeps (old : DieState) (new : DieState) (s : State) :
    (fieldDieEffect old new s).ordering = s.ordering ∧ (fieldDieEffect old new s).mram = s.mram
    ∧ (fieldDieEffect old new s).pending = s.pending ∧ (fieldDieEffect old new s).evr = s.evr
    ∧ (fieldDieEffect old new s).areaA = s.areaA ∧ (fieldDieEffect old new s).areaB = s.areaB
    ∧ (fieldDieEffect old new s).ces = s.ces := by
  unfold fieldDieEffect
  (repeat' split) <;> simp

@[simp] theorem routerEffects_keeps (old : Dies) (s : State) :
    (routerEffects old s).ordering = s.ordering ∧ (routerEffects old s).mram = s.mram ∧ (routerEffects old s).pending = s.pending
    ∧ (routerEffects old s).safA = s.safA ∧ (routerEffects old s).safB = s.safB ∧ (routerEffects old s).evr = s.evr
    ∧ (routerEffects old s).areaA = s.areaA ∧ (routerEffects old s).areaB = s.areaB ∧ (routerEffects old s).ces = s.ces := by
  unfold routerEffects
  simp

@[simp] theorem settle_keeps (s : State) :
    (settle s).ordering = s.ordering ∧ (settle s).mram = s.mram ∧ (settle s).pending = s.pending ∧ (settle s).safA = s.safA
    ∧ (settle s).safB = s.safB ∧ (settle s).evr = s.evr ∧ (settle s).areaA = s.areaA ∧ (settle s).areaB = s.areaB
    ∧ (settle s).ces = s.ces := by
  unfold settle
  simp

@[simp] theorem frmRefuse_keeps (code : Nat) (sec : Nat) (idx : Nat) (s : State) :
    (frmRefuse code sec idx s).ordering = s.ordering ∧ (frmRefuse code sec idx s).mram = s.mram
    ∧ (frmRefuse code sec idx s).pending = s.pending ∧ (frmRefuse code sec idx s).safA = s.safA
    ∧ (frmRefuse code sec idx s).safB = s.safB ∧ (frmRefuse code sec idx s).evr = s.evr
    ∧ (frmRefuse code sec idx s).areaA = s.areaA ∧ (frmRefuse code sec idx s).areaB = s.areaB
    ∧ (frmRefuse code sec idx s).ces = s.ces := by
  unfold frmRefuse
  simp

@[simp] theorem presenceEnds_keeps (s : State) :
    (presenceEnds s).ordering = s.ordering ∧ (presenceEnds s).mram = s.mram ∧ (presenceEnds s).pending = s.pending
    ∧ (presenceEnds s).safA = s.safA ∧ (presenceEnds s).safB = s.safB ∧ (presenceEnds s).evr = s.evr
    ∧ (presenceEnds s).areaA = s.areaA ∧ (presenceEnds s).areaB = s.areaB ∧ (presenceEnds s).ces = s.ces := by
  unfold presenceEnds
  split <;> simp

@[simp] theorem presenceBegins_keeps (s : State) :
    (presenceBegins s).ordering = s.ordering ∧ (presenceBegins s).mram = s.mram ∧ (presenceBegins s).pending = s.pending
    ∧ (presenceBegins s).safA = s.safA ∧ (presenceBegins s).safB = s.safB ∧ (presenceBegins s).evr = s.evr
    ∧ (presenceBegins s).areaA = s.areaA ∧ (presenceBegins s).areaB = s.areaB ∧ (presenceBegins s).ces = s.ces := by
  unfold presenceBegins
  split <;> simp

@[simp] theorem sealTurn_keeps (s : State) :
    (sealTurn s).ordering = s.ordering ∧ (sealTurn s).mram = s.mram ∧ (sealTurn s).pending = s.pending ∧ (sealTurn s).safA = s.safA
    ∧ (sealTurn s).safB = s.safB ∧ (sealTurn s).evr = s.evr ∧ (sealTurn s).areaA = s.areaA ∧ (sealTurn s).areaB = s.areaB
    ∧ (sealTurn s).ces = s.ces := by
  unfold sealTurn
  split <;> simp

@[simp] theorem benchDisarm_keeps (s : State) :
    (benchDisarm s).ordering = s.ordering ∧ (benchDisarm s).mram = s.mram ∧ (benchDisarm s).pending = s.pending
    ∧ (benchDisarm s).safA = s.safA ∧ (benchDisarm s).safB = s.safB ∧ (benchDisarm s).evr = s.evr ∧ (benchDisarm s).areaA = s.areaA
    ∧ (benchDisarm s).areaB = s.areaB ∧ (benchDisarm s).ces = s.ces := by
  unfold benchDisarm
  exact ⟨rfl, rfl, rfl, rfl, rfl, rfl, rfl, rfl, rfl⟩

@[simp] theorem bootVerify_keeps (s : State) :
    (bootVerify s).ordering = s.ordering ∧ (bootVerify s).mram = s.mram ∧ (bootVerify s).pending = s.pending
    ∧ (bootVerify s).safA = s.safA ∧ (bootVerify s).safB = s.safB ∧ (bootVerify s).evr = s.evr ∧ (bootVerify s).areaA = s.areaA
    ∧ (bootVerify s).areaB = s.areaB ∧ (bootVerify s).ces = s.ces := by
  unfold bootVerify
  dsimp only; (repeat' split) <;> simp

@[simp] theorem fwResult_keeps (r : Nat) (s : State) :
    (fwResult r s).ordering = s.ordering ∧ (fwResult r s).mram = s.mram ∧ (fwResult r s).pending = s.pending
    ∧ (fwResult r s).safA = s.safA ∧ (fwResult r s).safB = s.safB ∧ (fwResult r s).evr = s.evr ∧ (fwResult r s).areaA = s.areaA
    ∧ (fwResult r s).areaB = s.areaB ∧ (fwResult r s).ces = s.ces := by
  unfold fwResult
  exact ⟨rfl, rfl, rfl, rfl, rfl, rfl, rfl, rfl, rfl⟩

@[simp] theorem fwStageBegin_keeps (s : State) :
    (fwStageBegin s).ordering = s.ordering ∧ (fwStageBegin s).mram = s.mram ∧ (fwStageBegin s).pending = s.pending
    ∧ (fwStageBegin s).safA = s.safA ∧ (fwStageBegin s).safB = s.safB ∧ (fwStageBegin s).evr = s.evr
    ∧ (fwStageBegin s).areaA = s.areaA ∧ (fwStageBegin s).areaB = s.areaB ∧ (fwStageBegin s).ces = s.ces := by
  unfold fwStageBegin
  exact ⟨rfl, rfl, rfl, rfl, rfl, rfl, rfl, rfl, rfl⟩

@[simp] theorem fwStaged_keeps (s : State) :
    (fwStaged s).ordering = s.ordering ∧ (fwStaged s).mram = s.mram ∧ (fwStaged s).pending = s.pending ∧ (fwStaged s).safA = s.safA
    ∧ (fwStaged s).safB = s.safB ∧ (fwStaged s).evr = s.evr ∧ (fwStaged s).areaA = s.areaA ∧ (fwStaged s).areaB = s.areaB
    ∧ (fwStaged s).ces = s.ces := by
  unfold fwStaged
  dsimp only; (repeat' split) <;> simp

@[simp] theorem fwVerify_keeps (s : State) :
    (fwVerify s).ordering = s.ordering ∧ (fwVerify s).mram = s.mram ∧ (fwVerify s).pending = s.pending ∧ (fwVerify s).safA = s.safA
    ∧ (fwVerify s).safB = s.safB ∧ (fwVerify s).evr = s.evr ∧ (fwVerify s).areaA = s.areaA ∧ (fwVerify s).areaB = s.areaB
    ∧ (fwVerify s).ces = s.ces := by
  unfold fwVerify
  (repeat' split) <;> simp

@[simp] theorem fwSelect_keeps (s : State) :
    (fwSelect s).ordering = s.ordering ∧ (fwSelect s).mram = s.mram ∧ (fwSelect s).pending = s.pending ∧ (fwSelect s).safA = s.safA
    ∧ (fwSelect s).safB = s.safB ∧ (fwSelect s).evr = s.evr ∧ (fwSelect s).areaA = s.areaA ∧ (fwSelect s).areaB = s.areaB
    ∧ (fwSelect s).ces = s.ces := by
  unfold fwSelect
  (repeat' split) <;> simp

@[simp] theorem fwAbort_keeps (s : State) :
    (fwAbort s).ordering = s.ordering ∧ (fwAbort s).mram = s.mram ∧ (fwAbort s).pending = s.pending ∧ (fwAbort s).safA = s.safA
    ∧ (fwAbort s).safB = s.safB ∧ (fwAbort s).evr = s.evr ∧ (fwAbort s).areaA = s.areaA ∧ (fwAbort s).areaB = s.areaB
    ∧ (fwAbort s).ces = s.ces := by
  unfold fwAbort
  split <;> simp

@[simp] theorem raiseSvn_keeps (s : State) :
    (raiseSvn s).ordering = s.ordering ∧ (raiseSvn s).mram = s.mram ∧ (raiseSvn s).pending = s.pending ∧ (raiseSvn s).safA = s.safA
    ∧ (raiseSvn s).safB = s.safB ∧ (raiseSvn s).evr = s.evr ∧ (raiseSvn s).areaA = s.areaA ∧ (raiseSvn s).areaB = s.areaB
    ∧ (raiseSvn s).ces = s.ces := by
  unfold raiseSvn
  (repeat' split) <;> simp

@[simp] theorem fwCommand_keeps (cmd : Nat) (s : State) :
    (fwCommand cmd s).ordering = s.ordering ∧ (fwCommand cmd s).mram = s.mram ∧ (fwCommand cmd s).pending = s.pending
    ∧ (fwCommand cmd s).safA = s.safA ∧ (fwCommand cmd s).safB = s.safB ∧ (fwCommand cmd s).evr = s.evr
    ∧ (fwCommand cmd s).areaA = s.areaA ∧ (fwCommand cmd s).areaB = s.areaB ∧ (fwCommand cmd s).ces = s.ces := by
  unfold fwCommand
  split <;> simp

@[simp] theorem calendarAsk_keeps (s : State) :
    (calendarAsk s).ordering = s.ordering ∧ (calendarAsk s).mram = s.mram ∧ (calendarAsk s).pending = s.pending
    ∧ (calendarAsk s).safA = s.safA ∧ (calendarAsk s).safB = s.safB ∧ (calendarAsk s).evr = s.evr ∧ (calendarAsk s).areaA = s.areaA
    ∧ (calendarAsk s).areaB = s.areaB ∧ (calendarAsk s).ces = s.ces := by
  unfold calendarAsk
  split <;> simp

@[simp] theorem calendarSet_keeps (req : Requester) (s : State) :
    (calendarSet req s).ordering = s.ordering ∧ (calendarSet req s).mram = s.mram ∧ (calendarSet req s).pending = s.pending
    ∧ (calendarSet req s).safA = s.safA ∧ (calendarSet req s).safB = s.safB ∧ (calendarSet req s).evr = s.evr
    ∧ (calendarSet req s).areaA = s.areaA ∧ (calendarSet req s).areaB = s.areaB ∧ (calendarSet req s).ces = s.ces := by
  unfold calendarSet
  (repeat' split) <;> simp

@[simp] theorem calendarNext_keeps (s : State) :
    (calendarNext s).ordering = s.ordering ∧ (calendarNext s).mram = s.mram ∧ (calendarNext s).pending = s.pending
    ∧ (calendarNext s).safA = s.safA ∧ (calendarNext s).safB = s.safB ∧ (calendarNext s).evr = s.evr
    ∧ (calendarNext s).areaA = s.areaA ∧ (calendarNext s).areaB = s.areaB ∧ (calendarNext s).ces = s.ces := by
  unfold calendarNext
  split <;> simp

@[simp] theorem calSlew_keeps (s : State) :
    (calSlew s).ordering = s.ordering ∧ (calSlew s).mram = s.mram ∧ (calSlew s).pending = s.pending ∧ (calSlew s).safA = s.safA
    ∧ (calSlew s).safB = s.safB ∧ (calSlew s).evr = s.evr ∧ (calSlew s).areaA = s.areaA ∧ (calSlew s).areaB = s.areaB
    ∧ (calSlew s).ces = s.ces := by
  unfold calSlew
  dsimp only; (repeat' split) <;> simp

@[simp] theorem readyUpdate_keeps (s : State) :
    (readyUpdate s).ordering = s.ordering ∧ (readyUpdate s).mram = s.mram ∧ (readyUpdate s).pending = s.pending
    ∧ (readyUpdate s).safA = s.safA ∧ (readyUpdate s).safB = s.safB ∧ (readyUpdate s).evr = s.evr ∧ (readyUpdate s).areaA = s.areaA
    ∧ (readyUpdate s).areaB = s.areaB ∧ (readyUpdate s).ces = s.ces := by
  unfold readyUpdate
  dsimp only; (repeat' split) <;> simp

@[simp] theorem holdDies_keeps (xs : List Die) (s : State) :
    (holdDies xs s).ordering = s.ordering ∧ (holdDies xs s).mram = s.mram ∧ (holdDies xs s).pending = s.pending
    ∧ (holdDies xs s).safA = s.safA ∧ (holdDies xs s).safB = s.safB ∧ (holdDies xs s).evr = s.evr ∧ (holdDies xs s).areaA = s.areaA
    ∧ (holdDies xs s).areaB = s.areaB ∧ (holdDies xs s).ces = s.ces := by
  unfold holdDies
  exact ⟨rfl, rfl, rfl, rfl, rfl, rfl, rfl, rfl, rfl⟩

@[simp] theorem fieldDieReset_keeps (s : State) :
    (fieldDieReset s).ordering = s.ordering ∧ (fieldDieReset s).mram = s.mram ∧ (fieldDieReset s).pending = s.pending
    ∧ (fieldDieReset s).evr = s.evr ∧ (fieldDieReset s).areaA = s.areaA ∧ (fieldDieReset s).areaB = s.areaB
    ∧ (fieldDieReset s).ces = s.ces := by
  unfold fieldDieReset
  simp

@[simp] theorem setCause_keeps (i : Nat) (s : State) :
    (setCause i s).ordering = s.ordering ∧ (setCause i s).mram = s.mram ∧ (setCause i s).pending = s.pending
    ∧ (setCause i s).safA = s.safA ∧ (setCause i s).safB = s.safB ∧ (setCause i s).evr = s.evr ∧ (setCause i s).areaA = s.areaA
    ∧ (setCause i s).areaB = s.areaB ∧ (setCause i s).ces = s.ces := by
  unfold setCause
  exact ⟨rfl, rfl, rfl, rfl, rfl, rfl, rfl, rfl, rfl⟩

@[simp] theorem benchEnds_keeps (s : State) :
    (benchEnds s).ordering = s.ordering ∧ (benchEnds s).mram = s.mram ∧ (benchEnds s).pending = s.pending
    ∧ (benchEnds s).evr = s.evr ∧ (benchEnds s).areaA = s.areaA ∧ (benchEnds s).areaB = s.areaB ∧ (benchEnds s).ces = s.ces := by
  unfold benchEnds
  exact ⟨rfl, rfl, rfl, rfl, rfl, rfl, rfl⟩

@[simp] theorem resetOfUnit_keeps (u : ResetUnit) (s : State) :
    (resetOfUnit u s).ordering = s.ordering ∧ (resetOfUnit u s).mram = s.mram ∧ (resetOfUnit u s).pending = s.pending
    ∧ (resetOfUnit u s).safA = s.safA ∧ (resetOfUnit u s).safB = s.safB ∧ (resetOfUnit u s).evr = s.evr
    ∧ (resetOfUnit u s).areaA = s.areaA ∧ (resetOfUnit u s).areaB = s.areaB := by
  unfold resetOfUnit
  split <;> simp

@[simp] theorem assertBlock_keeps (us : List ResetUnit) (s : State) :
    (assertBlock us s).ordering = s.ordering ∧ (assertBlock us s).mram = s.mram ∧ (assertBlock us s).pending = s.pending
    ∧ (assertBlock us s).safA = s.safA ∧ (assertBlock us s).safB = s.safB ∧ (assertBlock us s).evr = s.evr
    ∧ (assertBlock us s).areaA = s.areaA ∧ (assertBlock us s).areaB = s.areaB := by
  unfold assertBlock
  simp

@[simp] theorem askIdle_keeps (us : List ResetUnit) (s : State) :
    (askIdle us s).ordering = s.ordering ∧ (askIdle us s).mram = s.mram ∧ (askIdle us s).pending = s.pending
    ∧ (askIdle us s).safA = s.safA ∧ (askIdle us s).safB = s.safB ∧ (askIdle us s).evr = s.evr ∧ (askIdle us s).areaA = s.areaA
    ∧ (askIdle us s).areaB = s.areaB := by
  unfold askIdle
  simp

@[simp] theorem islandRequest_keeps (mask : Nat) (s : State) :
    (islandRequest mask s).ordering = s.ordering ∧ (islandRequest mask s).mram = s.mram
    ∧ (islandRequest mask s).pending = s.pending ∧ (islandRequest mask s).safA = s.safA ∧ (islandRequest mask s).safB = s.safB
    ∧ (islandRequest mask s).evr = s.evr ∧ (islandRequest mask s).areaA = s.areaA ∧ (islandRequest mask s).areaB = s.areaB := by
  unfold islandRequest
  split <;> simp

@[simp] theorem blockRequest_keeps (mask : Nat) (s : State) :
    (blockRequest mask s).ordering = s.ordering ∧ (blockRequest mask s).mram = s.mram ∧ (blockRequest mask s).pending = s.pending
    ∧ (blockRequest mask s).safA = s.safA ∧ (blockRequest mask s).safB = s.safB ∧ (blockRequest mask s).evr = s.evr
    ∧ (blockRequest mask s).areaA = s.areaA ∧ (blockRequest mask s).areaB = s.areaB ∧ (blockRequest mask s).ces = s.ces := by
  unfold blockRequest
  split <;> simp

@[simp] theorem startEvent_keeps (k : ResetKind) (s : State) :
    (startEvent k s).ordering = s.ordering ∧ (startEvent k s).mram = s.mram ∧ (startEvent k s).pending = s.pending
    ∧ (startEvent k s).safA = s.safA ∧ (startEvent k s).safB = s.safB ∧ (startEvent k s).evr = s.evr
    ∧ (startEvent k s).areaA = s.areaA ∧ (startEvent k s).areaB = s.areaB ∧ (startEvent k s).ces = s.ces := by
  unfold startEvent
  split <;> simp

@[simp] theorem releaseModule_keeps (s : State) :
    (releaseModule s).ordering = s.ordering ∧ (releaseModule s).mram = s.mram ∧ (releaseModule s).pending = s.pending
    ∧ (releaseModule s).safA = s.safA ∧ (releaseModule s).safB = s.safB ∧ (releaseModule s).evr = s.evr
    ∧ (releaseModule s).areaA = s.areaA ∧ (releaseModule s).areaB = s.areaB ∧ (releaseModule s).ces = s.ces := by
  unfold releaseModule
  split <;> simp

@[simp] theorem holdupCheck_keeps (s : State) :
    (holdupCheck s).ordering = s.ordering ∧ (holdupCheck s).mram = s.mram ∧ (holdupCheck s).pending = s.pending
    ∧ (holdupCheck s).safA = s.safA ∧ (holdupCheck s).safB = s.safB ∧ (holdupCheck s).evr = s.evr ∧ (holdupCheck s).areaA = s.areaA
    ∧ (holdupCheck s).areaB = s.areaB ∧ (holdupCheck s).ces = s.ces := by
  unfold holdupCheck
  dsimp only; (repeat' split) <;> simp

@[simp] theorem clearSandboxInts_keeps (s : State) :
    (clearSandboxInts s).ordering = s.ordering ∧ (clearSandboxInts s).mram = s.mram ∧ (clearSandboxInts s).pending = s.pending
    ∧ (clearSandboxInts s).safA = s.safA ∧ (clearSandboxInts s).safB = s.safB ∧ (clearSandboxInts s).evr = s.evr
    ∧ (clearSandboxInts s).areaA = s.areaA ∧ (clearSandboxInts s).areaB = s.areaB ∧ (clearSandboxInts s).ces = s.ces := by
  unfold clearSandboxInts
  exact ⟨rfl, rfl, rfl, rfl, rfl, rfl, rfl, rfl, rfl⟩

@[simp] theorem samplePair_keeps (pairSel : Bool) (s : State) :
    (samplePair pairSel s).ordering = s.ordering ∧ (samplePair pairSel s).mram = s.mram
    ∧ (samplePair pairSel s).pending = s.pending ∧ (samplePair pairSel s).safA = s.safA ∧ (samplePair pairSel s).safB = s.safB
    ∧ (samplePair pairSel s).evr = s.evr ∧ (samplePair pairSel s).areaA = s.areaA ∧ (samplePair pairSel s).areaB = s.areaB
    ∧ (samplePair pairSel s).ces = s.ces := by
  unfold samplePair
  split <;> simp

@[simp] theorem memoryPhase_keeps (s : State) :
    (memoryPhase s).ordering = s.ordering ∧ (memoryPhase s).mram = s.mram ∧ (memoryPhase s).pending = s.pending
    ∧ (memoryPhase s).safA = s.safA ∧ (memoryPhase s).safB = s.safB ∧ (memoryPhase s).evr = s.evr ∧ (memoryPhase s).areaA = s.areaA
    ∧ (memoryPhase s).areaB = s.areaB ∧ (memoryPhase s).ces = s.ces := by
  unfold memoryPhase
  dsimp only; (repeat' split) <;> simp

@[simp] theorem safetyPhase_keeps (s : State) :
    (safetyPhase s).ordering = s.ordering ∧ (safetyPhase s).mram = s.mram ∧ (safetyPhase s).pending = s.pending
    ∧ (safetyPhase s).safA = s.safA ∧ (safetyPhase s).safB = s.safB ∧ (safetyPhase s).evr = s.evr ∧ (safetyPhase s).areaA = s.areaA
    ∧ (safetyPhase s).areaB = s.areaB ∧ (safetyPhase s).ces = s.ces := by
  unfold safetyPhase
  (repeat' split) <;> simp

@[simp] theorem pmbusFault_keeps (s : State) :
    (pmbusFault s).ordering = s.ordering ∧ (pmbusFault s).mram = s.mram ∧ (pmbusFault s).pending = s.pending
    ∧ (pmbusFault s).safA = s.safA ∧ (pmbusFault s).safB = s.safB ∧ (pmbusFault s).evr = s.evr ∧ (pmbusFault s).areaA = s.areaA
    ∧ (pmbusFault s).areaB = s.areaB ∧ (pmbusFault s).ces = s.ces := by
  unfold pmbusFault
  simp

@[simp] theorem pmbClear_keeps (s : State) :
    (pmbClear s).ordering = s.ordering ∧ (pmbClear s).mram = s.mram ∧ (pmbClear s).pending = s.pending ∧ (pmbClear s).safA = s.safA
    ∧ (pmbClear s).safB = s.safB ∧ (pmbClear s).evr = s.evr ∧ (pmbClear s).areaA = s.areaA ∧ (pmbClear s).areaB = s.areaB
    ∧ (pmbClear s).ces = s.ces := by
  unfold pmbClear
  split <;> simp

@[simp] theorem putArea_keeps (s : State) (b : Bool) (c : SaveContent) :
    (putArea s b c).ordering = s.ordering ∧ (putArea s b c).mram = s.mram ∧ (putArea s b c).pending = s.pending
    ∧ (putArea s b c).safA = s.safA ∧ (putArea s b c).safB = s.safB ∧ (putArea s b c).evr = s.evr ∧ (putArea s b c).ces = s.ces := by
  unfold putArea
  split <;> simp

@[simp] theorem firstPassDone_keeps (s : State) :
    (firstPassDone s).ordering = s.ordering ∧ (firstPassDone s).mram = s.mram ∧ (firstPassDone s).pending = s.pending
    ∧ (firstPassDone s).safA = s.safA ∧ (firstPassDone s).safB = s.safB ∧ (firstPassDone s).evr = s.evr
    ∧ (firstPassDone s).ces = s.ces := by
  unfold firstPassDone
  split <;> simp

@[simp] theorem completeRuns_keeps (s : State) :
    (completeRuns s).ordering = s.ordering ∧ (completeRuns s).mram = s.mram ∧ (completeRuns s).pending = s.pending
    ∧ (completeRuns s).safA = s.safA ∧ (completeRuns s).safB = s.safB ∧ (completeRuns s).evr = s.evr
    ∧ (completeRuns s).areaA = s.areaA ∧ (completeRuns s).areaB = s.areaB ∧ (completeRuns s).ces = s.ces := by
  unfold completeRuns
  dsimp only; (repeat' split) <;> simp

@[simp] theorem braceRestart_keeps (s : State) :
    (braceRestart s).ordering = s.ordering ∧ (braceRestart s).mram = s.mram ∧ (braceRestart s).pending = s.pending
    ∧ (braceRestart s).evr = s.evr ∧ (braceRestart s).areaA = s.areaA ∧ (braceRestart s).areaB = s.areaB
    ∧ (braceRestart s).ces = s.ces := by
  unfold braceRestart
  split <;> simp

@[simp] theorem kprWrite_keeps (off : Nat) (v : Word) (s : State) :
    (kprWrite off v s).ordering = s.ordering ∧ (kprWrite off v s).mram = s.mram ∧ (kprWrite off v s).pending = s.pending
    ∧ (kprWrite off v s).safA = s.safA ∧ (kprWrite off v s).safB = s.safB ∧ (kprWrite off v s).evr = s.evr
    ∧ (kprWrite off v s).areaA = s.areaA ∧ (kprWrite off v s).areaB = s.areaB ∧ (kprWrite off v s).ces = s.ces := by
  unfold kprWrite
  (repeat' split) <;> simp

@[simp] theorem rstWrite_keeps (off : Nat) (v : Word) (s : State) :
    (rstWrite off v s).ordering = s.ordering ∧ (rstWrite off v s).mram = s.mram ∧ (rstWrite off v s).pending = s.pending
    ∧ (rstWrite off v s).safA = s.safA ∧ (rstWrite off v s).safB = s.safB ∧ (rstWrite off v s).evr = s.evr
    ∧ (rstWrite off v s).areaA = s.areaA ∧ (rstWrite off v s).areaB = s.areaB := by
  unfold rstWrite
  (repeat' split) <;> simp

@[simp] theorem trsWrite_keeps (off : Nat) (v : Word) (s : State) :
    (trsWrite off v s).ordering = s.ordering ∧ (trsWrite off v s).mram = s.mram ∧ (trsWrite off v s).pending = s.pending
    ∧ (trsWrite off v s).safA = s.safA ∧ (trsWrite off v s).safB = s.safB ∧ (trsWrite off v s).evr = s.evr
    ∧ (trsWrite off v s).areaA = s.areaA ∧ (trsWrite off v s).areaB = s.areaB ∧ (trsWrite off v s).ces = s.ces := by
  unfold trsWrite
  (repeat' split) <;> simp

@[simp] theorem evrWrite_keeps (off : Nat) (v : Word) (s : State) :
    (evrWrite off v s).ordering = s.ordering ∧ (evrWrite off v s).mram = s.mram ∧ (evrWrite off v s).pending = s.pending
    ∧ (evrWrite off v s).safA = s.safA ∧ (evrWrite off v s).safB = s.safB ∧ (evrWrite off v s).areaA = s.areaA
    ∧ (evrWrite off v s).areaB = s.areaB ∧ (evrWrite off v s).ces = s.ces := by
  unfold evrWrite
  (repeat' split) <;> simp

@[simp] theorem tmbRead_keeps (off : Nat) (s : State) :
    (tmbRead off s).ordering = s.ordering ∧ (tmbRead off s).mram = s.mram ∧ (tmbRead off s).pending = s.pending
    ∧ (tmbRead off s).safA = s.safA ∧ (tmbRead off s).safB = s.safB ∧ (tmbRead off s).evr = s.evr ∧ (tmbRead off s).areaA = s.areaA
    ∧ (tmbRead off s).areaB = s.areaB ∧ (tmbRead off s).ces = s.ces := by
  unfold tmbRead
  split <;> simp

@[simp] theorem tmbWrite_keeps (req : Requester) (off : Nat) (v : Word) (s : State) :
    (tmbWrite req off v s).ordering = s.ordering ∧ (tmbWrite req off v s).mram = s.mram
    ∧ (tmbWrite req off v s).pending = s.pending ∧ (tmbWrite req off v s).safA = s.safA ∧ (tmbWrite req off v s).safB = s.safB
    ∧ (tmbWrite req off v s).evr = s.evr ∧ (tmbWrite req off v s).areaA = s.areaA ∧ (tmbWrite req off v s).areaB = s.areaB
    ∧ (tmbWrite req off v s).ces = s.ces := by
  unfold tmbWrite
  (repeat' split) <;> simp

@[simp] theorem evtWrite_keeps (req : Requester) (off : Nat) (v : Word) (s : State) :
    (evtWrite req off v s).ordering = s.ordering ∧ (evtWrite req off v s).mram = s.mram
    ∧ (evtWrite req off v s).pending = s.pending ∧ (evtWrite req off v s).safA = s.safA ∧ (evtWrite req off v s).safB = s.safB
    ∧ (evtWrite req off v s).evr = s.evr ∧ (evtWrite req off v s).areaA = s.areaA ∧ (evtWrite req off v s).areaB = s.areaB
    ∧ (evtWrite req off v s).ces = s.ces := by
  unfold evtWrite
  (repeat' split) <;> simp

@[simp] theorem viewWrite_keeps (n : Nat) (off : Nat) (v : Word) (s : State) :
    (viewWrite n off v s).ordering = s.ordering ∧ (viewWrite n off v s).mram = s.mram ∧ (viewWrite n off v s).pending = s.pending
    ∧ (viewWrite n off v s).safA = s.safA ∧ (viewWrite n off v s).safB = s.safB ∧ (viewWrite n off v s).evr = s.evr
    ∧ (viewWrite n off v s).areaA = s.areaA ∧ (viewWrite n off v s).areaB = s.areaB := by
  unfold viewWrite
  dsimp only; (repeat' split) <;> simp

@[simp] theorem acqRead_keeps (off : Nat) (s : State) :
    (acqRead off s).ordering = s.ordering ∧ (acqRead off s).mram = s.mram ∧ (acqRead off s).pending = s.pending
    ∧ (acqRead off s).safA = s.safA ∧ (acqRead off s).safB = s.safB ∧ (acqRead off s).evr = s.evr ∧ (acqRead off s).areaA = s.areaA
    ∧ (acqRead off s).areaB = s.areaB ∧ (acqRead off s).ces = s.ces := by
  unfold acqRead
  split <;> simp

@[simp] theorem acqUnitWrite_keeps (u : Nat) (off : Nat) (v : Word) (s : State) :
    (acqUnitWrite u off v s).ordering = s.ordering ∧ (acqUnitWrite u off v s).mram = s.mram
    ∧ (acqUnitWrite u off v s).pending = s.pending ∧ (acqUnitWrite u off v s).safA = s.safA
    ∧ (acqUnitWrite u off v s).safB = s.safB ∧ (acqUnitWrite u off v s).evr = s.evr ∧ (acqUnitWrite u off v s).areaA = s.areaA
    ∧ (acqUnitWrite u off v s).areaB = s.areaB ∧ (acqUnitWrite u off v s).ces = s.ces := by
  unfold acqUnitWrite
  dsimp only; (repeat' split) <;> simp

@[simp] theorem trigWrite_keeps (k : Nat) (off : Nat) (v : Word) (s : State) :
    (trigWrite k off v s).ordering = s.ordering ∧ (trigWrite k off v s).mram = s.mram ∧ (trigWrite k off v s).pending = s.pending
    ∧ (trigWrite k off v s).safA = s.safA ∧ (trigWrite k off v s).safB = s.safB ∧ (trigWrite k off v s).evr = s.evr
    ∧ (trigWrite k off v s).areaA = s.areaA ∧ (trigWrite k off v s).areaB = s.areaB ∧ (trigWrite k off v s).ces = s.ces := by
  unfold trigWrite
  split <;> simp

@[simp] theorem intWrite_keeps (k : Nat) (off : Nat) (v : Word) (s : State) :
    (intWrite k off v s).ordering = s.ordering ∧ (intWrite k off v s).mram = s.mram ∧ (intWrite k off v s).pending = s.pending
    ∧ (intWrite k off v s).safA = s.safA ∧ (intWrite k off v s).safB = s.safB ∧ (intWrite k off v s).evr = s.evr
    ∧ (intWrite k off v s).areaA = s.areaA ∧ (intWrite k off v s).areaB = s.areaB ∧ (intWrite k off v s).ces = s.ces := by
  unfold intWrite
  split <;> simp

@[simp] theorem acqWrite_keeps (off : Nat) (v : Word) (s : State) :
    (acqWrite off v s).ordering = s.ordering ∧ (acqWrite off v s).mram = s.mram ∧ (acqWrite off v s).pending = s.pending
    ∧ (acqWrite off v s).safA = s.safA ∧ (acqWrite off v s).safB = s.safB ∧ (acqWrite off v s).evr = s.evr
    ∧ (acqWrite off v s).areaA = s.areaA ∧ (acqWrite off v s).areaB = s.areaB ∧ (acqWrite off v s).ces = s.ces := by
  unfold acqWrite
  (repeat' split) <;> simp

@[simp] theorem stoWrite_keeps (off : Nat) (v : Word) (s : State) :
    (stoWrite off v s).ordering = s.ordering ∧ (stoWrite off v s).mram = s.mram ∧ (stoWrite off v s).pending = s.pending
    ∧ (stoWrite off v s).safA = s.safA ∧ (stoWrite off v s).safB = s.safB ∧ (stoWrite off v s).evr = s.evr
    ∧ (stoWrite off v s).areaA = s.areaA ∧ (stoWrite off v s).areaB = s.areaB ∧ (stoWrite off v s).ces = s.ces := by
  unfold stoWrite
  (repeat' split) <;> simp

@[simp] theorem afterRead_keeps (w : Nat) (off : Nat) (s : State) :
    (afterRead w off s).ordering = s.ordering ∧ (afterRead w off s).mram = s.mram ∧ (afterRead w off s).pending = s.pending
    ∧ (afterRead w off s).safA = s.safA ∧ (afterRead w off s).safB = s.safB ∧ (afterRead w off s).evr = s.evr
    ∧ (afterRead w off s).areaA = s.areaA ∧ (afterRead w off s).areaB = s.areaB ∧ (afterRead w off s).ces = s.ces := by
  unfold afterRead
  (repeat' split) <;> simp

@[simp] theorem ctlRead_keeps (req : Requester) (addr : Word) (s : State) :
    (ctlRead req addr s).2.2.ordering = s.ordering ∧ (ctlRead req addr s).2.2.mram = s.mram
    ∧ (ctlRead req addr s).2.2.pending = s.pending ∧ (ctlRead req addr s).2.2.safA = s.safA
    ∧ (ctlRead req addr s).2.2.safB = s.safB ∧ (ctlRead req addr s).2.2.evr = s.evr ∧ (ctlRead req addr s).2.2.areaA = s.areaA
    ∧ (ctlRead req addr s).2.2.areaB = s.areaB ∧ (ctlRead req addr s).2.2.ces = s.ces := by
  unfold ctlRead
  dsimp only; (repeat' split) <;> simp

@[simp] theorem finishLoad_keeps (n : Nat) (gd : Guard) (kind : LoadKind) (rd : Nat) (bs : List Byte) (c : Ce) (s : State) :
    (finishLoad n gd kind rd bs c s).ordering = s.ordering ∧ (finishLoad n gd kind rd bs c s).mram = s.mram
    ∧ (finishLoad n gd kind rd bs c s).pending = s.pending ∧ (finishLoad n gd kind rd bs c s).safA = s.safA
    ∧ (finishLoad n gd kind rd bs c s).safB = s.safB ∧ (finishLoad n gd kind rd bs c s).evr = s.evr
    ∧ (finishLoad n gd kind rd bs c s).areaA = s.areaA ∧ (finishLoad n gd kind rd bs c s).areaB = s.areaB := by
  unfold finishLoad
  split <;> simp

@[simp] theorem answer_keeps (n : Nat) (tag : Word) (status : Nat) (data : List Word) (s : State) :
    (answer n tag status data s).ordering = s.ordering ∧ (answer n tag status data s).mram = s.mram
    ∧ (answer n tag status data s).pending = s.pending ∧ (answer n tag status data s).safA = s.safA
    ∧ (answer n tag status data s).safB = s.safB ∧ (answer n tag status data s).evr = s.evr
    ∧ (answer n tag status data s).areaA = s.areaA ∧ (answer n tag status data s).areaB = s.areaB
    ∧ (answer n tag status data s).ces = s.ces := by
  unfold answer
  exact ⟨rfl, rfl, rfl, rfl, rfl, rfl, rfl, rfl, rfl⟩

@[simp] theorem noRefuse_keeps (s : State) :
    (noRefuse s).ordering = s.ordering ∧ (noRefuse s).mram = s.mram ∧ (noRefuse s).pending = s.pending ∧ (noRefuse s).safA = s.safA
    ∧ (noRefuse s).safB = s.safB ∧ (noRefuse s).evr = s.evr ∧ (noRefuse s).areaA = s.areaA ∧ (noRefuse s).areaB = s.areaB
    ∧ (noRefuse s).ces = s.ces := by
  unfold noRefuse
  exact ⟨rfl, rfl, rfl, rfl, rfl, rfl, rfl, rfl, rfl⟩

@[simp] theorem stageRequest_keeps (offset : Nat) (data : List Byte) (s : State) :
    (stageRequest offset data s).2.ordering = s.ordering ∧ (stageRequest offset data s).2.mram = s.mram
    ∧ (stageRequest offset data s).2.pending = s.pending ∧ (stageRequest offset data s).2.safA = s.safA
    ∧ (stageRequest offset data s).2.safB = s.safB ∧ (stageRequest offset data s).2.evr = s.evr
    ∧ (stageRequest offset data s).2.areaA = s.areaA ∧ (stageRequest offset data s).2.areaB = s.areaB
    ∧ (stageRequest offset data s).2.ces = s.ces := by
  unfold stageRequest
  dsimp only; (repeat' split) <;> simp

@[simp] theorem recordsRequest_keeps (first : Word) (count : Nat) (s : State) :
    (recordsRequest first count s).2.ordering = s.ordering ∧ (recordsRequest first count s).2.mram = s.mram
    ∧ (recordsRequest first count s).2.pending = s.pending ∧ (recordsRequest first count s).2.safA = s.safA
    ∧ (recordsRequest first count s).2.safB = s.safB ∧ (recordsRequest first count s).2.evr = s.evr
    ∧ (recordsRequest first count s).2.areaA = s.areaA ∧ (recordsRequest first count s).2.areaB = s.areaB
    ∧ (recordsRequest first count s).2.ces = s.ces := by
  unfold recordsRequest
  split <;> simp

@[simp] theorem endRequest_keeps (n : Fin 8) (r : MgmtReq) (e : ReqEnd) (s : State) :
    (endRequest n r e s).ordering = s.ordering ∧ (endRequest n r e s).mram = s.mram ∧ (endRequest n r e s).pending = s.pending
    ∧ (endRequest n r e s).safA = s.safA ∧ (endRequest n r e s).safB = s.safB ∧ (endRequest n r e s).evr = s.evr
    ∧ (endRequest n r e s).areaA = s.areaA ∧ (endRequest n r e s).areaB = s.areaB ∧ (endRequest n r e s).ces = s.ces := by
  unfold endRequest
  split <;> simp

@[simp] theorem relayDone_keeps (r : SealedRelay) (s : State) :
    (relayDone r s).ordering = s.ordering ∧ (relayDone r s).mram = s.mram ∧ (relayDone r s).pending = s.pending
    ∧ (relayDone r s).safA = s.safA ∧ (relayDone r s).safB = s.safB ∧ (relayDone r s).evr = s.evr ∧ (relayDone r s).areaA = s.areaA
    ∧ (relayDone r s).areaB = s.areaB ∧ (relayDone r s).ces = s.ces := by
  unfold relayDone
  dsimp only; (repeat' split) <;> simp

@[simp] theorem dbgTakes_keeps (i : DebugInstr) (out : List Word) (s : State) :
    (dbgTakes i out s).ordering = s.ordering ∧ (dbgTakes i out s).mram = s.mram ∧ (dbgTakes i out s).pending = s.pending
    ∧ (dbgTakes i out s).safA = s.safA ∧ (dbgTakes i out s).safB = s.safB ∧ (dbgTakes i out s).evr = s.evr
    ∧ (dbgTakes i out s).areaA = s.areaA ∧ (dbgTakes i out s).areaB = s.areaB ∧ (dbgTakes i out s).ces = s.ces := by
  unfold dbgTakes
  exact ⟨rfl, rfl, rfl, rfl, rfl, rfl, rfl, rfl, rfl⟩

@[simp] theorem auditBook_keeps (beyond : Nat) (link : Nat) (s : State) (b : Nat) :
    (auditBook beyond link s b).ordering = s.ordering ∧ (auditBook beyond link s b).mram = s.mram
    ∧ (auditBook beyond link s b).pending = s.pending ∧ (auditBook beyond link s b).safA = s.safA
    ∧ (auditBook beyond link s b).safB = s.safB ∧ (auditBook beyond link s b).evr = s.evr
    ∧ (auditBook beyond link s b).areaA = s.areaA ∧ (auditBook beyond link s b).areaB = s.areaB
    ∧ (auditBook beyond link s b).ces = s.ces := by
  unfold auditBook
  simp

end Sys2Proof.Machine
end

