-- ==== Sys2Proof/Tests/Slice0.lean ====
section
/-! SUPPORT. Witnesses: for each clause of the obligations that has hypotheses, a state and operands that meet them all, built by the
helpers of the first part; then ill-formed commands that the check refuses, and worked examples of the spec. -/
namespace Sys2Proof.Tests
open Sys2Proof Sys2Proof.Machine
set_option Elab.async false

/-! ## States of the witnesses -/

/-- A module in operation: every die runs, start-up is over, device time runs. -/
def live : State := { State.reset with
  dies := { comp0 := .running, comp1 := .running, io := .running, safA := .running, safB := .running, field := .running,
            mem0 := .running, mem1 := .running, mem2 := .running, mem3 := .running, keeper := .running }
  rst := { asserted := false, phase := 9, vready := true }
  tmb := { running := true, time := 1000000000 } }

/-- A control engine in RUN, in runtime mode. -/
def ceRun : Ce := { st := .run, pc := 0x100 }

/-- A pair of flits whose checks are right. -/
def goodPair : FlitPair := ⟨⟨0, Config.flitCrc 0⟩, ⟨0, Config.flitCrc 0⟩, false⟩

/-- A single turned bit of the check makes a pair bad, whatever the check is. -/
theorem badPair_bad : pairGood (disturbed goodPair ⟨⟨0, 1⟩, ⟨0, 0⟩, false⟩) = false := by
  have h (x : BitVec 12) : x ≠ x ^^^ 1 := by
    intro h
    have h2 := congrArg (x ^^^ ·) h
    simp [← BitVec.xor_assoc] at h2
  simp only [pairGood, disturbed, goodPair, Bool.and_eq_false_iff]
  exact Or.inl (decide_eq_false (h _))

/-- A CAN channel of the image, error active, and a module with it. -/
def canOne : CanCfg := { (default : CanCfg) with no := 0, en := true, fdEn := true }
def canUp : CanChannel := { integrating := false }
def canLive : State := { live with pins := { live.pins with vio18 := true }, img := { live.img with can := [canOne] }, can := [(0, canUp)] }
def canFrame : CanFrame := { (default : CanFrame) with id := 0x123, dlc := 1, data := [5] }
def canFull : State := { canLive with can := [(0, { canUp with fifo := [canFrame] })] }

/-- A guard that is never on, and a CE whose g1 and g2 hold 0x40 and 0x54000000 (bank 10). -/
def never : Guard := { pn := true, ps := 0 }
def ceTwo : Ce := { ceRun with g := [(1, 0x40), (2, 0x54000000)] }
def ceLive : State := { live with ces := [(0, ceTwo)] }
def bankLive : State :=
  { ceLive with img := { live.img with memory := { live.img.memory with grants := [⟨0, 10, .readWrite, .readWrite⟩] } } }

/-- A task of CE 0, and a module that has it in its table. -/
def taskOne : TaskCfg := { (default : TaskCfg) with task := 5, ce := 0, cls := 1, period := 1 }
def taskLive : State := { live with img := { live.img with tasks := [taskOne] }, ces := [(0, { st := .idle })],
                                    cyc := { tasks := [(5, { state := .waiting })] } }

/-- A point of tenant 0 in slot 0, typed as a signed integer, a tenant, and a module that has them, with a session bound. -/
def pointOne : Point := { alloc := true, words := [(4, 0x10000000)] }
def tenantOne : TenantCfg := 
  { (default : TenantCfg) with no := 0, device := some 77, oprRead := true, hubOk := true, ipWrite := true, covQuota := 3 }
def pointLive : State := { live with img := { live.img with tenants := [tenantOne] }, ces := [(0, ceTwo)],
                                     cmb := { points := [(0, pointOne)], conns := [(0, some ⟨0, true⟩)] } }

/-- What a safety die publishes when it grants every permit of car 0, with a rescue selection. -/
def pubAll (rescue : Option (Nat × Bool × Bool)) : SafPub := ⟨0xF, [], rescue⟩

/-- A car, its feedback sources and interfaces, its door, its group, and a module that has them: the car at rest with one stop queued. -/
def carOne : CarCfg := { (default : CarCfg) with
  no := 0, served := [0, 1], vmax := 2000, a1 := 1000, a2 := 1000, jerk := 1000, vlimUp := 1000000, vlimDn := -1000000
  ratedLoad := 1000, capacity := 13, balance := 50, motorEff := 90, doors := [0], vstart := 10, vstop := 10 }
def fbkOne : FbkCfg := { (default : FbkCfg) with car := 0, scale := 0x1000000, absNum := 0, quadNum := 0, crcRun := 8, plausN := 8 }
def doorOne : DoorCfg := { (default : DoorCfg) with
  ch := 0, landings := [0, 1], stroke := 1000, vopenDef := 300, vopen := 300, vclose := 300, acc := 300, endTol := 100, adoDist := 50, mass := 100
  ekLim := 100, ekNudge := 40, forceLim := 150, adoVmax := 100, shifts := [0, 1, 2, 3], ratios := [1, 1, 1, 1] }
def entryOne : QEntry := { w0 := 50000, w1 := 0x00010000 }
def hoistOne : Hoist := { state := .rest, queue := [entryOne], vlimUp := 1000000, vlimDn := -1000000 }
def carLive : State := { live with
  img := { live.img with
    cars := [carOne], feedback := [fbkOne], ssi := [{ (default : SsiCfg) with no := 0, frameBits := 25, posBits := 24, period := 4 }]
    qe := [{ (default : QeCfg) with no := 0, zpol := true, cpr := 4096 }], doors := [doorOne], groups := [⟨0, [0], 100⟩]
    landings := [⟨0, 0⟩, ⟨1, 50000⟩], roles := [⟨64, .planner 0, .held, [], 0, 0⟩] }
  safA := { state := .run, pub := some (pubAll none) }, safB := { state := .run, pub := some (pubAll none) }
  hst := [(0, hoistOne)] }
/-- Both safety dies publish a rescue selection: car 0, upwards. -/
def pubRescue : SafPub := ⟨0xF + 2 ^ 514, [], some (0, true, false)⟩
def rescueLive : State := { carLive with safA := { pub := some pubRescue }, safB := { pub := some pubRescue } }

/-- A double-deck car whose deck is not in place, and a module that has it in a state. -/
def carDeck : CarCfg := { carOne with adjV := 10 }
def deckLive (x : HoistState) : State :=
  { carLive with img := { carLive.img with cars := [carDeck] }, hst := [(0, { hoistOne with state := x })] }
def doorLive (x : Door) : State := { carLive with dor := [(0, x)] }
def openedDoor : Door := { state := .rest, ret := some ⟨0, 9, 0, 0, 100000, 0⟩, meas := some (0, 100000), p2 := 2000000000000000000000 }
def hoistLive (h : Hoist) : State := { carLive with hst := [(0, h)] }
def fbkLive (f : Fbk) : State := { carLive with fbk := { cars := [(0, f)] } }

/-- A held hall call from landing 1 upwards, and a group with calls. -/
def callOne : Call := ⟨0x11010000, 0x00000005, .planning, none, 0, 1, 0, none, none, false, []⟩
def grpLive (x : Grp) : State := { carLive with dsp := { groups := [(0, x)] } }

/-- Both safety dies in RUN with one car, a presence input and a SAFE_RESET input, and a password. -/
def safCarOne : SafCarCfg := { (default : SafCarCfg) with
                                             car := 0, sills := [(0, 0)], zone := 200, scale := 0x1000000
                                             brake1 := some (.field 7), brake2 := some (.field 8) }
def safCfgOne : SafCfg := { cars := [safCarOne], presence := some (.field 5), safeReset := some (.field 6), filters := [(5, 4), (6, 4)],
                            password := sha384 ([] ++ []) }
def safOne : SafDie := { state := .run, cfg := safCfgOne, seen := [.field 5, .field 6, .field 7, .field 8]
                         inputs := [5, 6, 7, 8].map (fun k => (k, { level := true, valid := true })) }
def safLive (a b : SafDie) : State := { live with safA := a, safB := b }
/-- A die whose stored image and digest are empty holds no image that passes its check. -/
theorem activeOk_empty {d : SafDie} (h : d.active = []) (g : d.digest = []) : activeOk d = false := by
  have k : sha384 [] ≠ [] := by decide +kernel
  simp [activeOk, h, g, k]
theorem cfgMatch_empty {s : State} (h : s.safA.active = []) (g : s.safA.digest = []) : cfgMatch s = false := by
  simp [cfgMatch, safetyCfgDigest, safOf, activeOk_empty h g]
def safCarLive (x : SafCar) : State := safLive { safOne with cars := [(0, x)] } safOne

/-- A field die with an input, outputs, coil channels and converters, both VFIELD groups good. -/
def fieldCfgOne : FieldCfg := {
  ins := [⟨0, 1, 15, 5, 4⟩], outs := [⟨0, true, true, false, false⟩]
  coils := [{ (default : CoilCfg) with no := 0, mode := 1 }, { (default : CoilCfg) with no := 2, mode := 2, vmax := 100, acc := 10 }]
  adcs := [0, 1], acqAdcs := [] }
def fieldLive (f : Fio) : State := { live with img := { live.img with field := fieldCfgOne }, fio := { f with loaded := true } }

/-- Two paired ports, a station, and a module that has them. -/
def portOne : PortCfg := { no := 0, fast := true, fec := false, startTmo := 10, paired := true }
def portTwo : PortCfg := { no := 1, fast := true, fec := false, startTmo := 10, paired := true }
def stationOne : StationCfg := { (default : StationCfg) with no := 3, cycle := 1, wd := 3, inWords := 2, outWords := 2 }
def netLive (n : Net) : State := { live with
  img := { live.img with network := { live.img.network with ports := [portOne, portTwo] }, stations := [stationOne] }, net := n }
def netUp : Net := { ports := [(0, { state := .up }), (1, { state := .up })], holder := true }
def frameThree : StationFrame := ⟨3, 2, 0, 7, 0, 0, [1, 2]⟩
def exchangeOne : Exchange := ⟨7, 0, 1, [], false, false⟩

/-- A held call that waits for its order, at a standby. -/
def standby : Net := { lualasOk := true }
def pageOne : Page := ⟨3, 5, false, false, false, 0, 0, [.plain 1 2 3]⟩
def stoLive (x : Sto) : State := { live with sto := x }
def consOne : ConsumerCfg := { no := 0, streams := [3], tmo := 1000 }
def consLive (x : Consumer) (r : Ring) : State := { live with
  img := { live.img with network := { live.img.network with consumers := [consOne] } }, sto := { cons := [(0, x)], rings := [(3, r)] } }

/-- A queued event, its record in slot 0, and a module whose recorder has both. -/
def eventOne : QueuedEvent := ⟨⟨40, [], 0, 5⟩, 2, 0⟩
def recordOne : EvRecord := ⟨5, 0, 40, 2, false, false, 0, 0, 5, [], 0⟩
def evrLive (e : Evr) : State := { live with evr := e }
def sessionLive (x : Session) : State := { live with kpr.sessions := [(0, x)] }
def sessionAll : Session := { isOpen := true, rights := 31 }

/-- A recorder whose slots all hold records of severity 3 has none for an event of severity 2. -/
theorem slotFor_full : slotFor { queue := [eventOne], slots := List.replicate 65536 (0, some { recordOne with severity := 3 }) } 2 = none := by
  have h (f : Nat × Option EvRecord → Option (Nat × Nat)) (hf : f (0, some { recordOne with severity := 3 }) = none) :
      (List.replicate 65536 (0, some { recordOne with severity := 3 })).filterMap f = [] := by
    rw [List.filterMap_eq_nil_iff]
    intro a ha
    rw [List.eq_of_mem_replicate ha, hf]
  unfold slotFor
  rw [if_neg (by rw [List.length_replicate]; decide)]
  dsimp only
  rw [h _ rfl]
  rfl

/-! ## Witnesses, named after the obligation and the clause -/

theorem witness_StepTakesTheFrontCommand_1 : ∃ (c : Instr) (rest : List Instr) (s : State), s.pending = c :: rest := ⟨.pmbFaultClear,
    [], { live with pending := [.pmbFaultClear] }, by decide⟩
theorem witness_StepTakesTheFrontCommand_3 : ∃ (s : State), s.pending = [] := ⟨live, by decide⟩
theorem witness_DeviceIdentity_1 : ∃ (req : Requester) (s : State), running s .keeper = true ∧ waitsBehind s req = false := ⟨.debug,
    live, by decide⟩
theorem witness_DeviceIdentity_2 : ∃ (s : State) (t : State), step s = .next t := ⟨live, _, rfl⟩
theorem witness_DeviceIdentity_3 : ∃ (req : Requester) (s : State), running s .keeper = true ∧ waitsBehind s req = false := ⟨.debug,
    live, by decide⟩
theorem witness_CeEncodingRoundTrip_1 : ∃ (x : CeWord) (w : Word), decodeCe w = x ∧ x ≠ .illegal := ⟨_, 0xC4000010, ⟨rfl, by decide⟩⟩
theorem witness_MemoriesAndSafetyDiesAreIsolated_1 : ∃ (c : Instr) (s : State) (t : State) (p : Part), exec c s = .next t ∧ p ∈
    ([.now, .ordering, .mram, .areaA, .areaB, .evr, .safA, .safB, .pending] : List Part) ∧ p ∉ partsOf c := ⟨.pmbFaultClear, live, _,
    .mram, ⟨rfl, by decide, by decide⟩⟩
theorem witness_FramesOfModuleUnits_1 : ∃ (c : Instr) (s : State) (t : State) (p : Part), exec c s = .next t ∧ p ∈ ([.dies, .pins,
    .rst, .trs, .frm, .img, .kpr, .tmb, .ces, .acq, .sto] : List Part) ∧ p ∉ partsOf c := ⟨.pmbFaultClear, live, _, .frm, ⟨rfl, by
    decide, by decide⟩⟩
theorem witness_FramesOfFieldUnits_1 : ∃ (c : Instr) (s : State) (t : State) (p : Part), exec c s = .next t ∧ p ∈ ([.free, .evt,
    .cmb, .cyc, .hst, .fbk, .dor, .dsp, .saf, .fio, .can, .net] : List Part) ∧ p ∉ partsOf c := ⟨.pmbFaultClear, live, _, .net, ⟨rfl,
    by decide, by decide⟩⟩
theorem witness_ModuleResets_2 : ∃ (sup : Supply) (mv : Nat) (ns : Nat) (s : State), mv < resetLevel s.rst.vset sup ∧ 1000 ≤ ns :=
    ⟨.vio33, 0, 1000, live, by decide⟩
theorem witness_ModuleResets_3 : ∃ (sup : Supply) (mv : Nat) (ns : Nat) (s : State), (resetLevel s.rst.vset sup ≤ mv ∨ ns < 1000) :=
    ⟨.vio33, 0, 0, live, by decide⟩
theorem witness_ModuleResets_4 : ∃ (lowNs : Nat) (s : State), 5000 ≤ lowNs ∧ (s.rst.brace = .idle ∨ s.rst.brace = .parked) := ⟨5000,
    live, by decide⟩
theorem witness_ModuleResets_5 : ∃ (lowNs : Nat) (p : Bool) (s : State), 5000 ≤ lowNs ∧ s.rst.brace = .brace p ∧ s.rst.held = [] :=
    ⟨5000, true, { live with rst.brace := .brace true }, by decide⟩
theorem witness_ModuleResets_6 : ∃ (lowNs : Nat), lowNs < 2000 := ⟨1999, by decide⟩
theorem witness_ModuleResets_7 : ∃ (s : State), (s.rst.brace = .idle ∨ s.rst.brace = .parked) := ⟨live, by decide⟩
theorem witness_ModuleResets_8 : ∃ (p : Bool) (s : State), s.rst.brace = .brace p ∧ s.rst.held = [] := ⟨true, { live with rst.brace := .brace true },
    by decide⟩
theorem witness_ModuleResets_9 : ∃ (s : State), s.rst.brace = .committed ∧ s.rst.held = [] := ⟨{ live with rst.brace := .committed },
    by decide⟩
theorem witness_ModuleResets_10 : ∃ (s : State), s.rst.brace = .parked := ⟨{ live with rst.brace := .parked }, by decide⟩
theorem witness_IslandAndBlockResets_1 : ∃ (mask : BitVec 4) (s : State), accessHeld s 1 0 = false ∧ s.rst.brace = .idle ∧
    s.rst.island = none ∧ mask ≠ 0 := ⟨9, live, by decide⟩
theorem witness_IslandAndBlockResets_2 : ∃ (mask : BitVec 4) (s : State), accessHeld s 1 0 = false ∧ s.rst.brace = .idle ∧
    s.rst.block = none ∧ mask ≠ 0 := ⟨8, live, by decide⟩
theorem witness_IslandAndBlockResets_3 : ∃ (u : ResetUnit) (s : State), u ∈ blockOrder ∧ s.rst.island = none ∧ s.rst.block = some { units := [u], waiting := [u], asserted := false }
    := ⟨.sto, { live with rst.block := some { units := [.sto], waiting := [.sto], asserted := false } }, by decide⟩
theorem witness_IslandAndBlockResets_4 : ∃ (u : ResetUnit) (s : State), u ∈ islandOrder ∧ s.rst.block = none ∧ s.rst.island = some { units := [u], waiting := [u], asserted := false }
    := ⟨.io, { live with rst.island := some { units := [.io], waiting := [.io], asserted := false } }, by decide⟩
theorem witness_IslandAndBlockResets_5 : ∃ (u : ResetUnit) (s : State), u ∈ blockOrder ∧ s.rst.island = none ∧ s.rst.block = some { units := [u], waiting := [u], asserted := false }
    := ⟨.can, { live with rst.block := some { units := [.can], waiting := [.can], asserted := false } }, by decide⟩
theorem witness_IslandAndBlockResets_6 : ∃ (s : State), s.rst.asserted = true := ⟨State.reset, by decide⟩
theorem witness_IslandAndBlockResets_7 : ∃ (s : State) (r : ResetRun), s.rst.block = some r ∧ r.asserted = true := ⟨{ live with rst.block := some { units := [.sto], waiting := [], asserted := true } },
    { units := [.sto], waiting := [], asserted := true }, by decide⟩
theorem witness_IslandAndBlockResets_8 : ∃ (s : State) (r : ResetRun), s.rst.island = some r ∧ r.asserted = true ∧ startupDone s =
    true := ⟨{ live with rst.island := some { units := [.io], waiting := [], asserted := true } }, { units := [.io], waiting := [], asserted := true },
    by decide⟩
theorem witness_StartUpPhases_1 : ∃ (s : State), s.rst.stopped = false ∧ s.rst.asserted = false ∧ islandAsserted s = false ∧
    s.rst.phase = 1 := ⟨{ live with rst.phase := 1 }, by decide⟩
theorem witness_StartUpPhases_2 : ∃ (s : State), s.rst.stopped = false ∧ s.rst.asserted = false ∧ islandAsserted s = false ∧
    s.rst.phase = 2 := ⟨{ live with rst.phase := 2 }, by decide⟩
theorem witness_StartUpPhases_3 : ∃ (s : State), s.rst.stopped = false ∧ s.rst.asserted = false ∧ islandAsserted s = false ∧
    s.rst.phase = 3 := ⟨{ live with rst.phase := 3 }, by decide⟩
theorem witness_StartUpPhases_4 : ∃ (s : State), s.rst.stopped = false ∧ s.rst.asserted = false ∧ islandAsserted s = false ∧
    s.rst.phase = 4 := ⟨{ live with rst.phase := 4 }, by decide⟩
theorem witness_StartUpPhases_5 : ∃ (s : State), s.rst.stopped = false ∧ s.rst.asserted = false ∧ islandAsserted s = false ∧
    s.rst.phase = 5 ∧ s.dies.io = .inReset := ⟨{ live with rst.phase := 5, dies.io := .inReset }, by decide⟩
theorem witness_StartUpPhases_6 : ∃ (s : State), s.rst.stopped = false ∧ s.rst.asserted = false ∧ islandAsserted s = false ∧
    s.rst.phase = 6 ∧ s.frm.benchArmed = false := ⟨{ live with rst.phase := 6 }, by decide⟩
theorem witness_StartUpPhases_7 : ∃ (s : State), s.rst.stopped = false ∧ s.rst.asserted = false ∧ islandAsserted s = false ∧
    s.rst.phase = 7 := ⟨{ live with rst.phase := 7 }, by decide⟩
theorem witness_StartUpPhases_8 : ∃ (s : State), s.rst.stopped = false ∧ s.rst.asserted = false ∧ islandAsserted s = false ∧
    s.rst.phase = 8 := ⟨{ live with rst.phase := 8 }, by decide⟩
theorem witness_StartUpPhases_9 : ∃ (s : State), s.rst.phase = 2 ∧ running s .keeper = true := ⟨{ live with rst.phase := 2 }, by
    decide⟩
theorem witness_StartUpPhases_10 : ∃ (s : State), 1 ≤ s.rst.phase ∧ s.rst.phase ≤ 8 ∧ s.rst.asserted = false := ⟨{ live with rst.phase := 8 },
    by decide⟩
theorem witness_StartUpPhases_11 : ∃ (s : State), s.rst.stopped = true := ⟨{ live with rst.stopped := true }, by decide⟩
theorem witness_VcoreFloorAndBrace_1 : ∃ (s : State) (n : Nat) (v : Nat), s.rst.vloop = true ∧ slowestMon s.trs = some (n, v) ∧ v <
    2000 ∧ s.rst.vset < ceilActs s.rst := ⟨{ live with rst.vloop := true, trs.mons := [(3, { valid := true, rate := 1999 })] }, 3,
    1999, by decide⟩
theorem witness_VcoreFloorAndBrace_2 : ∃ (s : State) (n : Nat) (v : Nat), s.rst.vloop = true ∧ slowestMon s.trs = some (n, v) ∧ 2100
    < v ∧ 500 ≤ s.rst.fastSteps ∧ 49 ≤ s.rst.sinceLower ∧ s.trs.therm = 0 ∧ 600 < s.rst.vset := ⟨{ live with rst.vloop := true, rst.fastSteps := 500, rst.sinceLower := 49, trs.mons := [(3, { valid := true, rate := 2101 })] },
    3, 2101, by decide⟩
theorem witness_VcoreFloorAndBrace_4 : ∃ (s : State), accessHeld s 1 0 = false ∧ s.rst.pmbFault = true := ⟨{ live with rst.pmbFault := true },
    by decide⟩
theorem witness_VcoreFloorAndBrace_7 : ∃ (n : Fin 128) (s : State), routerUp s (monitorPort n.val) = true := ⟨0, { live with trs.routers := [0] },
    by decide⟩
theorem witness_VcoreFloorAndBrace_8 : ∃ (ns : Nat) (s : State), 2000 ≤ ns ∧ s.rst.brace = .idle ∧ (s.rst.phase = 9 ∨ s.rst.phase =
    15) ∧ s.rst.asserted = false := ⟨2000, live, by decide⟩
theorem witness_VcoreFloorAndBrace_9 : ∃ (x : Supply) (mv : Nat) (ns : Nat) (s : State), mv < warnLevel s.rst.vset x ∧ 2000 ≤ ns ∧
    s.rst.brace = .idle ∧ (s.rst.phase = 9 ∨ s.rst.phase = 15) ∧ s.rst.asserted = false := ⟨default, 0, 2000, live, by decide⟩
theorem witness_VcoreFloorAndBrace_10 : ∃ (x : Supply) (mv : Nat) (ns : Nat) (s : State), (warnLevel s.rst.vset x ≤ mv ∨ ns < 1000)
    := ⟨.vcore, 0, 0, live, by decide⟩
theorem witness_VcoreFloorAndBrace_11 : ∃ (s : State), s.rst.brace = .brace false := ⟨{ live with rst.brace := .brace false }, by
    decide⟩
theorem witness_VcoreFloorAndBrace_12 : ∃ (s : State) (p : Bool), s.rst.brace = .brace p ∧ s.rst.held = [] := ⟨{ live with rst.brace := .brace true },
    true, by decide⟩
theorem witness_VcoreFloorAndBrace_13 : ∃ (s : State) (p : Bool), s.rst.brace = .brace p := ⟨{ live with rst.brace := .brace true },
    true, by decide⟩
theorem witness_VcoreFloorAndBrace_14 : ∃ (s : State), s.rst.brace = .committed ∧ s.rst.held = [] := ⟨{ live with rst.brace := .committed },
    by decide⟩
theorem witness_TrussAndThermal_1 : ∃ (link : Fin 1024) (vc : Fin 4) (pair : FlitPair) (noise : FlitPair) (s : State), (linkOf s
    link.val).unreachable = false ∧ routerUp s (linkPort link.val) = true ∧ (vcOf (linkOf s link.val) vc.val).replay = none ∧ (vcOf
    (linkOf s link.val) vc.val).retryAsked = false ∧ 2 ≤ (vcOf (linkOf s link.val) vc.val).credits ∧ pairGood (disturbed pair noise)
    = true ∧ (vcOf (linkOf s link.val) vc.val).lastSeq ≠ some (disturbed pair noise).seq := ⟨0, 0, goodPair, ⟨⟨0, 0⟩, ⟨0, 0⟩, false⟩,
    { live with trs.routers := [linkPort 0] }, ⟨rfl, by simp [routerUp], rfl, rfl, by decide, by simp [pairGood, disturbed,
    goodPair], by decide⟩⟩
theorem witness_TrussAndThermal_2 : ∃ (link : Fin 1024) (vc : Fin 4) (pair : FlitPair) (noise : FlitPair) (s : State), (linkOf s
    link.val).unreachable = false ∧ routerUp s (linkPort link.val) = true ∧ (vcOf (linkOf s link.val) vc.val).replay = none ∧ (vcOf
    (linkOf s link.val) vc.val).retryAsked = false ∧ 2 ≤ (vcOf (linkOf s link.val) vc.val).credits ∧ pairGood (disturbed pair noise)
    = false := ⟨0, 0, goodPair, ⟨⟨0, 1⟩, ⟨0, 0⟩, false⟩, { live with trs.routers := [linkPort 0] }, ⟨rfl, by simp [routerUp], rfl,
    rfl, by decide, badPair_bad⟩⟩
theorem witness_TrussAndThermal_3 : ∃ (link : Fin 1024) (vc : Fin 4) (s : State) (p : FlitPair) (k : Nat), (vcOf (linkOf s link.val)
    vc.val).replay = some (p, k) ∧ (vcOf (linkOf s link.val) vc.val).retryAsked = true := ⟨0, 0, { live with trs.links := [(0, { vc0 := { replay := some (default, 1), retryAsked := true } })] },
    default, 1, by decide⟩
theorem witness_TrussAndThermal_5 : ∃ (link : Fin 1024) (s : State), (linkOf s link.val).resync = true ∧ linkEmpty (linkOf s
    link.val) = true := ⟨0, { live with trs.links := [(0, { resync := true })] }, by decide⟩
theorem witness_TrussAndThermal_6 : ∃ (temps : List Int), temps ≠ [] ∧ temps.length ≤ 32 := ⟨[40, 90, 50], by decide⟩
theorem witness_TrussAndThermal_7 : ∃ (s : State), (thermPending s.trs.therm s.trs.rise s.trs.fall).1 ≠ s.trs.therm ∧ 2001 ≤
    (thermPending s.trs.therm s.trs.rise s.trs.fall).2 := ⟨{ live with trs.rise := [2001, 0, 0] }, by decide⟩
theorem witness_TrussAndThermal_8 : ∃ (s : State), accessHeld s 2 0 = false := ⟨live, by decide⟩
theorem witness_SealAndPresence_1 : ∃ (s : State), running s .keeper = true := ⟨live, by decide⟩
theorem witness_SealAndPresence_2 : ∃ (s : State), running s .keeper = true ∧ s.frm.sealRight < 1024 := ⟨live, by decide⟩
theorem witness_SealAndPresence_3 : ∃ (s : State), running s .keeper = true ∧ s.frm.loopOk = true := ⟨{ live with frm.loopOk := true },
    by decide⟩
theorem witness_SealAndPresence_5 : ∃ (s : State), accessHeld s 3 0 = false ∧ s.frm.presence = true ∧ s.frm.tamper = true := ⟨{ live with frm.presence := true, frm.tamper := true },
    by decide⟩
theorem witness_SealAndPresence_6 : ∃ (s : State), accessHeld s 3 0 = false ∧ s.frm.busy = false ∧ s.frm.tamper = false ∧
    s.frm.log.length < 16384 ∧ s.frm.presence = true := ⟨{ live with frm.presence := true }, by decide⟩
theorem witness_SealAndPresence_7 : ∃ (s : State), accessHeld s 3 0 = false := ⟨live, by decide⟩
theorem witness_LoadAndKeys_1 : ∃ (s : State), accessHeld s 3 0 = false ∧ s.frm.setState ≠ .staging ∧ s.frm.pending = false ∧
    s.rst.brace = .idle ∧ s.frm.handover = false ∧ s.frm.busy = false ∧ setFetched s (!s.frm.activeSet) = false ∧ s.frm.tamper =
    false ∧ s.frm.log.length < 16384 := ⟨live, by decide⟩
theorem witness_LoadAndKeys_2 : ∃ (s : State), accessHeld s 3 0 = false ∧ s.frm.setState = .staging := ⟨{ live with frm.setState := .staging },
    by decide⟩
theorem witness_LoadAndKeys_3 : ∃ (s : State), s.frm.setState = .staging ∧ 0 < leAt (bankBytes s.frm (!s.frm.activeSet)) 8 8 ∧ leAt
    (bankBytes s.frm (!s.frm.activeSet)) 8 8 ≤ s.frm.stageGot := ⟨{ live with frm.setState := .staging, frm.setB := [(8, 64)], frm.stageGot := 64 },
    by decide⟩
theorem witness_LoadAndKeys_4 : ∃ (s : State), accessHeld s 3 0 = false ∧ frmServiceLost s = false ∧ s.frm.setState = .staged ∧
    s.frm.busy = false ∧ s.frm.tamper = false := ⟨{ live with frm.setState := .staged }, by decide⟩
theorem witness_LoadAndKeys_5 : ∃ (s : State), accessHeld s 3 0 = false ∧ s.frm.setState ≠ .staged := ⟨live, by decide⟩
theorem witness_LoadAndKeys_6 : ∃ (s : State), accessHeld s 3 0 = false ∧ frmServiceLost s = false ∧ s.frm.setState = .verifiedStruct
    ∧ s.frm.busy = false ∧ s.frm.handover = false ∧ s.frm.tamper = false ∧ s.frm.log.length < 16384 ∧ s.frm.presence = true ∧
    holderBars s = false := ⟨{ live with frm.setState := .verifiedStruct, frm.presence := true, net.partner := some default }, by
    decide⟩
theorem witness_LoadAndKeys_7 : ∃ (s : State), accessHeld s 3 0 = false ∧ frmServiceLost s = false ∧ s.frm.setState = .verifiedCode ∧
    s.frm.busy = false ∧ s.frm.handover = false ∧ s.frm.tamper = false ∧ s.frm.log.length < 16384 := ⟨{ live with frm.setState := .verifiedCode },
    by decide⟩
theorem witness_LoadAndKeys_8 : ∃ (s : State), accessHeld s 3 0 = false ∧ s.frm.setState ≠ .verifiedCode ∧ s.frm.setState ≠
    .verifiedStruct := ⟨live, by decide⟩
theorem witness_LoadAndKeys_9 : ∃ (s : State), accessHeld s 3 0 = false ∧ frmServiceLost s = false ∧ s.frm.setState = .previous ∧
    s.frm.busy = false ∧ s.frm.handover = false ∧ s.frm.tamper = false ∧ s.frm.log.length < 16384 ∧ s.frm.presence = true ∧ s.frm.cls
    ≠ 1 ∧ holderBars s = false := ⟨{ live with frm.setState := .previous, frm.presence := true, frm.cls := 3 }, by decide⟩
theorem witness_LoadAndKeys_10 : ∃ (s : State), accessHeld s 3 0 = false ∧ s.frm.setState ≠ .previous := ⟨live, by decide⟩
theorem witness_LoadAndKeys_11 : ∃ (s : State), accessHeld s 3 0 = false ∧ s.frm.setState = .staged ∧ s.frm.busy = false ∧ setFetched
    s (!s.frm.activeSet) = false := ⟨{ live with frm.setState := .staged }, by decide⟩
theorem witness_LoadAndKeys_12 : ∃ (s : State), accessHeld s 3 0 = false ∧ s.frm.tamper = false ∧ s.frm.log.length < 16384 ∧
    s.frm.presence = true ∧ enrolledKeys s.frm = [] := ⟨{ live with frm.presence := true }, by decide⟩
theorem witness_LoadAndKeys_13 : ∃ (s : State), accessHeld s 3 0 = false ∧ s.frm.tamper = false ∧ s.frm.log.length < 16384 ∧
    s.frm.presence = true ∧ enrolledKeys s.frm ≠ [] := ⟨{ live with frm.presence := true, frm.key0 := some [1] }, by decide⟩
theorem witness_LoadAndKeys_14 : ∃ (slot : Fin 2) (s : State), accessHeld s 3 0 = false ∧ s.frm.tamper = false ∧ s.frm.log.length <
    16384 ∧ s.frm.presence = true ∧ (keySlot s.frm slot.val).isSome = true ∧ 2 ≤ (enrolledKeys s.frm).length := ⟨0, { live with frm.presence := true, frm.key0 := some [7], frm.key1 := some [8] },
    by decide⟩
theorem witness_CanFramesAndErrors_1 : ∃ (n : Fin 16) (s : State), canHears s n.val = true ∧ ((canOf s n.val).rxWr - (canOf s
    n.val).rxRd).toNat ≠ 4096 := ⟨0, canLive, by decide⟩
theorem witness_CanFramesAndErrors_2 : ∃ (n : Fin 16) (s : State), canHears s n.val = true ∧ ((canOf s n.val).rxWr - (canOf s
    n.val).rxRd).toNat = 4096 := ⟨0, { canLive with can := [(0, { canUp with rxWr := 4096 })] }, by decide⟩
theorem witness_CanFramesAndErrors_3 : ∃ (n : Fin 16) (s : State) (k : CanCfg) (st : CanStage), accessHeld s 13 0 = false ∧ (canOf s
    n.val).held = none ∧ st = (canOf s n.val).pushing.getD (canOf s n.val).stage ∧ canCfg s n.val = some k ∧ k.listen = false ∧
    lenAllowed (bitAt st.flags 30) (fld st.flags 15 8) = true ∧ (bitAt st.flags 30 = true → k.fdEn = true) ∧ (bitAt st.flags 29 =
    true → bitAt st.flags 30 = true) ∧ (bitAt st.flags 27 = true → bitAt st.flags 30 = false) ∧ (canOf s n.val).fifo.length < 64 ∧
    (canOf s n.val).suppress = false := ⟨0, canLive, canOne, default, by decide⟩
theorem witness_CanFramesAndErrors_4 : ∃ (n : Fin 16) (s : State), accessHeld s 13 0 = false ∧ (canOf s n.val).pushing.isSome = true
    ∧ (canOf s n.val).held = none := ⟨0, { canLive with can := [(0, { canUp with pushing := some default })] }, by decide⟩
theorem witness_CanFramesAndErrors_5 : ∃ (n : Fin 16) (s : State), accessHeld s 13 0 = false ∧ (canOf s n.val).pushing = none ∧
    (canOf s n.val).fifo ≠ [] ∧ (canOf s n.val).suppress = false ∧ (canOf s n.val).removal = none := ⟨0, canFull, by decide⟩
theorem witness_CanFramesAndErrors_6 : ∃ (n : Fin 16) (s : State), accessHeld s 13 0 = false ∧ (canOf s n.val).pushing = none ∧
    (canOf s n.val).suppress = false := ⟨0, canFull, by decide⟩
theorem witness_CanFramesAndErrors_7 : ∃ (n : Fin 16) (s : State), running s .io = true ∧ (canOf s n.val).headTmo ≠ 0 ∧ canState s
    n.val ≠ 4 ∧ (canOf s n.val).fifo ≠ [] ∧ (canOf s n.val).suppress = false := ⟨0, { canLive with can := [(0, { canUp with headTmo := 1, fifo := [canFrame] })] },
    by decide⟩
theorem witness_CanFramesAndErrors_8 : ∃ (n : Fin 16) (s : State), canSends s n.val = true ∧ (canOf s n.val).fifo ≠ [] ∧ (canOf s
    n.val).suppress = false ∧ canAskedIdle s = false := ⟨0, canFull, by decide⟩
theorem witness_CanFramesAndErrors_9 : ∃ (n : Fin 16) (v : Word) (s : State), accessHeld s 13 0 = false ∧ (v - (canOf s
    n.val).rxRd).toNat ≤ ((canOf s n.val).rxWr - (canOf s n.val).rxRd).toNat := ⟨0, 1, { canLive with can := [(0, { canUp with rxWr := 2 })] },
    by decide⟩
theorem witness_CanFramesAndErrors_10 : ∃ (n : Fin 16) (v : Word) (s : State), ((canOf s n.val).rxWr - (canOf s n.val).rxRd).toNat <
    (v - (canOf s n.val).rxRd).toNat := ⟨0, 3, { canLive with can := [(0, { canUp with rxWr := 2 })] }, by decide⟩
theorem witness_CanFramesAndErrors_11 : ∃ (n : Fin 16) (s : State), canHears s n.val = true := ⟨0, canLive, by decide⟩
theorem witness_CanFramesAndErrors_12 : ∃ (n : Fin 16) (s : State), canSends s n.val = true ∧ (canOf s n.val).removal = none := ⟨0,
    canLive, by decide⟩
theorem witness_CanFramesAndErrors_13 : ∃ (n : Fin 16) (s : State), canSends s n.val = true ∧ (canOf s n.val).removal = none := ⟨0,
    canLive, by decide⟩
theorem witness_CanFramesAndErrors_14 : ∃ (n : Fin 16) (s : State), accessHeld s 13 0 = false ∧ (canOf s n.val).pushing = none ∧
    (canOf s n.val).busOff = true := ⟨0, { canLive with can := [(0, { canUp with busOff := true })] }, by decide⟩
theorem witness_CanFramesAndErrors_15 : ∃ (n : Fin 16) (s : State) (k : CanCfg), canState s n.val = 4 ∧ canCfg s n.val = some k ∧
    (k.autoRecover = true ∨ (canOf s n.val).recovering = true) := ⟨0, { canLive with can := [(0, { canUp with busOff := true, recovering := true })] },
    canOne, by decide⟩
theorem witness_CanFramesAndErrors_16 : ∃ (n : Fin 16) (s : State), canState s n.val = 1 := ⟨0, { canLive with can := [(0, { integrating := true })] },
    by decide⟩
theorem witness_CanFramesAndErrors_17 : ∃ (n : Nat) (s : State), s.pins.vio18 = true ∧ s.dies.io ≠ .unpowered ∧ (canSends s n = false
    ∨ (canOf s n).fifo = []) := ⟨0, canLive, by decide⟩
theorem witness_ArithmeticResults_1 : ∃ (n : Fin 128) (g : Guard) (op : AluOp) (ra : Fin 32) (b : Src) (s : State) (w : Word), Issues
    s n ∧ guardOn (ceOf s n.val) g = true ∧ aluOp op (greg (ceOf s n.val) ra.val) (srcVal (ceOf s n.val) b) = some w := ⟨0, default,
    .add, 1, .imm 0xFFF, ceLive, 0x3F, by decide⟩
theorem witness_ArithmeticResults_2 : ∃ (n : Fin 128) (g : Guard) (i : IntInstr) (s : State) (c : Ce), Issues s n ∧ guardOn (ceOf s
    n.val) g = true ∧ runInt (ceOf s n.val) i = some c := ⟨0, default, .alu .divu 3 1 (.reg 1), ceLive, _, ⟨by decide, by decide,
    rfl⟩⟩
theorem witness_ArithmeticResults_3 : ∃ (n : Fin 128) (g : Guard) (i : IntInstr) (s : State), Issues s n ∧ i ≠ .illegal ∧ guardOn
    (ceOf s n.val) g = false := ⟨0, never, default, ceLive, by decide⟩
theorem witness_ArithmeticResults_4 : ∃ (n : Fin 128) (g : Guard) (s : State), Issues s n ∧ guardOn (ceOf s n.val) g = true := ⟨0,
    default, ceLive, by decide⟩
theorem witness_ArithmeticResults_5 : ∃ (n : Fin 128) (g : Guard) (s : State), Issues s n ∧ guardOn (ceOf s n.val) g = true := ⟨0,
    default, ceLive, by decide⟩
theorem witness_ArithmeticResults_6 : ∃ (n : Fin 128) (g : Guard) (s : State), Issues s n ∧ guardOn (ceOf s n.val) g = false := ⟨0,
    never, ceLive, by decide⟩
theorem witness_ArithmeticResults_7 : ∃ (n : Fin 128) (g : Guard) (op : AluOp) (va : Fin 16) (vb : Fin 16) (s : State), Issues s n ∧
    (∀ k ∈ activeLanes (ceOf s n.val) g, (aluOp op (vlane (ceOf s n.val) va.val k) (vlane (ceOf s n.val) vb.val k)).isSome = true) :=
    ⟨0, default, .add, 2, 3, ceLive, by decide⟩
theorem witness_ArithmeticResults_8 : ∃ (n : Fin 128) (g : Guard) (i : VecInstr) (s : State) (c : Ce), Issues s n ∧ runVec (ceOf s
    n.val) (activeLanes (ceOf s n.val) g) (freeLane s) i = some c := ⟨0, default, .bcast 2 1, ceLive, _, ⟨by decide, rfl⟩⟩
theorem witness_RegistersAndIntegerResults_3 : ∃ (k : Nat), k < 16 := ⟨15, by decide⟩
theorem witness_RegistersAndIntegerResults_9 : ∃ (b : Word), b ≠ 0 := ⟨1, by decide⟩
theorem witness_RegistersAndIntegerResults_10 : ∃ (b : Word), b ≠ 0 := ⟨1, by decide⟩
theorem witness_LoadsStoresAndProgramStore_1 : ∃ (n : Fin 128) (g : Guard) (kind : LoadKind) (ra : Fin 32) (imm : BitVec 12) (ecc :
    List Ecc) (s : State), Issues s n ∧ kind ≠ .v ∧ guardOn (ceOf s n.val) g = true ∧ eccAt ecc 0 = .clean ∧ (dataAddr (ceOf s n.val)
    ra.val imm).toNat % loadSize kind = 0 ∧ (dataAddr (ceOf s n.val) ra.val imm).toNat < 0x80000 := ⟨0, default, .bu, 1, 0xFFF, [],
    ceLive, by decide⟩
theorem witness_LoadsStoresAndProgramStore_2 : ∃ (n : Fin 128) (g : Guard) (ra : Fin 32) (imm : BitVec 12) (s : State), Issues s n ∧
    guardBits (ceOf s n.val) g ≠ 0 ∧ (dataAddr (ceOf s n.val) ra.val imm).toNat % 64 = 0 ∧ (dataAddr (ceOf s n.val) ra.val imm).toNat
    < 0x80000 := ⟨0, default, 1, 0, ceLive, by decide⟩
theorem witness_LoadsStoresAndProgramStore_3 : ∃ (n : Fin 128) (g : Guard) (kind : LoadKind) (ra : Fin 32) (imm : BitVec 12) (ecc :
    List Ecc) (s : State), Issues s n ∧ kind ≠ .v ∧ guardOn (ceOf s n.val) g = true ∧ eccAt ecc 0 = .corrected ∧ (dataAddr (ceOf s
    n.val) ra.val imm).toNat % loadSize kind = 0 ∧ (dataAddr (ceOf s n.val) ra.val imm).toNat < 0x80000 := ⟨0, default, .w, 1, 0,
    [.corrected], ceLive, by decide⟩
theorem witness_LoadsStoresAndProgramStore_4 : ∃ (n : Fin 128) (g : Guard) (kind : LoadKind) (ra : Fin 32) (imm : BitVec 12) (ecc :
    List Ecc) (s : State), Issues s n ∧ kind ≠ .v ∧ guardOn (ceOf s n.val) g = true ∧ xact (ceOf s n.val) = false ∧ eccAt ecc 0 =
    .double ∧ (dataAddr (ceOf s n.val) ra.val imm).toNat % loadSize kind = 0 ∧ (dataAddr (ceOf s n.val) ra.val imm).toNat < 0x80000
    := ⟨0, default, .w, 1, 0, [.double], ceLive, by decide⟩
theorem witness_LoadsStoresAndProgramStore_5 : ∃ (n : Fin 128) (g : Guard) (kind : StoreKind) (ra : Fin 32) (imm : BitVec 12) (s :
    State), Issues s n ∧ kind ≠ .v ∧ guardOn (ceOf s n.val) g = true ∧ (dataAddr (ceOf s n.val) ra.val imm).toNat % storeSize kind =
    0 ∧ (dataAddr (ceOf s n.val) ra.val imm).toNat < 0x80000 := ⟨0, default, .h, 1, 0, ceLive, by decide⟩
theorem witness_LoadsStoresAndProgramStore_6 : ∃ (n : Fin 128) (g : Guard) (ra : Fin 32) (imm : BitVec 12) (s : State) (bank : Nat),
    Issues s n ∧ guardOn (ceOf s n.val) g = true ∧ (dataAddr (ceOf s n.val) ra.val imm).toNat % 4 = 0 ∧ dataRegion (dataAddr (ceOf s
    n.val) ra.val imm) = .mram bank ∧ 8 ≤ bank ∧ bankRight s n.val (ceOf s n.val).priv bank = .readWrite ∧ bankRuns s bank = true :=
    ⟨0, default, 2, 0, bankLive, 10, by decide⟩
theorem witness_LoadsStoresAndProgramStore_7 : ∃ (n : Fin 128) (s : State), Issues s n ∧ xact (ceOf s n.val) = false := ⟨0, ceLive,
    by decide⟩
theorem witness_LoadsStoresAndProgramStore_8 : ∃ (n : Fin 128) (s : State), Issues s n ∧ xact (ceOf s n.val) = false := ⟨0, ceLive,
    by decide⟩
theorem witness_LoadsStoresAndProgramStore_9 : ∃ (n : Fin 128) (s : State), (ceOf s n.val).st ≠ .off := ⟨0, ceLive, by decide⟩
theorem witness_LoadsStoresAndProgramStore_10 : ∃ (n : Fin 128) (addr : Word) (s : State), (ceOf s n.val).st ≠ .off ∧ (ceOf s
    n.val).badLine ≠ some (addr.toNat / 64) := ⟨0, 0x140, ceLive, by decide⟩
theorem witness_LoadsStoresAndProgramStore_11 : ∃ (n : Fin 128) (addr : Word) (s : State), (ceOf s n.val).st = .run ∧ (ceOf s
    n.val).badLine = some (addr.toNat / 64) ∧ xact (ceOf s n.val) = false := ⟨0, 0x100, { live with ces := [(0, { ceRun with badLine := some 4 })] },
    by decide⟩
theorem witness_LoadsStoresAndProgramStore_12 : ∃ (n : Fin 128) (ra : Fin 32) (imm : BitVec 12) (s : State) (bank : Nat), dataRegion
    (dataAddr (ceOf s n.val) ra.val imm) = .mram bank ∧ bank < 8 := ⟨0, 1, 0, { live with ces := [(0, { ceRun with g := [(1, 0x40000000)] })] },
    0, by decide⟩
theorem witness_LoadsStoresAndProgramStore_13 : ∃ (n : Fin 128) (g : Guard) (kind : StoreKind) (ra : Fin 32) (imm : BitVec 12) (s :
    State) (bank : Nat), Issues s n ∧ guardBits (ceOf s n.val) g ≠ 0 ∧ (kind ≠ .v → guardOn (ceOf s n.val) g = true) ∧ xact (ceOf s
    n.val) = false ∧ dataRegion (dataAddr (ceOf s n.val) ra.val imm) = .mram bank ∧ bank < 8 ∧ (dataAddr (ceOf s n.val) ra.val
    imm).toNat % storeSize kind = 0 := ⟨0, default, .w, 1, 0, { live with ces := [(0, { ceRun with g := [(1, 0x4FFFFFFC)] })] }, 7,
    by decide⟩
theorem witness_ControlFlow_1 : ∃ (n : Fin 128) (s : State), Issues s n ∧ flowIllegal (ceOf s n.val) true = false := ⟨0, ceLive, by
    decide⟩
theorem witness_ControlFlow_2 : ∃ (n : Fin 128) (f : FmtJ) (s : State), Issues s n ∧ flowIllegal (ceOf s n.val) true = false ∧
    guardOn (ceOf s n.val) f.guard = true := ⟨0, ⟨default, 0x3FFFFA⟩, ceLive, by decide⟩
theorem witness_ControlFlow_3 : ∃ (n : Fin 128) (f : FmtR) (s : State), Issues s n ∧ flowIllegal (ceOf s n.val) true = false ∧
    guardOn (ceOf s n.val) f.guard = true ∧ f.rb.val = 0 ∧ f.fn = 0 := ⟨0, ⟨default, 4, 1, 0, 0⟩, ceLive, by decide⟩
theorem witness_ControlFlow_4 : ∃ (n : Fin 128) (f : FmtJ) (s : State), Issues s n ∧ flowIllegal (ceOf s n.val) true = false ∧
    guardOn (ceOf s n.val) f.guard = false := ⟨0, ⟨never, 0x3FFFFA⟩, ceLive, by decide⟩
theorem witness_ControlFlow_5 : ∃ (n : Fin 128) (f : FmtR) (s : State), Issues s n ∧ flowIllegal (ceOf s n.val) true = false ∧
    guardOn (ceOf s n.val) f.guard = false ∧ f.rb.val = 0 ∧ f.fn = 0 := ⟨0, ⟨never, 4, 1, 0, 0⟩, ceLive, by decide⟩
theorem witness_ControlFlow_6 : ∃ (n : Fin 128) (f : FmtL) (s : State) (cnt : Word), Issues s n ∧ flowIllegal (ceOf s n.val) false =
    false ∧ guardOn (ceOf s n.val) f.guard = true ∧ f.stop ≠ 0 ∧ (f.i = false → f.mid.toNat < 32) ∧ (ceOf s n.val).lc0 = 0 ∧ (ceOf s
    n.val).lc1 = 0 ∧ cnt = (if f.i then wordN f.mid.toNat else greg (ceOf s n.val) (f.mid.toNat % 32)) ∧ cnt ≠ 0 := ⟨0, ⟨default,
    true, true, 3, 4⟩, ceLive, 3, by decide⟩
theorem witness_ControlFlow_7 : ∃ (n : Fin 128) (f : FmtL) (s : State), Issues s n ∧ flowIllegal (ceOf s n.val) false = false ∧
    guardOn (ceOf s n.val) f.guard = true ∧ f.stop ≠ 0 ∧ (f.i = false → f.mid.toNat < 32) ∧ (ceOf s n.val).lc0 = 0 ∧ (ceOf s
    n.val).lc1 = 0 ∧ (if f.i then wordN f.mid.toNat else greg (ceOf s n.val) (f.mid.toNat % 32)) = 0 := ⟨0, ⟨default, false, true, 0,
    4⟩, ceLive, by decide⟩
theorem witness_ControlFlow_8 : ∃ (n : Fin 128) (f : FmtR) (s : State), Issues s n ∧ flowIllegal (ceOf s n.val) false = false ∧
    guardOn (ceOf s n.val) f.guard = true ∧ f.rd.val = 0 ∧ f.ra.val = 0 ∧ f.rb.val = 0 ∧ (f.fn = 0 ∨ f.fn = 1) := ⟨0, ⟨default, 0, 0,
    0, 1⟩, ceLive, by decide⟩
theorem witness_ControlFlow_9 : ∃ (c : Ce), c.slot = none ∧ c.shadow = none ∧ c.loopen = true ∧ c.pc = c.le1 ∧ 1 < c.lc1.toNat := ⟨{ ceRun with le1 := 0x100, lc1 := 2 },
    by decide⟩
theorem witness_ControlFlow_10 : ∃ (c : Ce), c.slot = none ∧ c.shadow = none ∧ c.lc0 = 0 ∧ c.lc1 = 0 := ⟨ceRun, by decide⟩
theorem witness_ControlFlow_11 : ∃ (c : Ce) (d : Slot), c.slot = some d ∧ c.shadow = none ∧ c.lc0 = 0 ∧ c.lc1 = 0 := ⟨{ ceRun with slot := some ⟨0xFC, 0x200⟩ },
    ⟨0xFC, 0x200⟩, by decide⟩
theorem witness_ControlFlow_12 : ∃ (c : Ce) (d : Slot), c.slot = some d ∧ c.shadow = none ∧ c.loopen = true ∧ c.pc = c.le1 ∧ 1 <
    c.lc1.toNat := ⟨{ ceRun with slot := some ⟨0xFC, 0x200⟩, loopen := true, pc := 0x100, le1 := 0x100, lc1 := 2 }, ⟨0xFC, 0x200⟩, by
    decide⟩
theorem witness_SystemInstructions_1 : ∃ (n : Fin 128) (g : Guard) (sr : Fin 32) (s : State) (w : Word), Issues s n ∧ guardOn (ceOf s
    n.val) g = true ∧ specialReg (ceOf s n.val) sr.val = some w ∧ ((ceOf s n.val).priv = true ∨ taskReads sr.val = true) := ⟨0,
    default, 6, ceLive, _, ⟨by decide, by decide, rfl, by decide⟩⟩
theorem witness_SystemInstructions_2 : ∃ (n : Fin 128) (g : Guard) (sr : Fin 32) (s : State), Issues s n ∧ guardOn (ceOf s n.val) g =
    true ∧ (specialReg (ceOf s n.val) sr.val).isSome = true ∧ sr.val ≠ 6 ∧ (ceOf s n.val).priv = true := ⟨0, default, 5, ceLive, by
    decide⟩
theorem witness_SystemInstructions_3 : ∃ (n : Fin 128) (f : FmtI) (s : State), Issues s n ∧ flowIllegal (ceOf s n.val) false = false
    ∧ f.rd.val = 0 ∧ f.ra.val = 0 ∧ guardOn (ceOf s n.val) f.guard = true ∧ xact (ceOf s n.val) = false := ⟨0, default, ceLive, by
    decide⟩
theorem witness_SystemInstructions_4 : ∃ (n : Fin 128) (f : FmtR) (s : State), Issues s n ∧ flowIllegal (ceOf s n.val) false = false
    ∧ f.rd.val = 0 ∧ f.ra.val = 0 ∧ f.rb.val = 0 ∧ f.fn = 0 ∧ guardOn (ceOf s n.val) f.guard = true ∧ xact (ceOf s n.val) = false :=
    ⟨0, default, ceLive, by decide⟩
theorem witness_SystemInstructions_5 : ∃ (n : Fin 128) (f : FmtR) (s : State), Issues s n ∧ flowIllegal (ceOf s n.val) false = false
    ∧ f.rd.val = 0 ∧ f.ra.val = 0 ∧ f.rb.val = 0 ∧ f.fn = 0 ∧ guardOn (ceOf s n.val) f.guard = true ∧ (ceOf s n.val).priv = true :=
    ⟨0, default, { live with ces := [(0, { ceRun with xstatus := 0x80000000, epc := 0x200 })] }, by decide⟩
theorem witness_SystemInstructions_6 : ∃ (n : Fin 128) (f : FmtR) (s : State), Issues s n ∧ flowIllegal (ceOf s n.val) false = false
    ∧ f.rd.val = 0 ∧ f.rb.val = 0 ∧ f.fn = 0 ∧ guardOn (ceOf s n.val) f.guard = true ∧ (ceOf s n.val).priv = true ∧ (ceOf s
    n.val).shadow = none := ⟨0, ⟨default, 0, 1, 0, 0⟩, ceLive, by decide⟩
theorem witness_SystemInstructions_7 : ∃ (c : Ce) (p : Bool) (x : Nat), c.shadow = some ⟨2, p, x⟩ := ⟨{ ceRun with shadow := some ⟨2, false, 3⟩ },
    false, 3, by decide⟩
theorem witness_SystemInstructions_8 : ∃ (c : Ce) (s : Nat), s ≠ 6 ∧ (specialReg c s).isSome = true ∧ s ≠ 1 ∧ s ≠ 2 ∧ s ≠ 5 :=
    ⟨ceRun, 8, by decide⟩
theorem witness_ExceptionEntryAndReturn_1 : ∃ (cause : Nat), cause < 16 := ⟨7, by decide⟩
theorem witness_ExceptionEntryAndReturn_2 : ∃ (cause : Nat) (elem : Nat) (c : Ce), cause < 16 ∧ elem ≤ 16 ∧ c.tctx < 1024 ∧ (∀ d,
    c.slot = some d → c.pc = d.branch + 4) ∧ (∀ h, c.shadow = some h → 0 < h.left ∧ h.left ≤ 2 ∧ h.tctx < 1024) := ⟨7, 16, { ceRun with slot := some ⟨0xFC, 0x200⟩, tctx := 1023 },
    ⟨by decide, by decide, by decide, by intro d h; injection h with h; subst h; rfl, by intro h k; injection k⟩⟩
theorem witness_SynchronousTraps_1 : ∃ (n : Fin 128) (g : Guard) (op : AluOp) (b : Src) (s : State), Issues s n ∧ guardOn (ceOf s
    n.val) g = true ∧ xact (ceOf s n.val) = false ∧ srcVal (ceOf s n.val) b = 0 ∧ (op = .div ∨ op = .divu ∨ op = .rem ∨ op = .remu)
    := ⟨0, default, .rem, .reg 0, ceLive, by decide⟩
theorem witness_SynchronousTraps_2 : ∃ (n : Fin 128) (s : State), Issues s n ∧ xact (ceOf s n.val) = false := ⟨0, ceLive, by decide⟩
theorem witness_SynchronousTraps_3 : ∃ (n : Fin 128) (s : State), Issues s n ∧ (ceOf s n.val).slot.isSome = true ∧ xact (ceOf s
    n.val) = false := ⟨0, { live with ces := [(0, { ceRun with slot := some ⟨0xFC, 0x200⟩ })] }, by decide⟩
theorem witness_SynchronousTraps_4 : ∃ (n : Fin 128) (s : State), (ceOf s n.val).st = .run ∧ (ceOf s n.val).pc.toNat % 4 ≠ 0 ∧ xact
    (ceOf s n.val) = false := ⟨0, { live with ces := [(0, { ceRun with pc := 0x102 })] }, by decide⟩
theorem witness_SynchronousTraps_5 : ∃ (n : Fin 128) (g : Guard) (kind : LoadKind) (ra : Fin 32) (imm : BitVec 12) (s : State),
    Issues s n ∧ kind ≠ .v ∧ guardOn (ceOf s n.val) g = true ∧ xact (ceOf s n.val) = false ∧ (dataAddr (ceOf s n.val) ra.val
    imm).toNat % loadSize kind ≠ 0 := ⟨0, default, .w, 1, 2, ceLive, by decide⟩
theorem witness_SynchronousTraps_6 : ∃ (n : Fin 128) (g : Guard) (kind : LoadKind) (ra : Fin 32) (imm : BitVec 12) (s : State),
    Issues s n ∧ kind ≠ .v ∧ guardOn (ceOf s n.val) g = true ∧ xact (ceOf s n.val) = false ∧ (dataAddr (ceOf s n.val) ra.val
    imm).toNat % loadSize kind = 0 ∧ 0x80000 ≤ (dataAddr (ceOf s n.val) ra.val imm).toNat ∧ (dataAddr (ceOf s n.val) ra.val
    imm).toNat < 0x40000000 := ⟨0, default, default, 1, 0, { live with ces := [(0, { ceRun with g := [(1, 0x80000)] })] }, by decide⟩
theorem witness_SynchronousTraps_7 : ∃ (n : Fin 128) (f : FmtR) (s : State), Issues s n ∧ flowIllegal (ceOf s n.val) false = false ∧
    f.rd.val = 0 ∧ f.rb.val = 0 ∧ f.fn = 0 ∧ guardOn (ceOf s n.val) f.guard = true ∧ (ceOf s n.val).priv = false ∧ (ceOf s
    n.val).shadow = none ∧ xact (ceOf s n.val) = false := ⟨0, default, { live with ces := [(0, { ceRun with priv := false })] }, by
    decide⟩
theorem witness_SynchronousTraps_8 : ∃ (n : Fin 128) (s : State), Issues s n ∧ xact (ceOf s n.val) = false := ⟨0, ceLive, by decide⟩
theorem witness_SynchronousTraps_9 : ∃ (n : Fin 128) (f : FmtI) (s : State), Issues s n ∧ flowIllegal (ceOf s n.val) false = false ∧
    f.rd.val = 0 ∧ f.ra.val = 0 ∧ guardOn (ceOf s n.val) f.guard = true ∧ xact (ceOf s n.val) = true := ⟨0, default, { live with ces := [(0, { ceRun with xstatus := 0x80000000 })] },
    by decide⟩
theorem witness_ControlFlowInDelaySlot_1 : ∃ (n : Fin 128) (s : State) (j : FmtJ) (l : FmtL) (r : FmtR) (i : FmtI), Issues s n ∧
    (ceOf s n.val).slot.isSome = true ∧ xact (ceOf s n.val) = false ∧ guardOn (ceOf s n.val) j.guard = true ∧ guardOn (ceOf s n.val)
    l.guard = true ∧ guardOn (ceOf s n.val) r.guard = true ∧ guardOn (ceOf s n.val) i.guard = true := ⟨0, { live with ces := [(0, { ceRun with slot := some ⟨0xFC, 0x200⟩ })] },
    default, default, default, default, by decide⟩
theorem witness_ControlFlowInDelaySlot_2 : ∃ (n : Fin 128) (f : FmtR) (s : State), Issues s n ∧ flowIllegal (ceOf s n.val) true =
    false ∧ guardOn (ceOf s n.val) f.guard = true ∧ f.rb.val = 0 ∧ f.fn = 0 ∧ (greg (ceOf s n.val) f.ra.val).toNat % 4 ≠ 0 := ⟨0,
    ⟨default, 0, 1, 0, 0⟩, { live with ces := [(0, { ceRun with g := [(1, 0x202)] })] }, by decide⟩
theorem witness_ControlFlowInDelaySlot_3 : ∃ (n : Fin 128) (g : Guard) (i : IntInstr) (s : State) (d : Slot), Issues s n ∧ (ceOf s
    n.val).slot = some d ∧ i ≠ .illegal ∧ guardOn (ceOf s n.val) g = false ∧ (ceOf s n.val).lc0 = 0 ∧ (ceOf s n.val).lc1 = 0 := ⟨0,
    never, .movi 1 0, { live with ces := [(0, { ceRun with slot := some ⟨0xFC, 0x202⟩ })] }, ⟨0xFC, 0x202⟩, by decide⟩
theorem witness_ControlFlowInDelaySlot_4 : ∃ (n : Fin 128) (s : State), (ceOf s n.val).st = .run ∧ (ceOf s n.val).pc.toNat % 4 ≠ 0 ∧
    xact (ceOf s n.val) = false := ⟨0, { live with ces := [(0, { ceRun with pc := 0x202 })] }, by decide⟩
theorem witness_CeHaltResumeRestart_1 : ∃ (n : Fin 128) (s : State), accessHeld s 4 (0x10000 * n.val) = false ∧ ((ceOf s n.val).st =
    .run ∨ (ceOf s n.val).st = .idle) := ⟨0, ceLive, by decide⟩
theorem witness_CeHaltResumeRestart_2 : ∃ (n : Fin 128) (s : State), (ceOf s n.val).haltReq ≠ 0 ∧ ((ceOf s n.val).st = .idle ∨ (ceOf
    s n.val).st = .run ∧ (ceOf s n.val).slot = none ∧ (ceOf s n.val).shadow = none) ∧ mustLeave s n.val = false := ⟨0, { live with ces := [(0, { ceRun with haltReq := 16 })] },
    by decide⟩
theorem witness_CeHaltResumeRestart_3 : ∃ (n : Fin 128) (s : State), ((ceOf s n.val).slot.isSome = true ∨ (ceOf s
    n.val).shadow.isSome = true) ∧ (ceOf s n.val).st = .run ∧ (ceOf s n.val).split = false := ⟨0, { live with ces := [(0, { ceRun with haltReq := 16, slot := some ⟨0xFC, 0x200⟩ })] },
    by decide⟩
theorem witness_CeHaltResumeRestart_4 : ∃ (n : Fin 128) (s : State), accessHeld s 4 (0x10000 * n.val) = false ∧ (ceOf s n.val).st =
    .halt ∧ (ceOf s n.val).hsrc = 16 ∧ (ceOf s n.val).haltReq = 0 := ⟨0, { live with ces := [(0, { ceRun with st := .halt, hsrc := 16, prev := .run })] },
    by decide⟩
theorem witness_CeHaltResumeRestart_5 : ∃ (n : Fin 128) (s : State), accessHeld s 4 (0x10000 * n.val) = false ∧ ((ceOf s n.val).st =
    .halt ∨ (ceOf s n.val).st = .fault) := ⟨0, { live with ces := [(0, { ceRun with st := .fault, sram := [(0, 1)] })] }, by decide⟩
theorem witness_CeHaltResumeRestart_6 : ∃ (n : Fin 128) (s : State), (ceOf s n.val).st ≠ .halt ∧ (ceOf s n.val).st ≠ .fault := ⟨0,
    ceLive, by decide⟩
theorem witness_TasksRun_1 : ∃ (s : State) (k : TaskCfg), s.rst.phase = 9 ∧ awaitsRecord s = false ∧ s.img.tasks = [k] ∧
    s.img.sandbox = [] ∧ s.cyc.next = none ∧ s.cyc.handover = none ∧ k.ce < 64 ∧ (k.cls = 0 ∨ k.cls = 1 ∧ serviceSet s.dies = 3) ∧
    k.period ≠ 0 ∧ devTime s / 250000 % k.period = k.phase ∧ (k.edgeWords = 0 ∨ (taskOf s k.task).flags.testBit 0 = true) ∧ running s
    .comp0 = true ∧ (ceOf s k.ce).st = .idle ∧ xact (ceOf s k.ce) = false ∧ stackOf s k.ce = [] ∧ (taskOf s k.task).state = .waiting
    ∧ s.kpr.smoke ≠ .frozen := ⟨taskLive, taskOne, by decide⟩
theorem witness_TasksRun_2 : ∃ (n : Fin 128) (f : FmtR) (s : State) (tk : Nat) (c : TaskCfg), Issues s n ∧ (ceOf s n.val).slot = none
    ∧ (ceOf s n.val).lc0 = 0 ∧ (ceOf s n.val).lc1 = 0 ∧ f.rd.val = 0 ∧ f.ra.val = 0 ∧ f.rb.val = 0 ∧ f.fn = 0 ∧ guardOn (ceOf s
    n.val) f.guard = true ∧ stackOf s n.val = [tk] ∧ taskOn s n.val tk = some c ∧ taskCfg s tk = some c ∧ c.outs = [] ∧ s.img.persist
    = [] ∧ (taskOf s tk).state = .running ∧ (taskOf s tk).stopping = false ∧ c.cls ≠ 4 ∧ s.cyc.handover = none ∧ (∀ x ∈ tasksOn s
    n.val, x.task ≠ tk → (taskOf s x.task).state ≠ .pending) := ⟨0, default, { taskLive with ces := [(0, ceRun)], cyc := { tasks := [(5, { state := .running, begun := true })], ceStacks := [(0, [5])] } },
    5, taskOne, by decide⟩
theorem witness_TasksRun_3 : ∃ (n : Fin 128) (s : State) (tk : Nat) (rest : List Nat), (ceOf s n.val).st = .run ∧ xact (ceOf s n.val)
    = false ∧ (ceOf s n.val).slot = none ∧ (ceOf s n.val).shadow = none ∧ stackOf s n.val = tk :: rest ∧ (taskOf s tk).begun = false
    := ⟨0, { taskLive with ces := [(0, ceRun)], cyc := { tasks := [(5, { state := .running })], ceStacks := [(0, [5])] } }, 5, [], by
    decide⟩
theorem witness_TasksRun_4 : ∃ (n : Fin 128) (s : State) (src : Nat) (rest : List Nat), (ceOf s n.val).st = .run ∧ xact (ceOf s
    n.val) = false ∧ (ceOf s n.val).slot = none ∧ (ceOf s n.val).shadow = none ∧ stackOf s n.val = [] ∧ (pendOf s n.val).queue = src
    :: rest := ⟨0, { ceLive with evt := { pend := [(0, { queue := [300] })] } }, 300, [], by decide⟩
theorem witness_TasksRun_5 : ∃ (n : Fin 128) (s : State), xact (ceOf s n.val) = true := ⟨0, { live with ces := [(0, { ceRun with xstatus := 0x80000000 })] },
    by decide⟩
theorem witness_TasksRun_6 : ∃ (k : Fin 256) (s : State), accessHeld s 5 0 = false ∧ k.val < 240 ∧ (taskOf s k.val).state = .stopped
    ∧ (taskOf s k.val).queue = [] ∧ (∀ c ∈ tableInForce s, k.val ∉ stackOf s c.ce) := ⟨5, { taskLive with cyc := { tasks := [(5, { state := .stopped })] } },
    by decide⟩
theorem witness_TasksRun_7 : ∃ (k : Fin 256) (s : State) (c : TaskCfg), accessHeld s 5 0 = false ∧ k.val < 240 ∧ (taskOf s
    k.val).state = .stopped ∧ (taskOf s k.val).queue ≠ [] ∧ taskCfg s k.val = some c ∧ c.cls = 4 ∧ (∀ c ∈ tableInForce s, k.val ∉
    stackOf s c.ce) := ⟨5, { taskLive with img := { taskLive.img with tasks := [{ taskOne with cls := 4 }] }, cyc := { tasks := [(5, { state := .stopped, queue := [default] })] } },
    { taskOne with cls := 4 }, by decide⟩
theorem witness_TasksRun_8 : ∃ (k : Fin 256) (s : State) (c : TaskCfg), accessHeld s 5 0 = false ∧ k.val < 240 ∧ taskCfg s k.val =
    some c ∧ (taskOf s k.val).state = .waiting := ⟨5, taskLive, taskOne, by decide⟩
theorem witness_TasksRun_9 : ∃ (k : Fin 256) (s : State) (c : TaskCfg), accessHeld s 5 0 = false ∧ k.val < 240 ∧ taskCfg s k.val =
    some c ∧ ((taskOf s k.val).state = .running ∨ (taskOf s k.val).state = .preempted) := ⟨5, { taskLive with cyc := { tasks := [(5, { state := .running })], ceStacks := [(0, [5])] } },
    taskOne, by decide⟩
theorem witness_TasksRun_10 : ∃ (n : Fin 128) (s : State) (bs : List Byte) (vs : List PersistVar), (persistOf s n.val).flush = some
    (bs, vs) := ⟨0, { live with cyc := { persist := [(0, { seq0 := 4, seq1 := 3, flush := some ([1, 2], []) })] } }, [1, 2], [], by
    decide⟩
theorem witness_HandoverAndTenantModules_1 : ∃ (s : State) (h : Handover), s.cyc.handover = some h ∧ h.switching = false ∧ h.th ≤
    devTime s ∧ h.left ≠ [] ∧ (∀ n ∈ h.left, switchesNow s n = false ∧ plannerSwitches s n = false) := ⟨{ ceLive with cyc := { handover := some { left := [0] } } },
    { left := [0] }, by decide⟩
theorem witness_HandoverAndTenantModules_2 : ∃ (s : State) (h : Handover) (n : Nat) (c : ImageContent), s.cyc.handover = some h ∧
    h.switching = false ∧ h.th ≤ devTime s ∧ h.left = [n] ∧ h.mapping = [] ∧ s.cyc.next = some c ∧ (ceOf s n).st = .idle := ⟨{ taskLive with cyc := { handover := some { left := [0] }, next := some default } },
    { left := [0] }, 0, default, by decide⟩
theorem witness_HandoverAndTenantModules_3 : ∃ (n : Fin 128) (s : State) (h : Handover) (c : ImageContent), s.cyc.handover = some h ∧
    h.switching = true ∧ h.left = [n.val] ∧ s.cyc.next = some c ∧ h.th + handoverLimit s n.val ≤ devTime s := ⟨0, { ceLive with cyc := { handover := some { left := [0], switching := true }, next := some default } },
    { left := [0], switching := true }, default, by decide⟩
theorem witness_HandoverAndTenantModules_4 : ∃ (r : DataMapRun) (s : State) (h : Handover) (c : ImageContent), s.cyc.handover = some
    h ∧ h.switching = true ∧ h.left = [] ∧ h.mapping = [r.ce.val] ∧ s.cyc.next = some c ∧ (ceOf s r.ce.val).st ≠ .halt ∧ s.rst.brace
    ≠ .committed ∧ (∀ e ∈ r.errs, e.2 ≠ .double) := ⟨default, { taskLive with cyc := { handover := some { mapping := [0], switching := true }, next := some default } },
    { mapping := [0], switching := true }, default, by decide⟩
theorem witness_HandoverAndTenantModules_5 : ∃ (k : Fin 1024) (s : State) (cfg : TenantCfg), tenantCfg s k.val = some cfg ∧ running s
    .keeper = true := ⟨0, pointLive, tenantOne, by decide⟩
theorem witness_HandoverAndTenantModules_6 : ∃ (k : Fin 1024) (s : State) (v : Word) (at0 : Nat), (tget ({} : TenantModule)
    s.cmb.modules k.val).waiting = some (v, at0) ∧ at0 + 1000000 ≤ devTime s / 250000 * 250000 ∧ (∀ c ∈ tenantTasks s k.val, c.task ∉
    stackOf s c.ce) := ⟨0, { live with cmb := { modules := [(0, { waiting := some (9, 5) })] } }, 9, 5, by decide⟩
theorem witness_HandoverAndTenantModules_7 : ∃ (k : Fin 1024) (s : State) (v : Word) (at0 : Nat), (tget ({} : TenantModule)
    s.cmb.modules k.val).waiting = some (v, at0) ∧ at0 + 200000000 ≤ devTime s := ⟨0, { live with cmb := { modules := [(0, { waiting := some (9, 5) })] } },
    9, 5, by decide⟩
theorem witness_Forces_1 : ∃ (tenant : Fin 1024) (s : State), accessHeld s 5 0 = false ∧ forceCheck s (fld s.cyc.cmdTarget 31 28)
    (fld s.cyc.cmdTarget 27 0) s.cyc.cmdMask tenant.val = 0 := ⟨0, { live with cyc := { cmdTarget := 0x30000007, cmdMask := 1, cmdValue := 1 } },
    by decide⟩
theorem witness_Forces_2 : ∃ (tenant : Fin 1024) (s : State) (r : Nat), accessHeld s 5 0 = false ∧ forceCheck s (fld s.cyc.cmdTarget
    31 28) (fld s.cyc.cmdTarget 27 0) s.cyc.cmdMask tenant.val = r ∧ r ≠ 0 := ⟨0, { live with cyc := { cmdTarget := 0x30000030, cmdMask := 1 } },
    4, by decide⟩
theorem witness_Forces_3 : ∃ (s : State) (f : Force), accessHeld s 5 0 = false ∧ forceOn s (fld s.cyc.cmdTarget 31 28) (fld
    s.cyc.cmdTarget 27 0) = some f := ⟨{ live with cyc := { cmdTarget := 0x30000007, forces := [⟨3, 7, 1, 1, 0, none⟩] } }, ⟨3, 7, 1,
    1, 0, none⟩, by decide⟩
theorem witness_Forces_4 : ∃ (s : State), accessHeld s 5 0 = false := ⟨{ live with cyc := { forces := [⟨3, 7, 1, 1, 0, some 9⟩] }, pins.forced := true },
    by decide⟩
theorem witness_Forces_5 : ∃ (kind : Fin 16) (index : BitVec 28) (s : State) (f : Force) (e : Nat), forceOn s kind.val index.toNat =
    some f ∧ f.expiry = some e ∧ e ≤ devTime s := ⟨3, 7, { live with cyc := { forces := [⟨3, 7, 1, 1, 0, some 9⟩] } }, ⟨3, 7, 1, 1,
    0, some 9⟩, 9, by decide⟩
theorem witness_PointInstructionsAndKeeperAccess_1 : ∃ (n : Fin 128) (f : FmtI) (s : State), Issues s n ∧ f.imm.toNat % 256 = 0 ∧
    guardOn (ceOf s n.val) f.guard = true ∧ isSandbox s n.val = false ∧ Reaches s (.ce n) (ceOf s n.val).tctx (greg (ceOf s n.val)
    f.ra.val).toNat (.read (Fin.ofNat 16 (f.imm.toNat / 256))) := ⟨0, default, pointLive, by decide⟩
theorem witness_PointInstructionsAndKeeperAccess_2 : ∃ (n : Fin 128) (f : FmtI) (s : State), Issues s n ∧ f.imm.toNat % 256 = 0 ∧
    guardOn (ceOf s n.val) f.guard = true ∧ isSandbox s n.val = true ∧ (ceOf s n.val).budget = 0 ∧ (greg (ceOf s n.val)
    f.ra.val).toNat < 262144 := ⟨0, default, { pointLive with img := { pointLive.img with sandbox := [⟨0, 0, 5⟩] } }, by decide⟩
theorem witness_PointInstructionsAndKeeperAccess_3 : ∃ (n : Fin 128) (f : FmtI) (s : State) (op : CombOp), Issues s n ∧ f.imm.toNat %
    256 = 0 ∧ guardOn (ceOf s n.val) f.guard = true ∧ isSandbox s n.val = false ∧ combStandby s = false ∧ op = CombOp.write
    (Fin.ofNat 16 (f.imm.toNat / 256)) (greg (ceOf s n.val) f.rd.val) 0 ∧ Reaches s (.ce n) (ceOf s n.val).tctx (greg (ceOf s n.val)
    f.ra.val).toNat op := ⟨0, ⟨default, 1, 0, 0⟩, pointLive, .write 0 0x40 0, by decide⟩
theorem witness_PointInstructionsAndKeeperAccess_4 : ∃ (n : Fin 128) (f : FmtM) (s : State), Issues s n ∧ f.zero = 0 ∧ (ceOf s
    n.val).elem = 0 ∧ isSandbox s n.val = false ∧ (∀ k < 16, (guardBits (ceOf s n.val) f.guard).testBit k = true → Reaches s (.ce n)
    (ceOf s n.val).tctx (greg (ceOf s n.val) f.ra.val + vlane (ceOf s n.val) f.vb.val k).toNat (.read f.word)) := ⟨0, ⟨⟨false, 1⟩, 2,
    0, 3, 0, 0⟩, pointLive, by decide⟩
theorem witness_PointInstructionsAndKeeperAccess_5 : ∃ (n : Fin 128) (f : FmtM) (s : State) (op : CombOp), Issues s n ∧ f.zero = 0 ∧
    (ceOf s n.val).elem = 0 ∧ isSandbox s n.val = false ∧ combStandby s = false ∧ guardBits (ceOf s n.val) f.guard = 1 ∧ op =
    CombOp.write f.word (vlane (ceOf s n.val) f.vd.val 0) 0 ∧ Reaches s (.ce n) (ceOf s n.val).tctx (greg (ceOf s n.val) f.ra.val +
    vlane (ceOf s n.val) f.vb.val 0).toNat op := ⟨0, ⟨⟨false, 1⟩, 2, 0, 3, 0, 0⟩, { pointLive with ces := [(0, { ceTwo with p := [(1, 1)] })] },
    .write 0 0 0, by decide⟩
theorem witness_PointInstructionsAndKeeperAccess_6 : ∃ (n : Fin 128) (f : FmtM) (s : State), Issues s n ∧ f.zero = 0 ∧ (ceOf s
    n.val).elem = 0 ∧ isSandbox s n.val = false ∧ combStandby s = false ∧ (∀ k < 16, (guardBits (ceOf s n.val) f.guard).testBit k =
    true → Reaches s (.ce n) (ceOf s n.val).tctx (greg (ceOf s n.val) f.ra.val + vlane (ceOf s n.val) f.vb.val k).toNat (.write
    f.word (vlane (ceOf s n.val) f.vd.val k) 0)) := ⟨0, ⟨⟨false, 1⟩, 2, 0, 3, 0, 0⟩, { pointLive with ces := [(0, { ceTwo with p := [(1, 1)] })] },
    by decide⟩
theorem witness_PointInstructionsAndKeeperAccess_7 : ∃ (n : Fin 128) (f : FmtM) (s : State) (u : Fin 17), Issues s n ∧ f.zero = 0 ∧
    (ceOf s n.val).elem = 0 ∧ guardBits (ceOf s n.val) f.guard = 0 ∧ u.val < 16 := ⟨0, ⟨never, 2, 0, 3, 0, 0⟩, pointLive, 15, by
    decide⟩
theorem witness_PointInstructionsAndKeeperAccess_8 : ∃ (n : Fin 128) (f : FmtI) (s : State), Issues s n ∧ f.imm.toNat % 256 = 0 ∧
    guardOn (ceOf s n.val) f.guard = true ∧ xact (ceOf s n.val) = false ∧ 262144 ≤ (greg (ceOf s n.val) f.ra.val).toNat := ⟨0,
    ⟨default, 0, 2, 0⟩, pointLive, by decide⟩
theorem witness_PointInstructionsAndKeeperAccess_9 : ∃ (n : Fin 128) (f : FmtM) (s : State), Issues s n ∧ f.zero = 0 ∧ (ceOf s
    n.val).elem = 0 ∧ (guardBits (ceOf s n.val) f.guard).testBit 0 = true ∧ xact (ceOf s n.val) = false ∧ 262144 ≤ (greg (ceOf s
    n.val) f.ra.val + vlane (ceOf s n.val) f.vb.val 0).toNat := ⟨0, ⟨default, 0, 2, 0, 0, 0⟩, pointLive, by decide⟩
theorem witness_PointInstructionsAndKeeperAccess_10 : ∃ (word : Fin 16) (tenant : Fin 1024) (s : State), accessHeld s 6 0 = false ∧
    Reaches s .keeper tenant.val s.cmb.accId (.read word) := ⟨15, 0, pointLive, by decide⟩
theorem witness_PointInstructionsAndKeeperAccess_11 : ∃ (prio : Fin 32) (tenant : Fin 1024) (s : State), accessHeld s 6 0 = false ∧
    Reaches s .keeper tenant.val s.cmb.accId (.write 0 s.cmb.accData (Fin.ofNat 17 (Nat.min 16 prio.val))) ∧ combStandby s = false ∧
    (pointOf s s.cmb.accId).arr = none ∧ (pointOf s s.cmb.accId).force = none := ⟨0, 0, pointLive, by decide⟩
theorem witness_PointInstructionsAndKeeperAccess_12 : ∃ (prio : Fin 32) (tenant : Fin 1024) (s : State), accessHeld s 6 0 = false ∧
    Reaches s .keeper tenant.val s.cmb.accId (.relinquish (Fin.ofNat 17 (Nat.min 16 prio.val))) ∧ combStandby s = false := ⟨4, 0, { pointLive with cmb := { points := [(0, { pointOne with arr := some { entries := [(4, some 9)] } })] } },
    by decide⟩
theorem witness_PointInstructionsAndKeeperAccess_13 : ∃ (tenant : Fin 1024) (s : State), accessHeld s 6 0 = false ∧ Reaches s .keeper
    tenant.val s.cmb.accId .readSlot := ⟨0, pointLive, by decide⟩
theorem witness_PointInstructionsAndKeeperAccess_14 : ∃ (word : Fin 16) (tenant : Fin 1024) (s : State), accessHeld s 6 0 = false ∧
    s.cmb.accId < 262144 ∧ serves s (homeDie s s.cmb.accId) = true ∧ guardResult s .keeper tenant.val s.cmb.accId (.read word) none
    false = some .guarded := ⟨0, 9, pointLive, by decide⟩
theorem witness_CombElements_1 : ∃ (w : CombWho) (id : Word) (k : Fin 16) (s : State) (r : Nat), whoTenant s w = some r ∧ Reaches s w
    r id.toNat (.read k) := ⟨.ce 0, 0, 15, pointLive, 0, by decide⟩
theorem witness_CombElements_2 : ∃ (w : CombWho) (id : Word) (v : Word) (prio : Fin 17) (s : State) (r : Nat), whoTenant s w = some r
    ∧ Reaches s w r id.toNat (.write 0 v prio) ∧ combStandby s = false ∧ (pointOf s id.toNat).arr = none ∧ (pointOf s id.toNat).force
    = none := ⟨.ce 0, 0, 0, 0, pointLive, 0, by decide⟩
theorem witness_CombElements_3 : ∃ (w : CombWho) (id : Word) (op : CombOp) (e : Ecc) (s : State) (r : Nat), whoTenant s w = some r ∧
    id.toNat < 262144 ∧ serves s (homeDie s id.toNat) = true ∧ guardResult s w r id.toNat op none (decide (e = .double)) = some
    .guarded := ⟨.session (.bac (.sc 0)), 0, .read 0, .clean, { pointLive with cmb := { points := [(0, pointOne)], conns := [(0, some ⟨4, true⟩)] } },
    4, by decide⟩
theorem witness_CombElements_4 : ∃ (id : Fin 262144) (s : State), (pointOf s id.val).dirty = true ∧ s.rst.brace = .idle := ⟨0, { pointLive with cmb := { points := [(0, { pointOne with dirty := true })] } },
    by decide⟩
theorem witness_CombElements_5 : ∃ (id : Fin 262144) (s : State) (m : SlotImage), (pointOf s id.val).flightA = some m := ⟨0, { pointLive with cmb := { points := [(0, { pointOne with flightA := some { base := 4 } })] } },
    { base := 4 }, by decide⟩
theorem witness_CombElements_6 : ∃ (id : Fin 262144) (s : State) (m : SlotImage), (pointOf s id.val).flightB = some m := ⟨0, { pointLive with cmb := { points := [(0, { pointOne with flightB := some { base := 4 } })] } },
    { base := 4 }, by decide⟩
theorem witness_CombElements_7 : ∃ (id : Fin 262144) (s : State), (pointOf s id.val).flightA.isSome = true ∧ s.rst.brace = .idle ∧
    running s .keeper = true := ⟨0, { pointLive with cmb := { points := [(0, { pointOne with flightA := some { base := 4 } })] } },
    by decide⟩
theorem witness_CombElements_8 : ∃ (id : Fin 262144) (s : State), (pointOf s id.val).flightB.isSome = true ∧ s.rst.brace = .idle ∧
    running s .keeper = true := ⟨0, { pointLive with cmb := { points := [(0, { pointOne with flightB := some { base := 4 } })] } },
    by decide⟩
theorem witness_CombElements_9 : ∃ (id : Fin 262144) (s : State), (pointOf s id.val).broken = true := ⟨0, { pointLive with cmb := { points := [(0, { pointOne with broken := true })] } },
    by decide⟩
theorem witness_CombElements_10 : ∃ (id : Fin 262144) (s : State), (pointOf s id.val).broken = true := ⟨0, { pointLive with cmb := { points := [(0, { pointOne with broken := true })] } },
    by decide⟩
theorem witness_CombElements_11 : ∃ (id : Fin 262144) (s : State), (pointOf s id.val).broken = true := ⟨0, { pointLive with cmb := { points := [(0, { pointOne with broken := true })] } },
    by decide⟩
theorem witness_AlarmsTrendsAndEnergy_1 : ∃ (s : State) (id : Nat) (p : Point), s.cmb.points = [(id, p)] ∧ p.alloc = true ∧
    p.alarmPend = none ∧ p.typ < 3 ∧ p.eventState = 0 ∧ p.quality ≠ 2 ∧ bitAt (pword p 9) 31 = true ∧ fld (pword p 9) 7 0 = 0 ∧
    valueLess p.typ (pword p 6) (pword p 0) = true ∧ running s (homeDie s id) = true ∧ running s .io = false ∧ s.cmb.alarms.length <
    16384 := ⟨{ pointLive with dies := { live.dies with io := .failed }, cmb := { points := [(0, { pointOne with words := [(0, 9), (4, 0x10000000), (6, 8), (9, 0x80000000)] })] } },
    0, { pointOne with words := [(0, 9), (4, 0x10000000), (6, 8), (9, 0x80000000)] }, by decide⟩
theorem witness_AlarmsTrendsAndEnergy_2 : ∃ (s : State), s.cmb.points = [] ∧ running s .io = true ∧ s.cmb.alarms ≠ [] := ⟨{ live with cmb.alarms := [⟨0, 0, 0, 1, 0, 5⟩] },
    by decide⟩
theorem witness_AlarmsTrendsAndEnergy_3 : ∃ (id : Fin 262144) (s : State), (pointOf s id.val).alloc = true ∧ 1 ≤ (pointOf s
    id.val).interval ∧ (pointOf s id.val).interval ≤ 5 ∧ isIB s = true := ⟨0, { pointLive with ordering := 2, cmb := { points := [(0, { pointOne with words := [(4, 0x10000000), (13, 0x50000000)] })] } },
    by decide⟩
theorem witness_AlarmsTrendsAndEnergy_4 : ∃ (id : Fin 262144) (s : State), (pointOf s id.val).alloc = true ∧ 1 ≤ (pointOf s
    id.val).interval ∧ (pointOf s id.val).interval ≤ 5 ∧ isIB s = false := ⟨0, { pointLive with cmb := { points := [(0, { pointOne with words := [(4, 0x10000000), (13, 0x50000000)] })] } },
    by decide⟩
theorem witness_AlarmsTrendsAndEnergy_5 : ∃ (s : State) (m : Int) (p : Int), running s .comp0 = true ∧ s.cmb.limit ≠ 0 ∧
    s.cmb.interval = some (devTime s / 1000000000 / 900) ∧ Reaches s .unit 0 s.img.energy.meter (.read 0) ∧ Reaches s .unit 0
    s.img.energy.power (.read 0) ∧ exactOf (cfgType s s.img.energy.meter) (pword (pointOf s s.img.energy.meter) 0) = some m ∧ exactOf
    (cfgType s s.img.energy.power) (pword (pointOf s s.img.energy.power) 0) = some p := ⟨{ pointLive with cmb := { points := [(0, { pointOne with words := [(0, 3), (4, 0x10000000)] })], limit := 5, interval := some 0 } },
    3, 3, by decide⟩
theorem witness_AlarmsTrendsAndEnergy_6 : ∃ (s : State), running s .comp0 = true ∧ s.cmb.limit ≠ 0 ∧ 11 ≤ s.cmb.above ∧ s.cmb.level <
    8 := ⟨{ pointLive with cmb := { limit := 5, above := 11, level := 7 } }, by decide⟩
theorem witness_AlarmsTrendsAndEnergy_7 : ∃ (s : State), running s .comp0 = true ∧ s.cmb.limit ≠ 0 ∧ s.cmb.above < 11 ∧ 61 ≤
    s.cmb.below ∧ 0 < s.cmb.level := ⟨{ pointLive with cmb := { limit := 5, below := 61, level := 1 } }, by decide⟩
theorem witness_BacnetReads_1 : ∃ (k : Fin 1024) (s : State) (c : TenantCfg), running s .io = true ∧ tenantCfg s k.val = some c ∧
    c.device.isSome = true ∧ c.hubOk = true ∧ s.cmb.conns.length < 4096 ∧ tget none s.cmb.conns 0 = none := ⟨0, { live with img := { live.img with tenants := [tenantOne] } },
    tenantOne, by decide⟩
theorem witness_BacnetReads_2 : ∃ (k : Fin 1024) (chain : List (List Byte)) (fp : List Byte) (s : State) (c : TenantCfg), running s
    .io = true ∧ tenantCfg s k.val = some c ∧ c.device.isSome = true ∧ chain.any c.cas.contains = true ∧ c.peers.contains fp = true ∧
    s.cmb.conns.length < 4096 ∧ tget none s.cmb.conns 0 = none := ⟨0, [[1]], [2], { live with img := { live.img with tenants := [{ tenantOne with cas := [[1]], peers := [[2]] }] } },
    { tenantOne with cas := [[1]], peers := [[2]] }, by decide⟩
theorem witness_BacnetReads_3 : ∃ (k : Fin 1024) (s : State), running s .io = true ∧ running s .keeper = true ∧ tenantCfg s k.val =
    none := ⟨3, pointLive, by decide⟩
theorem witness_BacnetReads_4 : ∃ (q : BacSession) (n : Nat) (low : Nat) (high : Nat) (s : State) (r : Nat) (c : TenantCfg) (d :
    Nat), bacTenant s q = some r ∧ running s .io = true ∧ n ≤ maxApdu q ∧ tenantCfg s r = some c ∧ c.device = some d ∧ low ≤ d ∧ d ≤
    high := ⟨.sc 0, 0, 77, 77, pointLive, 0, tenantOne, 77, by decide⟩
theorem witness_BacnetReads_5 : ∃ (q : BacSession) (n : Nat) (id : Nat) (s : State) (r : Nat), bacTenant s q = some r ∧ running s .io
    = true ∧ n ≤ maxApdu q ∧ sees s r id = true ∧ pointDir (pointOf s id) < 3 := ⟨.sc 0, 0, 0, pointLive, 0, by decide⟩
theorem witness_BacnetReads_6 : ∃ (q : BacSession) (n : Nat) (o : BacObject) (id : Nat) (s : State) (r : Nat), bacTenant s q = some r
    ∧ running s .io = true ∧ n ≤ maxApdu q ∧ slotNamed s r o = some id ∧ Reaches s (bacWho q) r id .readSlot ∧ mayReadWord s (pointOf
    s id) r 0 = true := ⟨.sc 0, 0, .point .analog 0 0, 0, pointLive, 0, by decide⟩
theorem witness_BacnetReads_7 : ∃ (q : BacSession) (n : Nat) (ids : List Nat) (s : State) (r : Nat), bacTenant s q = some r ∧ running
    s .io = true ∧ n ≤ maxApdu q ∧ (∀ id ∈ ids, pointDir (pointOf s id) < 3 ∧ Reaches s (bacWho q) r id .readSlot ∧ mayReadWord s
    (pointOf s id) r 0 = true) := ⟨.sc 0, 0, [], pointLive, 0, by decide⟩
theorem witness_BacnetReads_8 : ∃ (q : BacSession) (n : Nat) (s : State) (r : Nat) (id : Nat) (p : Point), bacTenant s q = some r ∧
    running s .io = true ∧ n ≤ maxApdu q ∧ s.cmb.points = [(id, p)] ∧ sees s r id = true ∧ running s (homeDie s id) = true ∧ p.broken
    = false ∧ mayReadWord s p r 10 = true ∧ fld (pword p 9) 31 29 ≠ 0 ∧ p.eventState ≠ 0 := ⟨.sc 0, 0, { pointLive with cmb := { pointLive.cmb with points := [(0, { pointOne with words := [(4, 0x10000000), (9, 0x80000000), (10, 0x40000000)] })] } },
    0, 0, { pointOne with words := [(4, 0x10000000), (9, 0x80000000), (10, 0x40000000)] }, by decide⟩
theorem witness_BacnetReads_9 : ∃ (q : BacSession) (n : Nat) (id : Nat) (s : State) (r : Nat), bacTenant s q = some r ∧ running s .io
    = true ∧ n ≤ maxApdu q ∧ Reaches s (bacWho q) r id (.read 0) ∧ (pointOf s id).interval ≠ 0 ∧ s.cmb.alarms = [] := ⟨.sc 0, 0, 0, { pointLive with cmb := { pointLive.cmb with points := [(0, { pointOne with words := [(4, 0x10000000), (13, 0x50000000)], trend := [(1, 2, 3)] })] } },
    0, by decide⟩
theorem witness_BacnetWritesAndModbus_1 : ∃ (q : BacSession) (n : Nat) (o : BacObject) (id : Nat) (v : Word) (prio : Fin 17) (s :
    State) (r : Nat), bacTenant s q = some r ∧ running s .io = true ∧ n ≤ maxApdu q ∧ ipBars s q r = false ∧ combStandby s = false ∧
    slotNamed s r o = some id ∧ Reaches s (bacWho q) r id (.write 0 v prio) ∧ (pointOf s id).arr = none ∧ (pointOf s id).force = none
    := ⟨.sc 0, 0, .point .analog 0 0, 0, 9, 16, pointLive, 0, by decide⟩
theorem witness_BacnetWritesAndModbus_2 : ∃ (k : Nat) (n : Nat) (o : BacObject) (id : Nat) (s : State) (r : Nat), bacTenant s (.ip k)
    = some r ∧ running s .io = true ∧ n ≤ maxApdu (.ip k) ∧ ipBars s (.ip k) r = true ∧ slotNamed s r o = some id := ⟨0, 0, .point
    .analog 0 0, 0, { pointLive with img := { pointLive.img with bacIp := [3] } }, 3, by decide⟩
theorem witness_BacnetWritesAndModbus_3 : ∃ (q : BacSession) (n : Nat) (o : BacObject) (id : Nat) (kind : AlarmKind) (s : State) (r :
    Nat) (bit : Nat), bacTenant s q = some r ∧ running s .io = true ∧ n ≤ maxApdu q ∧ ipBars s q r = false ∧ combStandby s = false ∧
    slotNamed s r o = some id ∧ bit = (match kind with | AlarmKind.offNormal => 29 | .fault => 28 | .normal => 27) ∧ Reaches s
    (bacWho q) r id (.write 10 (maskOf bit bit) 16) := ⟨.sc 0, 0, .point .analog 0 0, 0, .fault, pointLive, 0, 28, by decide⟩
theorem witness_BacnetWritesAndModbus_4 : ∃ (q : BacSession) (n : Nat) (o : BacObject) (id : Nat) (s : State) (r : Nat) (c :
    TenantCfg), bacTenant s q = some r ∧ running s .io = true ∧ n ≤ maxApdu q ∧ slotNamed s r o = some id ∧ Reaches s (bacWho q) r id
    (.read 0) ∧ s.cmb.subs = [] ∧ tenantCfg s r = some c ∧ 0 < c.covQuota := ⟨.sc 0, 0, .point .analog 0 0, 0, pointLive, 0,
    tenantOne, by decide⟩
theorem witness_BacnetWritesAndModbus_5 : ∃ (q : BacSession) (n : Nat) (o : BacObject) (id : Nat) (s : State) (r : Nat) (c :
    TenantCfg), bacTenant s q = some r ∧ running s .io = true ∧ n ≤ maxApdu q ∧ slotNamed s r o = some id ∧ Reaches s (bacWho q) r id
    (.read 0) ∧ s.cmb.subs = [] ∧ tenantCfg s r = some c ∧ c.covQuota = 0 := ⟨.sc 0, 0, .point .analog 0 0, 0, { pointLive with img := { live.img with tenants := [{ tenantOne with covQuota := 0 }] } },
    0, { tenantOne with covQuota := 0 }, by decide⟩
theorem witness_BacnetWritesAndModbus_6 : ∃ (q : BacSession) (n : Nat) (o : BacObject) (id : Nat) (s : State) (r : Nat) (k : Nat) (x
    : CovSub), bacTenant s q = some r ∧ running s .io = true ∧ n ≤ maxApdu q ∧ slotNamed s r o = some id ∧ s.cmb.subs = [(k, some x)]
    ∧ x.who = q ∧ x.point = id := ⟨.sc 0, 0, .point .analog 0 0, 0, { pointLive with cmb := { pointLive.cmb with subs := [(4, some ⟨.sc 0, 0, 0, true, 0, 0, 0⟩)] } },
    0, 4, ⟨.sc 0, 0, 0, true, 0, 0, 0⟩, by decide⟩
theorem witness_BacnetWritesAndModbus_7 : ∃ (k : Fin 65536) (s : State) (x : CovSub), tget none s.cmb.subs k.val = some x ∧ running s
    .io = true ∧ Reaches s (bacWho x.who) x.tenant x.point (.read 0) ∧ x.lastTime + 100000000 ≤ devTime s ∧ covMoved (pointOf s
    x.point) x.lastValue = true := ⟨4, { pointLive with cmb := { pointLive.cmb with subs := [(4, some ⟨.sc 0, 0, 0, true, 7, 0, 0⟩)] } },
    ⟨.sc 0, 0, 0, true, 7, 0, 0⟩, by decide⟩
theorem witness_BacnetWritesAndModbus_8 : ∃ (bind : Nat) (s : State) (r : Nat) (m : ModbusMap) (f : Nat) (id : Nat), running s .io =
    true ∧ s.img.modbusBinds[bind]? = some (r, m.no) ∧ s.img.modbus = [m] ∧ m.regs = [(f, id)] ∧ Reaches s (.session (.modbus bind))
    r id (.read 0) := ⟨0, { pointLive with img := { live.img with modbusBinds := [(0, 2)], modbus := [⟨2, 0, [(10, 0)]⟩] } }, 0, ⟨2,
    0, [(10, 0)]⟩, 10, 0, by decide⟩
theorem witness_BacnetWritesAndModbus_9 : ∃ (bind : Nat) (s : State) (r : Nat) (m : ModbusMap) (f : Nat) (id : Nat) (a : BitVec 16)
    (b : BitVec 16), running s .io = true ∧ s.img.modbusBinds[bind]? = some (r, m.no) ∧ s.img.modbus = [m] ∧ m.regs = [(f, id)] ∧
    combStandby s = false ∧ Reaches s (.session (.modbus bind)) r id (.write 0 (wordN (a.toNat * 65536 + b.toNat)) 0) ∧ (pointOf s
    id).arr = none ∧ (pointOf s id).force = none := ⟨0, { pointLive with img := { live.img with modbusBinds := [(0, 2)], modbus := [⟨2, 0, [(10, 0)]⟩] } },
    0, ⟨2, 0, [(10, 0)]⟩, 10, 0, 0, 0, by decide⟩
theorem witness_BacnetWritesAndModbus_10 : ∃ (bind : Nat) (s : State) (r : Nat) (m : ModbusMap), running s .io = true ∧
    s.img.modbusBinds[bind]? = some (r, m.no) ∧ s.img.modbus = [m] ∧ m.regs = [] := ⟨0, { pointLive with img := { live.img with modbusBinds := [(0, 2)], modbus := [⟨2, 0, []⟩] } },
    0, ⟨2, 0, []⟩, by decide⟩
theorem witness_BacnetWritesAndModbus_11 : ∃ (no : Fin 2048) (vs : List Word) (s : State) (m : ModbusMap) (id : Nat) (p : Point) (v :
    Word), running s .io = true ∧ s.img.modbus.find? (fun m => decide (m.no = no.val)) = some m ∧ s.cmb.points = [(id, p)] ∧ p.alloc
    = true ∧ p.sourceKind = 2 ∧ p.sourceUnit = no.val ∧ vs[p.sourceWord]? = some v ∧ serves s (homeDie s id) = true ∧ guardResult s
    (.session (.map no.val)) m.tenant id (.write 0 v 0) (some (2, no.val)) false = none ∧ combStandby s = false ∧ p.force = none :=
    ⟨6, [5], { pointLive with cmb := { points := [(0, { pointOne with words := [(4, 0x10000000), (14, 0x80060000)] })] }, img := { live.img with modbus := [⟨6, 0, [(10, 0)]⟩] } },
    ⟨6, 0, [(10, 0)]⟩, 0, { pointOne with words := [(4, 0x10000000), (14, 0x80060000)] }, 5, by decide⟩
theorem witness_BacnetWritesAndModbus_12 : ∃ (no : Fin 2048) (s : State) (id : Nat) (p : Point), s.cmb.points = [(id, p)] ∧ p.alloc =
    true ∧ p.sourceKind = 2 ∧ p.sourceUnit = no.val := ⟨6, { pointLive with cmb := { points := [(0, { pointOne with words := [(4, 0x10000000), (14, 0x80060000)] })] } },
    0, { pointOne with words := [(4, 0x10000000), (14, 0x80060000)] }, by decide⟩
theorem witness_HoistCommands_1 : ∃ (c : Fin 64) (s : State) (k : CarCfg) (e : QEntry), accessHeld s 7 0 = false ∧ carCfg s c.val =
    some k ∧ (hstOf s c.val).state = .rest ∧ computeRuns s = true ∧ s.trs.therm ≠ 3 ∧ rescueService s = false ∧ firstStop (hstOf s
    c.val).queue = some e ∧ insideLimits s k e.target = true := ⟨0, carLive, carOne, entryOne, by decide +kernel⟩
theorem witness_HoistCommands_2 : ∃ (c : Fin 64) (s : State) (k : CarCfg), accessHeld s 7 0 = false ∧ carCfg s c.val = some k ∧
    (hstOf s c.val).state = .rest ∧ computeRuns s = true ∧ s.trs.therm = 3 := ⟨0, { carLive with trs.therm := 3 }, carOne, by decide⟩
theorem witness_HoistCommands_3 : ∃ (c : Fin 64) (s : State) (k : CarCfg), accessHeld s 7 0 = false ∧ carCfg s c.val = some k ∧
    (hstOf s c.val).state = .flight := ⟨0, hoistLive { hoistOne with state := .flight }, carOne, by decide⟩
theorem witness_HoistCommands_4 : ∃ (c : Fin 64) (s : State) (k : CarCfg), accessHeld s 7 0 = false ∧ carCfg s c.val = some k ∧
    (hstOf s c.val).state ≠ .flight := ⟨0, carLive, carOne, by decide⟩
theorem witness_HoistCommands_5 : ∃ (c : Fin 64) (s : State) (k : CarCfg) (e : QEntry), accessHeld s 7 0 = false ∧ carCfg s c.val =
    some k ∧ (hstOf s c.val).state = .held ∧ computeRuns s = true ∧ rescueService s = false ∧ firstStop (hstOf s c.val).queue = some
    e ∧ insideLimits s k e.target = true := ⟨0, hoistLive { hoistOne with state := .held }, carOne, entryOne, by decide +kernel⟩
theorem witness_HoistCommands_6 : ∃ (c : Fin 64) (s : State) (k : CarCfg) (e : QEntry), accessHeld s 7 0 = false ∧ carCfg s c.val =
    some k ∧ (hstOf s c.val).state = .stopping ∧ computeRuns s = true ∧ rescueService s = false ∧ firstStop (hstOf s c.val).queue =
    some e ∧ insideLimits s k e.target = true := ⟨0, hoistLive { hoistOne with state := .stopping }, carOne, entryOne, by
    decide +kernel⟩
theorem witness_HoistCommands_7 : ∃ (c : Fin 64) (s : State) (k : CarCfg), accessHeld s 7 0 = false ∧ carCfg s c.val = some k ∧
    (hstOf s c.val).state = .held := ⟨0, hoistLive { hoistOne with state := .held }, carOne, by decide⟩
theorem witness_HoistCommands_8 : ∃ (c : Fin 64) (s : State) (k : CarCfg), accessHeld s 7 0 = false ∧ carCfg s c.val = some k ∧
    (hstOf s c.val).state = .tripped ∧ permit .a s c.val = true ∧ permit .b s c.val = true ∧ (fusedSpeed s c.val).natAbs < 10000 ∧
    (hstOf s c.val).drvStatus.testBit 2 = false := ⟨0, hoistLive { hoistOne with state := .tripped }, carOne, by decide +kernel⟩
theorem witness_HoistCommands_9 : ∃ (c : Fin 64) (s : State) (k : CarCfg), accessHeld s 7 0 = false ∧ carCfg s c.val = some k ∧
    (hstOf s c.val).state = .tripped ∧ (permit .a s c.val = false ∨ permit .b s c.val = false) := ⟨0, { hoistLive { hoistOne with state := .tripped } with safA := {} },
    carOne, by decide⟩
theorem witness_HoistCommands_10 : ∃ (c : Fin 64) (s : State) (k : CarCfg), accessHeld s 7 0 = false ∧ carCfg s c.val = some k ∧
    (hstOf s c.val).state = .rest ∧ computeRuns s = true ∧ s.trs.therm ≠ 3 ∧ rescueService s = false ∧ (shownTarget (hstOf s c.val) -
    fusedPos s c.val).natAbs ≤ 5000 ∧ insideLimits s k (shownTarget (hstOf s c.val)) = true := ⟨0, { carLive with fbk := { cars := [(0, { pos := 48000 })] } },
    carOne, by decide +kernel⟩
theorem witness_HoistCommands_11 : ∃ (c : Fin 64) (up : Bool) (s : State) (k : CarCfg) (l : Nat), running s .io = true ∧ carCfg s
    c.val = some k ∧ rescueActive s = true ∧ rescueCommand s = some (c.val, up, !up) ∧ s.trs.therm ≠ 3 ∧ 2 ≤ serviceSet s.dies ∧
    anyMoving s = false ∧ ((hstOf s c.val).state = .rest ∨ (hstOf s c.val).state = .held) ∧ rescueLanding s k up = some l ∧
    insideLimits s k (landSill s c.val l) = true := ⟨0, true, rescueLive, carOne, 1, by decide +kernel⟩
theorem witness_HoistCommands_12 : ∃ (c : Fin 64) (up : Bool) (s : State) (k : CarCfg), running s .io = true ∧ carCfg s c.val = some
    k ∧ rescueActive s = true ∧ rescueCommand s = some (c.val, up, !up) ∧ s.trs.therm = 3 := ⟨0, true, { rescueLive with trs.therm := 3 },
    carOne, by decide +kernel⟩
theorem witness_HoistQueueLimitsAndFrame_1 : ∃ (req : Requester) (c : Fin 64) (s : State) (k : CarCfg), accessHeld s 7 0 = false ∧
    waitsBehind s req = false ∧ isPlanner s req = true ∧ carCfg s c.val = some k ∧ (hstOf s c.val).qPending = none := ⟨.ce 64, 0,
    carLive, carOne, by decide⟩
theorem witness_HoistQueueLimitsAndFrame_2 : ∃ (req : Requester) (c : Fin 64) (s : State) (k : CarCfg) (p : QueueOp), accessHeld s 7
    0 = false ∧ waitsBehind s req = false ∧ isPlanner s req = true ∧ carCfg s c.val = some k ∧ (hstOf s c.val).qPending = some p ∧
    (hstOf s c.val).qHeld = none := ⟨.ce 64, 0, hoistLive { hoistOne with qPending := some ⟨1, 0, {}⟩ }, carOne, ⟨1, 0, {}⟩, by
    decide⟩
theorem witness_HoistQueueLimitsAndFrame_3 : ∃ (req : Requester) (c : Fin 64) (s : State) (k : CarCfg) (p : QueueOp) (q : Nat × Nat ×
    Requester), accessHeld s 7 0 = false ∧ waitsBehind s req = false ∧ isPlanner s req = true ∧ carCfg s c.val = some k ∧ (hstOf s
    c.val).qPending = some p ∧ (hstOf s c.val).qHeld = some q := ⟨.ce 64, 0, hoistLive { hoistOne with qPending := some ⟨1, 0, {}⟩, qHeld := some (1, 0, .debug) },
    carOne, ⟨1, 0, {}⟩, (1, 0, .debug), by decide⟩
theorem witness_HoistQueueLimitsAndFrame_4 : ∃ (c : Fin 64) (s : State) (k : CarCfg), accessHeld s 7 0 = false ∧ carCfg s c.val =
    some k := ⟨0, carLive, carOne, by decide⟩
theorem witness_HoistQueueLimitsAndFrame_5 : ∃ (c : Fin 64) (v : Word) (s : State) (k : CarCfg), accessHeld s 7 0 = false ∧ carCfg s
    c.val = some k ∧ (hstOf s c.val).state ≠ .flight ∧ (hstOf s c.val).vlimDn < min v.toInt k.vlimUp := ⟨0, 500, carLive, carOne, by
    decide⟩
theorem witness_HoistQueueLimitsAndFrame_6 : ∃ (c : Fin 64) (v : Word) (s : State) (k : CarCfg), accessHeld s 7 0 = false ∧ carCfg s
    c.val = some k ∧ (hstOf s c.val).state ≠ .flight ∧ max v.toInt k.vlimDn < (hstOf s c.val).vlimUp := ⟨0, 500, carLive, carOne, by
    decide⟩
theorem witness_HoistQueueLimitsAndFrame_7 : ∃ (c : Fin 64) (v : Word) (s : State) (k : CarCfg), accessHeld s 7 0 = false ∧ carCfg s
    c.val = some k ∧ min v.toInt k.vlimUp ≤ (hstOf s c.val).vlimDn := ⟨0, 0xFFF0BDC0, carLive, carOne, by decide⟩
theorem witness_HoistQueueLimitsAndFrame_8 : ∃ (c : Fin 64) (v : Word) (s : State) (k : CarCfg), accessHeld s 7 0 = false ∧ carCfg s
    c.val = some k ∧ (hstOf s c.val).vlimUp ≤ max v.toInt k.vlimDn := ⟨0, 1000000, carLive, carOne, by decide⟩
theorem witness_HoistQueueLimitsAndFrame_9 : ∃ (c : Fin 64) (s : State) (k : CarCfg), running s .io = true ∧ carCfg s c.val = some k
    := ⟨0, carLive, carOne, by decide⟩
theorem witness_HoistQueueLimitsAndFrame_10 : ∃ (c : Fin 64) (s : State), (hstOf s c.val).state = .start := ⟨0, hoistLive { hoistOne with state := .start, runRequest := true },
    by decide⟩
theorem witness_HoistQueueLimitsAndFrame_11 : ∃ (c : Fin 64) (s : State) (k : CarCfg), carCfg s c.val = some k ∧ (hstOf s
    c.val).state = .arrive ∧ deckInPlace k (hstOf s c.val) = true ∧ (hstOf s c.val).noEntry = false := ⟨0, hoistLive { hoistOne with state := .arrive, deckOk := true },
    carOne, by decide⟩
theorem witness_HoistQueueLimitsAndFrame_12 : ∃ (c : Fin 64) (s : State) (k : CarCfg), carCfg s c.val = some k ∧ (hstOf s
    c.val).state = .arrive ∧ deckInPlace k (hstOf s c.val) = false := ⟨0, deckLive .arrive, carDeck, by decide⟩
theorem witness_HoistQueueLimitsAndFrame_13 : ∃ (c : Fin 64) (s : State) (k : CarCfg), carCfg s c.val = some k ∧ ((hstOf s
    c.val).state = .flight ∨ (hstOf s c.val).state = .arrive) ∧ deckInPlace k (hstOf s c.val) = false ∧ running s .keeper = true :=
    ⟨0, deckLive .flight, carDeck, by decide⟩
theorem witness_HoistQueueLimitsAndFrame_14 : ∃ (c : Fin 64) (s : State) (k : CarCfg) (o : QueueOp), carCfg s c.val = some k ∧
    running s .io = true ∧ computeRuns s = true ∧ (hstOf s c.val).state = .rest ∧ (hstOf s c.val).qPending = some o ∧ o.op = 1 ∧
    o.index ≤ (hstOf s c.val).queue.length ∧ o.entry.kind < 2 ∧ (hstOf s c.val).vlimDn ≤ o.entry.target ∧ o.entry.target ≤ (hstOf s
    c.val).vlimUp ∧ -30000 ≤ o.entry.deck ∧ o.entry.deck ≤ 30000 ∧ (hstOf s c.val).queue.length < 8 ∧ (hstOf s c.val).qHeld = none :=
    ⟨0, hoistLive { hoistOne with qPending := some ⟨1, 1, entryOne⟩ }, carOne, ⟨1, 1, entryOne⟩, by decide⟩
theorem witness_HoistQueueLimitsAndFrame_15 : ∃ (c : Fin 64) (s : State) (k : CarCfg), carCfg s c.val = some k ∧ running s .io = true
    ∧ (hstOf s c.val).state = .rest ∧ (hstOf s c.val).qPending = none := ⟨0, carLive, carOne, by decide⟩
theorem witness_HoistQueueLimitsAndFrame_16 : ∃ (c : Fin 64) (s : State) (k : CarCfg), carCfg s c.val = some k ∧ running s .io = true
    ∧ (hstOf s c.val).state = .flight ∧ permit .a s c.val = false := ⟨0, { hoistLive { hoistOne with state := .flight, target := 50000 } with safA := {} },
    carOne, by decide⟩
theorem witness_PositionFeedback_1 : ∃ (n : Fin 16) (s : State) (k : FbkCfg) (g : SsiCfg), running s .io = true ∧ ssiCar s n.val =
    some k ∧ ssiCfg s n.val = some g := ⟨0, carLive, fbkOne, { (default : SsiCfg) with no := 0, frameBits := 25, posBits := 24, period := 4 },
    by decide⟩
theorem witness_PositionFeedback_2 : ∃ (n : Fin 16) (s : State) (k : FbkCfg) (g : SsiCfg), running s .io = true ∧ ssiCar s n.val =
    some k ∧ ssiCfg s n.val = some g := ⟨0, carLive, fbkOne, { (default : SsiCfg) with no := 0, frameBits := 25, posBits := 24, period := 4 },
    by decide⟩
theorem witness_PositionFeedback_3 : ∃ (n : Fin 16) (s : State) (k : FbkCfg) (g : SsiCfg) (l : Nat × Int), running s .io = true ∧
    ssiCar s n.val = some k ∧ ssiCfg s n.val = some g ∧ (ssiOf s n.val).latch = some l := ⟨0, { carLive with fbk := { ssi := [(0, { latch := some (5, 9) })] } },
    fbkOne, { (default : SsiCfg) with no := 0, frameBits := 25, posBits := 24, period := 4 }, (5, 9), by decide⟩
theorem witness_PositionFeedback_4 : ∃ (st : Fin 2048) (r : FeedbackRec) (r2 : Option FeedbackRec) (s : State) (k : FbkCfg), running
    s .io = true ∧ fbkCfg s r.car.val = some k ∧ r.quad = true ∧ k.quadStn = true ∧ k.quadNum = st.val ∧ (∀ x, r2 = some x → x.quad =
    false) := ⟨3, ⟨0, true, 0, 5, 0, 9⟩, none, { carLive with img := { carLive.img with feedback := [{ fbkOne with quadStn := true, quadNum := 3 }] } },
    { fbkOne with quadStn := true, quadNum := 3 }, by decide⟩
theorem witness_PositionFeedback_5 : ∃ (st : Fin 2048) (r : FeedbackRec) (s : State) (k : FbkCfg), running s .io = true ∧ fbkCfg s
    r.car.val = some k ∧ r.quad = false ∧ k.absStn = true ∧ k.absNum = st.val ∧ r.verdict.toNat ≠ 0 := ⟨3, ⟨0, false, 5, 0, 0, 0⟩, { carLive with img := { carLive.img with feedback := [{ fbkOne with absStn := true, absNum := 3 }] } },
    { fbkOne with absStn := true, absNum := 3 }, by decide⟩
theorem witness_PositionFeedback_6 : ∃ (n : Fin 16) (s : State), running s .io = true ∧ (qeOf s n.val).a = false ∧ (qeOf s n.val).b =
    false := ⟨0, carLive, by decide⟩
theorem witness_PositionFeedback_7 : ∃ (n : Fin 16) (s : State), running s .io = true ∧ (qeOf s n.val).a = false ∧ (qeOf s n.val).b =
    false := ⟨0, carLive, by decide⟩
theorem witness_PositionFeedback_8 : ∃ (n : Fin 16) (s : State), running s .io = true ∧ (qeOf s n.val).a = false ∧ (qeOf s n.val).b =
    false := ⟨0, carLive, by decide⟩
theorem witness_PositionFeedback_9 : ∃ (n : Fin 16) (rise : Bool) (s : State) (g : QeCfg), running s .io = true ∧ qeCfg s n.val =
    some g ∧ g.zpol = !rise := ⟨0, false, carLive, { (default : QeCfg) with no := 0, zpol := true, cpr := 4096 }, by decide⟩
theorem witness_PositionFeedback_10 : ∃ (c : Fin 64) (s : State) (k : FbkCfg) (a : FbSample), running s .io = true ∧ fbkCfg s c.val =
    some k ∧ k.quadStn = false ∧ (fbkOf s c.val).absSt ≠ .lost ∧ (fbkOf s c.val).quadSt ≠ .lost ∧ (fbkOf s c.val).fusedValid = true ∧
    (fbkOf s c.val).hold = false ∧ (fbkOf s c.val).anchor = some a := ⟨0, fbkLive { fusedValid := true, anchor := some {}, actScale := 0x1000000 },
    fbkOne, {}, by decide⟩
theorem witness_PositionFeedback_11 : ∃ (c : Fin 64) (s : State) (k : FbkCfg), accessHeld s 9 0 = false ∧ fbkCfg s c.val = some k ∧
    (measuredSpeed s k).1.natAbs < 10000 ∧ 1000 ≤ (fbkOf s c.val).goodAbs ∧ 1000 ≤ (fbkOf s c.val).goodQuad := ⟨0, fbkLive { goodAbs := 1000, goodQuad := 1000 },
    fbkOne, by decide⟩
theorem witness_PositionFeedback_12 : ∃ (c : Fin 64) (s : State) (k : FbkCfg), accessHeld s 9 0 = false ∧ fbkCfg s c.val = some k ∧
    (fbkOf s c.val).goodAbs < 1000 := ⟨0, fbkLive { goodAbs := 999, goodQuad := 1000 }, fbkOne, by decide⟩
theorem witness_PositionFeedback_13 : ∃ (c : Fin 64) (s : State) (k : FbkCfg), accessHeld s 9 0 = false ∧ fbkCfg s c.val = some k ∧
    s.frm.presence = true ∧ (hstOf s c.val).state = .rest ∧ (fbkOf s c.val).absSt = .good ∧ (fbkOf s c.val).quadSt = .good := ⟨0, { carLive with frm.presence := true },
    fbkOne, by decide⟩
theorem witness_PositionFeedback_14 : ∃ (c : Fin 64) (s : State) (k : FbkCfg), accessHeld s 9 0 = false ∧ fbkCfg s c.val = some k ∧
    s.frm.presence = false := ⟨0, carLive, fbkOne, by decide⟩
theorem witness_PositionFeedback_15 : ∃ (c : Fin 64) (s : State) (k : FbkCfg), accessHeld s 9 0 = false ∧ fbkCfg s c.val = some k ∧
    (fbkOf s c.val).learn = 1 := ⟨0, fbkLive { learn := 1 }, fbkOne, by decide⟩
theorem witness_PositionFeedback_16 : ∃ (c : Fin 64) (s : State) (k : FbkCfg) (car : CarCfg) (v : Nat), accessHeld s 9 0 = false ∧
    fbkCfg s c.val = some k ∧ carCfg s c.val = some car ∧ (fbkOf s c.val).learn = 1 ∧ (hstOf s c.val).state = .rest ∧ newScale s k
    (fbkOf s c.val) = some v ∧ (∀ l ∈ car.served, ∃ x ∈ (fbkOf s c.val).sills, x.landing = l) ∧ (∀ x ∈ (fbkOf s c.val).sills, (absPos
    (fbkOf s c.val) k x.raw - nominalSill s x.landing).natAbs ≤ 5000) := ⟨0, fbkLive { learn := 1, sills := [⟨0, 0, 0⟩, ⟨1, 50000, 50000⟩] },
    fbkOne, carOne, 0x1000000, by decide⟩
theorem witness_PositionFeedback_17 : ∃ (c : Fin 64) (s : State) (k : FbkCfg) (x : FbSample), running s .io = true ∧ fbkCfg s c.val =
    some k ∧ (fbkOf s c.val).newest = some x ∧ (fbkOf s c.val).learn = 1 := ⟨0, fbkLive { learn := 1, newest := some { raw := 7 } },
    fbkOne, { raw := 7 }, by decide⟩
theorem witness_DoorChannels_1 : ∃ (d : Fin 128) (s : State) (k : DoorCfg), doorCfg s d.val = some k ∧ accessHeld s 8 0 = false ∧
    computeRuns s = true ∧ (dorOf s d.val).state = .rest ∧ isOpened k (dorOf s d.val) = false ∧ doorPermit .a s d.val = true ∧
    doorPermit .b s d.val = true := ⟨0, doorLive { state := .rest }, doorOne, by decide +kernel⟩
theorem witness_DoorChannels_2 : ∃ (d : Fin 128) (s : State) (k : DoorCfg), doorCfg s d.val = some k ∧ accessHeld s 8 0 = false ∧
    computeRuns s = true ∧ (dorOf s d.val).state = .closing := ⟨0, doorLive { state := .closing }, doorOne, by decide⟩
theorem witness_DoorChannels_3 : ∃ (d : Fin 128) (s : State) (k : DoorCfg), doorCfg s d.val = some k ∧ accessHeld s 8 0 = false ∧
    computeRuns s = true ∧ (dorOf s d.val).state = .rest ∧ isClosed k (dorOf s d.val) = false ∧ doorPermit .a s d.val = true ∧
    doorPermit .b s d.val = true := ⟨0, doorLive openedDoor, doorOne, by decide +kernel⟩
theorem witness_DoorChannels_4 : ∃ (d : Fin 128) (s : State) (k : DoorCfg), doorCfg s d.val = some k ∧ accessHeld s 8 0 = false ∧
    computeRuns s = true ∧ (dorOf s d.val).state = .rest ∧ isClosed k (dorOf s d.val) = false ∧ doorPermit .a s d.val = false := ⟨0,
    { doorLive openedDoor with safA := {} }, doorOne, by decide⟩
theorem witness_DoorChannels_5 : ∃ (d : Fin 128) (s : State) (k : DoorCfg), doorCfg s d.val = some k ∧ accessHeld s 8 0 = false ∧
    computeRuns s = true ∧ ((dorOf s d.val).state = .opening ∨ (dorOf s d.val).state = .closing ∨ (dorOf s d.val).state = .geared) :=
    ⟨0, doorLive { state := .opening, p2 := 200000000000000000, v9 := 100000000000 }, doorOne, by decide⟩
theorem witness_DoorChannels_6 : ∃ (d : Fin 128) (s : State) (k : DoorCfg), doorCfg s d.val = some k ∧ accessHeld s 8 0 = false ∧
    computeRuns s = true ∧ (dorOf s d.val).state = .tripped ∧ doorPermit .a s d.val = true ∧ doorPermit .b s d.val = true ∧ bridgeBit
    (dorOf s d.val) 0 = true ∧ bridgeBit (dorOf s d.val) 1 = false ∧ bridgeBit (dorOf s d.val) 3 = true := ⟨0, doorLive { state := .tripped, ret := some ⟨0, 9, 0, 0, 0, 0⟩ },
    doorOne, by decide +kernel⟩
theorem witness_DoorChannels_7 : ∃ (d : Fin 128) (s : State) (k : DoorCfg), doorCfg s d.val = some k ∧ accessHeld s 8 0 = false ∧
    computeRuns s = true ∧ (dorOf s d.val).state = .rest ∧ k.adoDist ≠ 0 := ⟨0, doorLive { state := .rest }, doorOne, by decide⟩
theorem witness_DoorChannels_8 : ∃ (d : Fin 128) (s : State) (k : DoorCfg), doorCfg s d.val = some k ∧ accessHeld s 8 0 = false ∧
    computeRuns s = true ∧ (dorOf s d.val).state ≠ .off := ⟨0, doorLive { state := .rest }, doorOne, by decide⟩
theorem witness_DoorChannels_9 : ∃ (d : Fin 128) (s : State) (k : DoorCfg), doorCfg s d.val = some k ∧ accessHeld s 8 0 = false ∧
    computeRuns s = true := ⟨0, doorLive { state := .rest }, doorOne, by decide⟩
theorem witness_DoorChannels_10 : ∃ (d : Fin 128) (s : State) (k : DoorCfg), doorCfg s d.val = some k ∧ accessHeld s 8 0 = false ∧
    computeRuns s = true ∧ gearOk s k (dorOf s d.val) = true := ⟨0, doorLive { state := .rest }, doorOne, by decide⟩
theorem witness_DoorChannels_11 : ∃ (d : Fin 128) (s : State) (k : DoorCfg), doorCfg s d.val = some k ∧ accessHeld s 8 0 = false ∧
    computeRuns s = true ∧ gearOk s k (dorOf s d.val) = false := ⟨0, doorLive { state := .rest, staging := some { shifts := [0, 0, 0, 0], ratios := [1, 1, 1, 1] } },
    doorOne, by decide⟩
theorem witness_DoorChannels_12 : ∃ (d : Fin 128) (s : State) (k : DoorCfg), doorCfg s d.val = some k ∧ accessHeld s 8 0 = false ∧
    computeRuns s = false := ⟨0, { doorLive {} with dies := { live.dies with comp0 := .failed } }, doorOne, by decide⟩
theorem witness_DoorChannels_13 : ∃ (d : Fin 128) (s : State) (k : DoorCfg), running s .io = true ∧ doorCfg s d.val = some k := ⟨0,
    carLive, doorOne, by decide⟩
theorem witness_DoorChannels_14 : ∃ (d : Fin 128) (s : State) (k : DoorCfg), doorCfg s d.val = some k ∧ running s .io = true ∧
    computeRuns s = true ∧ (dorOf s d.val).state = .rest ∧ (dorOf s d.val).armed = false ∧ doorPermit .a s d.val = true ∧ doorPermit
    .b s d.val = true ∧ (dorOf s d.val).missed ≤ 1 ∧ bridgeBit (dorOf s d.val) 1 = false := ⟨0, doorLive { state := .rest }, doorOne,
    by decide +kernel⟩
theorem witness_DoorChannels_15 : ∃ (d : Fin 128) (s : State) (k : DoorCfg), doorCfg s d.val = some k ∧ running s .io = true ∧ (dorOf
    s d.val).state ≠ .off ∧ (dorOf s d.val).state ≠ .tripped ∧ doorPermit .a s d.val = false ∧ gearedStops s (dorOf s d.val) d.val =
    false := ⟨0, { doorLive { state := .opening, p2 := 200000000000000000, v9 := 100000000000 } with safA := {} }, doorOne, by
    decide⟩
theorem witness_DoorChannels_16 : ∃ (d : Fin 128) (s : State), running s .io = true ∧ (dorOf s d.val).switchDue = true := ⟨0,
    doorLive { state := .rest, switchDue := true }, by decide⟩
theorem witness_CallPortAndQueueAnswers_1 : ∃ (g : Fin 8) (s : State) (k : Nat), accessHeld s 10 0 = false ∧ (grpOf s g.val).calling
    = none ∧ (grpOf s g.val).heldOp = none ∧ PortTakes s g.val (stagedCall s g.val) ∧ (∀ e ∈ (grpOf s g.val).calls, ∀ o, e.2 = some o
    → ¬ mergesInto (stagedCall s g.val) o) ∧ (List.range (Nat.min 256 (((groupCfg s g.val).map (·.calls)).getD 0))).find? (fun t =>
    (callOf (grpOf s g.val) t).isNone) = some k := ⟨0, grpLive { stage0 := 0x11010000, stage1 := 5 }, 0, by decide⟩
theorem witness_CallPortAndQueueAnswers_2 : ∃ (g : Fin 8) (s : State) (k : Nat) (o : Call), accessHeld s 10 0 = false ∧ (grpOf s
    g.val).calling = none ∧ (grpOf s g.val).heldOp = none ∧ PortTakes s g.val (stagedCall s g.val) ∧ (grpOf s g.val).calls = [(k,
    some o)] ∧ mergesInto (stagedCall s g.val) o := ⟨0, grpLive { stage0 := 0x11010000, stage1 := 6, calls := [(0, some callOne)] },
    0, callOne, by decide⟩
theorem witness_CallPortAndQueueAnswers_3 : ∃ (g : Fin 8) (s : State), accessHeld s 10 0 = false ∧ (grpOf s g.val).calling = none ∧
    (grpOf s g.val).heldOp = none ∧ (groupCfg s g.val).isSome = true ∧ (computeRuns s = false ∨ s.kpr.smoke = .frozen) := ⟨0, { carLive with kpr.smoke := .frozen },
    ⟨by decide, by decide, by decide⟩⟩
theorem witness_CallPortAndQueueAnswers_4 : ∃ (g : Fin 8) (s : State), accessHeld s 10 0 = false ∧ (grpOf s g.val).calling = none ∧
    (grpOf s g.val).heldOp = none ∧ (groupCfg s g.val).isSome = true ∧ computeRuns s = true ∧ s.kpr.smoke ≠ .frozen ∧ 16 ≤ (grpOf s
    g.val).port.length + (grpOf s g.val).unordered.length := ⟨0, grpLive { port := List.range 16 }, by decide⟩
theorem witness_CallPortAndQueueAnswers_5 : ∃ (g : Fin 8) (s : State), accessHeld s 10 0 = false ∧ (grpOf s g.val).calling = none ∧
    (grpOf s g.val).heldOp = none ∧ (groupCfg s g.val).isSome = true ∧ computeRuns s = true ∧ s.kpr.smoke ≠ .frozen ∧ (grpOf s
    g.val).port.length + (grpOf s g.val).unordered.length < 16 ∧ callInRange s g.val (stagedCall s g.val) = false := ⟨0, grpLive { stage0 := 0x11020000 },
    by decide⟩
theorem witness_CallPortAndQueueAnswers_6 : ∃ (g : Fin 8) (s : State), accessHeld s 10 0 = false ∧ (grpOf s g.val).calling = none ∧
    (grpOf s g.val).heldOp = none ∧ (groupCfg s g.val).isSome = true ∧ computeRuns s = true ∧ s.kpr.smoke ≠ .frozen ∧ (grpOf s
    g.val).port.length + (grpOf s g.val).unordered.length < 16 ∧ callInRange s g.val (stagedCall s g.val) = true ∧ 3 ≤ (stagedCall s
    g.val).kind ∧ bitAt (rightsWord s (stagedCall s g.val).profile ((stagedCall s g.val).dest / 32)) ((stagedCall s g.val).dest % 32)
    = false := ⟨0, grpLive { stage0 := 0x31000100 }, by decide⟩
theorem witness_CallPortAndQueueAnswers_7 : ∃ (g : Fin 8) (k : Fin 256) (s : State) (u : State) (c : Call), accessHeld s 10 0 = false
    ∧ (grpOf s g.val).calling = none ∧ (groupCfg s g.val).isSome = true ∧ u = s.dsp.released.foldl (fun x _ => tagRelease x) s ∧
    callOf (grpOf u g.val) k.val = some c ∧ c.state ≠ .boarded := ⟨0, 0, grpLive { calls := [(0, some callOne)] }, grpLive { calls := [(0, some callOne)] },
    callOne, ⟨by decide, by decide, by decide, rfl, by decide, by decide⟩⟩
theorem witness_CallPortAndQueueAnswers_8 : ∃ (g : Fin 8) (k : Fin 256) (s : State) (u : State), accessHeld s 10 0 = false ∧ (grpOf s
    g.val).calling = none ∧ (groupCfg s g.val).isSome = true ∧ u = s.dsp.released.foldl (fun x _ => tagRelease x) s ∧
    (match callOf (grpOf u g.val) k.val with | some c => c.state = .boarded | none => True) := ⟨0, 0, carLive, carLive, ⟨by decide,
    by decide, by decide, rfl, trivial⟩⟩
theorem witness_CallPortAndQueueAnswers_9 : ∃ (c : Fin 64) (s : State) (gc : GroupCfg) (tag : Word) (v : StopSlot), groupOf s c.val =
    some gc ∧ running s .comp0 = true ∧ tget none (grpOf s gc.no).inflight c.val = some (1, tag) ∧ (hstOf s c.val).qPending = none ∧
    (hstOf s c.val).qResult = 0 ∧ slotOf (grpOf s gc.no) (fld tag 7 0) = some v ∧ tagOf gc.no (fld tag 7 0) v = tag := ⟨0, grpLive { inflight := [(0, some (1, 0x300))], slots := [(0, some ⟨3, 0, false, false, false⟩)] },
    ⟨0, [0], 100⟩, 0x300, ⟨3, 0, false, false, false⟩, by decide⟩
theorem witness_CallPortAndQueueAnswers_10 : ∃ (c : Fin 64) (s : State) (gc : GroupCfg) (tag : Word) (v : StopSlot), groupOf s c.val
    = some gc ∧ running s .comp0 = true ∧ tget none (grpOf s gc.no).inflight c.val = some (3, tag) ∧ (hstOf s c.val).qPending = none
    ∧ (hstOf s c.val).qResult = 0 ∧ slotOf (grpOf s gc.no) (fld tag 7 0) = some v ∧ tagOf gc.no (fld tag 7 0) v = tag := ⟨0, grpLive
    { inflight := [(0, some (3, 0x300))], slots := [(0, some ⟨3, 0, true, true, false⟩)] }, ⟨0, [0], 100⟩, 0x300, ⟨3, 0, true, true,
    false⟩, by decide⟩
theorem witness_CallPortAndQueueAnswers_11 : ∃ (c : Fin 64) (s : State) (gc : GroupCfg) (op : Nat) (tag : Word), groupOf s c.val =
    some gc ∧ running s .comp0 = true ∧ running s .keeper = true ∧ tget none (grpOf s gc.no).inflight c.val = some (op, tag) ∧ (hstOf
    s c.val).qPending = none ∧ (hstOf s c.val).qResult ≠ 0 := ⟨0, { grpLive { inflight := [(0, some (1, 0x300))], slots := [(0, some ⟨3, 0, false, false, false⟩)] } with hst := [(0, { hoistOne with qResult := 1 })] },
    ⟨0, [0], 100⟩, 1, 0x300, by decide⟩
theorem witness_CallPortAndQueueAnswers_12 : ∃ (s : State) (tag : Word) (rest : List Word) (v : StopSlot), running s .comp0 = true ∧
    s.dsp.released = tag :: rest ∧ fld tag 31 27 = 0 ∧ (groupCfg s (fld tag 26 24)).isSome = true ∧ slotOf (grpOf s (fld tag 26 24))
    (fld tag 7 0) = some v ∧ v.gen = fld tag 23 8 := ⟨{ carLive with dsp := { groups := [(0, { slots := [(0, some ⟨3, 0, true, false, false⟩)] })], released := [0x300] } },
    0x300, [], ⟨3, 0, true, false, false⟩, by decide⟩
theorem witness_CallPortAndQueueAnswers_13 : ∃ (s : State) (tag : Word) (rest : List Word) (v : StopSlot), running s .comp0 = true ∧
    running s .keeper = true ∧ s.dsp.released = tag :: rest ∧ fld tag 31 27 = 0 ∧ (groupCfg s (fld tag 26 24)).isSome = true ∧ slotOf
    (grpOf s (fld tag 26 24)) (fld tag 7 0) = some v ∧ v.gen ≠ fld tag 23 8 := ⟨{ carLive with dsp := { groups := [(0, { slots := [(0, some ⟨3, 0, true, false, false⟩)] })], released := [0x400] } },
    0x400, [], ⟨3, 0, true, false, false⟩, by decide⟩
theorem witness_Planners_1 : ∃ (g : Fin 8) (s : State) (k : Nat) (rest : List Nat) (c : Call), canStep s g.val = true ∧ lostStops
    g.val s = s ∧ (grpOf s g.val).redo = [] ∧ (grpOf s g.val).port = k :: rest ∧ callOf (grpOf s g.val) k = some c ∧ c.state =
    .planning ∧ c.kind ≠ 4 ∧ bestChoice (putGrp s g.val { grpOf s g.val with port := rest }) g.val k c (callCars s g.val c) 0 = none
    := ⟨0, grpLive { ready := true, avail := 0, calls := [(0, some callOne)], port := [0] }, 0, [], callOne, by decide +kernel⟩
theorem witness_Planners_2 : ∃ (g : Fin 8) (s : State) (k : Nat) (rest : List Nat) (c : Call) (b : Choice), canStep s g.val = true ∧
    lostStops g.val s = s ∧ (grpOf s g.val).redo = [] ∧ (grpOf s g.val).port = k :: rest ∧ callOf (grpOf s g.val) k = some c ∧
    c.state = .planning ∧ c.merged = [] ∧ bestChoice (putGrp s g.val { grpOf s g.val with port := rest }) g.val k c (callCars s g.val
    c) 0 = some b ∧ (adopt g.val k c b (putGrp s g.val { grpOf s g.val with port := rest })).isSome = true := ⟨0, grpLive { ready := true, calls := [(0, some callOne)], port := [0] },
    0, [], callOne, ⟨0, ⟨0, some ⟨0, 1, 1⟩, none⟩, (some (0, true), none), 8000, 1000, [⟨none, 1, [0], []⟩], none⟩, by
    decide +kernel⟩
theorem witness_Planners_3 : ∃ (g : Fin 8) (s : State) (k : Nat) (c : Call), canStep s g.val = true ∧ lostStops g.val s = s ∧ (grpOf
    s g.val).redo = [] ∧ (grpOf s g.val).port = [] ∧ (grpOf s g.val).calls = [(k, some c)] ∧ sweepable s g.val k c = true := ⟨0,
    grpLive { ready := true, weight1 := 0x3C050000, calls := [(0, some { callOne with state := .assigned, car := some 0, pick := some 0 })], plans := [(0, [⟨some 0, 1, [0], []⟩])], slots := [(0, some ⟨3, 0, false, false, false⟩)], inflight := [(0, some (1, 0x300))] },
    0, { callOne with state := .assigned, car := some 0, pick := some 0 }, by decide +kernel⟩
theorem witness_Planners_4 : ∃ (c : Fin 64) (s : State) (gc : GroupCfg) (k : Nat) (d : Call), groupOf s c.val = some gc ∧ running s
    .comp0 = true ∧ inService s gc.no c.val = false ∧ lostStops gc.no s = s ∧ callOf (grpOf s gc.no) k = some d ∧ d.car = some c.val
    ∧ d.state = .assigned ∧ d.kind ≠ 4 := ⟨0, { grpLive { calls := [(0, some { callOne with state := .assigned, car := some 0 })] } with hst := [(0, { hoistOne with state := .tripped })] },
    ⟨0, [0], 100⟩, 0, { callOne with state := .assigned, car := some 0 }, by decide +kernel⟩
theorem witness_Planners_5 : ∃ (g : Fin 8) (s : State), (groupCfg s g.val).isSome = true ∧ plannersRun s g.val = true := ⟨0, carLive,
    by decide⟩
theorem witness_Planners_6 : ∃ (g : Fin 8) (k : Fin 256) (s : State) (c : Call), running s .comp0 = true ∧ callOf (grpOf s g.val)
    k.val = some c ∧ c.state ≠ .boarded ∧ c.kind ≠ 4 ∧ c.told = false := ⟨0, 0, grpLive { calls := [(0, some callOne)] }, callOne, by
    decide⟩
theorem witness_Planners_7 : ∃ (s : State), running s .comp0 = true := ⟨live, by decide⟩
theorem witness_SafetyCycles_1 : ∃ (ch : Channel) (s : State), chUp (safOf s ch) = true := ⟨.a, safLive safOne safOne, by decide⟩
theorem witness_SafetyCycles_2 : ∃ (s : State), s.safA.state = .run ∧ s.safA.commitAsked = false ∧ s.safA.commitDue = false ∧ running
    s .field = true ∧ s.safA.partner = none := ⟨safLive safOne safOne, by decide⟩
theorem witness_SafetyCycles_3 : ∃ (s : State) (p : BitVec 640) (r : BitVec 640), s.safA.state = .run ∧ s.safA.commitAsked = false ∧
    s.safA.commitDue = false ∧ s.safA.partner = some p ∧ s.safA.returned = some r ∧ frameCycle s.safA.frame % 100 ≠ 0 ∧ (r ^^^ p) &&&
    comparedBits ≠ 0 ∧ s.safA.compares.getD 0 false = true := ⟨safLive { safOne with partner := some 1, returned := some 2, frame := BitVec.ofNat 640 (1 * 2 ^ 528), compares := [true] }
    safOne, 1, 2, by decide +kernel⟩
theorem witness_SafetyCycles_4 : ∃ (s : State), s.safB.state = .run ∧ s.safB.commitAsked = false ∧ s.safB.commitDue = false ∧
    s.safB.marker = true ∧ 119 ≤ s.safB.sinceKnock := ⟨safLive safOne { safOne with sinceKnock := 119, marker := true }, by decide⟩
theorem witness_SafetyCycles_5 : ∃ (s : State), s.safB.state = .run ∧ s.safB.commitAsked = false ∧ s.safB.commitDue = false ∧
    s.safB.marker = false ∧ 1 ≤ s.safB.startBad := ⟨safLive safOne { safOne with startBad := 1 }, by decide⟩
theorem witness_SafetyCycles_6 : ∃ (s : State) (image : List Byte), chUp s.safA = true ∧ s.safA.commitAsked = true ∧
    s.safB.commitAsked = true ∧ s.safA.commitDue = false ∧ commitHolds s .a = true ∧ heldImage s .a = some image := ⟨safLive { safOne with staged := some [1], commitAsked := true }
    { safOne with staged := some [1], commitAsked := true }, [1], by decide⟩
theorem witness_SafetyCycles_7 : ∃ (s : State), chUp s.safA = true ∧ chUp s.safB = true := ⟨safLive safOne safOne, by decide⟩
theorem witness_SafetyCycles_8 : ∃ (s : State), chUp s.safA = true ∧ chUp s.safB = true := ⟨safLive safOne safOne, by decide⟩
theorem witness_SafetyCycles_9 : ∃ (length : Nat) (s : State), chUp s.safA = true ∧ s.safB.state = .run ∧ (length < 98000 ∨ 102000 <
    length) ∧ 1 ≤ s.safB.lengthBad := ⟨97999, safLive safOne { safOne with lengthBad := 1 }, by decide⟩
theorem witness_SafetyCycles_10 : ∃ (s : State), chUp s.safA = true ∧ chUp s.safB = true := ⟨safLive safOne safOne, by decide⟩
theorem witness_SafetyCycles_11 : ∃ (s : State), chUp s.safA = true ∧ chUp s.safB = true := ⟨safLive safOne safOne, by decide⟩
theorem witness_SafetyCycles_12 : ∃ (s : State), chUp s.safA = true ∧ chUp s.safB = true := ⟨safLive safOne safOne, by decide⟩
theorem witness_SafetyCycles_13 : ∃ (s : State), chUp s.safA = true ∧ chUp s.safB = true := ⟨safLive safOne safOne, by decide⟩
theorem witness_SafetyCycles_14 : ∃ (s : State) (what : PlumbArrival), s.safA.state = .run ∧ ((∃ length, what = .partnerAtA length) ∧
    s.safA.partner = none ∨ what = .returned ∧ s.safA.returned = none ∨ what = .pattern ∧ s.safA.pattern = none) := ⟨safLive safOne
    safOne, .returned, ⟨by decide, Or.inr (Or.inl (And.intro rfl (by decide)))⟩⟩
theorem witness_SafetyCycles_15 : ∃ (s : State), chUp s.safA = true ∧ chUp s.safB = true := ⟨safLive safOne safOne, by decide⟩
theorem witness_SafetyCycles_16 : ∃ (s : State) (what : PlumbArrival), s.safB.state = .run ∧ (what = .partnerAtB ∧ s.safB.partner =
    none ∨ what = .patternAtB ∧ s.safB.pattern = none) := ⟨safLive safOne safOne, .partnerAtB, ⟨by decide, Or.inl (And.intro rfl (by
    decide))⟩⟩
theorem witness_SafetyInputsAndStates_1 : ∃ (ch : Channel) (k : Fin 48) (s : State), chUp (safOf s ch) = true ∧ running s .field =
    true ∧ (safOf s ch).cfg.filters.any (fun e => decide (e.1 = k.val)) = true := ⟨.b, 5, safLive safOne safOne, by decide⟩
theorem witness_SafetyInputsAndStates_2 : ∃ (f : StationFrame) (ca : BitVec 64) (s : State), running s .io = true ∧ chUp s.safA =
    true ∧ (∀ q, (safStn s.safA f.station.toNat).seq = some q → 0 < (f.seq - q).toInt) ∧ ca = safetyCheck .a f.station.toNat f.seq
    (frameBytes f) := ⟨frameThree, _, safLive safOne safOne, ⟨by decide, by decide, (by intro q h; cases h), rfl⟩⟩
theorem witness_SafetyInputsAndStates_3 : ∃ (f : StationFrame) (cb : BitVec 64) (s : State), running s .io = true ∧ chUp s.safB =
    true ∧ (∀ q, (safStn s.safB f.station.toNat).seq = some q → 0 < (f.seq - q).toInt) ∧ cb = safetyCheck .b f.station.toNat f.seq
    (frameBytes f) := ⟨frameThree, _, safLive safOne safOne, ⟨by decide, by decide, (by intro q h; cases h), rfl⟩⟩
theorem witness_SafetyInputsAndStates_5 : ∃ (ch : Channel) (s : State), chUp (safOf s ch) = true := ⟨.a, safLive safOne safOne, by
    decide⟩
theorem witness_SafetyInputsAndStates_7 : ∃ (ch : Channel) (s : State), (safOf s ch).state = .off := ⟨.a, live, by decide⟩
theorem witness_SafetyInputsAndStates_8 : ∃ (ch : Channel) (s : State), (safOf s ch).state = .init ∧ linksRight ch (safOf s ch) =
    true ∧ (ch = .a → delayRight s.safA = true) ∧ filtersFull s (safOf s ch) = true := ⟨.b, safLive safOne { safOne with state := .init, partner := some 0, pattern := some 0 },
    by decide⟩
theorem witness_SafetyInputsAndStates_9 : ∃ (ch : Channel) (s : State), (safOf s ch).state = .init ∧ activeOk (safOf s ch) = false :=
    ⟨.b, safLive safOne { safOne with state := .init }, ⟨by decide, activeOk_empty rfl rfl⟩⟩
theorem witness_SafetyInputsAndStates_10 : ∃ (ch : Channel) (s : State), (safOf s ch).state = .init ∧ linksRight ch (safOf s ch) =
    true ∧ (ch = .a → delayRight s.safA = true) ∧ cfgMatch s = false ∧ (safOf s (otherCh ch)).state = .safe ∧ (safOf s (otherCh
    ch)).cause = 8 := ⟨.b, safLive { safOne with state := .safe, cause := 8 } { safOne with state := .init, partner := some 0, pattern := some 0 },
    ⟨by decide, by decide, by decide, cfgMatch_empty rfl rfl, by decide, by decide⟩⟩
theorem witness_SafetyInputsAndStates_11 : ∃ (s : State), s.safA.state = .safe ∧ s.safB.state = .safe ∧ (∀ ch, safInputOf (safOf s
    ch) (safOf s ch).cfg.safeReset = true ∧ causeGone s ch = true ∧ filtersFull s (safOf s ch) = true) := ⟨safLive { safOne with state := .safe, cause := 3, verdict := 1 }
    { safOne with state := .safe, cause := 2 }, ⟨by decide, by decide, (by intro ch; cases ch <;> decide)⟩⟩
theorem witness_SafetyInputsAndStates_12 : ∃ (ch : Channel) (s : State), (safOf s ch).state = .safe ∧ causeGone s ch = false := ⟨.a,
    safLive { safOne with state := .safe, cause := 8 } safOne, by decide⟩
theorem witness_SafetyInputsAndStates_13 : ∃ (ch : Channel) (s : State), chUp (safOf s ch) = true := ⟨.a, safLive safOne safOne, by
    decide⟩
theorem witness_BrakeSequences_1 : ∃ (ch : Channel) (c : Fin 64) (s : State) (k : SafCarCfg), chUp (safOf s ch) = true ∧ (safOf s
    ch).cfg.cars.find? (fun k => decide (k.car = c.val)) = some k := ⟨.a, 0, safCarLive { phase := .lifting }, safCarOne, by decide⟩
theorem witness_BrakeSequences_2 : ∃ (ch : Channel) (c : Fin 64) (s : State), chUp (safOf s ch) = true ∧ (safOf s ch).cfg.cars.any
    (fun k => decide (k.car = c.val)) = true ∧ (safCar (safOf s ch) c.val).phase = .mainDrop := ⟨.a, 0, safCarLive { phase := .mainDrop },
    by decide⟩
theorem witness_BrakeSequences_3 : ∃ (ch : Channel) (c : Fin 64) (s : State) (k : SafCarCfg), (safOf s ch).state = .run ∧ (safOf s
    ch).freeze = false ∧ (safOf s ch).cfg.cars.find? (fun k => decide (k.car = c.val)) = some k ∧ (safCar (safOf s ch) c.val).btDue =
    true ∧ lessMask (safCar (safOf s ch) c.val).trips (causeMask [(tBrakeDue, true)]) = 0 ∧ (safCar (safOf s ch) c.val).phase = .idle
    ∧ (safCar (safOf s ch) c.val).tap.hoist = .rest ∧ (safCar (safOf s ch) c.val).locked = true ∧ nearSill k (safCar (safOf s ch)
    c.val) k.zone (fun _ => true) = true := ⟨.a, 0, safCarLive { btDue := true, locked := true, inZone := true, pos := some 0, trips := 256, tap := { hoist := .rest } },
    safCarOne, by decide⟩
theorem witness_BrakeSequences_4 : ∃ (ch : Channel) (c : Fin 64) (s : State) (k : SafCarCfg) (i : Nat) (p : Int), chUp (safOf s ch) =
    true ∧ (safOf s ch).cfg.cars.find? (fun k => decide (k.car = c.val)) = some k ∧ (safCar (safOf s ch) c.val).phase = .testHold i p
    := ⟨.a, 0, safCarLive { phase := .testHold 1 0 }, safCarOne, 1, 0, by decide⟩
theorem witness_BrakeSequences_5 : ∃ (ch : Channel) (c : Fin 64) (s : State), chUp (safOf s ch) = true ∧ (safOf s ch).cfg.cars.any
    (fun k => decide (k.car = c.val)) = true := ⟨.a, 0, safCarLive {}, by decide⟩
theorem witness_BrakeSequences_6 : ∃ (ch : Channel) (c : Fin 64) (s : State), chUp (safOf s ch) = true ∧ (safOf s ch).cfg.cars.any
    (fun k => decide (k.car = c.val)) = true ∧ (safCar (safOf s ch) c.val).btDue = true ∧ (safCar (safOf s ch) c.val).btOver = false
    := ⟨.a, 0, safCarLive { btDue := true }, by decide⟩
theorem witness_BrakeSequences_7 : ∃ (ch : Channel) (s : State), chUp (safOf s ch) = true ∧ (safOf s ch).freeze = true := ⟨.a,
    safLive { safOne with freeze := true } safOne, by decide⟩
theorem witness_SealedRequests_1 : ∃ (ch : Channel) (s : State), chUp (safOf s ch) = true ∧ (safOf s ch).log.length < 4096 := ⟨.a,
    safLive safOne safOne, by decide⟩
theorem witness_SealedRequests_2 : ∃ (ch : Channel) (pw : List Byte) (s : State), chUp (safOf s ch) = true ∧ chUp (safOf s (otherCh
    ch)) = true ∧ safPresence (safOf s ch) = true ∧ (safOf s ch).lockout = false ∧ (safOf s (otherCh ch)).lockout = false ∧
    passwordRight (safOf s ch) pw = true ∧ (safOf s ch).log.length < 4096 ∧ (safOf s (otherCh ch)).log.length < 4096 ∧ (heldImage s
    ch).isSome = true ∧ heldImage s ch = heldImage s (otherCh ch) ∧ carsAtRest (safOf s ch) = true ∧ carsAtRest (safOf s (otherCh
    ch)) = true ∧ (safOf s ch).commitAsked = false ∧ (safOf s ch).commitDue = false := ⟨.a, [], safLive { safOne with staged := some [1] }
    { safOne with staged := some [1] }, ⟨by decide, by decide, by decide, by decide, by decide, by simp [passwordRight, safOf,
    safLive, safOne, safCfgOne], by decide, by decide, by decide, by decide, by decide, by decide, by decide, by decide⟩⟩
theorem witness_SealedRequests_3 : ∃ (ch : Channel) (pw : List Byte) (s : State), chUp (safOf s ch) = true ∧ safPresence (safOf s ch)
    = true ∧ (safOf s ch).lockout = false ∧ passwordRight (safOf s ch) pw = true ∧ (safOf s ch).log.length < 4096 ∧ (safOf s
    ch).previous ≠ [] ∧ (safOf s ch).cfg.cars.all (fun k => atRest (safCar (safOf s ch) k.car)) = true := ⟨.a, [], safLive { safOne with previous := [1] }
    safOne, ⟨by decide, by decide, by decide, by simp [passwordRight, safOf, safLive, safOne, safCfgOne], by decide, by decide, by
    decide⟩⟩
theorem witness_SealedRequests_4 : ∃ (ch : Channel) (c : Fin 64) (s : State), chUp (safOf s ch) = true ∧ (safOf s ch).cfg.cars.any
    (fun k => decide (k.car = c.val)) = true ∧ safPresence (safOf s ch) = true ∧ firstCause ((safCar (safOf s ch) c.val).trips &&&
    (safCar (safOf s ch) c.val).present &&& manualMask (safCar (safOf s ch) c.val)) = 0 := ⟨.a, 0, safCarLive { trips := 2 }, by
    decide⟩
theorem witness_SealedRequests_5 : ∃ (ch : Channel) (s : State), chUp (safOf s ch) = true := ⟨.a, safLive safOne safOne, by decide⟩
theorem witness_SealedRequests_6 : ∃ (ch : Channel) (s : State), chUp (safOf s ch) = true := ⟨.a, safLive safOne safOne, by decide⟩
theorem witness_SealedRequests_7 : ∃ (ch : Channel) (s : State), chUp (safOf s ch) = true ∧ (s.rst.phase = 7 ∨ s.rst.phase = 8) :=
    ⟨.a, { safLive safOne safOne with rst.phase := 7 }, by decide⟩
theorem witness_SealedRequests_8 : ∃ (ch : Channel) (s : State), chUp (safOf s ch) = true ∧ s.rst.phase ≠ 7 ∧ s.rst.phase ≠ 8 := ⟨.a,
    safLive safOne safOne, by decide⟩
theorem witness_SealedRequests_10 : ∃ (ch : Channel) (s : State), chUp (safOf s ch) = true := ⟨.a, safLive safOne safOne, by decide⟩
theorem witness_SealedRequests_11 : ∃ (ch : Channel) (s : State), chUp (safOf s ch) = true ∧ safPresence (safOf s ch) = false := ⟨.a,
    safLive { safOne with seen := [] } safOne, by decide⟩
theorem witness_SealedRequests_12 : ∃ (ch : Channel) (s : State), chUp (safOf s ch) = true ∧ safPresence (safOf s ch) = true ∧ (safOf
    s ch).lockout = false := ⟨.a, safLive safOne safOne, by decide⟩
theorem witness_FieldInputs_1 : ∃ (g : Fin 2) (s : State) (q : Instr × GroupState), running s .field = true ∧ q ∈ ([(.vfieldLost g,
    .lost), (.vfieldOver g, .beyond), (.vfieldGood g, .good)] : List (Instr × GroupState)) ∧ groupState s g.val ≠ q.2 := ⟨0,
    fieldLive { g1 := .lost }, (.vfieldGood 0, .good), by decide⟩
theorem witness_FieldInputs_2 : ∃ (k : Fin 48) (s : State), running s .field = true ∧ (inCfg s k.val).isSome = true := ⟨0, fieldLive
    {}, by decide⟩
theorem witness_FieldInputs_3 : ∃ (k : Fin 48) (s : State) (c : FieldInCfg), running s .field = true ∧ inCfg s k.val = some c := ⟨0,
    fieldLive {}, ⟨0, 1, 15, 5, 4⟩, by decide⟩
theorem witness_FieldInputs_4 : ∃ (s : State) (a : Nat), running s .field = true ∧ a ∈ (fieldTable s).adcs ∧ (fieldTable
    s).adcs.Nodup := ⟨fieldLive {}, 1, by decide⟩
theorem witness_FieldInputs_5 : ∃ (s : State), running s .field = true := ⟨fieldLive {}, by decide⟩
theorem witness_FieldInputs_6 : ∃ (s : State), running s .field = true := ⟨fieldLive {}, by decide⟩
theorem witness_FieldInputs_7 : ∃ (s : State), running s .field = true := ⟨fieldLive {}, by decide⟩
theorem witness_FieldOutputsAndCoils_1 : ∃ (o : Fin 24) (s : State), running s .field = true ∧ (fieldOut s o.val).state = .on := ⟨0,
    fieldLive { outs := [(0, { state := .on })] }, by decide⟩
theorem witness_FieldOutputsAndCoils_2 : ∃ (o : Fin 24) (s : State), running s .field = true ∧ (fieldOut s o.val).state = .wait ∧
    outWanted s o.val = true := ⟨0, fieldLive { outs := [(0, { state := .wait, cmd := true })] }, by decide⟩
theorem witness_FieldOutputsAndCoils_3 : ∃ (o : Fin 24) (s : State), running s .field = true ∧ (fieldOut s o.val).state = .hot ∧
    (fieldOut s o.val).before = .wait ∧ outWanted s o.val = true := ⟨0, fieldLive { outs := [(0, { state := .hot, before := .wait, cmd := true })] },
    by decide⟩
theorem witness_FieldOutputsAndCoils_4 : ∃ (o : Fin 24) (s : State), running s .field = true ∧ (outCfg s o.val).isSome = true ∧
    (fieldOut s o.val).state ≠ .hot := ⟨0, fieldLive { outs := [(0, { state := .on })] }, by decide⟩
theorem witness_FieldOutputsAndCoils_5 : ∃ (o : Fin 24) (s : State), running s .field = true ∧ (fieldOut s o.val).state = .hot := ⟨0,
    fieldLive { outs := [(0, { state := .hot })] }, by decide⟩
theorem witness_FieldOutputsAndCoils_6 : ∃ (o : Fin 24) (s : State) (k : FieldOutCfg), running s .field = true ∧ outCfg s o.val =
    some k ∧ (fieldOut s o.val).isOpen = false ∧ (if (fieldOut s o.val).state = .on then k.owOn else k.owOff) = true := ⟨0, fieldLive
    { outs := [(0, { state := .on })] }, ⟨0, true, true, false, false⟩, by decide⟩
theorem witness_FieldOutputsAndCoils_7 : ∃ (s : State), running s .field = true := ⟨fieldLive { outs := [(0, { isOpen := true })] },
    by decide⟩
theorem witness_FieldOutputsAndCoils_8 : ∃ (k : Fin 16) (s : State), (coilOf s k.val).state = .pull := ⟨0, fieldLive { coils := [(0, { state := .pull })] },
    by decide⟩
theorem witness_FieldOutputsAndCoils_9 : ∃ (k : Fin 16) (s : State) (c : CoilCfg), running s .field = true ∧ coilCfg s k.val = some c
    ∧ c.mode = 1 := ⟨0, fieldLive { coils := [(0, { state := .hold })] }, { (default : CoilCfg) with no := 0, mode := 1 }, by decide⟩
theorem witness_FieldOutputsAndCoils_10 : ∃ (k : Fin 16) (s : State) (c : CoilCfg), running s .field = true ∧ coilCfg s k.val = some
    c ∧ c.mode = 2 ∧ (coilOf s k.val).state = .move := ⟨2, fieldLive { coils := [(2, { state := .move, target := 50 })] }, { (default : CoilCfg) with no := 2, mode := 2, vmax := 100, acc := 10 },
    by decide⟩
theorem witness_FieldOutputsAndCoils_11 : ∃ (k : Fin 16) (cause : Fin 3) (s : State) (c : CoilCfg), running s .field = true ∧ coilCfg
    s k.val = some c ∧ c.mode ≠ 0 ∧ ((coilOf s k.val).state = .off → cause.val ≠ 1) ∧ (coilOf s k.val).state ≠ .tripped ∧ (c.mode = 3
    → k.val ≠ 0) := ⟨0, 0, fieldLive { coils := [(0, { state := .hold })] }, { (default : CoilCfg) with no := 0, mode := 1 }, by
    decide⟩
theorem witness_FieldOutputsAndCoils_12 : ∃ (k : Fin 16) (target : Word) (s : State) (c : CoilCfg), running s .field = true ∧ coilCfg
    s k.val = some c ∧ c.mode = 2 ∧ (coilOf s k.val).state = .hold ∧ (coilOf s k.val).pos ≠ target.toInt * 800 := ⟨2, 5, fieldLive { coils := [(2, { state := .hold })] },
    { (default : CoilCfg) with no := 2, mode := 2, vmax := 100, acc := 10 }, by decide⟩
theorem witness_FieldOutputsAndCoils_13 : ∃ (k : Fin 16) (s : State) (c : CoilCfg), running s .field = true ∧ coilCfg s k.val = some
    c ∧ c.mode = 2 ∧ (coilOf s k.val).state = .move := ⟨2, fieldLive { coils := [(2, { state := .move })] }, { (default : CoilCfg) with no := 2, mode := 2, vmax := 100, acc := 10 },
    by decide⟩
theorem witness_FieldOutputsAndCoils_14 : ∃ (k : Fin 16) (s : State) (b : Bool), (coilOf s k.val).switchTo = some b := ⟨2, fieldLive
    { coils := [(2, { state := .move, switchTo := some true })] }, true, by decide⟩
theorem witness_PortsAndStations_1 : ∃ (p : Fin 8) (st : PortState) (s : State) (c : PortCfg), running s .io = true ∧ portCfg s p.val
    = some c ∧ (netPort s p.val).state ≠ st := ⟨0, .down, netLive netUp, portOne, by decide⟩
theorem witness_PortsAndStations_2 : ∃ (p : Fin 8) (s : State) (e : NetQueued) (rest : List NetQueued), portUp s p.val = false ∧
    s.net.queue = e :: rest ∧ e.ports = [p.val] := ⟨0, netLive { queue := [⟨.supervision 0 0, 0, [0], none⟩] }, ⟨.supervision 0 0, 0,
    [0], none⟩, [], by decide⟩
theorem witness_PortsAndStations_3 : ∃ (p : Fin 8) (n : Nat) (vlan : Option (BitVec 12)) (s : State), portUp s p.val = true ∧
    frameTaken s p.val n vlan = true := ⟨0, 64, none, netLive netUp, by decide⟩
theorem witness_PortsAndStations_4 : ∃ (p : Fin 8) (n : Nat) (vlan : Option (BitVec 12)) (src : BitVec 48) (seq : BitVec 16) (s :
    State) (e : PrpSeen), portUp s p.val = true ∧ frameTaken s p.val n vlan = true ∧ (portCfg s p.val).any (·.paired) = true ∧ e ∈
    s.net.nodes ∧ e.pair = p.val / 2 ∧ e.src = src ∧ e.seq = seq ∧ s.now - e.time ≤ 400000000 := ⟨0, 64, none, 9, 4, netLive { netUp with nodes := [⟨0, 9, 4, 0⟩] },
    ⟨0, 9, 4, 0⟩, by decide⟩
theorem witness_PortsAndStations_5 : ∃ (p : Fin 8) (n : Nat) (vlan : Option (BitVec 12)) (src : BitVec 48) (seq : BitVec 16) (s :
    State), portUp s p.val = true ∧ frameTaken s p.val n vlan = true ∧ (portCfg s p.val).any (·.paired) = true ∧ (∀ e ∈ s.net.nodes,
    e.pair = p.val / 2 → e.src = src → e.seq = seq → 400000000 < s.now - e.time) := ⟨0, 64, none, 9, 4, netLive netUp, by decide⟩
theorem witness_PortsAndStations_6 : ∃ (k : Fin 4) (s : State), running s .io = true ∧ s.net.gone = false ∧ lanPorts s k.val ≠ [] :=
    ⟨0, netLive netUp, by decide⟩
theorem witness_PortsAndStations_7 : ∃ (p : Fin 8) (s : State), portUp s p.val = true := ⟨0, netLive netUp, by decide⟩
theorem witness_PortsAndStations_8 : ∃ (p : Fin 8) (s : State), portUp s p.val = true ∧ tget none s.tmb.lanGm p.val ≠ some true :=
    ⟨0, netLive netUp, by decide⟩
theorem witness_PortsAndStations_9 : ∃ (n : Fin 2048) (s : State) (k : StationCfg), running s .io = true ∧ stationCfg s n.val = some
    k ∧ (stnOf s n.val).exch = none := ⟨3, netLive netUp, stationOne, by decide⟩
theorem witness_PortsAndStations_10 : ∃ (n : Fin 2048) (s : State) (k : StationCfg) (e : Exchange), stationCfg s n.val = some k ∧
    (stnOf s n.val).exch = some e ∧ e.answered = false ∧ 1 ≤ e.sendings ∧ e.sendings ≤ 2 ∧ sending s = true := ⟨3, netLive { netUp with stations := [(3, { exch := some exchangeOne })] },
    stationOne, exchangeOne, by decide⟩
theorem witness_PortsAndStations_11 : ∃ (n : Fin 2048) (s : State) (k : StationCfg) (e : Exchange), stationCfg s n.val = some k ∧
    (stnOf s n.val).exch = some e ∧ (e.answered = true ∨ e.sendings = 3) := ⟨3, netLive { netUp with stations := [(3, { exch := some { exchangeOne with sendings := 3 } })] },
    stationOne, { exchangeOne with sendings := 3 }, by decide⟩
theorem witness_PortsAndStations_12 : ∃ (f : StationFrame) (length : BitVec 16) (checks : List DWord) (crc : Word), frameWhole f
    length checks crc = false := ⟨frameThree, 0, [], 0, by decide⟩
theorem witness_PortsAndStations_13 : ∃ (f : StationFrame) (length : BitVec 16) (checks : List DWord) (crc : Word) (s : State) (k :
    StationCfg), running s .io = true ∧ frameWhole f length checks crc = true ∧ stationCfg s f.station.toNat = some k ∧ inputFrameOk
    s f = true ∧ (∀ q, (stnOf s f.station.toNat).newest = some q → 0 < (f.seq - q).toInt) := ⟨frameThree, 8, [], frameCrc frameThree
    [], netLive { netUp with stations := [(3, { newest := some 6 })] }, stationOne, ⟨by decide, by simp [frameWhole, frameCrc,
    frameThree], by decide, by decide, (by intro q h; injection h with h; subst h; decide)⟩⟩
theorem witness_PortsAndStations_14 : ∃ (n : Fin 2048) (s : State) (k : StationCfg) (e : Exchange), running s .io = true ∧ stationCfg
    s n.val = some k ∧ (stnOf s n.val).exch = some e ∧ e.answered = true ∧ e.refused = false := ⟨3, netLive { netUp with stations := [(3, { exch := some { exchangeOne with answered := true } })] },
    stationOne, { exchangeOne with answered := true }, by decide⟩
theorem witness_PortsAndStations_15 : ∃ (n : Fin 2048) (s : State) (k : StationCfg) (e : Exchange), running s .io = true ∧ stationCfg
    s n.val = some k ∧ (stnOf s n.val).exch = some e ∧ e.answered = false ∧ (stnOf s n.val).state ≠ .lost := ⟨3, netLive { netUp with stations := [(3, { exch := some exchangeOne })] },
    stationOne, exchangeOne, by decide⟩
theorem witness_PortsAndStations_16 : ∃ (f : StationFrame) (s : State), running s .io = true ∧ s.net.lualasOk = true ∧ s.net.mixed =
    false ∧ inputFrameOk s f = true ∧ f.kind = 2 := ⟨frameThree, netLive { netUp with lualasOk := true }, by decide⟩
theorem witness_PairDuty_1 : ∃ (s : State), running s .io = true ∧ s.net.gone = false := ⟨live, by decide⟩
theorem witness_PairDuty_2 : ∃ (s : State), running s .io = true := ⟨live, by decide⟩
theorem witness_PairDuty_3 : ∃ (s : State) (c : Nat), running s .io = true ∧ 2 ≤ serviceSet s.dies ∧ s.net.holder = false ∧
    s.net.gone = false ∧ s.net.clash = false ∧ s.net.tickDue = none ∧ s.net.take = some c ∧ (fit s = true ∨ c = 2 ∧ partnerHas s (fun
    w => bothRelease w s) = true ∧ (s.frm.bench && partnerHas s (fun w => !w.bench)) = false) := ⟨{ live with net.take := some 2, net.verdict := 1 },
    2, by decide⟩
theorem witness_PairDuty_4 : ∃ (s : State), running s .io = true ∧ 2 ≤ serviceSet s.dies ∧ s.net.holder = false ∧ s.net.gone = false
    ∧ s.net.clash = false ∧ s.net.tickDue = none ∧ s.net.take = none ∧ startTake s = true := ⟨{ live with net.silent := true, net.verdict := 1 },
    by decide⟩
theorem witness_PairDuty_5 : ∃ (s : State), running s .io = true ∧ 2 ≤ serviceSet s.dies ∧ s.net.silent = false ∧ s.net.tickDue =
    none := ⟨live, by decide⟩
theorem witness_PairDuty_6 : ∃ (s : State), s.net.lualasOk = true ∧ s.net.tickDue = none := ⟨{ live with net := standby }, by decide⟩
theorem witness_PairDuty_7 : ∃ (k : Fin 4) (s : State), s.net.lanes.testBit k.val = true := ⟨0, { live with net.lanes := 1 }, by
    decide⟩
theorem witness_PairDuty_8 : ∃ (s : State), accessHeld s 14 0 = false ∧ s.net.result ≠ 15 := ⟨live, by decide⟩
theorem witness_PairDuty_9 : ∃ (s : State), accessHeld s 14 0 = false ∧ s.net.result = 15 ∧ s.net.heldCmd = none := ⟨{ live with net.result := 15 },
    by decide⟩
theorem witness_PairDuty_10 : ∃ (s : State) (c : Nat × Requester), accessHeld s 14 0 = false ∧ s.net.result = 15 ∧ s.net.heldCmd =
    some c := ⟨{ live with net.result := 15, net.heldCmd := some (1, .debug) }, (1, .debug), by decide⟩
theorem witness_PairDuty_11 : ∃ (s : State) (f : Nat), running s .keeper = true ∧ f = (if s.net.holder = true then putBit
    s.net.failing 0 false else s.net.failing) := ⟨live, 0, by decide⟩
theorem witness_PairDuty_12 : ∃ (t' : Fin 8) (s : State), running s .keeper = true ∧ (t'.val = 0 → s.net.holder = false) := ⟨0, live,
    by decide⟩
theorem witness_PairRecords_1 : ∃ (s : State), accessHeld s 14 0 = false ∧ s.net.result ≠ 15 := ⟨live, by decide⟩
theorem witness_PairRecords_2 : ∃ (s : State), s.net.resyncing = true ∧ s.net.holder = false ∧ 2 ≤ serviceSet s.dies := ⟨{ live with net.resyncing := true },
    by decide⟩
theorem witness_PairRecords_3 : ∃ (k : Nat) (e : Selection) (f : InFrame) (s : State), s.net.tickDue = some k ∧ devTime s ≤ k *
    250000 + 50000 ∧ (stnOf s e.station.val).frames.find? (fun f => decide (f.seq = e.seq)) = some f := ⟨4000, ⟨3, 7⟩, ⟨7, 0, [1,
    2]⟩, netLive { netUp with tickDue := some 4000, stations := [(3, { frames := [⟨7, 0, [1, 2]⟩] })] }, by decide⟩
theorem witness_PairRecords_4 : ∃ (k : Nat) (s : State), s.net.tickDue ≠ some k := ⟨4, live, by decide⟩
theorem witness_PairRecords_5 : ∃ (id : Fin 262144) (s : State), isStandby s = true ∧ exchanges s = true ∧ (pointOf s id.val).alloc =
    true ∧ running s (homeDie s id.val) = true := ⟨0, { pointLive with net := standby }, by decide⟩
theorem witness_PairRecords_6 : ∃ (g : Fin 8) (w0 : Word) (w1 : Word) (s : State) (k : Nat), isStandby s = true ∧ exchanges s = true
    ∧ running s .comp0 = true ∧ (groupCfg s g.val).isSome = true ∧ (grpOf s g.val).unordered.find? (fun t => decide ((callOf (grpOf s
    g.val) t).map (fun c => (c.w0, c.w1)) = some (w0, w1))) = some k := ⟨0, 0x11010000, 5, { grpLive { calls := [(0, some callOne)], unordered := [0] } with net := standby },
    0, by decide⟩
theorem witness_PairRecords_7 : ∃ (g : Fin 8) (s : State), isStandby s = true ∧ exchanges s = true ∧ running s .comp0 = true ∧
    (groupCfg s g.val).isSome = true ∧ (grpOf s g.val).unordered = [] := ⟨0, { carLive with net := standby }, by decide⟩
theorem witness_PairRecords_8 : ∃ (g : Fin 8) (k : Fin 256) (s : State) (c : Call), callOf (grpOf s g.val) k.val = some c ∧ k.val ∈
    (grpOf s g.val).unordered := ⟨0, 0, grpLive { calls := [(0, some callOne)], unordered := [0] }, callOne, by decide⟩
theorem witness_TimebaseAndIntervals_1 : ∃ (s : State), s.tmb.running = true ∧ s.pins.ready = false ∧ s.tmb.source ≠ 0 ∧ (¬
    (s.tmb.source = 1 ∧ s.tmb.gm = true)) := ⟨{ live with tmb.source := 2 }, by decide⟩
theorem witness_TimebaseAndIntervals_2 : ∃ (s : State), (s.tmb.source = 0 ∨ (s.tmb.source = 1 ∧ s.tmb.gm = true)) := ⟨live, by
    decide⟩
theorem witness_TimebaseAndIntervals_3 : ∃ (s : State), s.tmb.running = true ∧ s.pins.ready = true ∧ s.tmb.source ≠ 0 ∧ (¬
    (s.tmb.source = 1 ∧ s.tmb.gm = true)) := ⟨{ live with tmb.source := 2, pins.ready := true }, by decide⟩
theorem witness_TimebaseAndIntervals_4 : ∃ (s : State) (b : Int), s.tmb.running = true ∧ s.pins.ready = false ∧ s.tmb.source = 2 ∧
    s.tmb.gpBase = some b := ⟨{ live with tmb.source := 2, tmb.gpBase := some 9 }, 9, by decide⟩
theorem witness_TimebaseAndIntervals_5 : ∃ (s : State), s.tmb.running = true ∧ s.pins.ready = true ∧ (s.tmb.source = 2 ∨ s.tmb.source
    = 3) := ⟨{ live with tmb.source := 2, pins.ready := true }, by decide⟩
theorem witness_TimebaseAndIntervals_6 : ∃ (s : State), (s.tmb.source = 2 ∨ s.tmb.source = 3) := ⟨{ live with tmb.source := 3, tmb.locked := true },
    by decide⟩
theorem witness_TimebaseAndIntervals_7 : ∃ (s : State) (n : Nat), s.tmb.running = true ∧ s.tmb.nearSince = some n ∧ n + 10000000000 ≤
    s.now := ⟨{ live with now := 10000000000, tmb.nearSince := some 0 }, 0, by decide⟩
theorem witness_TimebaseAndIntervals_8 : ∃ (s : State), s.tmb.source = 1 ∧ s.tmb.gm = false := ⟨{ live with tmb.source := 1, tmb.locked := true },
    by decide⟩
theorem witness_TimebaseAndIntervals_9 : ∃ (u : Fin 8) (s : State) (at' : Nat), firstHeld (tget ({} : IntervalUnit) s.acq.ints
    u.val).openAt.isSome (tget ({} : IntervalUnit) s.acq.ints u.val).heldEv = some (at', false) ∧ at' + 250 ≤ devTime s := ⟨0, { live with acq.ints := [(0, { heldEv := [(9, false)] })] },
    9, by decide⟩
theorem witness_TimebaseAndIntervals_10 : ∃ (u : Fin 8) (s : State) (at' : Nat), firstHeld (tget ({} : IntervalUnit) s.acq.ints
    u.val).openAt.isSome (tget ({} : IntervalUnit) s.acq.ints u.val).heldEv = some (at', true) ∧ at' + 250 ≤ devTime s := ⟨0, { live with acq.ints := [(0, { openAt := some 4, heldEv := [(9, true)] })] },
    9, by decide⟩
theorem witness_PagesAndDrives_1 : ∃ (st : Fin 19) (s : State) (r : StreamRec) (rs : List StreamRec), (stageOf s st.val).recs = r ::
    rs ∧ stoDown s = false := ⟨3, stoLive { stages := [(3, { recs := [.plain 1 2 3], nextSeq := 5 })] }, .plain 1 2 3, [], by decide⟩
theorem witness_PagesAndDrives_2 : ∃ (d : Fin 2) (st : Fin 19) (s : State) (w : PageWrite), (ringOf s st.val).writing.find? (fun w =>
    if d.val = 0 then w.at0 else w.at1) = some w := ⟨0, 3, stoLive { rings := [(3, { writing := [⟨pageOne, true, false⟩] })] },
    ⟨pageOne, true, false⟩, by decide⟩
theorem witness_PagesAndDrives_3 : ∃ (d : Fin 2) (st : Fin 19) (s : State) (w : PageWrite), (ringOf s st.val).writing.find? (fun w =>
    if d.val = 0 then w.at0 else w.at1) = some w ∧ (if d.val = 0 then w.at1 else w.at0) = false := ⟨0, 3, stoLive { rings := [(3, { writing := [⟨pageOne, true, false⟩] })] },
    ⟨pageOne, true, false⟩, by decide⟩
theorem witness_PagesAndDrives_4 : ∃ (d : Fin 2) (st : Fin 19) (s : State) (w : PageWrite), (ringOf s st.val).writing.find? (fun w =>
    if d.val = 0 then w.at0 else w.at1) = some w ∧ (if d.val = 0 then w.at1 else w.at0) = true := ⟨0, 3, stoLive { rings := [(3, { writing := [⟨pageOne, true, true⟩] })] },
    ⟨pageOne, true, true⟩, by decide⟩
theorem witness_PagesAndDrives_5 : ∃ (s : State), s.sto.state = 2 ∧ s.sto.halted = false := ⟨stoLive { state := 2 }, by decide⟩
theorem witness_PagesAndDrives_6 : ∃ (s : State) (x : LinkState × Nat), isIB s = false ∧ running s .io = true ∧ x ∈ ([(.down, 0),
    (.notPresent, 3)] : List (LinkState × Nat)) := ⟨stoLive { port0 := { drive := 1, link := 2 } }, (.notPresent, 3), by decide⟩
theorem witness_PagesAndDrives_7 : ∃ (s : State), isIB s = false ∧ running s .io = true := ⟨live, by decide⟩
theorem witness_PagesAndDrives_8 : ∃ (n : Fin 2) (d : DriveIdent) (s : State) (c : Nat), isIB s = false ∧ running s .io = true ∧ c =
    (if driveCause d = 0 ∧ s.sto.state = 2 ∧ s.sto.mirror = true ∧ s.sto.degraded = true ∧ s.sto.rebuildPort = n.val ∧ d.blocks <
    (portOf s n.val).blocks then 3 else driveCause d) := ⟨0, ⟨true, true, 1000⟩, live, 0, by decide⟩
theorem witness_PagesAndDrives_9 : ∃ (n : Fin 2) (s : State), (portOf s n.val).drive = 1 := ⟨0, stoLive { port0 := { drive := 1, link := 2 } },
    by decide⟩
theorem witness_PagesAndDrives_10 : ∃ (n : Fin 2) (blocks : Nat) (isNew : Bool) (s : State), s.sto.mirror = true ∧ s.sto.degraded =
    true ∧ (portOf s n.val).drive ≠ 1 ∧ (isNew = false ∨ (portOf s n.val).blocks ≤ blocks) ∧ (portOf s (1 - n.val)).drive = 1 := ⟨0,
    100, true, stoLive { mirror := true, degraded := true, port0 := { blocks := 100 }, port1 := { drive := 1, blocks := 100 } }, by
    decide⟩
theorem witness_PagesAndDrives_11 : ∃ (s : State), s.sto.rebuild = true := ⟨stoLive { rebuild := true }, by decide⟩
theorem witness_StoreCommandsAndConsumers_1 : ∃ (s : State), isIB s = false ∧ accessHeld s 16 0 = false := ⟨live, by decide⟩
theorem witness_StoreCommandsAndConsumers_2 : ∃ (s : State), isIB s = false ∧ accessHeld s 16 0 = false := ⟨live, by decide⟩
theorem witness_StoreCommandsAndConsumers_3 : ∃ (s : State) (c : Instr), isIB s = true ∧ c ∈ ([.stoFormat, .stoRebuild, .stoFlush] :
    List Instr) := ⟨{ live with ordering := 2 }, .stoFormat, by decide⟩
theorem witness_StoreCommandsAndConsumers_4 : ∃ (s : State), isIB s = false ∧ accessHeld s 16 0 = false := ⟨live, by decide⟩
theorem witness_StoreCommandsAndConsumers_5 : ∃ (s : State), s.rst.brace = .idle ∧ s.sto.state = 2 := ⟨stoLive { state := 2 }, by
    decide⟩
theorem witness_StoreCommandsAndConsumers_6 : ∃ (k : Fin 16) (st : BitVec 8) (seq : DWord) (s : State) (cc : ConsumerCfg),
    consumerCfg s k.val = some cc ∧ st.toNat ∈ cc.streams ∧ tget 0 (consumer s k.val).cursor st.toNat ≤ seq.toNat ∧ seq.toNat < tget
    0 (consumer s k.val).sent st.toNat := ⟨0, 3, 4, consLive { state := .live, cursor := [(3, 4)], sent := [(3, 5)] } {}, consOne, by
    decide⟩
theorem witness_StoreCommandsAndConsumers_7 : ∃ (k : Fin 16) (st : BitVec 8) (seq : DWord) (s : State) (cc : ConsumerCfg),
    consumerCfg s k.val = some cc ∧ (tget 0 (consumer s k.val).sent st.toNat ≤ seq.toNat ∨ seq.toNat < tget 0 (consumer s
    k.val).cursor st.toNat) := ⟨0, 3, 5, consLive { state := .live, cursor := [(3, 4)], sent := [(3, 5)] } {}, consOne, by decide⟩
theorem witness_StoreCommandsAndConsumers_8 : ∃ (k : Fin 16) (s : State), (consumer s k.val).state = .backfill := ⟨0, consLive { state := .backfill }
    {}, by decide⟩
theorem witness_StoreCommandsAndConsumers_9 : ∃ (k : Fin 16) (s : State), (consumer s k.val).state = .live := ⟨0, consLive { state := .live }
    {}, by decide⟩
theorem witness_StoreCommandsAndConsumers_10 : ∃ (k : Fin 16) (s : State) (cc : ConsumerCfg) (st : Nat) (p : Page), s.net.gone =
    false ∧ consumerCfg s k.val = some cc ∧ cc.streams = [st] ∧ (consumer s k.val).state = .down ∧ tget (none : Option Page) (ringOf
    s st).pages (tget 0 (consumer s k.val).cursor st) = some p := ⟨0, consLive { state := .down, cursor := [(3, 5)] } { pages := [(5, some pageOne)], head := 6 },
    consOne, 3, pageOne, by decide⟩
theorem witness_StoreCommandsAndConsumers_11 : ∃ (k : Fin 16) (st : Fin 19) (s : State) (cc : ConsumerCfg) (n : Nat) (p : Page),
    s.net.gone = false ∧ consumerCfg s k.val = some cc ∧ st.val ∈ cc.streams ∧ (consumer s k.val).state = .backfill ∧ n = Nat.max
    (tget 0 (consumer s k.val).fill st.val) (tget 0 (consumer s k.val).cursor st.val) ∧ tget (none : Option Page) (ringOf s
    st.val).pages n = some p := ⟨0, 3, consLive { state := .backfill, cursor := [(3, 5)] } { pages := [(5, some pageOne)], head := 6 },
    consOne, 5, pageOne, by decide⟩
theorem witness_ControlSpaceWrites_1 : ∃ (req : Requester) (addr : Word) (s : State) (w : Nat), addr.toNat % 4 = 0 ∧ windowOf addr =
    some w ∧ (¬ (w = 16 ∧ isIB s = true)) ∧ accessHeld s w (winOffset addr w) = false ∧ waitsBehind s req = false ∧ (regAt req w
    (winOffset addr w) s).isSome = true ∧ writableAt s req w (winOffset addr w) = true := ⟨.debug, 0x01000000, live, 1, by decide⟩
theorem witness_ControlSpaceWrites_2 : ∃ (req : Requester) (s : State), running s .keeper = true ∧ waitsBehind s req = false :=
    ⟨.debug, live, by decide⟩
theorem witness_ControlSpaceWrites_3 : ∃ (size : AccessSize), size ≠ .word := ⟨.byte, by decide⟩
theorem witness_ControlSpaceWrites_4 : ∃ (addr : Word), addr.toNat % 4 ≠ 0 := ⟨0x01000002, by decide⟩
theorem witness_ControlSpaceWrites_5 : ∃ (addr : Word), addr.toNat % 4 = 0 ∧ windowOf addr = none := ⟨0x17000000, by decide⟩
theorem witness_ControlSpaceWrites_6 : ∃ (req : Requester) (addr : Word) (s : State) (w : Nat), addr.toNat % 4 = 0 ∧ windowOf addr =
    some w ∧ (¬ (w = 16 ∧ isIB s = true)) ∧ accessHeld s w (winOffset addr w) = false ∧ waitsBehind s req = false ∧ regAt req w
    (winOffset addr w) s = none := ⟨.debug, 0, live, 0, by decide⟩
theorem witness_ControlSpaceWrites_7 : ∃ (addr : Word), addr.toNat % 4 = 0 ∧ windowOf addr = none := ⟨0x17000000, by decide⟩
theorem witness_ControlSpaceWrites_8 : ∃ (req : Requester) (addr : Word) (s : State) (w : Nat), addr.toNat % 4 = 0 ∧ windowOf addr =
    some w ∧ (¬ (w = 16 ∧ isIB s = true)) ∧ accessHeld s w (winOffset addr w) = false ∧ waitsBehind s req = false ∧ regAt req w
    (winOffset addr w) s = none := ⟨.debug, 0, live, 0, by decide⟩
theorem witness_ControlSpaceWrites_9 : ∃ (addr : Word) (s : State), addr.toNat % 4 = 0 ∧ windowOf addr = some 16 ∧ isIB s = true :=
    ⟨0x13000040, { live with ordering := 2 }, by decide⟩
theorem witness_ControlSpaceWrites_10 : ∃ (req : Requester) (addr : Word) (s : State) (w : Nat), addr.toNat % 4 = 0 ∧ windowOf addr =
    some w ∧ (¬ (w = 16 ∧ isIB s = true)) ∧ accessHeld s w (winOffset addr w) = false ∧ waitsBehind s req = false ∧ (regAt req w
    (winOffset addr w) s).isSome = true ∧ writableAt s req w (winOffset addr w) = false := ⟨.debug, 0x00000004, live, 0, by decide⟩
theorem witness_ControlSpaceWrites_11 : ∃ (req : Requester) (addr : Word) (s : State) (w : Nat), addr.toNat % 4 = 0 ∧ windowOf addr =
    some w ∧ (accessHeld s w (winOffset addr w) = true ∨ waitsBehind s req = true) := ⟨.debug, 0x11000204, { live with dies.io := .inReset },
    14, by decide⟩
theorem witness_ControlSpaceWrites_13 : ∃ (n : Fin 8) (s : State) (r : MgmtReq), (session s n.val).waiting = [r] ∧ (runRequest n r
    s).1 = .held ∧ waitsBehind s (.session n) = false ∧ awaitsSealed s n.val = false := ⟨0, { sessionLive { sessionAll with waiting := [.read 9 0x11000204 1] } with dies.io := .inReset },
    .read 9 0x11000204 1, by decide⟩
theorem witness_EventsAndRecords_1 : ∃ (b : EventBlock) (s : State) (m : EventMsg) (r : Word), s.evt.inFlight.find? (fun m => decide
    (blockOf m.src = some b)) = some m ∧ routeOf s m.src = some r := ⟨.trs, { live with evt.inFlight := [⟨33, [], 0, 5⟩] }, ⟨33, [],
    0, 5⟩, 0xB0000000, by decide⟩
theorem witness_EventsAndRecords_2 : ∃ (s : State) (q : QueuedEvent) (rest : List QueuedEvent) (k : Nat), running s .mem2 = true ∧
    s.rst.brace = .idle ∧ s.evr.queue = q :: rest ∧ s.evr.openSlot = none ∧ slotFor s.evr q.severity = some k := ⟨evrLive { queue := [eventOne] },
    eventOne, [], 0, by decide⟩
theorem witness_EventsAndRecords_3 : ∃ (s : State) (q : QueuedEvent) (rest : List QueuedEvent) (k : Nat) (r : EvRecord), running s
    .mem2 = true ∧ s.rst.brace = .idle ∧ s.evr.queue = q :: rest ∧ s.evr.openSlot = some k ∧ tget none s.evr.slots k = some r ∧
    foldsInto s.evr q r = true := ⟨evrLive { queue := [eventOne], openSlot := some 0, slots := [(0, some recordOne)] }, eventOne, [],
    0, recordOne, by decide⟩
theorem witness_EventsAndRecords_4 : ∃ (s : State) (q : QueuedEvent) (rest : List QueuedEvent), running s .mem2 = true ∧ s.rst.brace
    = .idle ∧ s.evr.queue = q :: rest ∧ s.evr.openSlot = none ∧ slotFor s.evr q.severity = none := ⟨evrLive { queue := [eventOne], slots := List.replicate 65536 (0, some { recordOne with severity := 3 }) },
    eventOne, [], ⟨by decide, by decide, rfl, rfl, slotFor_full⟩⟩
theorem witness_EventsAndRecords_5 : ∃ (s : State) (k : Nat) (r : EvRecord), s.evr.openSlot = some k ∧ tget none s.evr.slots k = some
    r ∧ foldEnd s.evr r ≤ devTime s ∧ stoDown s = false ∧ storeFailed s 2 = false ∧ (stageOf s 2).recs.length < 14 ∧ fill (stageOf s
    2) < 64 ∧ (stageOf s 2).dropRun = none := ⟨{ evrLive { openSlot := some 0, slots := [(0, some recordOne)] } with tmb.time := 2000000000 },
    0, recordOne, by decide⟩
theorem witness_EventsAndRecords_6 : ∃ (s : State), s.evr.lossOpen = true ∧ s.evr.queue.length < 1024 := ⟨evrLive { lossOpen := true },
    by decide⟩
theorem witness_EventsAndRecords_7 : ∃ (req : Requester) (n : Fin 4096) (s : State), running s .keeper = true ∧ waitsBehind s req =
    false ∧ (sourceSeverity n.val).isSome = true := ⟨.debug, 33, live, by decide⟩
theorem witness_EventsAndRecords_8 : ∃ (req : Requester) (n : Fin 4096) (s : State), running s .keeper = true ∧ waitsBehind s req =
    false ∧ sourceSeverity n.val = none := ⟨.debug, 17, live, by decide⟩
theorem witness_EventsAndRecords_9 : ∃ (value : Word) (s : State) (w : Word), running s .keeper = true ∧ fld value 31 28 = 1 ∧ 3712 ≤
    fld value 11 0 ∧ fld value 18 12 ≤ 64 ∧ routeOf s (fld value 11 0) = some w ∧ bitAt w 31 = true ∧ 1024 ≤ s.evr.queue.length :=
    ⟨0x10000E80, evrLive { queue := List.replicate 1024 eventOne }, 0x80000000, ⟨by decide, by decide, by decide, by decide, rfl, by
    decide, Nat.le_of_eq List.length_replicate.symm⟩⟩
theorem witness_EventsAndRecords_10 : ∃ (value : Word) (s : State) (w : Word), running s .keeper = true ∧ fld value 31 28 = 1 ∧ 3712
    ≤ fld value 11 0 ∧ fld value 18 12 ≤ 64 ∧ routeOf s (fld value 11 0) = some w ∧ (bitAt w 31 = false ∨ s.evr.queue.length < 1024)
    := ⟨0x10000E80, live, 0x80000000, by decide⟩
theorem witness_EventsAndRecords_11 : ∃ (value : Word) (s : State), running s .keeper = true ∧ fld value 31 28 = 1 ∧ (fld value 11 0
    < 3712 ∨ 64 < fld value 18 12) := ⟨0x10000E7F, live, by decide⟩
theorem witness_FirmwareSensorsAndSmoke_1 : ∃ (s : State), running s .keeper = true := ⟨live, by decide⟩
theorem witness_FirmwareSensorsAndSmoke_2 : ∃ (s : State), running s .keeper = true ∧ s.kpr.slotState = .staged := ⟨{ live with kpr.slotState := .staged },
    by decide⟩
theorem witness_FirmwareSensorsAndSmoke_3 : ∃ (s : State), running s .keeper = true ∧ s.kpr.slotState ≠ .staged := ⟨live, by decide⟩
theorem witness_FirmwareSensorsAndSmoke_4 : ∃ (s : State), running s .keeper = true ∧ s.kpr.slotState = .verified := ⟨{ live with kpr.slotState := .verified },
    by decide⟩
theorem witness_FirmwareSensorsAndSmoke_5 : ∃ (s : State), running s .keeper = true ∧ s.kpr.slotState ≠ .empty := ⟨{ live with kpr.slotState := .staged },
    by decide⟩
theorem witness_FirmwareSensorsAndSmoke_6 : ∃ (s : State), running s .keeper = true ∧ s.kpr.fallback = false := ⟨live, by decide⟩
theorem witness_FirmwareSensorsAndSmoke_9 : ∃ (s : State), s.rst.phase = 9 ∧ s.rst.asserted = false ∧ s.rst.brace = .idle ∧
    s.kpr.smoke = .run ∧ running s .keeper = true := ⟨live, by decide⟩
theorem witness_FirmwareSensorsAndSmoke_10 : ∃ (s : State), s.kpr.smoke = .requested ∧ running s .keeper = true ∧ (sending s = false
    ∨ partnerHas s (fun w => w.fit && !w.gone) = false) := ⟨{ live with kpr.smoke := .requested }, by decide⟩
theorem witness_FirmwareSensorsAndSmoke_11 : ∃ (s : State), s.kpr.smoke = .waitSafe ∧ s.saf.smokeSafe = true ∧ running s .keeper =
    true := ⟨{ live with kpr.smoke := .waitSafe, saf.smokeSafe := true }, by decide⟩
theorem witness_FirmwareSensorsAndSmoke_12 : ∃ (s : State), s.kpr.smoke = .frozen ∧ running s .keeper = true := ⟨{ live with kpr.smoke := .frozen },
    by decide⟩
theorem witness_ManagementRequests_1 : ∃ (fp : List Byte) (s : State) (e : AccessEntry) (n : Nat), running s .keeper = true ∧
    s.img.network.access.find? (fun e => decide (e.fingerprint = fp)) = some e ∧ (List.range 8).find? (fun n => !(session s
    n).isOpen) = some n := ⟨[9], { live with img := { live.img with network := { live.img.network with access := [⟨[9], 3, 0⟩] } } },
    ⟨[9], 3, 0⟩, 0, by decide⟩
theorem witness_ManagementRequests_2 : ∃ (fp : List Byte) (s : State), running s .keeper = true ∧ s.img.network.access.find? (fun e
    => decide (e.fingerprint = fp)) = none := ⟨[9], live, by decide⟩
theorem witness_ManagementRequests_3 : ∃ (n : Fin 8) (addr : Word) (len : Nat) (s : State) (vs : List Word) (st : Nat), sessionFree s
    n.val = true ∧ 1 ≤ len ∧ len ≤ 256 ∧ (wordAddrs addr len).all (mayRead (session s n.val).rights) = true ∧ (readWords (.session n)
    (wordAddrs addr len) s).1 = .answered st vs := ⟨0, 0x01000000, 1, sessionLive sessionAll, _, _, ⟨by decide, by decide, by decide,
    by decide, rfl⟩⟩
theorem witness_ManagementRequests_4 : ∃ (n : Fin 8) (addr : Word) (data : List Word) (s : State) (vs : List Word) (st : Nat),
    sessionFree s n.val = true ∧ 1 ≤ data.length ∧ data.length ≤ 256 ∧ (wordAddrs addr data.length).all (mayWrite (session s
    n.val).rights) = true ∧ (writeWords (.session n) ((wordAddrs addr data.length).zip data) s).1 = .answered st vs := ⟨0,
    0x01000000, [2], sessionLive sessionAll, _, _, ⟨by decide, by decide, by decide, by decide, rfl⟩⟩
theorem witness_ManagementRequests_5 : ∃ (n : Fin 8) (addr : Word) (len : Nat) (s : State), sessionFree s n.val = true ∧ 1 ≤ len ∧
    len ≤ 256 ∧ (wordAddrs addr len).all (mayRead (session s n.val).rights) = false := ⟨0, 0x01000000, 256, sessionLive { sessionAll with rights := 2 },
    by decide⟩
theorem witness_ManagementRequests_6 : ∃ (n : Fin 8) (off : Nat) (data : List Byte) (s : State), sessionFree s n.val = true ∧
    (session s n.val).rights.testBit 2 = true ∧ data.length ≤ 65536 ∧ s.frm.setState = .staging ∧ s.kpr.slotState ≠ .staging ∧
    setFetched s (!s.frm.activeSet) = false ∧ off + data.length ≤ 134217728 := ⟨0, 134217727, [1], { sessionLive sessionAll with frm.setState := .staging },
    by decide⟩
theorem witness_ManagementRequests_7 : ∃ (n : Fin 8) (off : Nat) (data : List Byte) (s : State), sessionFree s n.val = true ∧
    (session s n.val).rights.testBit 2 = true ∧ data.length ≤ 65536 ∧ s.frm.setState ≠ .staging ∧ s.kpr.slotState = .staging ∧ off +
    data.length ≤ 15728640 := ⟨0, 15728639, [1], { live with kpr := { sessions := [(0, sessionAll)], slotState := .staging } }, by
    decide⟩
theorem witness_ManagementRequests_8 : ∃ (n : Fin 8) (payload : List Byte) (s : State), sessionFree s n.val = true ∧ (session s
    n.val).rights.testBit 3 = true ∧ payload.length ≤ 1048576 := ⟨0, [], sessionLive sessionAll, by decide⟩
theorem witness_ManagementRequests_9 : ∃ (n : Fin 8) (s : State), sessionFree s n.val = true ∧ (session s n.val).rights.testBit 0 =
    true := ⟨0, sessionLive sessionAll, by decide⟩
theorem witness_ManagementRequests_10 : ∃ (n : Fin 8) (s : State), sessionFree s n.val = true ∧ (session s n.val).rights.testBit 2 =
    true ∧ s.frm.tamper = false ∧ s.frm.log.length < 16384 ∧ s.frm.presence = false := ⟨0, sessionLive sessionAll, by decide⟩
theorem witness_ManagementRequests_11 : ∃ (n : Fin 8) (s : State), sessionFree s n.val = true ∧ (session s n.val).rights.testBit 2 =
    true ∧ s.frm.presence = true ∧ s.frm.tamper = false ∧ s.frm.log.length < 16384 ∧ s.frm.key0 = none ∧ s.frm.key1 = none := ⟨0, { sessionLive sessionAll with frm.presence := true },
    by decide⟩
theorem witness_ManagementRequests_12 : ∃ (n : Fin 8) (s : State), sessionFree s n.val = true ∧ (session s n.val).rights = 0 := ⟨0,
    sessionLive { sessionAll with rights := 0 }, by decide⟩
theorem witness_ManagementRequests_13 : ∃ (n : Fin 8) (s : State), (session s n.val).isOpen = true ∧ awaitsSealed s n.val = true :=
    ⟨0, { sessionLive sessionAll with kpr.relays := [⟨some 0, 5, true, false, []⟩] }, by decide⟩
theorem witness_SealedLinesCalendarAndDebug_1 : ∃ (n : Nat) (tag : Word) (code : Nat) (res : Nat) (log : List Byte) (rest : List (Nat
    × Nat × List Byte)) (s : State), s.kpr.relays = [{ session := some n, tag := tag, toA := true, toB := false, answers := [] }] ∧
    s.safA.answers = (code, res, log) :: rest ∧ running s .keeper = true := ⟨0, 9, 1, 0, [], [], { sessionLive sessionAll with kpr := { sessions := [(0, sessionAll)], relays := [⟨some 0, 9, true, false, []⟩] }, safA := { answers := [(1, 0, [])] } },
    by decide⟩
theorem witness_SealedLinesCalendarAndDebug_2 : ∃ (s : State), s.kpr.calResult ≠ 15 ∧ s.tmb.locked = false ∧ (s.tmb.source ≠ 0 ∨
    s.tmb.offset = 0) ∧ s.kpr.calSec + 1 < calLast := ⟨live, by decide +kernel⟩
theorem witness_SealedLinesCalendarAndDebug_3 : ∃ (s : State), s.kpr.calResult ≠ 15 ∧ s.tmb.locked = true ∧ s.tmb.running = true ∧
    devTime s / 1000000000 < calLast := ⟨{ live with tmb.locked := true }, by decide +kernel⟩
theorem witness_SealedLinesCalendarAndDebug_4 : ∃ (s : State), s.kpr.calResult = 15 ∧ s.kpr.calHeld = none ∧ calRejects
    s.kpr.stageDate s.kpr.stageTime = true ∧ s.tmb.locked = false := ⟨{ live with kpr.calResult := 15, kpr.stageDate := 0 }, by
    decide⟩
theorem witness_SealedLinesCalendarAndDebug_5 : ∃ (s : State), s.kpr.calResult = 15 ∧ s.kpr.calHeld = none ∧ calRejects
    s.kpr.stageDate s.kpr.stageTime = false := ⟨{ live with kpr.calResult := 15 }, by decide⟩
theorem witness_SealedLinesCalendarAndDebug_6 : ∃ (req : Requester) (s : State), running s .keeper = true ∧ waitsBehind s req = false
    ∧ s.kpr.calResult ≠ 15 := ⟨.debug, live, by decide⟩
theorem witness_SealedLinesCalendarAndDebug_7 : ∃ (req : Requester) (s : State), running s .keeper = true ∧ waitsBehind s req = false
    ∧ s.kpr.calResult = 15 ∧ s.kpr.calHeld = none := ⟨.debug, { live with kpr.calResult := 15 }, by decide⟩
theorem witness_SealedLinesCalendarAndDebug_8 : ∃ (req : Requester) (r : Requester) (s : State), running s .keeper = true ∧
    waitsBehind s req = false ∧ s.kpr.calResult = 15 ∧ s.kpr.calHeld = some r := ⟨.ce 0, .debug, { live with kpr.calResult := 15, kpr.calHeld := some .debug },
    by decide⟩
theorem witness_SealedLinesCalendarAndDebug_14 : ∃ (s : State), s.kpr.noFirmware = true ∧ s.frm.presence = true := ⟨{ live with kpr.noFirmware := true, frm.presence := true },
    by decide⟩
theorem witness_SealedLinesCalendarAndDebug_15 : ∃ (n : Fin 128) (s : State), s.kpr.dbgAuth = true ∧ running s .keeper = true ∧ (ceOf
    s n.val).st = .halt := ⟨0, { ceLive with kpr := { dbgAuth := true }, ces := [(0, { ceTwo with st := .halt })] }, by decide⟩
theorem witness_SealedLinesCalendarAndDebug_16 : ∃ (s : State), s.kpr.dbgAuth = true ∧ running s .keeper = true := ⟨{ pointLive with kpr := { dbgAuth := true } },
    by decide⟩
theorem witness_SealedLinesCalendarAndDebug_17 : ∃ (a : Word) (s : State), s.kpr.dbgAuth = true ∧ running s .keeper = true ∧ windowOf
    a ≠ some 12 ∧ (ctlRead .debug a s).1 = .ok := ⟨0x01000000, { live with kpr.dbgAuth := true }, by decide⟩
theorem witness_SealedLinesCalendarAndDebug_18 : ∃ (s : State), s.kpr.dbgAuth = false := ⟨live, by decide⟩

/-! ## Commands that are not well formed, and one that is -/

theorem test_wf_die_state_change : (Instr.dieStateChange [(.io, .inReset), (.io, .running)]).wellFormed = false
    ∧ (Instr.dieStateChange [(.keeper, .inReset)]).wellFormed = false := by decide
theorem test_wf_startup_phase : (Instr.startupPhaseComplete false [262144] []).wellFormed = false
    ∧ (Instr.startupPhaseComplete false [] [262144]).wellFormed = false := by decide
theorem test_wf_thermal_sample : (Instr.thermalSample (List.replicate 31 0)).wellFormed = false := by decide
theorem test_wf_voltage_sample : (Instr.voltageSample (List.replicate 17 0)).wellFormed = false := by decide
theorem test_wf_adc_sample : (Instr.adcSample []).wellFormed = false := by decide
theorem test_wf_key_enrol : (Instr.keyEnrol default 0 [] (List.replicate 96 0)).wellFormed = false
    ∧ (Instr.keyEnrol default 0 (List.replicate 97 0) []).wellFormed = false := by decide
theorem test_wf_key_remove : (Instr.keyRemove default 0 (List.replicate 97 0)).wellFormed = false := by decide
theorem test_wf_mgmt_key : (Instr.mgmtKey 0 0 true 0 [] (List.replicate 96 0)).wellFormed = false
    ∧ (Instr.mgmtKey 0 0 false 0 [] (List.replicate 96 0)).wellFormed = true := by decide
/-- A station frame longer than a station may send (R460). -/
def longFrame : StationFrame := { (default : StationFrame) with payload := List.replicate 361 0 }
theorem test_wf_station_input : (Instr.stationInputFrame { (default : StationInput) with frame := longFrame }).wellFormed = false := by decide +kernel
theorem test_wf_safety_in : (Instr.safetyInFrame longFrame 0 0).wellFormed = false := by decide +kernel
theorem test_wf_mirrored : (Instr.mirroredStationFrame longFrame).wellFormed = false := by decide +kernel
theorem test_wf_can : (Instr.canFrameReceived 0 { (default : CanFrame) with data := List.replicate 9 0 } 0).wellFormed = false
    ∧ (Instr.canFrameReceived 0 { (default : CanFrame) with fdf := true, rtr := true } 0).wellFormed = false := by decide
theorem test_wf_bootload (image : List Byte) (h : image.length = 15728641) : (Instr.dbgBootload false image).wellFormed = false := by
  simp [Instr.wellFormed, h]
theorem test_wf_sealed_stage (image : List Byte) (h : image.length = 1048577) :
    (Instr.sealedStage default true 0 image).wellFormed = false := by simp [Instr.wellFormed, h]
theorem test_wf_points (q : BacRequest) :
    (Instr.readProperty q (.point .analog 0 262144) default).wellFormed = false
      ∧ (Instr.readPropertyMultiple q [(.trendLog 262144, default)]).wellFormed = false
      ∧ (Instr.writeProperty q (.trendLog 262144) default none 0).wellFormed = false
      ∧ (Instr.writePropertyMultiple q [(.point .binary 1 262144, default, none, 0)]).wellFormed = false
      ∧ (Instr.subscribeCov q (.point .analog 0 262144) false false).wellFormed = false
      ∧ (Instr.acknowledgeAlarm q (.point .analog 0 262144) default).wellFormed = false
      ∧ (Instr.readRange q 262144 0 0).wellFormed = false
      ∧ (Instr.readProperty q (.point .analog 0 262143) default).wellFormed = true :=
  ⟨rfl, rfl, rfl, rfl, rfl, rfl, rfl, rfl⟩

/-! ## Worked examples of the spec -/

/-- FIPS 180-4, the example of SHA-384 for the message abc. -/
theorem test_sha384_abc : beNat (sha384 [0x61, 0x62, 0x63]) =
    0xcb00753f45a35e8bb5a03d699ac65007272c32ab0eded1631a8b605a43ff5bed8086072ba1e7cc2358baeca134c825a7 := by decide +kernel

/-- Twice the base point of P-384, computed outside the model. -/
theorem test_p384_double : pointMul 2 2 (some pBase) = some
    (0x8d999057ba3d2d969260045c55b97f089025959a6f434d651d207d19fb96e9e4fe0e86ebe0e64f85b96a9c75295df61,
     0x8e80f1fa5b1b3cedb7bfe8dffd6dba74b275d875bc6cc43e904e505f256ab4255ffd43e94d39e22d61501e700a940e80) := by decide +kernel

/-- 06_control_engines.md, R153 and R159: the encoding examples of a branch and of LOOP, and the gather of the worked example. -/
theorem test_ce_branch_word : decodeCe 0xC0FFFFFA = .branch { guard := { pn := false, ps := 3 }, disp := 0x3FFFFA } := by decide
theorem test_ce_loop_word :
    decodeCe 0xD0310005 = .loop { guard := { pn := false, ps := 0 }, u := true, i := true, mid := 16, stop := 5 } := by decide
theorem test_ce_gather_word :
    decodeCe 0xA048C600 = .gath { guard := { pn := false, ps := 1 }, vd := 2, ra := 6, vb := 3, word := 0, zero := 0 } := by decide

/-- 06_control_engines.md, the gather that meets another tenant's point: what exception entry saves. -/
theorem test_gather_exception :
    let c := enterException causePoint 3 0x1DDC6 4 { ceRun with priv := false, tctx := 117, loopen := true }
    c.xstatus = 0x88750007 ∧ c.xinfo = 0x03000004 ∧ c.xaddr = 0x0001DDC6 := by decide

/-- 06_control_engines.md, the example after R173: a branch in a SETM shadow whose slot raises ALIGN. -/
theorem test_shadow_exception :
    let c := enterException causeAlign 0 0 0
      { ceRun with pc := 0x6008, slot := some ⟨0x6004, 0x7000⟩, shadow := some ⟨1, false, 117⟩ }
    c.epc = 0x6004 ∧ c.xtarget = 0x7000 ∧ fld c.xstatus 30 30 = 1 ∧ fld c.xstatus 29 28 = 1 ∧ fld c.xstatus 26 26 = 1
      ∧ fld c.xstatus 25 16 = 0 ∧ fld c.xstatus 14 5 = 117 := by decide

/-- 09_hoist_motion.md, the shuttle flight of the Ashgrove Tower: 192 m at its limits take 30.6122 s, rounded to 0.1 ms. -/
theorem test_shuttle_flight :
    let p := planFromRest { vb := 6000 * giga, a1 := 1000 * giga, a2 := 800 * giga, j := 1000 } 0
      [⟨19200000 * count6, 10000 * giga, 0⟩]
    p.1 = 0 ∧ (duration p.2 + 50000) / 100000 = 306122 := by decide +kernel

/-- 11_door_channels.md, the front door of car 17: its force amplitude, its energy limits, and the times of the close move in 0.1 ms. -/
def doorAshgrove : DoorCfg := { (default : DoorCfg) with
  ch := 34, stroke := 550, mass := 1600, kf := 120, friction := 30, forceLim := 150, ekLim := 100, ekNudge := 40, vopen := 500
  vclose := 400, acc := 700, creepV := 30, creepD := 20 }
theorem test_door_limits : ampFmax doorAshgrove = 1500 ∧ vEk doorAshgrove false = 353 ∧ vEk doorAshgrove true = 223 := by decide +kernel
theorem test_door_close :
    let x := planMove doorAshgrove { ({} : Door) with state := .closing, p2 := 55000 * unit2 }
    (x.plan.take 3).map (fun p => (p.dur + 50000) / 100000) = [5043, 9990, 4614]
      ∧ roundDiv (doorAdvance x.plan 504285714 (x.p2, 0)).1.1 20000000000000000 = 46099
      ∧ roundDiv (doorAdvance x.plan 1964666666 (x.p2, 0)).1.1 20000000000000000 = 2000
      ∧ roundDiv (doorAdvance x.plan 2631333333 (x.p2, 0)).1.1 20000000000000000 = 0 := by decide +kernel

/-- 18_keeper_recorder_debug.md, the 2100 leap-year edge: what is staged, and the second after 2100-02-28 23:59:59. -/
theorem test_calendar_rejects :
    calRejects (regOf [(24, 16, 0), (11, 8, 2), (4, 0, 29)]) (regOf [(20, 16, 12)]) = false
      ∧ calRejects (regOf [(24, 16, 100), (11, 8, 2), (4, 0, 29)]) 0 = true
      ∧ calRejects (regOf [(24, 16, 99), (11, 8, 13), (4, 0, 1)]) 0 = true
      ∧ calRejects (regOf [(24, 16, 400), (11, 8, 1), (4, 0, 1)]) 0 = true := by decide +kernel
theorem test_calendar_2100 : calSeconds 100 2 28 23 59 59 + 1 = 3160857600 ∧ calDateReg 3160857600 = 0x20640301 := by decide +kernel

/-- 08_comb_and_tenancy.md, the worked example of R243: F is 3,275 kW. -/
theorem test_forecast :
    (forecastOf (540 * 2 ^ 149) (3400 * 2 ^ 149) 300 [4500] / kiloWatt).toNat = 3275 := by decide +kernel

end Sys2Proof.Tests
end

section
/-! SUPPORT. The control space (R12, R13, R545 to R549): how a write and a read end, one lemma per way, and what the commands over it answer. -/
namespace Sys2Proof.Machine

/-! ## REGISTER_WRITE through `ctlWrite` -/

theorem completes_registerWrite_word (req : Requester) (addr value : Word) (s : State) (P : State → Prop) :
    Completes (.registerWrite req addr .word value) s P ↔ P (ctlWrite req addr value s).2 := by
  constructor
  · rintro ⟨t, ht, hp⟩
    cases ht
    exact hp
  · exact fun hp => ⟨_, rfl, hp⟩

theorem completes_registerWrite_width (req : Requester) (addr value : Word) (s : State) {size : AccessSize} (h : size ≠ .word) :
    Completes (.registerWrite req addr size value) s fun t => t = badAccess req 2 addr s := by
  refine ⟨badAccess req 2 addr s, ?_, rfl⟩
  show execRegisterWrite req addr size value s = _
  rw [execRegisterWrite, if_neg h]
  rfl

/-! ## How an access ends before it comes to a block -/

theorem ctlWrite_offGrid (req : Requester) (value : Word) (s : State) {addr : Word} (ha : addr.toNat % 4 ≠ 0) :
    ctlWrite req addr value s = (.width, badAccess req 2 addr s) := by
  rw [ctlWrite, if_pos ha]

section OnGrid
variable {addr : Word} (ha : addr.toNat % 4 = 0) (req : Requester) (value : Word) (s : State)
include ha

theorem ctlWrite_noWindow (hw : windowOf addr = none) : ctlWrite req addr value s = (.noRegister, badAccess req 1 addr s) := by
  simp [ctlWrite, ha, hw]

theorem ctlRead_noWindow (hw : windowOf addr = none) : ctlRead req addr s = (.noRegister, 0, badAccess req 1 addr s) := by
  simp [ctlRead, ha, hw]

theorem ctlWrite_storeAbsent (hw : windowOf addr = some 16) (hib : isIB s = true) : ctlWrite req addr value s = (.ok, s) := by
  simp [ctlWrite, ha, hw, hib]

theorem ctlRead_storeAbsent (hw : windowOf addr = some 16) (hib : isIB s = true) : ctlRead req addr s = (.ok, 0, s) := by
  simp [ctlRead, ha, hw, hib]

/-- A write that waits, at the truss (R546) or behind a held command of its requester (R547), changes nothing; nor does it where the window
is the absent store's (R1). -/
theorem ctlWrite_waits {w : Nat} (hw : windowOf addr = some w)
    (h : accessHeld s w (winOffset addr w) = true ∨ waitsBehind s req = true) : (ctlWrite req addr value s).2 = s := by
  by_cases hib : w = 16 ∧ isIB s = true
  · simp [ctlWrite, ha, hw, hib]
  · simp [ctlWrite, ha, hw, hib, h]

/-! ## Accesses that come to a block -/

section AtBlock
variable {w : Nat} (hw : windowOf addr = some w) (hib : ¬ (w = 16 ∧ isIB s = true))
  (hh : accessHeld s w (winOffset addr w) = false) (hb : waitsBehind s req = false)
include hw hib hh hb

theorem ctlWrite_noRegister (hr : regAt req w (winOffset addr w) s = none) :
    ctlWrite req addr value s = (.noRegister, badAccess req 1 addr s) := by
  simp [ctlWrite, ha, hw, hib, hh, hb, hr]

theorem ctlWrite_readView (hr : (regAt req w (winOffset addr w) s).isSome = true)
    (hv : writableAt s req w (winOffset addr w) = false) : ctlWrite req addr value s = (.ok, badAccess req 4 addr s) := by
  have hn : (regAt req w (winOffset addr w) s).isNone = false := by simpa using hr
  simp [ctlWrite, ha, hw, hib, hh, hb, hn, hv]

/-- A write to a register with a field that the requester may write is applied at its block, whether or not its command overflows (R548). -/
theorem ctlWrite_applied (hr : (regAt req w (winOffset addr w) s).isSome = true)
    (hv : writableAt s req w (winOffset addr w) = true) :
    (ctlWrite req addr value s).2 = writeAt req addr w (winOffset addr w) value s := by
  have hn : (regAt req w (winOffset addr w) s).isNone = false := by simpa using hr
  simp [ctlWrite, ha, hw, hib, hh, hb, hn, hv]

theorem ctlRead_noRegister (hr : regAt req w (winOffset addr w) s = none) :
    ctlRead req addr s = (.noRegister, 0, badAccess req 1 addr s) := by
  simp [ctlRead, ha, hw, hib, hh, hb, hr]

theorem ctlRead_register {v : Word} (hr : regAt req w (winOffset addr w) s = some v) :
    ctlRead req addr s = (.ok, v, afterRead w (winOffset addr w) s) := by
  simp [ctlRead, ha, hw, hib, hh, hb, hr]

end AtBlock
end OnGrid

/-! ## Blocks of the Keeper die -/

/-- No access to a register block of the Keeper die is held while that die runs: no reset request takes the die, and none of the blocks has
a reset of its own (R15, R73). -/
theorem accessHeld_keeperBlock {s : State} {w : Nat} (h : running s .keeper = true) (hw : w < 4) (off : Nat) :
    accessHeld s w off = false := by
  have hd : diesOf w off = [.keeper] := by
    obtain rfl | rfl | rfl | rfl : w = 0 ∨ w = 1 ∨ w = 2 ∨ w = 3 := by omega
    all_goals rfl
  have hu : unitOf w = none := by
    obtain rfl | rfl | rfl | rfl : w = 0 ∨ w = 1 ∨ w = 2 ∨ w = 3 := by omega
    all_goals rfl
  simp [accessHeld, blockHeld, serves, dieUnit, hd, hu, h]

/-- Writing RST_CAUSE clears the causes written as 1 (chapter 03, RST_CAUSE). -/
theorem ctlWrite_rstCause (req : Requester) (value : Word) {s : State} (hk : running s .keeper = true)
    (hb : waitsBehind s req = false) :
    (ctlWrite req 0x01000000 value s).2 = { s with rst := { s.rst with cause := s.rst.cause &&& ~~~(value &&& 0x3FE#32) } } :=
  ctlWrite_applied (w := 1) (by decide) req value s (by decide) (by simp) (accessHeld_keeperBlock hk (by decide) _) hb rfl rfl

/-! ## Counted accesses, and requests held at a block -/

theorem badAccess_evt (req : Requester) (addr : Word) (cause : Nat) (s : State) :
    (badAccess req cause addr s).evt = { s.evt with
      badKind := reqKind req
      badCause := cause
      badCount := Nat.min 65535 (s.evt.badCount + 1)
      badAddr := addr } := rfl

/-- A session whose oldest request is held at its block handles none of its requests. -/
theorem drainSession_held {n : Fin 8} {r : MgmtReq} {rest : List MgmtReq} {s : State} (k : Nat)
    (hw : (session s n.val).waiting = r :: rest) (hr : (runRequest n r s).1 = .held) : drainSession n k s = s := by
  cases k with
  | zero => rfl
  | succ k =>
    obtain ⟨s', hs'⟩ : ∃ s', runRequest n r s = (.held, s') := ⟨_, Prod.ext hr rfl⟩
    simp [drainSession, hw, hs']

/-- The one request that a session holds at a block in reset is abandoned with STATUS 3 (R546). -/
theorem execKeeperAccessTimeout_abandons {n : Fin 8} {r : MgmtReq} {s : State} (hw : (session s n.val).waiting = [r])
    (hr : (runRequest n r s).1 = .held) (hb : waitsBehind s (.session n) = false) (ha : awaitsSealed s n.val = false) :
    execKeeperAccessTimeout n s = done (answer n.val (reqTag r) 3 [] (putSession s n.val { session s n.val with waiting := [] })) := by
  simp [execKeeperAccessTimeout, drainSession_held _ hw hr, hw, hb, ha, drainSession]

/-- Settles O56: each clause is one way that an access to the control space ends. -/
theorem controlSpaceWrites : Obligations.ControlSpaceWrites := by
  unfold Obligations.ControlSpaceWrites
  simp only [completes_registerWrite_word]
  refine ⟨?applied, ?cause, ?width, ?offGrid, ?noWindow, ?noRegister, ?readNoWindow, ?readNoRegister, ?storeAbsent, ?readView, ?waits,
    ?counted, ?abandoned⟩
  case applied => exact fun req addr value s w ha hw hib hh hb hr hv => ctlWrite_applied ha req value s hw hib hh hb hr hv
  case cause => exact fun req value s hk hb => ctlWrite_rstCause req value hk hb
  case width => exact fun req addr size value s h => completes_registerWrite_width req addr value s h
  case offGrid => exact fun req addr value s ha => by rw [ctlWrite_offGrid req value s ha]
  case noWindow => exact fun req addr value s ha hw => by rw [ctlWrite_noWindow ha req value s hw]
  case noRegister => exact fun req addr value s w ha hw hib hh hb hr => by rw [ctlWrite_noRegister ha req value s hw hib hh hb hr]
  case readNoWindow => exact fun req addr s ha hw => ctlRead_noWindow ha req s hw
  case readNoRegister => exact fun req addr s w ha hw hib hh hb hr => ctlRead_noRegister ha req s hw hib hh hb hr
  case storeAbsent =>
    exact fun req addr value s ha hw hib => ⟨by rw [ctlWrite_storeAbsent ha req value s hw hib], ctlRead_storeAbsent ha req s hw hib⟩
  case readView => exact fun req addr value s w ha hw hib hh hb hr hv => by rw [ctlWrite_readView ha req value s hw hib hh hb hr hv]
  case waits => exact fun req addr value s w ha hw h => ctlWrite_waits ha req value s hw h
  case counted => exact badAccess_evt
  case abandoned =>
    intro n s r hw hr hb ha
    refine ⟨_, execKeeperAccessTimeout_abandons hw hr hb ha, ?_⟩
    simp [answer]

end Sys2Proof.Machine
end

section
/-! SUPPORT. The fused ordering code (R3) through every operation that a command calls: the frame lemmas that `Laws/Frames` does not hold. -/
namespace Sys2Proof.Machine

/-! ## Branches, folds and pairs -/

@[simp] theorem ite_ordering (p : Prop) [Decidable p] (a b : State) :
    (if p then a else b).ordering = if p then a.ordering else b.ordering := apply_ite State.ordering p a b

theorem ordering_of_ite {p : Prop} [Decidable p] {a b s : State} (ha : a.ordering = s.ordering) (hb : b.ordering = s.ordering) :
    (if p then a else b).ordering = s.ordering := by
  split <;> assumption

/-- What a split on an operation's pair of answers leaves of it: the second part is the operation's state. -/
theorem ordering_of_eq_pair {α : Type} {p : α × State} {a : α} {t : State} (h : p = (a, t)) : t.ordering = p.2.ordering := by rw [h]

theorem foldl_fst_ordering {β γ : Type} (g : State × β → γ → State × β) (h : ∀ a x, (g a x).1.ordering = a.1.ordering)
    (l : List γ) (a : State × β) : (l.foldl g a).1.ordering = a.1.ordering := by
  induction l generalizing a with
  | nil => rfl
  | cons x l ih => rw [List.foldl_cons, ih, h]

theorem foldl_snd_ordering {β γ : Type} (g : β × State → γ → β × State) (h : ∀ a x, (g a x).2.ordering = a.2.ordering)
    (l : List γ) (a : β × State) : (l.foldl g a).2.ordering = a.2.ordering := by
  induction l generalizing a with
  | nil => rfl
  | cons x l ih => rw [List.foldl_cons, ih, h]

/-! ## The operations, by the file of the model that defines them -/

/-! ### Machine/Ops.lean -/

@[simp] theorem atBlock_ordering (w off : Nat) (run : State → State) (s : State) (h : ∀ t, (run t).ordering = t.ordering) :
    (atBlock w off run s).ordering = s.ordering := by simp [atBlock, h]

/-! ### Machine/CanOps.lean -/

@[simp] theorem canLoad_ordering (s : State) : (canLoad s).ordering = s.ordering := by
  unfold canLoad
  rw [(suppressAll_keeps _).1, foldl_ordering _ (by simp)]

/-! ### Machine/ImageOps.lean -/

@[simp] theorem logAppend_ordering (src : LogSource) (kind code : Nat) (img : Option (Tab Byte)) (s : State) :
    (logAppend src kind code img s).ordering = s.ordering := by
  unfold logAppend
  dsimp only
  split <;> simp

/-! ### Machine/HistoryOps.lean -/

@[simp] theorem sendClosed_ordering (st : Nat) (p : Page) (s : State) : (sendClosed st p s).ordering = s.ordering := by simp [sendClosed]

@[simp] theorem closePage_ordering (st : Nat) (s : State) : (closePage st s).ordering = s.ordering := by
  unfold closePage
  dsimp only
  split
  · rfl
  · split <;> simp

@[simp] theorem putRec_ordering (st : Nat) (r : StreamRec) (s : State) : (putRec st r s).ordering = s.ordering := by simp [putRec]

@[simp] theorem gapRec_ordering (st : Nat) (s : State) : (gapRec st s).ordering = s.ordering := by
  unfold gapRec
  split <;> simp

@[simp] theorem appendRec_ordering (st : Nat) (r : StreamRec) (time : Nat) (s : State) :
    (appendRec st r time s).ordering = s.ordering := by simp [appendRec]

@[simp] theorem placeMark_ordering (units kind flags n : Nat) (value : Word) (time : Nat) (s : State) :
    (placeMark units kind flags n value time s).ordering = s.ordering := by simp [placeMark]

@[simp] theorem runTriggers_ordering (sig : Nat) (v : Word) (time : Nat) (s : State) :
    (runTriggers sig v time s).ordering = s.ordering := by simp [runTriggers]

@[simp] theorem acqSampleAt_ordering (sig : Nat) (v : Word) (invalid : Bool) (period : Option Nat) (time : Nat) (s : State) :
    (acqSampleAt sig v invalid period time s).ordering = s.ordering := by simp [acqSampleAt]

@[simp] theorem acqSample_ordering (sig : Nat) (v : Word) (invalid : Bool) (period : Option Nat) (s : State) :
    (acqSample sig v invalid period s).ordering = s.ordering := by simp [acqSample]

@[simp] theorem eventRecordOut_ordering (r : EvRecord) (s : State) :
    (eventRecordOut r s).ordering = s.ordering := by simp [eventRecordOut]

@[simp] theorem overwriteCursors_ordering (st oldest : Nat) (s : State) :
    (overwriteCursors st oldest s).ordering = s.ordering := by simp [overwriteCursors]

@[simp] theorem pageWritten_ordering (st : Nat) (w : PageWrite) (s : State) :
    (pageWritten st w s).ordering = s.ordering := by simp [pageWritten]

/-! ### Machine/CeOps.lean -/

@[simp] theorem clearStack_ordering (records : Bool) (n : Nat) (s : State) :
    (clearStack records n s).ordering = s.ordering := by simp [clearStack]

@[simp] theorem switchCe_ordering (n : Nat) (s : State) : (switchCe n s).ordering = s.ordering := by
  unfold switchCe
  split <;> simp

@[simp] theorem settleSwitch_ordering (n : Nat) (s : State) : (settleSwitch n s).ordering = s.ordering := by simp [settleSwitch]

@[simp] theorem ceLost_ordering (n : Nat) (s : State) : (ceLost n s).ordering = s.ordering := by
  unfold ceLost
  dsimp only
  split <;> simp

@[simp] theorem takeException_ordering (n cause sub : Nat) (xaddr : Option Word) (elem : Nat) (s : State) :
    (takeException n cause sub xaddr elem s).ordering = s.ordering := by
  unfold takeException
  split <;> simp

@[simp] theorem issue_ordering (n : Nat) (run : Ce → State → State) (s : State) (h : ∀ k t, (run k t).ordering = t.ordering) :
    (issue n run s).ordering = s.ordering := by
  unfold issue
  dsimp only
  split
  · rfl
  · split <;> simp [h]

@[simp] theorem ceRestart_ordering (n : Nat) (s : State) : (ceRestart n s).ordering = s.ordering := by simp [ceRestart]

@[simp] theorem ceCtrlWrite_ordering (n : Nat) (w : Word) (s : State) : (ceCtrlWrite n w s).ordering = s.ordering := by simp [ceCtrlWrite]

/-! ### Machine/CombOps.lean -/

@[simp] theorem sourceWrite_ordering (w : CombWho) (r kind unitNo : Nat) (vals : List Word) (t : Nat) (s : State) :
    (sourceWrite w r kind unitNo vals t s).ordering = s.ordering := by
  unfold sourceWrite
  refine foldl_ordering _ (fun s id => ?_) _ _
  dsimp only
  split
  · rfl
  · refine ordering_of_ite rfl ?_
    split <;> simp

/-! ### Machine/TaskOps.lean -/

@[simp] theorem shedChange_ordering (old : Nat) (s : State) : (shedChange old s).ordering = s.ordering := by simp [shedChange]

/-! ### Machine/Comb.lean -/

@[simp] theorem pointMove_ordering (store : Bool) (n : Fin 128) (f : FmtI) (ecc : Ecc) (s : State) :
    (pointMove store n f ecc s).ordering = s.ordering := by
  unfold pointMove
  dsimp only
  refine issue_ordering _ _ _ fun c s => ?_
  refine ordering_of_ite (by simp) (ordering_of_ite (by simp) ?_)
  split <;> next heq => simp [ordering_of_eq_pair heq]

@[simp] theorem laneRun_ordering (scat : Bool) (n : Fin 128) (f : FmtM) (hurt : Option (Fin 16)) (m k : Nat) (s : State) :
    (laneRun scat n f hurt m k s).ordering = s.ordering := by
  induction m generalizing k s with
  | zero => simp [laneRun]
  | succ m ih =>
    unfold laneRun
    dsimp only
    refine ordering_of_ite (ih _ _) ?_
    split <;> next heq => simp [ih, ordering_of_eq_pair heq]

@[simp] theorem lanes_ordering (scat : Bool) (n : Fin 128) (f : FmtM) (upTo : Fin 17) (hurt : Option (Fin 16)) (s : State) :
    (lanes scat n f upTo hurt s).ordering = s.ordering := by simp [lanes]

@[simp] theorem keeperAccess_ordering (cmd word prio tenant : Nat) (s : State) :
    (keeperAccess cmd word prio tenant s).ordering = s.ordering := by
  unfold keeperAccess
  dsimp only
  split
  case h_1 | h_4 => split <;> next heq => simp [ordering_of_eq_pair heq]
  all_goals simp

@[simp] theorem drainAlarms_ordering (s : State) : (drainAlarms s).ordering = s.ordering := by simp [drainAlarms]

@[simp] theorem recordTrend_ordering (id : Nat) (v st : Word) (t : Nat) (s : State) :
    (recordTrend id v st t s).ordering = s.ordering := by simp [recordTrend]

@[simp] theorem unitRead_ordering (id : Nat) (s : State) : (unitRead id s).2.ordering = s.ordering := by
  unfold unitRead
  split <;> next heq => simp [ordering_of_eq_pair heq]

/-! ### Machine/Bacnet.lean -/

@[simp] theorem serve_ordering (q : BacRequest) (act : Nat → State → State) (s : State) (h : ∀ k t, (act k t).ordering = t.ordering) :
    (serve q act s).ordering = s.ordering := by
  unfold serve
  split <;> simp [h]

@[simp] theorem readSlotProp_ordering (w : CombWho) (r id : Nat) (prop : BacProp) (s : State) :
    (readSlotProp w r id prop s).2.ordering = s.ordering := by
  unfold readSlotProp
  split <;> next heq => simp [apply_ite Prod.snd, ordering_of_eq_pair heq]

@[simp] theorem readProp_ordering (w : CombWho) (r : Nat) (o : BacObject) (prop : BacProp) (s : State) :
    (readProp w r o prop s).2.ordering = s.ordering := by
  unfold readProp
  split <;> simp

@[simp] theorem writeSlotProp_ordering (q : BacSession) (r id : Nat) (prop : BacProp) (v : Option Word) (prio : Fin 17) (s : State) :
    (writeSlotProp q r id prop v prio s).2.ordering = s.ordering := by
  unfold writeSlotProp
  split <;> split <;> next heq => simp [ordering_of_eq_pair heq]

@[simp] theorem writeProp_ordering (q : BacSession) (r : Nat) (o : BacObject) (prop : BacProp) (v : Option Word) (prio : Fin 17)
    (s : State) :
    (writeProp q r o prop v prio s).2.ordering = s.ordering := by
  unfold writeProp
  split
  · simp
  · split <;> simp

@[simp] theorem writeProps_ordering (q : BacSession) (r : Nat) (ws : List (BacObject × BacProp × Option Word × Fin 17)) (s : State) :
    (writeProps q r ws s).2.ordering = s.ordering := by
  induction ws generalizing s with
  | nil => rfl
  | cons p t ih =>
    obtain ⟨o, prop, v, prio⟩ := p
    unfold writeProps
    split
    · next heq => simp [ih, ordering_of_eq_pair heq]
    · simp

@[simp] theorem modbusRead_ordering (bind r : Nat) (m : ModbusMap) (ks : List Nat) (s : State) :
    (modbusRead bind r m ks s).2.ordering = s.ordering := by
  induction ks generalizing s with
  | nil => rfl
  | cons k ks ih =>
    unfold modbusRead
    split
    · rfl
    · split
      · next heq =>
        dsimp only
        split
        · next h => simp [ordering_of_eq_pair h, ih, ordering_of_eq_pair heq]
        · simp [ih, ordering_of_eq_pair heq]
      · next heq => simp [ordering_of_eq_pair heq]

@[simp] theorem modbusWrite_ordering (bind r : Nat) (m : ModbusMap) (k : Nat) (vs : List (BitVec 16)) (s : State) :
    (modbusWrite bind r m k vs s).2.ordering = s.ordering := by
  fun_induction modbusWrite bind r m k vs s with
  | case1 => rfl
  | case2 => rfl
  | case3 => rfl
  | case4 k a b vs s v id hf x s' heq ih => simp [ih, ordering_of_eq_pair heq]
  | case5 k a b vs s v id hf x s' hok heq => simp [ordering_of_eq_pair heq]

/-! ### Machine/BlockRegs.lean -/

@[simp] theorem ceWrite_ordering (n off : Nat) (v : Word) (s : State) : (ceWrite n off v s).ordering = s.ordering := by
  unfold ceWrite
  split <;> simp

@[simp] theorem cmbWrite_ordering (req : Requester) (off : Nat) (v : Word) (s : State) :
    (cmbWrite req off v s).ordering = s.ordering := by
  unfold cmbWrite
  split <;> simp

/-! ### Machine/FeedbackOps.lean -/

@[simp] theorem fbkStationLost_ordering (n : Nat) (s : State) : (fbkStationLost n s).ordering = s.ordering := by simp [fbkStationLost]

@[simp] theorem ssiFrame_ordering (n frame : Nat) (s : State) : (ssiFrame n frame s).ordering = s.ordering := by
  unfold ssiFrame
  split <;> simp

@[simp] theorem compareStep_ordering (u n : Nat) (count : Word) (s : State) :
    (compareStep u n count s).ordering = s.ordering := by simp [compareStep]

@[simp] theorem quadEdge_ordering (n : Nat) (a b : Bool) (s : State) : (quadEdge n a b s).ordering = s.ordering := by
  unfold quadEdge
  dsimp only
  split <;> simp

@[simp] theorem fusionTick_ordering (c : Nat) (s : State) : (fusionTick c s).ordering = s.ordering := by
  unfold fusionTick
  split
  · rfl
  · dsimp only
    rw [acqSample_ordering]
    refine ordering_of_ite (by simp) (ordering_of_ite ?_ ?_)
    all_goals split <;> simp

/-! ### Machine/FieldOps.lean -/

@[simp] theorem rawChange_ordering (k : Nat) (volts : Int) (s : State) : (rawChange k volts s).ordering = s.ordering := by
  unfold rawChange
  dsimp only
  split <;> simp

@[simp] theorem adcSample_ordering (vs : List (BitVec 16)) (s : State) : (adcSample vs s).ordering = s.ordering := by simp [adcSample]

/-! ### Machine/HoistOps.lean -/

@[simp] theorem hoistFrame_ordering (c : Nat) (s : State) : (hoistFrame c s).ordering = s.ordering := by
  unfold hoistFrame
  split
  · rfl
  · by_cases hoff : running s .io = false ∨ (hstOf s c).state = .off
    · rw [if_pos hoff]
    · rw [if_neg hoff]
      extract_lets s₁ s₂ before h h' s₃ arrives s₄ s₅ s₆ h'' wait s₇ s₈
      have h₂ : s₂.ordering = s₁.ordering := by
        unfold s₂
        split <;> simp
      have h₆ : s₆.ordering = s₅.ordering := by
        unfold s₆
        clear_value before
        split <;> simp
      calc
        _ = s₈.ordering := by simp
        _ = s₆.ordering := by simp [s₈, s₇]
        _ = s₂.ordering := by simp [h₆, s₅, s₄, s₃]
        _ = s.ordering := by simp [h₂, s₁]

/-! ### Machine/DoorOps.lean -/

@[simp] theorem doorUpdate_ordering (d : Nat) (s : State) : (doorUpdate d s).ordering = s.ordering := by
  unfold doorUpdate
  split <;> simp

@[simp] theorem onDoor_ordering (d : Nat) (f : DoorCfg → State → State) (s : State) (h : ∀ k t, (f k t).ordering = t.ordering) :
    (onDoor d f s).ordering = s.ordering := by
  unfold onDoor
  split <;> simp [h]

@[simp] theorem doorCommand_ordering (d cmd : Nat) (s : State) : (doorCommand d cmd s).ordering = s.ordering := by
  unfold doorCommand
  split <;> simp

@[simp] theorem profWrite_ordering (d : Nat) (v : Word) (s : State) : (profWrite d v s).ordering = s.ordering := by simp [profWrite]

@[simp] theorem accWrite_ordering (d : Nat) (v : Word) (s : State) : (accWrite d v s).ordering = s.ordering := by simp [accWrite]

@[simp] theorem targetWrite_ordering (d : Nat) (v : Word) (s : State) : (targetWrite d v s).ordering = s.ordering := by simp [targetWrite]

@[simp] theorem gearCommit_ordering (d : Nat) (s : State) : (gearCommit d s).ordering = s.ordering := by simp [gearCommit]

@[simp] theorem doorRelease_ordering (warm : Bool) (saved : Tab Door) (s : State) : (doorRelease warm saved s).ordering = s.ordering := by
  unfold doorRelease
  dsimp only
  exact ordering_of_ite (by rw [foldl_ordering _ (by simp)]) rfl

@[simp] theorem doorWrite_ordering (d off : Nat) (v : Word) (s : State) : (doorWrite d off v s).ordering = s.ordering := by
  unfold doorWrite
  split
  · simp
  · split <;> simp

/-! ### Machine/DspOps.lean -/

theorem addYield_ordering (s : State) (k : CarCfg) (l : Nat) {s' : State} (h : addYield s k l = some s') : s'.ordering = s.ordering := by
  unfold addYield at h
  split at h
  · cases h
  · obtain ⟨r, -, rfl⟩ := Option.map_eq_some_iff.mp h
    simp

theorem adopt_ordering (g t : Nat) (c : Call) (b : Choice) (s : State) {s' : State} (h : adopt g t c b s = some s') :
    s'.ordering = s.ordering := by
  unfold adopt at h
  dsimp only at h
  split at h
  · cases h
  · split at h
    · simpa using addYield_ordering _ _ _ h
    · cases h
      simp

@[simp] theorem placeCall_ordering (g t : Nat) (redo : Option Redo) (s : State) : (placeCall g t redo s).ordering = s.ordering := by
  unfold placeCall
  dsimp only
  split
  · rfl
  · simp only [ite_ordering, planTiming_keeps, ite_self]
    split
    · next hb =>
      obtain ⟨b, -, hb⟩ := Option.bind_eq_some_iff.mp hb
      obtain ⟨s', hs', h⟩ := Option.map_eq_some_iff.mp hb
      cases h
      simpa using adopt_ordering _ _ _ _ _ hs'
    · simp

@[simp] theorem stepBoundary_ordering (g : Nat) (s : State) : (stepBoundary g s).ordering = s.ordering := by simp [stepBoundary]

@[simp] theorem insertionStep_ordering (g : Nat) (s : State) : (insertionStep g s).ordering = s.ordering := by
  unfold insertionStep
  dsimp only
  split
  · rfl
  · split <;> simp

@[simp] theorem sweepCall_ordering (g t : Nat) (c : Call) (s : State) : (sweepCall g t c s).ordering = s.ordering := by
  unfold sweepCall
  dsimp only
  split
  · rfl
  · split
    · rfl
    · refine ordering_of_ite rfl ?_
      split
      · next h => simpa using adopt_ordering _ _ _ _ _ h
      · rfl

@[simp] theorem sweepSlice_ordering (g : Nat) (s : State) : (sweepSlice g s).ordering = s.ordering := by
  unfold sweepSlice
  dsimp only
  split
  · rfl
  · rw [stepBoundary_ordering]
    split <;> simp

/-! ### Machine/TaskIo.lean -/

@[simp] theorem deliverWord_ordering (n : Nat) (d : OutDest) (w : Word) (s : State) : (deliverWord n d w s).ordering = s.ordering := by
  unfold deliverWord
  split <;> simp

/-! ### Machine/CycOps.lean -/

@[simp] theorem prevChecked_ordering (n : Nat) (reads : List Nat) (raised : State → State) (s : State)
    (h : ∀ t, (raised t).ordering = t.ordering) :
    (prevChecked n reads raised s).ordering = s.ordering := by
  unfold prevChecked
  split
  · exact h s
  · dsimp only
    split <;> simp [h]

@[simp] theorem startTask_ordering (c : TaskCfg) (s : State) : (startTask c s).ordering = s.ordering := by
  unfold startTask
  dsimp only
  split <;> simp

@[simp] theorem startHighest_ordering (n : Nat) (s : State) : (startHighest n s).ordering = s.ordering := by
  unfold startHighest
  refine ordering_of_ite rfl ?_
  split
  · rfl
  · refine ordering_of_ite (by simp) (ordering_of_ite ?_ rfl)
    split <;> simp

@[simp] theorem ceTick_ordering (k : Nat) (s : State) (n : Nat) : (ceTick k s n).ordering = s.ordering := by simp [ceTick]

@[simp] theorem refill_ordering (s : State) : (refill s).ordering = s.ordering := by simp [refill]

@[simp] theorem runTick_ordering (k : Nat) (s : State) : (runTick k s).ordering = s.ordering := by simp [runTick]

@[simp] theorem schedulerTick_ordering (s : State) : (schedulerTick s).ordering = s.ordering := by simp [schedulerTick]

@[simp] theorem copyOutputs_ordering (c : TaskCfg) (s : State) : (copyOutputs c s).ordering = s.ordering := by simp [copyOutputs]

@[simp] theorem endCycle_ordering (n : Nat) (s : State) : (endCycle n s).ordering = s.ordering := by
  unfold endCycle
  split
  · simp
  · split <;> simp

@[simp] theorem afterWait_ordering (n : Nat) (s : State) : (afterWait n s).ordering = s.ordering := by
  unfold afterWait
  split
  · refine ordering_of_ite (by simp) ?_
    split <;> simp
  · simp

@[simp] theorem finishHandover_ordering (s : State) : (finishHandover s).ordering = s.ordering := by
  unfold finishHandover
  split <;> simp

@[simp] theorem abandonCycles_ordering (n : Nat) (s : State) : (abandonCycles n s).ordering = s.ordering := by
  unfold abandonCycles
  extract_lets s₁ c s₂
  have h₁ : s₁.ordering = s.ordering := by
    refine foldl_ordering _ (fun s t => ?_) _ _
    split <;> simp
  have h₂ : s₂.ordering = s.ordering := (clearStack_ordering _ _ _).trans h₁
  split <;> simp [h₂]

@[simp] theorem switchHalted_ordering (n : Nat) (s : State) : (switchHalted n s).ordering = s.ordering := by simp [switchHalted]

@[simp] theorem handoverTick_ordering (s : State) : (handoverTick s).ordering = s.ordering := by
  unfold handoverTick
  split <;> simp

@[simp] theorem handoverTimeout_ordering (n : Nat) (s : State) : (handoverTimeout n s).ordering = s.ordering := by
  unfold handoverTimeout
  split <;> simp

@[simp] theorem dataMapDone_ordering (n : Nat) (errs : List (Fin 131072 × Ecc)) (s : State) :
    (dataMapDone n errs s).ordering = s.ordering := by
  unfold dataMapDone
  dsimp only
  split
  · refine ordering_of_ite ?_ rfl
    split <;> simp
  · rfl

@[simp] theorem loadTasks_ordering (mine : Nat → Bool) (warm : Bool) (s : State) : (loadTasks mine warm s).ordering = s.ordering := by
  unfold loadTasks
  rw [foldl_ordering _ (by simp), (dropTasks_keeps _ _ _).1]

@[simp] theorem moduleSwitch_ordering (t : Nat) (s : State) : (moduleSwitch t s).ordering = s.ordering := by
  unfold moduleSwitch
  dsimp only
  split
  · rfl
  · rw [(raise_keeps _ _ _).1, foldl_ordering _ (by simp)]

@[simp] theorem abandonTenant_ordering (t : Nat) (s : State) : (abandonTenant t s).ordering = s.ordering := by simp [abandonTenant]

/-! ### Machine/History.lean -/

@[simp] theorem clockCount_ordering (s : State) : (clockCount s).ordering = s.ordering := by simp [clockCount]

@[simp] theorem driveGone_ordering (n : Nat) (s : State) : (driveGone n s).ordering = s.ordering := by simp [driveGone]

@[simp] theorem linkLost_ordering (n code : Nat) (s : State) : (linkLost n code s).ordering = s.ordering := by simp [linkLost]

/-! ### Machine/SafetyOps.lean -/

@[simp] theorem judgeAll_ordering (ch : Channel) (s : State) : (judgeAll ch s).1.ordering = s.ordering := by
  unfold judgeAll
  refine (foldl_fst_ordering _ (fun a k => ?_) _ _).trans (putSaf_ordering _ _ _)
  dsimp only
  rw [(raiseIf_keeps _ _ _ _).1, putSaf_ordering]

@[simp] theorem safetyCycle_ordering (ch : Channel) (works : Bool) (s : State) : (safetyCycle ch works s).ordering = s.ordering := by
  unfold safetyCycle
  split
  · simp
  · split <;> simp

@[simp] theorem releaseEvents_ordering (s : State) : (releaseEvents s).ordering = s.ordering := by simp [releaseEvents]

@[simp] theorem safetyRelease_ordering (s : State) : (safetyRelease s).ordering = s.ordering := by simp [safetyRelease]

@[simp] theorem safetyRestart_ordering (s : State) : (safetyRestart s).ordering = s.ordering := by simp [safetyRestart]

@[simp] theorem smokeWaitEnds_ordering (ch : Channel) (s : State) : (smokeWaitEnds ch s).ordering = s.ordering := by simp [smokeWaitEnds]

/-! ### Machine/NetOps.lean -/

@[simp] theorem sendFrames_ordering (k : StationCfg) (fs : List (StationFrame × List DWord)) (s : State) :
    (sendFrames k fs s).1.ordering = s.ordering := by
  unfold sendFrames
  refine foldl_fst_ordering _ (fun a f => ?_) _ _
  simp

@[simp] theorem stationLost_ordering (n : Nat) (s : State) : (stationLost n s).ordering = s.ordering := by simp [stationLost]

@[simp] theorem budgetEnd_ordering (n : Nat) (s : State) : (budgetEnd n s).ordering = s.ordering := by
  unfold budgetEnd
  split <;> simp

@[simp] theorem cycleSend_ordering (n : Nat) (s : State) : (cycleSend n s).ordering = s.ordering := by
  unfold cycleSend
  split
  · rfl
  · simp [apply_ite Prod.fst]

@[simp] theorem stationRetry_ordering (n : Nat) (s : State) : (stationRetry n s).ordering = s.ordering := by
  unfold stationRetry
  split <;> simp

@[simp] theorem inputFrame_ordering (f : StationFrame) (s : State) : (inputFrame f s).ordering = s.ordering := by
  unfold inputFrame
  dsimp only
  split <;> simp

@[simp] theorem runHeldTick_ordering (s : State) : (runHeldTick s).ordering = s.ordering := by
  unfold runHeldTick
  split <;> simp

@[simp] theorem holderTake_ordering (s : State) : (holderTake s).ordering = s.ordering := by
  unfold holderTake
  dsimp only
  split
  · rfl
  · split <;> simp

@[simp] theorem partnerSilent_ordering (s : State) : (partnerSilent s).ordering = s.ordering := by simp [partnerSilent]

@[simp] theorem lualasLost_ordering (s : State) : (lualasLost s).ordering = s.ordering := by simp [lualasLost]

@[simp] theorem takeCopy_ordering (c : PairCopy) (s : State) : (takeCopy c s).ordering = s.ordering := by
  unfold takeCopy
  dsimp only
  rw [(putForces_keeps _ _).1]
  dsimp only
  rw [foldl_ordering _ (by simp), foldl_ordering _ (by simp)]

@[simp] theorem resyncDone_ordering (c : PairCopy) (s : State) : (resyncDone c s).ordering = s.ordering := by simp [resyncDone]

@[simp] theorem selectionRecord_ordering (k : Nat) (sels : List Selection) (s : State) :
    (selectionRecord k sels s).ordering = s.ordering := by
  unfold selectionRecord
  refine ordering_of_ite ?_ rfl
  simp only [ite_ordering, divergence_keeps, runTick_ordering, ite_self]
  refine foldl_ordering _ (fun s x => ?_) _ _
  split <;> simp

/-! ### Machine/Resets.lean -/

@[simp] theorem loadPersistent_ordering (s : State) (n : Nat) : (loadPersistent s n).ordering = s.ordering := by
  unfold loadPersistent
  split
  · rfl
  · refine foldl_ordering _ (fun s v => ?_) _ _
    split <;> simp

@[simp] theorem releaseCold_ordering (d0 d1 : Bool) (unA unB : List Nat) (saved : Tab SlotImage) (s : State) :
    (releaseCold d0 d1 unA unB saved s).ordering = s.ordering := by simp [releaseCold]

@[simp] theorem releaseComp_ordering (d0 d1 : Bool) (s : State) : (releaseComp d0 d1 s).ordering = s.ordering := by simp [releaseComp]

@[simp] theorem loadBlocks_ordering (s : State) : (loadBlocks s).ordering = s.ordering := by
  unfold loadBlocks
  dsimp only
  rw [(storeStarts_keeps _).1, canLoad_ordering, doorRelease_ordering, foldl_ordering _ (by simp), foldl_ordering _ (by simp),
    (raiseIf_keeps _ _ _ _).1]

@[simp] theorem releaseBlocks_ordering (us : List ResetUnit) (s : State) :
    (releaseBlocks us s).ordering = s.ordering := by simp [releaseBlocks]

/-! ### Machine/Blocks.lean -/

@[simp] theorem ceRestore_ordering (saved : Tab Ce) (s : State) (n : Nat) : (ceRestore saved s n).ordering = s.ordering := by
  unfold ceRestore
  split <;> simp

@[simp] theorem startCompute_ordering (saved : Option SaveContent) (unA unB : List Nat) (s : State) :
    (startCompute saved unA unB s).ordering = s.ordering := by simp [startCompute]

@[simp] theorem braceBegins_ordering (s : State) : (braceBegins s).ordering = s.ordering := by
  unfold braceBegins
  dsimp only
  rw [ite_ordering, (flushDrives_keeps _).1, ite_self, foldl_ordering _ (by simp)]

@[simp] theorem braceResumes_ordering (s : State) : (braceResumes s).ordering = s.ordering := by
  unfold braceResumes
  dsimp only
  rw [finishHandover_ordering, foldl_ordering _ (by simp), foldl_ordering _ (by simp), foldl_ordering _ (by simp)]

@[simp] theorem braceCommits_ordering (s : State) : (braceCommits s).ordering = s.ordering := by
  unfold braceCommits
  dsimp only
  rw [(fieldRefresh_keeps _).1, (goSilent_keeps _).1]
  dsimp only
  rw [foldl_ordering _ (by simp)]

@[simp] theorem computeDieEffect_ordering (first : Bool) (old new : DieState) (s : State) :
    (computeDieEffect first old new s).ordering = s.ordering := by simp [computeDieEffect]

@[simp] theorem ioDieEffect_ordering (old new : DieState) (s : State) :
    (ioDieEffect old new s).ordering = s.ordering := by simp [ioDieEffect]

@[simp] theorem dieEffects_ordering (old : Dies) (s : State) : (dieEffects old s).ordering = s.ordering := by simp [dieEffects]

@[simp] theorem thermalEffects_ordering (old : Nat) (s : State) : (thermalEffects old s).ordering = s.ordering := by simp [thermalEffects]

/-! ### Machine/FrameOps.lean -/

@[simp] theorem sealBroken_ordering (s : State) : (sealBroken s).ordering = s.ordering := by simp [sealBroken]

@[simp] theorem sealSample_ordering (s : State) (level : Bool) : (sealSample s level).ordering = s.ordering := by simp [sealSample]

@[simp] theorem sealSamples_ordering (right : Bool) (k : Nat) (s : State) : (sealSamples right k s).ordering = s.ordering := by
  induction k generalizing s with
  | zero => rfl
  | succ k ih => simp [sealSamples, ih]

@[simp] theorem sealBreaks_ordering (s : State) : (sealBreaks s).ordering = s.ordering := by simp [sealBreaks]

@[simp] theorem unlessBarred_ordering (bars : List (Bool × Nat)) (act : State → State) (s : State)
    (h : ∀ t, (act t).ordering = t.ordering) :
    (unlessBarred bars act s).ordering = s.ordering := by
  unfold unlessBarred
  split <;> simp [h]

@[simp] theorem stageBegin_ordering (s : State) : (stageBegin s).ordering = s.ordering := by simp [stageBegin]

@[simp] theorem verify_ordering (src : LogSource) (s : State) : (verify src s).ordering = s.ordering := by
  unfold verify
  refine unlessBarred_ordering _ _ _ fun s => ?_
  dsimp only
  split <;> simp

@[simp] theorem activate_ordering (src : LogSource) (s : State) : (activate src s).ordering = s.ordering := by simp [activate]

@[simp] theorem revert_ordering (src : LogSource) (s : State) : (revert src s).ordering = s.ordering := by simp [revert]

@[simp] theorem abortLoad_ordering (src : LogSource) (s : State) : (abortLoad src s).ordering = s.ordering := by simp [abortLoad]

@[simp] theorem benchArm_ordering (src : LogSource) (s : State) : (benchArm src s).ordering = s.ordering := by simp [benchArm]

@[simp] theorem loadCommand_ordering (src : LogSource) (cmd : Nat) (s : State) : (loadCommand src cmd s).ordering = s.ordering := by
  unfold loadCommand
  split <;> simp

@[simp] theorem tamperClear_ordering (src : LogSource) (s : State) : (tamperClear src s).ordering = s.ordering := by simp [tamperClear]

@[simp] theorem keyEnrol_ordering (src : LogSource) (slot : Nat) (key signature : List Byte) (s : State) :
    (keyEnrol src slot key signature s).ordering = s.ordering := by simp [keyEnrol]

@[simp] theorem keyRemove_ordering (src : LogSource) (slot : Nat) (signature : List Byte) (s : State) :
    (keyRemove src slot signature s).ordering = s.ordering := by simp [keyRemove]

/-! ### Machine/KeeperOps.lean -/

@[simp] theorem calTo_ordering (sec : Nat) (s : State) : (calTo sec s).ordering = s.ordering := by
  unfold calTo
  dsimp only
  simp

@[simp] theorem rtcSecond_ordering (s : State) : (rtcSecond s).ordering = s.ordering := by simp [rtcSecond]

/-! ### Machine/PowerOps.lean -/

@[simp] theorem suppliesGood_ordering (s : State) : (suppliesGood s).ordering = s.ordering := by simp [suppliesGood]

@[simp] theorem assertModule_ordering (k : ResetKind) (s : State) : (assertModule k s).ordering = s.ordering := by simp [assertModule]

@[simp] theorem holdIslands_ordering (s : State) : (holdIslands s).ordering = s.ordering := by simp [holdIslands]

@[simp] theorem assertIsland_ordering (us : List ResetUnit) (s : State) : (assertIsland us s).ordering = s.ordering := by
  unfold assertIsland
  dsimp only
  rw [(settle_keeps _).1, (readyUpdate_keeps _).1]
  dsimp only
  rw [(setCause_keeps _ _).1]
  dsimp only
  rw [(resetRouters_keeps _ _).1, foldl_ordering _ (by simp)]

@[simp] theorem unitIdle_ordering (u : ResetUnit) (s : State) : (unitIdle u s).ordering = s.ordering := by
  unfold unitIdle
  extract_lets r s₁ s₂
  have h₂ : s₂.ordering = s.ordering := by
    unfold s₂
    split <;> simp [s₁]
  split <;> simp [h₂]

@[simp] theorem unitTimeout_ordering (u : ResetUnit) (s : State) : (unitTimeout u s).ordering = s.ordering := by simp [unitTimeout]

@[simp] theorem releaseIsland_ordering (r : ResetRun) (s : State) : (releaseIsland r s).ordering = s.ordering := by simp [releaseIsland]

@[simp] theorem releaseBlock_ordering (r : ResetRun) (s : State) : (releaseBlock r s).ordering = s.ordering := by simp [releaseBlock]

@[simp] theorem refuseStart_ordering (c sec idx : Nat) (s : State) :
    (refuseStart c sec idx s).ordering = s.ordering := by simp [refuseStart]

@[simp] theorem manifestCheck_ordering (s : State) : (manifestCheck s).ordering = s.ordering := by
  unfold manifestCheck
  dsimp only
  split <;> simp

@[simp] theorem computePhase_ordering (unA unB : List Nat) (s : State) :
    (computePhase unA unB s).ordering = s.ordering := by simp [computePhase]

@[simp] theorem phaseComplete_ordering (pairSel : Bool) (unA unB : List Nat) (s : State) :
    (phaseComplete pairSel unA unB s).ordering = s.ordering := by
  unfold phaseComplete
  dsimp only
  split
  · rfl
  · split <;> simp

@[simp] theorem stopStartup_ordering (s : State) : (stopStartup s).ordering = s.ordering := by simp [stopStartup]

@[simp] theorem resumeStartup_ordering (s : State) : (resumeStartup s).ordering = s.ordering := by simp [resumeStartup]

@[simp] theorem vcoreStep_ordering (s : State) : (vcoreStep s).ordering = s.ordering := by
  unfold vcoreStep
  split <;> simp

@[simp] theorem braceBegin_ordering (s : State) : (braceBegin s).ordering = s.ordering := by simp [braceBegin]

@[simp] theorem keeperReset_ordering (k : ResetKind) (h : HeldReset) (s : State) : (keeperReset k h s).ordering = s.ordering := by
  unfold keeperReset
  split <;> simp

@[simp] theorem heldTakesEffect_ordering (s : State) : (heldTakesEffect s).ordering = s.ordering := by
  unfold heldTakesEffect
  refine foldl_ordering _ (fun s h => ?_) _ _
  cases h <;> simp

@[simp] theorem braceRecover_ordering (s : State) : (braceRecover s).ordering = s.ordering := by
  unfold braceRecover
  split <;> simp

@[simp] theorem braceCommit_ordering (s : State) : (braceCommit s).ordering = s.ordering := by
  unfold braceCommit
  split <;> simp

@[simp] theorem saveComplete_ordering (us : Nat) (s : State) : (saveComplete us s).ordering = s.ordering := by
  unfold saveComplete
  split <;> simp

/-! ### Machine/KeeperRegs.lean -/

@[simp] theorem onlineChange_ordering (req : Requester) (cmd : Nat) (s : State) :
    (onlineChange req cmd s).ordering = s.ordering := by simp [onlineChange]

@[simp] theorem frmWrite_ordering (req : Requester) (off : Nat) (v : Word) (s : State) :
    (frmWrite req off v s).ordering = s.ordering := by
  unfold frmWrite
  split <;> simp

/-! ### Machine/ControlSpace.lean -/

@[simp] theorem writeAt_ordering (req : Requester) (addr : Word) (w off : Nat) (v : Word) (s : State) :
    (writeAt req addr w off v s).ordering = s.ordering := by
  unfold writeAt
  split <;> simp

@[simp] theorem ctlWrite_ordering (req : Requester) (addr value : Word) (s : State) :
    (ctlWrite req addr value s).2.ordering = s.ordering := by
  unfold ctlWrite
  split
  · simp
  · split <;> simp [apply_ite Prod.snd]

/-! ### Machine/Ce.lean -/

@[simp] theorem flow_ordering (n : Nat) (branch reserved : Bool) (run : Ce → State → State) (s : State)
    (h : ∀ k t, (run k t).ordering = t.ordering) :
    (flow n branch reserved run s).ordering = s.ordering := by simp [flow, h]

/-! ### Machine/Cyclic.lean -/

@[simp] theorem waitStep_ordering (n : Nat) (f : FmtR) (errs : List (Fin 131072 × Ecc)) (s : State) :
    (waitStep n f errs s).ordering = s.ordering := by
  unfold waitStep
  dsimp only
  refine ordering_of_ite rfl ?_
  split
  · simp
  · refine ordering_of_ite (by simp) (ordering_of_ite (by simp) ?_)
    split <;> simp

/-! ### Machine/Dsp.lean -/

@[simp] theorem inGroupOf_ordering (c : Nat) (f : Nat → State → State) (s : State) (h : ∀ k t, (f k t).ordering = t.ordering) :
    (inGroupOf c f s).ordering = s.ordering := by
  unfold inGroupOf
  split <;> simp [h]

/-! ### Machine/Events.lean -/

@[simp] theorem closeRecord_ordering (s : State) : (closeRecord s).ordering = s.ordering := by
  unfold closeRecord
  split
  · simp
  · split <;> simp

@[simp] theorem snapshotReads_ordering (ws : List Word) (k : Nat) (s : State) : (snapshotReads ws k s).2.2.ordering = s.ordering := by
  induction ws generalizing k s with
  | nil => rfl
  | cons a as ih => simp [snapshotReads, ih]

/-! ### Machine/Keeper.lean -/

@[simp] theorem readWords_ordering (req : Requester) (ws : List Word) (s : State) : (readWords req ws s).2.ordering = s.ordering := by
  induction ws generalizing s with
  | nil => rfl
  | cons p as ih =>
    unfold readWords
    dsimp only
    rw [apply_ite Prod.snd, ite_ordering]
    split
    · rfl
    · split <;> simp [ih]

@[simp] theorem writeWords_ordering (req : Requester) (ws : List (Word × Word)) (s : State) :
    (writeWords req ws s).2.ordering = s.ordering := by
  induction ws generalizing s with
  | nil => rfl
  | cons p as ih =>
    obtain ⟨a, v⟩ := p
    unfold writeWords
    dsimp only
    rw [apply_ite Prod.snd, ite_ordering]
    split
    · rfl
    · split <;> simp [ih]

@[simp] theorem keyRequest_ordering (src : LogSource) (enrol : Bool) (slot : Nat) (key signature : List Byte) (s : State) :
    (keyRequest src enrol slot key signature s).2.ordering = s.ordering := by simp [keyRequest]

@[simp] theorem runRequest_ordering (n : Fin 8) (r : MgmtReq) (s : State) : (runRequest n r s).2.ordering = s.ordering := by
  unfold runRequest
  dsimp only
  rw [apply_ite Prod.snd, apply_ite Prod.snd, ite_ordering, ite_ordering]
  split
  · rfl
  · split
    · simp
    · split <;> simp [apply_ite Prod.snd]

@[simp] theorem drainSession_ordering (n : Fin 8) (k : Nat) (s : State) : (drainSession n k s).ordering = s.ordering := by
  induction k generalizing s with
  | zero => rfl
  | succ k ih =>
    unfold drainSession
    refine ordering_of_ite rfl ?_
    split
    · rfl
    · split
      · rfl
      · next heq => simp [ih, ordering_of_eq_pair heq]

@[simp] theorem submit_ordering (n : Fin 8) (r : MgmtReq) (s : State) : (submit n r s).ordering = s.ordering := by
  unfold submit
  refine ordering_of_ite ?_ (by simp)
  split
  · simp
  · next heq => simp [ordering_of_eq_pair heq]

@[simp] theorem drainWaiting_ordering (s : State) : (drainWaiting s).ordering = s.ordering := by
  unfold drainWaiting
  rw [foldl_ordering _ (by simp)]

@[simp] theorem idleTurn_ordering (s : State) : (idleTurn s).ordering = s.ordering := by simp [idleTurn]

/-! ### Machine/Truss.lean -/

@[simp] theorem dieFails_ordering (x : Die) (s : State) : (dieFails x s).ordering = s.ordering := by simp [dieFails]

@[simp] theorem pairBad_ordering (link v : Nat) (l : Link) (p : FlitPair) (sent : Nat) (s : State) :
    (pairBad link v l p sent s).ordering = s.ordering := by simp [pairBad]

end Sys2Proof.Machine
end

section
/-! SUPPORT. The fused ordering code (R3) through every command, and O4. -/
namespace Sys2Proof.Machine

/-- A next state that a command answers has the ordering code of the state before. -/
def KeepsOrdering (s : State) (r : Result) : Prop := ∀ t, r = .next t → t.ordering = s.ordering

@[simp] theorem keepsOrdering_done_iff {s t : State} : KeepsOrdering s (done t) ↔ t.ordering = s.ordering := by
  constructor
  · exact fun h => h t rfl
  · rintro h u ⟨⟩
    exact h

theorem keepsOrdering_done {s t : State} (h : t.ordering = s.ordering) : KeepsOrdering s (done t) := keepsOrdering_done_iff.mpr h

@[simp] theorem keepsOrdering_ite {s : State} (p : Prop) [Decidable p] (a b : Result) :
    KeepsOrdering s (if p then a else b) ↔ (p → KeepsOrdering s a) ∧ (¬ p → KeepsOrdering s b) := by
  split <;> simp [*]

/-! ## The commands that branch before they answer -/

/-! ### Machine/Comb.lean -/

theorem execCombAccess_keepsOrdering (w : CombWho) (id : Word) (op : CombOp) (ecc : Ecc) (s : State) :
    KeepsOrdering s (execCombAccess w id op ecc s) := by
  unfold execCombAccess
  split <;> simp

theorem execTrendSample_keepsOrdering (id : Fin 262144) (s : State) : KeepsOrdering s (execTrendSample id s) := by
  unfold execTrendSample
  split <;> simp

theorem execEnergyForecast_keepsOrdering (s : State) : KeepsOrdering s (execEnergyForecast s) := by simp [execEnergyForecast]

theorem execLevelChange_keepsOrdering (s : State) : KeepsOrdering s (execLevelChange s) := by simp [execLevelChange]

/-! ### Machine/Bacnet.lean -/

theorem execBacnetScConnect_keepsOrdering (tenant : Fin 1024) (hub : Bool) (chain : List (List Byte)) (fingerprint : List Byte)
    (s : State) :
    KeepsOrdering s (execBacnetScConnect tenant hub chain fingerprint s) := by simp [execBacnetScConnect]

theorem execReadProperty_keepsOrdering (q : BacRequest) (o : BacObject) (prop : BacProp) (s : State) :
    KeepsOrdering s (execReadProperty q o prop s) := by
  refine keepsOrdering_done (serve_ordering _ _ _ fun r s => ?_)
  split <;> next heq => simp [ordering_of_eq_pair heq]

theorem execReadPropertyMultiple_keepsOrdering (q : BacRequest) (items : List (BacObject × BacProp)) (s : State) :
    KeepsOrdering s (execReadPropertyMultiple q items s) := by
  refine keepsOrdering_done (serve_ordering _ _ _ fun r s => ?_)
  dsimp only
  rw [(bacSays_keeps _ _).1]
  refine foldl_snd_ordering _ (fun a x => ?_) _ _
  simp

theorem execWriteProperty_keepsOrdering (q : BacRequest) (o : BacObject) (prop : BacProp) (value : Option Word) (prio : Fin 17)
    (s : State) :
    KeepsOrdering s (execWriteProperty q o prop value prio s) := by
  refine keepsOrdering_done (serve_ordering _ _ _ fun r s => ?_)
  split <;> next heq => simp [ordering_of_eq_pair heq]

theorem execWritePropertyMultiple_keepsOrdering (q : BacRequest) (items : List (BacObject × BacProp × Option Word × Fin 17)) (s : State) :
    KeepsOrdering s (execWritePropertyMultiple q items s) := by
  refine keepsOrdering_done (serve_ordering _ _ _ fun r s => ?_)
  split <;> next heq => simp [ordering_of_eq_pair heq]

theorem execSubscribeCov_keepsOrdering (q : BacRequest) (o : BacObject) (confirmed cancel : Bool) (s : State) :
    KeepsOrdering s (execSubscribeCov q o confirmed cancel s) := by
  refine keepsOrdering_done (serve_ordering _ _ _ fun r s => ?_)
  split
  · simp
  · refine ordering_of_ite ?_ ?_
    · rw [(bacSays_keeps _ _).1]
      split <;> rfl
    · split <;> next heq => simp [ordering_of_eq_pair heq]

theorem execCovNotification_keepsOrdering (k : Fin 65536) (s : State) : KeepsOrdering s (execCovNotification k s) := by
  unfold execCovNotification
  split
  · simp
  · dsimp only
    split
    · split <;> next heq => simp [ordering_of_eq_pair heq]
    · simp

theorem execAcknowledgeAlarm_keepsOrdering (q : BacRequest) (o : BacObject) (kind : AlarmKind) (s : State) :
    KeepsOrdering s (execAcknowledgeAlarm q o kind s) := by
  refine keepsOrdering_done (serve_ordering _ _ _ fun r s => ?_)
  refine ordering_of_ite (by simp) ?_
  split
  · simp
  · split <;> next heq => simp [ordering_of_eq_pair heq]

theorem execReadRange_keepsOrdering (q : BacRequest) (id first count : Nat) (s : State) :
    KeepsOrdering s (execReadRange q id first count s) := by
  refine keepsOrdering_done (serve_ordering _ _ _ fun r s => ?_)
  split <;> next heq => simp [ordering_of_eq_pair heq]

theorem execModbusTcpRequest_keepsOrdering (conn : Fin 64) (bind first count : Nat) (values : Option (List (BitVec 16))) (s : State) :
    KeepsOrdering s (execModbusTcpRequest conn bind first count values s) := by
  unfold execModbusTcpRequest
  dsimp only
  split
  · simp
  · split
    · simp
    · split
      · simp
      · split
        all_goals split <;> next heq => simp [ordering_of_eq_pair heq]

theorem execModbusRtuResponse_keepsOrdering (no : Fin 2048) (values : List Word) (s : State) :
    KeepsOrdering s (execModbusRtuResponse no values s) := by
  unfold execModbusRtuResponse
  split
  · simp
  · split <;> simp

/-! ### Machine/History.lean -/

theorem execPpsEdge_keepsOrdering (s : State) : KeepsOrdering s (execPpsEdge s) := by simp [execPpsEdge]

theorem execPpsLost_keepsOrdering (s : State) : KeepsOrdering s (execPpsLost s) := by simp [execPpsLost]

theorem execTimebaseLocked_keepsOrdering (s : State) : KeepsOrdering s (execTimebaseLocked s) := by
  unfold execTimebaseLocked
  split <;> simp

theorem execGptpSourceLost_keepsOrdering (s : State) : KeepsOrdering s (execGptpSourceLost s) := by simp [execGptpSourceLost]

theorem execIntervalEvent_keepsOrdering (i : Fin 8) (s : State) : KeepsOrdering s (execIntervalEvent i s) := by
  unfold execIntervalEvent
  dsimp only
  split
  · simp
  · split
    · simp
    · split <;> simp

theorem execNvmeWriteComplete_keepsOrdering (drive : Fin 2) (stream : Fin 19) (ok : Bool) (s : State) :
    KeepsOrdering s (execNvmeWriteComplete drive stream ok s) := by
  unfold execNvmeWriteComplete
  dsimp only
  split <;> simp

theorem execPcieLinkChange_keepsOrdering (port : Fin 2) (link : LinkState) (drive : DriveIdent) (s : State) :
    KeepsOrdering s (execPcieLinkChange port link drive s) := by
  unfold execPcieLinkChange
  split
  · simp
  · split <;> simp

theorem execDriveFailure_keepsOrdering (port : Fin 2) (timeout : Bool) (s : State) :
    KeepsOrdering s (execDriveFailure port timeout s) := by simp [execDriveFailure]

theorem execDriveReturn_keepsOrdering (port : Fin 2) (blocks : Nat) (isNew : Bool) (s : State) :
    KeepsOrdering s (execDriveReturn port blocks isNew s) := by simp [execDriveReturn]

theorem execRebuildComplete_keepsOrdering (s : State) : KeepsOrdering s (execRebuildComplete s) := by simp [execRebuildComplete]

theorem execHeadJournal_keepsOrdering (s : State) : KeepsOrdering s (execHeadJournal s) := by simp [execHeadJournal]

theorem execConsumerAck_keepsOrdering (k : Fin 16) (stream : BitVec 8) (seq : DWord) (s : State) :
    KeepsOrdering s (execConsumerAck k stream seq s) := by
  unfold execConsumerAck
  split <;> simp

theorem execConsumerDownResend_keepsOrdering (k : Fin 16) (s : State) : KeepsOrdering s (execConsumerDownResend k s) := by
  unfold execConsumerDownResend
  dsimp only
  split
  · simp
  · split
    · split <;> simp
    · simp

theorem execBackfillSend_keepsOrdering (k : Fin 16) (stream : Fin 19) (s : State) : KeepsOrdering s (execBackfillSend k stream s) := by
  unfold execBackfillSend
  dsimp only
  split
  · simp
  · split <;> simp

/-! ### Machine/ControlSpace.lean -/

theorem execRegisterWrite_keepsOrdering (req : Requester) (addr : Word) (size : AccessSize) (value : Word) (s : State) :
    KeepsOrdering s (execRegisterWrite req addr size value s) := by simp [execRegisterWrite]

/-! ### Machine/Ce.lean -/

theorem execIntegerInstruction_keepsOrdering (n : Fin 128) (gd : Guard) (i : IntInstr) (s : State) :
    KeepsOrdering s (execIntegerInstruction n gd i s) := by
  refine keepsOrdering_done (issue_ordering _ _ _ fun c s => ?_)
  refine ordering_of_ite (by simp) (ordering_of_ite ?_ (by simp))
  split <;> simp

theorem execVectorInstruction_keepsOrdering (n : Fin 128) (gd : Guard) (i : VecInstr) (s : State) :
    KeepsOrdering s (execVectorInstruction n gd i s) := by
  refine keepsOrdering_done (issue_ordering _ _ _ fun c s => ?_)
  split <;> simp

theorem execLoadInstruction_keepsOrdering (n : Fin 128) (gd : Guard) (kind : LoadKind) (rd ra : Fin 32) (imm : BitVec 12)
    (ecc : List Ecc) (s : State) :
    KeepsOrdering s (execLoadInstruction n gd kind rd ra imm ecc s) := by
  refine keepsOrdering_done (issue_ordering _ _ _ fun c s => ?_)
  refine ordering_of_ite (by simp) (ordering_of_ite (by simp) ?_)
  split
  · simp
  · split <;> simp
  · refine ordering_of_ite (by simp) (ordering_of_ite rfl ?_)
    split <;> simp
  · simp

theorem execStoreInstruction_keepsOrdering (n : Fin 128) (gd : Guard) (kind : StoreKind) (rs ra : Fin 32) (imm : BitVec 12) (s : State) :
    KeepsOrdering s (execStoreInstruction n gd kind rs ra imm s) := by
  refine keepsOrdering_done (issue_ordering _ _ _ fun c s => ?_)
  refine ordering_of_ite (by simp) (ordering_of_ite (by simp) ?_)
  split
  · simp
  · simp
  · refine ordering_of_ite (by simp) (ordering_of_ite (by simp) (ordering_of_ite rfl ?_))
    exact ordering_of_ite (by simp) (by simp)
  · simp

theorem execBranch_keepsOrdering (n : Fin 128) (f : FmtJ) (s : State) :
    KeepsOrdering s (execBranch n f s) := keepsOrdering_done (flow_ordering _ _ _ _ _ fun _ _ => putCe_ordering _ _ _)

theorem execMfs_keepsOrdering (n : Fin 128) (gd : Guard) (rd sr : Fin 32) (s : State) : KeepsOrdering s (execMfs n gd rd sr s) := by
  refine keepsOrdering_done (issue_ordering _ _ _ fun c s => ?_)
  split <;> simp

theorem execTrussAccessTimeout_keepsOrdering (n : Fin 128) (acc : LateAccess) (s : State) :
    KeepsOrdering s (execTrussAccessTimeout n acc s) := by
  unfold execTrussAccessTimeout
  split <;> simp

theorem execIcacheFill_keepsOrdering (n : Fin 128) (addr : Word) (parity : Bool) (s : State) :
    KeepsOrdering s (execIcacheFill n addr parity s) := by simp [execIcacheFill]

theorem execCeHalt_keepsOrdering (n : Fin 128) (s : State) : KeepsOrdering s (execCeHalt n s) := by simp [execCeHalt]

/-! ### Machine/Cyclic.lean -/

theorem execInterruptTaken_keepsOrdering (n : Fin 128) (s : State) : KeepsOrdering s (execInterruptTaken n s) := by
  unfold execInterruptTaken
  dsimp only
  split
  · split <;> simp
  · split
    · simp
    · split
      · split
        · simp
        · split <;> simp
      · split <;> simp

theorem execForceExpiry_keepsOrdering (kind : Fin 16) (index : BitVec 28) (s : State) :
    KeepsOrdering s (execForceExpiry kind index s) := by
  unfold execForceExpiry
  split <;> simp

theorem execTenantModuleLoad_keepsOrdering (t : Fin 1024) (bytes : List Byte) (s : State) :
    KeepsOrdering s (execTenantModuleLoad t bytes s) := by
  unfold execTenantModuleLoad
  split <;> simp

theorem execTenantModuleSwitch_keepsOrdering (t : Fin 1024) (s : State) :
    KeepsOrdering s (execTenantModuleSwitch t s) := by simp [execTenantModuleSwitch]

theorem execTenantSwitchTimeout_keepsOrdering (t : Fin 1024) (s : State) :
    KeepsOrdering s (execTenantSwitchTimeout t s) := by simp [execTenantSwitchTimeout]

/-! ### Machine/Door.lean -/

theorem execDoorProfileWrite_keepsOrdering (d : Fin 128) (reg : DoorReg) (v : Word) (s : State) :
    KeepsOrdering s (execDoorProfileWrite d reg v s) := by
  unfold execDoorProfileWrite
  split <;> simp

/-! ### Machine/Events.lean -/

theorem execEventArrival_keepsOrdering (block : EventBlock) (s : State) : KeepsOrdering s (execEventArrival block s) := by
  unfold execEventArrival
  split <;> simp

theorem execEventRecordWrite_keepsOrdering (s : State) : KeepsOrdering s (execEventRecordWrite s) := by
  unfold execEventRecordWrite
  split
  · simp
  · split
    · simp
    · dsimp only
      split
      · simp
      · split <;> simp

theorem execEventQueueRoom_keepsOrdering (s : State) : KeepsOrdering s (execEventQueueRoom s) := by simp [execEventQueueRoom]

/-! ### Machine/Field.lean -/

theorem execPairModeSwitchTimeout_keepsOrdering (k : Fin 16) (s : State) : KeepsOrdering s (execPairModeSwitchTimeout k s) := by
  unfold execPairModeSwitchTimeout
  dsimp only
  split <;> simp

/-! ### Machine/Frame.lean -/

theorem execPresenceBegin_keepsOrdering (s : State) : KeepsOrdering s (execPresenceBegin s) := by simp [execPresenceBegin]

theorem execStagingComplete_keepsOrdering (s : State) : KeepsOrdering s (execStagingComplete s) := by simp [execStagingComplete]

/-! ### Machine/Hoist.lean -/

theorem execDriveReturnFrame_keepsOrdering (c : Fin 64) (echo status fault : BitVec 16) (deckOk : Bool) (s : State) :
    KeepsOrdering s (execDriveReturnFrame c echo status fault deckOk s) := by simp [execDriveReturnFrame]

theorem execStartTimeout_keepsOrdering (c : Fin 64) (s : State) : KeepsOrdering s (execStartTimeout c s) := by simp [execStartTimeout]

theorem execSettleExpiry_keepsOrdering (c : Fin 64) (s : State) : KeepsOrdering s (execSettleExpiry c s) := by
  unfold execSettleExpiry
  split <;> simp

theorem execDeckLate_keepsOrdering (c : Fin 64) (s : State) : KeepsOrdering s (execDeckLate c s) := by
  unfold execDeckLate
  split <;> simp

theorem execRescueCommand_keepsOrdering (c : Fin 64) (up : Bool) (s : State) : KeepsOrdering s (execRescueCommand c up s) := by
  unfold execRescueCommand
  split
  · simp
  · split <;> simp

/-! ### Machine/Keeper.lean -/

theorem execMgmtConnect_keepsOrdering (port : MgPort) (fingerprint : List Byte) (authenticated : Bool) (s : State) :
    KeepsOrdering s (execMgmtConnect port fingerprint authenticated s) := by
  unfold execMgmtConnect
  split
  · simp
  · split <;> simp

theorem execKeeperAccessTimeout_keepsOrdering (n : Fin 8) (s : State) : KeepsOrdering s (execKeeperAccessTimeout n s) := by
  unfold execKeeperAccessTimeout
  dsimp only
  split <;> simp

theorem execSealedAnswer_keepsOrdering (ch : Channel) (s : State) : KeepsOrdering s (execSealedAnswer ch s) := by
  unfold execSealedAnswer
  dsimp only
  split <;> simp

theorem execDbgExtest_keepsOrdering (s : State) : KeepsOrdering s (execDbgExtest s) := by simp [execDbgExtest]

theorem execDbgBootload_keepsOrdering (slot : Bool) (image : List Byte) (s : State) :
    KeepsOrdering s (execDbgBootload slot image s) := by simp [execDbgBootload]

theorem execDbgAccess_keepsOrdering (op : DebugOp) (s : State) : KeepsOrdering s (execDbgAccess op s) := by
  unfold execDbgAccess
  split
  · simp
  · split <;> simp

theorem execSmokeWaitSafe_keepsOrdering (s : State) : KeepsOrdering s (execSmokeWaitSafe s) := by simp [execSmokeWaitSafe]

theorem execSmokeFrozen_keepsOrdering (s : State) : KeepsOrdering s (execSmokeFrozen s) := by simp [execSmokeFrozen]

theorem execSmokeThaw_keepsOrdering (s : State) : KeepsOrdering s (execSmokeThaw s) := by simp [execSmokeThaw]

/-! ### Machine/Power.lean -/

theorem execSupplyReset_keepsOrdering (dip : SupplyDip) (s : State) : KeepsOrdering s (execSupplyReset dip s) := by simp [execSupplyReset]

theorem execPinReset_keepsOrdering (lowNs : Nat) (s : State) : KeepsOrdering s (execPinReset lowNs s) := by simp [execPinReset]

theorem execResetRelease_keepsOrdering (scope : ResetScope) (s : State) : KeepsOrdering s (execResetRelease scope s) := by
  unfold execResetRelease
  split
  · simp
  all_goals split <;> simp

theorem execBraceBegin_keepsOrdering (cause : BraceCause) (s : State) : KeepsOrdering s (execBraceBegin cause s) := by
  unfold execBraceBegin
  split <;> simp

/-! ### Machine/Truss.lean -/

theorem execSpeedMonitorReading_keepsOrdering (n : Fin 128) (rate : BitVec 16) (s : State) :
    KeepsOrdering s (execSpeedMonitorReading n rate s) := by simp [execSpeedMonitorReading]

theorem execFlitPairReceive_keepsOrdering (link : Fin 1024) (vc : Fin 4) (pair noise : FlitPair) (s : State) :
    KeepsOrdering s (execFlitPairReceive link vc pair noise s) := by
  unfold execFlitPairReceive
  dsimp only
  split
  · simp
  · split <;> simp

theorem execLinkRetry_keepsOrdering (link : LinkChannel) (s : State) : KeepsOrdering s (execLinkRetry link s) := by
  unfold execLinkRetry
  dsimp only
  split <;> simp

theorem execLinkResync_keepsOrdering (link : Fin 1024) (s : State) : KeepsOrdering s (execLinkResync link s) := by simp [execLinkResync]

theorem execThermalStateChange_keepsOrdering (s : State) : KeepsOrdering s (execThermalStateChange s) := by simp [execThermalStateChange]

/-! ## Every command, and every step -/

/-- No command changes the ordering code. One that does not branch answers the state of one operation, whose frame lemma says it. -/
theorem exec_keepsOrdering (c : Instr) (s : State) : KeepsOrdering s (exec c s) := by
  cases c with
  | registerWrite => apply execRegisterWrite_keepsOrdering
  | keeperAccessTimeout => apply execKeeperAccessTimeout_keepsOrdering
  | supplyReset => apply execSupplyReset_keepsOrdering
  | pinReset => apply execPinReset_keepsOrdering
  | resetRelease => apply execResetRelease_keepsOrdering
  | braceBegin => apply execBraceBegin_keepsOrdering
  | speedMonitorReading => apply execSpeedMonitorReading_keepsOrdering
  | flitPairReceive => apply execFlitPairReceive_keepsOrdering
  | linkRetry => apply execLinkRetry_keepsOrdering
  | linkResync => apply execLinkResync_keepsOrdering
  | thermalStateChange => apply execThermalStateChange_keepsOrdering
  | presenceBegin => apply execPresenceBegin_keepsOrdering
  | stagingComplete => apply execStagingComplete_keepsOrdering
  | integerInstruction => apply execIntegerInstruction_keepsOrdering
  | vectorInstruction => apply execVectorInstruction_keepsOrdering
  | loadInstruction => apply execLoadInstruction_keepsOrdering
  | storeInstruction => apply execStoreInstruction_keepsOrdering
  | branch => apply execBranch_keepsOrdering
  | mfs => apply execMfs_keepsOrdering
  | trussAccessTimeout => apply execTrussAccessTimeout_keepsOrdering
  | icacheFill => apply execIcacheFill_keepsOrdering
  | interruptTaken => apply execInterruptTaken_keepsOrdering
  | ceHalt => apply execCeHalt_keepsOrdering
  | forceExpiry => apply execForceExpiry_keepsOrdering
  | combAccess => apply execCombAccess_keepsOrdering
  | trendSample => apply execTrendSample_keepsOrdering
  | tenantModuleLoad => apply execTenantModuleLoad_keepsOrdering
  | tenantModuleSwitch => apply execTenantModuleSwitch_keepsOrdering
  | tenantSwitchTimeout => apply execTenantSwitchTimeout_keepsOrdering
  | energyForecast => apply execEnergyForecast_keepsOrdering
  | levelChange => apply execLevelChange_keepsOrdering
  | bacnetScConnect => apply execBacnetScConnect_keepsOrdering
  | readProperty => apply execReadProperty_keepsOrdering
  | readPropertyMultiple => apply execReadPropertyMultiple_keepsOrdering
  | writeProperty => apply execWriteProperty_keepsOrdering
  | writePropertyMultiple => apply execWritePropertyMultiple_keepsOrdering
  | subscribeCov => apply execSubscribeCov_keepsOrdering
  | covNotification => apply execCovNotification_keepsOrdering
  | acknowledgeAlarm => apply execAcknowledgeAlarm_keepsOrdering
  | readRange => apply execReadRange_keepsOrdering
  | modbusTcpRequest => apply execModbusTcpRequest_keepsOrdering
  | modbusRtuResponse => apply execModbusRtuResponse_keepsOrdering
  | driveReturnFrame => apply execDriveReturnFrame_keepsOrdering
  | startTimeout => apply execStartTimeout_keepsOrdering
  | settleExpiry => apply execSettleExpiry_keepsOrdering
  | deckLate => apply execDeckLate_keepsOrdering
  | rescueCommand => apply execRescueCommand_keepsOrdering
  | doorProfileWrite => apply execDoorProfileWrite_keepsOrdering
  | pairModeSwitchTimeout => apply execPairModeSwitchTimeout_keepsOrdering
  | ppsEdge => apply execPpsEdge_keepsOrdering
  | ppsLost => apply execPpsLost_keepsOrdering
  | timebaseLocked => apply execTimebaseLocked_keepsOrdering
  | intervalEvent => apply execIntervalEvent_keepsOrdering
  | nvmeWriteComplete => apply execNvmeWriteComplete_keepsOrdering
  | pcieLinkChange => apply execPcieLinkChange_keepsOrdering
  | driveFailure => apply execDriveFailure_keepsOrdering
  | driveReturn => apply execDriveReturn_keepsOrdering
  | rebuildComplete => apply execRebuildComplete_keepsOrdering
  | headJournal => apply execHeadJournal_keepsOrdering
  | consumerAck => apply execConsumerAck_keepsOrdering
  | consumerDownResend => apply execConsumerDownResend_keepsOrdering
  | backfillSend => apply execBackfillSend_keepsOrdering
  | mgmtConnect => apply execMgmtConnect_keepsOrdering
  | sealedAnswer => apply execSealedAnswer_keepsOrdering
  | eventArrival => apply execEventArrival_keepsOrdering
  | eventRecordWrite => apply execEventRecordWrite_keepsOrdering
  | eventQueueRoom => apply execEventQueueRoom_keepsOrdering
  | smokeWaitSafe => apply execSmokeWaitSafe_keepsOrdering
  | smokeFrozen => apply execSmokeFrozen_keepsOrdering
  | smokeThaw => apply execSmokeThaw_keepsOrdering
  | dbgExtest => apply execDbgExtest_keepsOrdering
  | dbgAccess => apply execDbgAccess_keepsOrdering
  | dbgBootload => apply execDbgBootload_keepsOrdering
  | gptpSourceLost => apply execGptpSourceLost_keepsOrdering
  | _ => exact keepsOrdering_done (by simp)

theorem step_ordering {s t : State} (h : step s = .next t) : t.ordering = s.ordering := by
  unfold step at h
  split at h
  · next c rest _ => exact exec_keepsOrdering c { s with pending := rest } t h
  · rw [← Host.Outcome.next.inj h, idleTurn_ordering]

/-! ## KPR_DEVICE_ID -/

theorem regAt_deviceId (req : Requester) (s : State) :
    regAt req 0 4 s = some (regOf [(27, 24, s.ordering), (23, 16, 0xA1), (15, 0, 0x1FC0)]) := rfl

section KeeperRuns
variable (req : Requester) {s : State} (hk : running s .keeper = true) (hb : waitsBehind s req = false)
include hk hb

theorem ctlRead_deviceId : ctlRead req 0x00000004 s = (.ok, regOf [(27, 24, s.ordering), (23, 16, 0xA1), (15, 0, 0x1FC0)], s) :=
  ctlRead_register (w := 0) (by decide) req s (by decide) (by simp) (accessHeld_keeperBlock hk (by decide) _) hb (regAt_deviceId req s)

/-- KPR_DEVICE_ID is a read view, so that a write is discarded and counted (R549). -/
theorem ctlWrite_deviceId (value : Word) : ctlWrite req 0x00000004 value s = (.ok, badAccess req 4 0x00000004 s) :=
  ctlWrite_readView (w := 0) (by decide) req value s (by decide) (by simp) (accessHeld_keeperBlock hk (by decide) _) hb
    rfl rfl

end KeeperRuns

/-- Settles O4: KPR_DEVICE_ID is a read view of the ordering code, and no step writes the code. -/
theorem deviceIdentity : Obligations.DeviceIdentity := by
  unfold Obligations.DeviceIdentity
  simp only [completes_registerWrite_word]
  refine ⟨?read, ?fused, ?write⟩
  case read => exact fun req s hk hb => ctlRead_deviceId req hk hb
  case fused => exact fun s t h => step_ordering h
  case write => exact fun req value s hk hb => by rw [ctlWrite_deviceId req hk hb]

end Sys2Proof.Machine
end

section
/-! SUPPORT. Fetch, control flow and traps of a CE (R147, R154 to R160, R167, R174): what an issued instruction comes to, one lemma per way,
and what retiring does to the pc and the slot. -/
namespace Sys2Proof.Machine

/-- A command whose meaning is the one next state `t` completes as `P` says where `t` is so. -/
theorem completes_of_exec_eq_done {i : Instr} {s t : State} {P : State → Prop} (he : exec i s = done t) (h : P t) : Completes i s P :=
  ⟨t, he, h⟩

/-! ## Issue and exceptions -/

theorem issue_of_issues {n : Fin 128} {s : State} (h : Issues s n) (run : Ce → State → State) :
    issue n.val run s = run (ceOf s n.val) s := by
  obtain ⟨hrun, hfetch⟩ := h
  simp [issue, hrun, hfetch]

theorem issue_of_fetchFault {n sub : Nat} {s : State} (hrun : (ceOf s n).st = .run)
    (hfetch : fetchFault s n (ceOf s n) (ceOf s n).pc = some sub) (run : Ce → State → State) :
    issue n run s = takeException n causeFetch sub (some (ceOf s n).pc) 0 s := by
  simp [issue, hrun, hfetch]

theorem fetchFault_misaligned (s : State) (n : Nat) (c : Ce) {a : Word} (h : a.toNat % 4 ≠ 0) : fetchFault s n c a = some 1 := by
  rw [fetchFault, if_pos h]

theorem takeException_at {n : Nat} {s : State} (h : xact (ceOf s n) = false) (cause sub : Nat) (xaddr : Word) (elem : Nat) :
    takeException n cause sub (some xaddr) elem s = putCe s n (enterException cause sub xaddr elem (ceOf s n)) := by
  simp [takeException, h]

/-- A cause for which R168 gives CE_XADDR no value draws a free one. -/
theorem takeException_freeAddr {n : Nat} {s : State} (h : xact (ceOf s n) = false) (cause sub elem : Nat) :
    takeException n cause sub none elem s =
      { putCe s n (enterException cause sub (wordN (freeNat s)) elem (ceOf s n)) with free := s.free + 1 } := by
  simp [takeException, h, drawn]

/-! ## Retiring -/

/-- A step of a SETM shadow (R150) can change the shadow and the mode alone. -/
theorem shadowStep_eq (c : Ce) : ∃ shadow priv tctx, shadowStep c = { c with shadow := shadow, priv := priv, tctx := tctx } := by
  unfold shadowStep
  split
  · exact ⟨_, _, _, rfl⟩
  · split <;> exact ⟨_, _, _, rfl⟩

@[simp] theorem shadowStep_pc (c : Ce) : (shadowStep c).pc = c.pc := by obtain ⟨_, _, _, h⟩ := shadowStep_eq c; rw [h]
@[simp] theorem shadowStep_slot (c : Ce) : (shadowStep c).slot = c.slot := by obtain ⟨_, _, _, h⟩ := shadowStep_eq c; rw [h]
@[simp] theorem shadowStep_st (c : Ce) : (shadowStep c).st = c.st := by obtain ⟨_, _, _, h⟩ := shadowStep_eq c; rw [h]
@[simp] theorem shadowStep_xstatus (c : Ce) : (shadowStep c).xstatus = c.xstatus := by obtain ⟨_, _, _, h⟩ := shadowStep_eq c; rw [h]

/-- A loop step (R159) can change the two loop counts of the engine alone. -/
theorem loopStep_eq (c : Ce) (next : Word) : ∃ lc0 lc1, (loopStep c next).1 = { c with lc0 := lc0, lc1 := lc1 } := by
  unfold loopStep
  dsimp only
  split <;> exact ⟨_, _, rfl⟩

@[simp] theorem loopStep_st (c : Ce) (next : Word) : (loopStep c next).1.st = c.st := by
  obtain ⟨_, _, h⟩ := loopStep_eq c next; rw [h]
@[simp] theorem loopStep_xstatus (c : Ce) (next : Word) : (loopStep c next).1.xstatus = c.xstatus := by
  obtain ⟨_, _, h⟩ := loopStep_eq c next; rw [h]

theorem loopUnit_inactive {lc : Word} (h : lc = 0) (en : Bool) (pc ls le : Word) : loopUnit en pc ls le lc = (lc, none) := by
  simp [loopUnit, h]

/-- With neither loop unit active (R158), execution goes on where it would without them. -/
theorem loopStep_inactive {c : Ce} (h0 : c.lc0 = 0) (h1 : c.lc1 = 0) (next : Word) : (loopStep c next).2 = next := by
  simp [loopStep, loopUnit_inactive h0, loopUnit_inactive h1]

@[simp] theorem retire_slot (c : Ce) : (retire c).slot = none := by simp [retire]
@[simp] theorem retire_st (c : Ce) : (retire c).st = c.st := by simp [retire]
@[simp] theorem retire_xstatus (c : Ce) : (retire c).xstatus = c.xstatus := by simp [retire]

theorem retire_pc_of_slot {c : Ce} {d : Slot} (hd : c.slot = some d) (h0 : c.lc0 = 0) (h1 : c.lc1 = 0) : (retire c).pc = d.target := by
  simp [retire, hd, loopStep_inactive, h0, h1]

@[simp] theorem retireBranch_pc (target : Word) (c : Ce) : (retireBranch target c).pc = c.pc + 4 := by simp [retireBranch]
@[simp] theorem retireBranch_slot (target : Word) (c : Ce) : (retireBranch target c).slot = some ⟨c.pc, target⟩ := by
  simp [retireBranch]

/-! ## Control flow in a delay slot and out of one -/

theorem flow_illegal {n : Fin 128} {s : State} (h : Issues s n) {branch : Bool} (hf : flowIllegal (ceOf s n.val) branch = true)
    (reserved : Bool) (run : Ce → State → State) :
    flow n.val branch reserved run s = takeException n.val causeIllegal 0 none 0 s := by
  simp [flow, issue_of_issues h, hf]

theorem flow_runs {n : Fin 128} {s : State} (h : Issues s n) {branch : Bool} (hf : flowIllegal (ceOf s n.val) branch = false)
    (run : Ce → State → State) : flow n.val branch false run s = run (ceOf s n.val) s := by
  simp [flow, issue_of_issues h, hf]

theorem flowIllegal_inSlot {c : Ce} (h : c.slot.isSome = true) (branch : Bool) : flowIllegal c branch = true := by
  simp [flowIllegal, h]

theorem waitStep_inSlot {n : Fin 128} {s : State} (h : Issues s n) (hs : (ceOf s n.val).slot.isSome = true) (f : FmtR)
    (errs : List (Fin 131072 × Ecc)) : waitStep n.val f errs s = takeException n.val causeIllegal 0 none 0 s := by
  obtain ⟨hrun, hfetch⟩ := h
  simp [waitStep, hrun, hfetch, hs]

/-- The ten control-flow instructions of R154, with their operands. -/
def controlFlowInstrs (n : Fin 128) (j : FmtJ) (l : FmtL) (r : FmtR) (i : FmtI) (errs : List (Fin 131072 × Ecc)) : List Instr :=
  [.branch n j, .branchLink n j, .jumpReg n r, .loop n l, .lclr n r, .sys n i, .xret n r, .setm n r, .brk n r, .wait n ⟨r, errs⟩]

/-- Nine of the ten go through `flow`, and WAIT makes the same check of its own. -/
theorem exec_controlFlow_inSlot {n : Fin 128} {s : State} (h : Issues s n) (hs : (ceOf s n.val).slot.isSome = true)
    (j : FmtJ) (l : FmtL) (r : FmtR) (i : FmtI) (errs : List (Fin 131072 × Ecc)) :
    ∀ c ∈ controlFlowInstrs n j l r i errs, exec c s = done (takeException n.val causeIllegal 0 none 0 s) := by
  have hflow (branch reserved : Bool) (run : Ce → State → State) :
      done (flow n.val branch reserved run s) = done (takeException n.val causeIllegal 0 none 0 s) :=
    congrArg done (flow_illegal h (flowIllegal_inSlot hs branch) reserved run)
  simp only [controlFlowInstrs, List.forall_mem_cons]
  exact ⟨hflow .., hflow .., hflow .., hflow .., hflow .., hflow .., hflow .., hflow .., hflow ..,
    congrArg done (waitStep_inSlot h hs r errs), by simp⟩

/-- JR, taken, has its delay slot next whatever its target is. -/
theorem exec_jumpReg_taken {n : Fin 128} {f : FmtR} {s : State} (h : Issues s n) (hf : flowIllegal (ceOf s n.val) true = false)
    (hg : guardOn (ceOf s n.val) f.guard = true) (hrb : f.rb.val = 0) (hfn : f.fn = 0) :
    exec (.jumpReg n f) s = done (putCe s n.val
      (retireBranch (greg (ceOf s n.val) f.ra.val) (putG (ceOf s n.val) f.rd.val ((ceOf s n.val).pc + 8)))) := by
  have hreserved : decide (f.rb.val ≠ 0 ∨ f.fn ≠ 0) = false := by simp [hrb, hfn]
  show execJumpReg n f s = _
  rw [execJumpReg, hreserved, flow_runs h hf, if_pos hg]

/-- A legal instruction of the integer group retires without an effect where its guard is off (R152). -/
theorem exec_integerInstruction_guardOff {n : Fin 128} {g : Guard} {i : IntInstr} {s : State} (h : Issues s n) (hi : i ≠ .illegal)
    (hg : guardOn (ceOf s n.val) g = false) :
    exec (.integerInstruction n g i) s = done (putCe s n.val (retire (ceOf s n.val))) := by
  show execIntegerInstruction n g i s = _
  simp [execIntegerInstruction, issue_of_issues h, hi, hg]

theorem exec_integerInstruction_misaligned {n : Fin 128} {s : State} (hrun : (ceOf s n.val).st = .run)
    (ha : (ceOf s n.val).pc.toNat % 4 ≠ 0) (g : Guard) (i : IntInstr) :
    exec (.integerInstruction n g i) s = done (takeException n.val causeFetch 1 (some (ceOf s n.val).pc) 0 s) :=
  congrArg done (issue_of_fetchFault hrun (fetchFault_misaligned s n.val _ ha) _)

/-- Settles O27: the slot makes control flow ILLEGAL; a misaligned target is no matter to the branch or to its slot, only to the fetch. -/
theorem controlFlowInDelaySlot : Obligations.ControlFlowInDelaySlot := by
  unfold Obligations.ControlFlowInDelaySlot
  refine ⟨?illegal, ?branch, ?slot, ?fetch⟩
  case illegal =>
    intro n s h hs hx j l r i errs _ _ _ _ c hc
    exact completes_of_exec_eq_done (exec_controlFlow_inSlot h hs j l r i errs c hc) ⟨_, takeException_freeAddr hx _ _ _⟩
  case branch =>
    intro n f s h hf hg hrb hfn _
    refine completes_of_exec_eq_done (exec_jumpReg_taken h hf hg hrb hfn) ?_
    simp
  case slot =>
    intro n g i s d h hd hi hg h0 h1
    refine completes_of_exec_eq_done (exec_integerInstruction_guardOff h hi hg) ?_
    obtain ⟨hrun, _⟩ := h
    simp [retire_pc_of_slot hd h0 h1, hrun]
  case fetch =>
    intro n g i s hrun ha hx
    exact completes_of_exec_eq_done (exec_integerInstruction_misaligned hrun ha g i) (takeException_at hx _ _ _ _)

end Sys2Proof.Machine
end
